-- ==== Sys2Proof/Word.lean ====
section
/-! DEFINITION. The word types of the block: a register is 32 bits wide (R12), a frame and the
LPDDR5 device hold bytes. -/

namespace Sys2Proof

/-- A register word (R12). -/
abbrev Word := BitVec 32

/-- A byte of a frame, of a rod record, of the Ndozil image or of LPDDR5. -/
abbrev Byte := BitVec 8

end Sys2Proof
end

