-- ==== Sys2Proof/Syntax.lean ====
section
/-! DEFINITION. The commands the block takes: one constructor per row of spec/opcode_table.json, in
the table's order, with the operands that the row's rule names. A row of the table gives no bits; its
operands are chosen from the rule: the unit it acts on, the value written, the frame or message
received, the measurement that comes in from outside (DEDUCED, log 8). -/

namespace Sys2Proof

/-- A CAN or LIN frame as a rod receives it (R77): format (Table 2.22a FMT: 0-5), identifier word as
in word 0 [28:0] of the record header, flags, DLC, acceptance field and data bytes in bus order. -/
structure CanFrame where
  fmt : Nat
  id : Nat
  rtr : Bool := false
  brs : Bool := false
  esi : Bool := false
  dlc : Nat := 0
  af : Nat := 0
  data : List Byte := []
  deriving DecidableEq, Repr

/-- The 16-byte Eplen header beyond SUBTYPE, VERSION and LENGTH (Table 14.2). -/
structure EplenHdr where
  msg : Nat
  /-- FLAGS.DIR: direction of travel from the origin. -/
  dir : Nat := 0
  /-- FLAGS.HEAD: the origin is a ring head. -/
  head : Bool := false
  hopsLeft : Nat := 0
  hopsDone : Nat := 0
  /-- Tag of the originating device. -/
  origin : Nat := 0
  deriving DecidableEq, Repr

/-- What the surroundings of the register bus contribute to a register access: the age of the time mirror in
ns (R222, at most 160), whether an LPDDR5 table access exceeds 10 µs (R132), the correctable ECC errors that a table command
corrects in the words it reads (R32), whether a rod that is told to
stop is receiving a frame (R56), and the image bytes that host memory returns to a LOAD. -/
structure BusEnv where
  age : Nat := 0
  slow : Bool := false
  ce : Nat := 0
  rx : Bool := false
  img : List Byte := []
  deriving DecidableEq, Repr

/-- A key slot (Table 10.2), in plaintext: masking and scrambling change no value (R258, R271). -/
structure KeySlot where
  key : Nat := 0
  /-- 0 FREE, 1 ACTIVE, 2 INVALIDATING. -/
  state : Nat := 0
  ty : Nat := 0
  level : Nat := 0
  parent : Nat := 0
  pgen : Nat := 0
  gen : Nat := 0
  expire : Bool := false
  usage : Nat := 0
  perm : Nat := 0
  uses : Nat := 0
  /-- Mask in use (word 6). -/
  maskSel : Nat := 0
  /-- Word 7: none is the check value of the contents, some a value that was found there (R258). -/
  icv : Option Nat := none
  deriving DecidableEq, Repr

/-- An entry of the key journal (R269): the slot it holds the new image of (none: the anti-rollback counter, in the
image's key), the image and its CRC-32C. -/
structure JEntry where
  slot : Option Nat
  image : KeySlot
  crc : Nat
  deriving DecidableEq, Repr

/-- The two-entry key journal (R254, R269): EMPTY without entries; COMMIT holds the group size, 0 before the commit
point. -/
structure Journal where
  entries : List JEntry := []
  commit : Nat := 0
  deriving DecidableEq, Repr

/-- What the start of the key store finds in VBATK beside what the last completed command left there (R270, R271): slots
with other contents, a journal that an interrupted command left, and a re-masking pass that was cut short. -/
structure KeyFound where
  slots : List (Nat × KeySlot) := []
  journal : Option Journal := none
  pass : Bool := false
  deriving DecidableEq, Repr

/-- An uncorrectable error that a data-plane memory shows (Table 9.9): a table entry or way, a cadence, recovery or meter
state, the beads of an item (`bad`: one of them fails its test when it is released), the state of a class queue (`broken`:
its link, otherwise the descriptor at its head), or the retained snapshot (R348). -/
inductive MemUe where
  | entry (code i : Nat)
  | cadence (key : Nat)
  | recovery (stream : Nat)
  | fwlMeter (meter : Nat)
  | strMeter (meter : Nat)
  | bead (item : Nat) (bad : Bool)
  | queue (port cls : Nat) (broken : Bool)
  | snapshot
  deriving DecidableEq, Repr

/-- A posted write of the host that waits on the link while the bridge withholds posted credits (R292): to BAR0, to a remote
window (kind 0 posted, 1 acknowledged) or to BAR2. -/
inductive HeldWrite where
  | reg (off : Nat) (dwords : List (Nat × Bool)) (env : BusEnv)
  | window (win off kind : Nat) (dwords : List (Nat × Bool))
  | mem (off : Nat) (data : List Byte)
  deriving DecidableEq, Repr

/-- The commands, in the table's order. -/
inductive Instr where
  /-- POWER_ON_RESET (R308). -/
  | powerOnReset
  /-- SUPPLY_MONITOR_RELEASE (R313). -/
  | supplyMonitorRelease
  /-- PORST_N_ASSERT (R309). -/
  | porstNAssert
  /-- PORST_N_RELEASE (R314). -/
  | porstNRelease
  /-- WRST_N_ASSERT (R309). -/
  | wrstNAssert
  /-- WRST_N_RELEASE (R314). -/
  | wrstNRelease
  /-- CLOCK_MONITOR_FAULT (R35). -/
  | clockMonitorFault (pll : Bool)
  /-- SOFTWARE_WARM_RESET (R310). -/
  | softwareWarmReset (key : Nat) (go : Bool)
  /-- WATCHDOG_EXPIRY (R311). -/
  | watchdogExpiry (pair : Nat) (halted : Bool := false)
  /-- OPTION_LOAD_DONE (R317). -/
  | optionLoadDone (ok : Bool) (attempts : Nat) (corr : Bool) (part rev uid ports rods slots fuse revoked : Nat)
    (scramble : Bool) (debug : Bool := false)
  /-- STRAP_MEASURED (R320). -/
  | strapMeasured (mvs : List Nat)
  /-- CLOCKS_LOCKED (R313). -/
  | clocksLocked (pcie ddr : Bool) (serdes : Nat)
  /-- PAIR_INJECTION_TEST_DONE (R247). -/
  | pairInjectionTestDone (pair : Nat) (pass : Bool)
  /-- START_SELF_TESTS_DONE (R313). -/
  | startSelfTestsDone (ports : List Nat) (rods : List (Nat × Nat)) (planeA planeB cmp0 cmp1 : Bool)
  /-- SERVICE_ENTRY (R313). -/
  | serviceEntry
  /-- FWD_GO (R322). -/
  | fwdGo
  /-- REGISTER_WRITE (R27). -/
  | registerWrite (req off : Nat) (dwords : List (Nat × Bool)) (env : BusEnv)
  /-- PARSE_WINDOW_COMPLETE (R37). -/
  | parseWindowComplete (port : Nat) (bytes : List Byte) (fcsOk : Bool) (ago : Nat)
  /-- FRAME_RX_END (R481). -/
  | frameRxEnd (port frags mm : Nat)
  /-- CPU_INJECTION (R28). -/
  | cpuInjection (pair : Nat) (isRod : Bool) (bytes : List Byte) (mode domain refT : Nat) (twoStep : Bool) (tag : Nat)
  /-- PLANE_DECISION (R106). -/
  | planeDecision (plane : Bool) (ue : Option MemUe) (diff : Nat) (op : Option Nat := none) (ce : Nat := 0)
  /-- DECISION_COMPARE (R230). -/
  | decisionCompare (split : Bool) (minority : Option Bool)
  /-- MISSING_DECISION (R232). -/
  | missingDecision
  /-- SELF_CHECK_COMPLETE (R235). -/
  | selfCheckComplete (passA passB cmpA cmpB : Bool)
  /-- PLANE_PARITY_ERROR (R237). -/
  | planeParityError (plane : Bool)
  /-- CLAIM_CHANGE (R234). -/
  | claimChange
  /-- PLANE_LOGIC_TEST_DONE (R239). -/
  | planeLogicTestDone (plane pass : Bool)
  /-- REJOIN_END (R239). -/
  | rejoinEnd (plane : Bool)
  /-- SAF_NOP (R241). -/
  | safNop
  /-- WITHDRAW (R241). -/
  | withdraw (plane : Bool)
  /-- RESTART (R241). -/
  | restart (plane : Bool)
  /-- DRILL (R242). -/
  | drill
  /-- DRILL_DEADLINE (R242). -/
  | drillDeadline (accepted : Bool)
  /-- CLEAR_LATENT (R243). -/
  | clearLatent (plane : Bool)
  /-- LOCKSTEP_MISMATCH (R248). -/
  | lockstepMismatch (pair cause : Nat)
  /-- PAIR_RESTART_DONE (R248). -/
  | pairRestartDone (pair : Nat) (fw : Option (List Byte))
  /-- ORPHAN_BEAD_RECLAIM (R251). -/
  | orphanBeadReclaim
  /-- SET_MODE (R52). -/
  | setMode (rod arg : Nat)
  /-- ROD_NOP (R52). -/
  | rodNop (rod : Nat)
  /-- START (R54). -/
  | start (rod : Nat)
  /-- STOP (R56). -/
  | stop (rod : Nat) (rx : Bool)
  /-- STOPPING_END (R55). -/
  | stoppingEnd (rod : Nat)
  /-- RECOVER (R52). -/
  | recover (rod : Nat)
  /-- FLUSH (R78). -/
  | flush (rod arg : Nat)
  /-- ROD_STANDBY (R52). -/
  | rodStandby (rod : Nat)
  /-- ROD_WAKE (R52). -/
  | rodWake (rod : Nat)
  /-- ROD_RESET (R83). -/
  | rodReset (rod : Nat)
  /-- ROD_RESET_COMPLETE (R83). -/
  | rodResetComplete (rod : Nat)
  /-- ROD_XCVR_WRITE (R61). -/
  | rodXcvrWrite (rod value : Nat)
  /-- INTEGRATION_COMPLETE (R55). -/
  | integrationComplete (rod : Nat)
  /-- ROD_FRAME_RX (R77). -/
  | rodFrameRx (rod : Nat) (frame : CanFrame) (ago : Nat)
  /-- ROD_BUS_ERROR (R63). -/
  | rodBusError (rod code : Nat) (dataPhase heavy : Bool) (tdc : Option Nat := none)
  /-- RECOVERY_COMPLETE (R55). -/
  | recoveryComplete (rod : Nat)
  /-- ROD_TX_SELECT (R70). -/
  | rodTxSelect (rod : Nat)
  /-- LAUNCH_INSTANT (R72). -/
  | launchInstant (rod : Nat) (idle : Bool)
  /-- ARBITRATION_LOSS (R74). -/
  | arbitrationLoss (rod winId : Nat) (winIde : Bool) (bitpos : Nat)
  /-- ROD_TX_COMPLETE (R78). -/
  | rodTxComplete (rod tdc : Nat)
  /-- LAUNCH_LATE (R70). -/
  | launchLate (rod : Nat)
  /-- LIN_SLEEP_ENTRY (R55). -/
  | linSleepEntry (rod : Nat)
  /-- LIN_WAKE (R76). -/
  | linWake (rod : Nat)
  /-- LIN_SCHEDULE_RESTART (R76). -/
  | linScheduleRestart (rod : Nat)
  /-- LIN_WAKE_RETRY (R76). -/
  | linWakeRetry (rod : Nat)
  /-- LIN_SLOT_START (R67). -/
  | linSlotStart (rod : Nat)
  /-- LIN_NO_RESP (R67). -/
  | linNoResp (rod : Nat)
  /-- LIN_HEADER_RECEIVED (R68). -/
  | linHeaderReceived (rod fid err : Nat) (sync : Nat := 0)
  /-- ROD_TEST_FRAME (R407). -/
  | rodTestFrame (rod : Nat)
  /-- ACF_APPEND (R98). -/
  | acfAppend
  /-- ACF_HOLD_EXPIRY (R98). -/
  | acfHoldExpiry (ctx : Nat)
  /-- CRY_EMIT (R98). -/
  | cryEmit (ctx : Nat)
  /-- ACF_SPLIT (R100). -/
  | acfSplit
  /-- TBL_NOP (R128). -/
  | tblNop (req : Nat)
  /-- TBL_READ (R130). -/
  | tblRead (req : Nat) (slow : Bool) (ce : Nat := 0)
  /-- TBL_WRITE (R130). -/
  | tblWrite (req : Nat) (slow : Bool)
  /-- INSERT (R134). -/
  | insert (req : Nat) (evict slow : Bool)
  /-- DELETE (R132). -/
  | delete (req : Nat) (slow : Bool)
  /-- SEARCH (R132). -/
  | search (req : Nat) (slow : Bool)
  /-- FLUSH_MASKED (R135). -/
  | flushMasked (req : Nat)
  /-- AGE_SWEEP (R135). -/
  | ageSweep (req : Nat)
  /-- SWEEP_SLOT (R135). -/
  | sweepSlot (slow : Bool)
  /-- LEARN_APPLY (R122). -/
  | learnApply
  /-- AGING_PASS (R124). -/
  | agingPass
  /-- AGE_NOW_TICK (R124). -/
  | ageNowTick
  /-- STATE_UPDATE_APPLY (R157). -/
  | stateUpdateApply
  /-- FLOW_SWEEP (R152). -/
  | flowSweep
  /-- FWL_NOW_TICK (R154). -/
  | fwlNowTick
  /-- DIAG_SLOT_EXPIRY (R154). -/
  | diagSlotExpiry (slot : Nat)
  /-- DIAG_CLOSE (R154). -/
  | diagClose (slot : Nat)
  /-- CADENCE_SCAN (R156). -/
  | cadenceScan (key : Nat)
  /-- FWL_METER_WRITE (R147). -/
  | fwlMeterWrite (meter word value : Nat)
  /-- STR_METER_WRITE (R171). -/
  | strMeterWrite (meter word value : Nat)
  /-- STREAM_GATE_CHANGE (R170). -/
  | streamGateChange (gate : Nat)
  /-- STREAM_GATE_SWAP (R170). -/
  | streamGateSwap (gate : Nat)
  /-- RECOVERY_RESET (R175). -/
  | recoveryReset (stream : Nat)
  /-- TX_OPPORTUNITY (R180). -/
  | txOpportunity (port sfd : Nat) (sent : Option Nat := none)
  /-- EGRESS_FRAME_END (R44). -/
  | egressFrameEnd (port : Nat)
  /-- GATE_ENTRY_BOUNDARY (R187). -/
  | gateEntryBoundary (port : Nat)
  /-- SCH_CHANGE (R191). -/
  | schChange (port : Nat)
  /-- SCH_SWAP (R191). -/
  | schSwap (port : Nat)
  /-- SHAPER_PARAM_WRITE (R195). -/
  | shaperParamWrite (port cls word value : Nat)
  /-- LINK_DOWN (R182). -/
  | linkDown (port : Nat)
  /-- LINK_UP (R198). -/
  | linkUp (port : Nat)
  /-- VERIFY_RESPONSE (R198). -/
  | verifyResponse (port : Nat)
  /-- VERIFY_TIMEOUT (R198). -/
  | verifyTimeout (port : Nat)
  /-- VERIFY_MPACKET_RECEIVED (R198). -/
  | verifyMpacketReceived (port : Nat)
  /-- MAC_MERGE_HOLD (R199). -/
  | macMergeHold (port entry : Nat)
  /-- TIME_BASE_READ (R207). -/
  | timeBaseRead (req entry : Nat)
  /-- CLOCK_SET (R209). -/
  | clockSet (req sec ns frac : Nat)
  /-- RATE_WRITE (R207). -/
  | rateWrite (req rate : Nat)
  /-- SLEW (R208). -/
  | slew (req adj dur : Nat)
  /-- SLEW_END (R208). -/
  | slewEnd
  /-- STEP (R209). -/
  | step (req ns frac : Nat)
  /-- SELECT (R211). -/
  | select (req domain : Nat)
  /-- ACCEPT (R210). -/
  | acceptStep (req : Nat)
  /-- VIEW_WRITE (R212). -/
  | viewWrite (req domain ofs frac vrate ref : Nat)
  /-- TIM_HOLDOVER_ON (R214). -/
  | timHoldoverOn
  /-- DOMAIN_FAILOVER (R213). -/
  | domainFailover (lost : Nat)
  /-- PTP_FRAME_TRAPPED (R213). -/
  | ptpFrameTrapped (port number kind : Nat) (value : Nat := 0) (locked : Bool := true)
  /-- SYNC_INTERVAL (R213). -/
  | syncInterval (domain kind value : Nat) (locked : Bool := true)
  /-- TIM_NOW_READ (R222). -/
  | timNowRead (req age : Nat) (off : Nat := 0x20010) (count : Nat := 1)
  /-- TIM_TS2_ACK (R219). -/
  | timTs2Ack (qseq : Nat)
  /-- TIM_TS2_POP (R220). -/
  | timTs2Pop
  /-- TIM_IN_CAPTURE (R223). -/
  | timInCapture (rising : Bool) (ago : Nat)
  /-- TIM_IN_ACK (R223). -/
  | timInAck (qseq : Nat)
  /-- TIME_OUT_ASSERT (R224). -/
  | timeOutAssert
  /-- TIME_OUT_DEASSERT (R224). -/
  | timeOutDeassert
  /-- KEY_NOP (R264). -/
  | keyNop (req : Nat)
  /-- GENERATE (R264). -/
  | generate (req : Nat)
  /-- DERIVE (R267). -/
  | deriveKey (req : Nat)
  /-- IMPORT_WRAPPED (R268). -/
  | importWrapped (req : Nat)
  /-- EXPORT_WRAPPED (R268). -/
  | exportWrapped (req : Nat)
  /-- KEY_MAC (R264). -/
  | keyMac (req sub : Nat)
  /-- BIND_SA (R273). -/
  | bindSa (req : Nat)
  /-- BIND_IMAGE (R338). -/
  | bindImage (req : Nat)
  /-- INVALIDATE (R260). -/
  | invalidate (req : Nat)
  /-- INFO (R264). -/
  | info (req : Nat)
  /-- AUTHORIZE_CHALLENGE (R278). -/
  | authorizeChallenge (req : Nat)
  /-- AUTHORIZE_TOKEN (R278). -/
  | authorizeToken (req : Nat)
  /-- ATTEST_STATEMENT (R280). -/
  | attestStatement (req : Nat)
  /-- ATTEST_PUBLIC_KEYS (R279). -/
  | attestPublicKeys (req : Nat)
  /-- RECLAIM_SWEEP_DONE (R260). -/
  | reclaimSweepDone
  /-- KEY_STORE_READY (R271). -/
  | keyStoreReady (found : KeyFound)
  /-- DRBG_HEALTH_FAIL (R266). -/
  | drbgHealthFail
  /-- TAMPER_DETECTION (R256). -/
  | tamperDetection (src aon : Nat)
  /-- PCIE_PERST (R285). -/
  | pciePerst
  /-- BAR2_ACCESS (R288). -/
  | bar2Access (off len : Nat) (data : Option (List Byte))
  /-- BAR0_ATOMIC (R289). -/
  | bar0Atomic (off op size a b : Nat) (env : BusEnv) (bar : Nat := 0)
  /-- REMOTE_POSTED_WRITE (R291). -/
  | remotePostedWrite (win off : Nat) (dwords : List (Nat × Bool))
  /-- REMOTE_ACK_WRITE (R292). -/
  | remoteAckWrite (win off : Nat) (dwords : List (Nat × Bool))
  /-- REMOTE_READ (R293). -/
  | remoteRead (win off count : Nat)
  /-- REMOTE_ATOMIC (R293). -/
  | remoteAtomic (win off op size a b : Nat)
  /-- RNG_WIN_FENCE (R294). -/
  | rngWinFence (win : Nat)
  /-- ANS (R293). -/
  | ans (dir : Nat) (frame : List Byte)
  /-- REMOTE_TIMEOUT (R293). -/
  | remoteTimeout (win : Nat)
  /-- ERR (R295). -/
  | err (dir : Nat) (frame : List Byte)
  /-- RNG_REL_ACK (R296). -/
  | rngRelAck (count : Nat)
  /-- DOORBELL (R297). -/
  | doorbell (queue tail : Nat)
  /-- QUEUE_ENABLE (R297). -/
  | queueEnable (queue value : Nat)
  /-- TX_DESCRIPTOR_SERVE (R299). -/
  | txDescriptorServe (desc buf : List Byte)
  /-- RX_DELIVERY (R301). -/
  | rxDelivery (descs : List (Nat × Nat))
  /-- QUEUE_STOP (R302). -/
  | queueStop (queue cause : Nat)
  /-- MSIX_MESSAGE (R304). -/
  | msixMessage (src : Nat)
  /-- IMAGE_ACCEPT (R340). -/
  | imageAccept (img0 img1 : List Byte)
  /-- IMAGE_BLOCK_TIMEOUT (R340). -/
  | imageBlockTimeout
  /-- IMAGE_CONFIRMED (R343). -/
  | imageConfirmed
  /-- HOST_LOAD_GO (R345). -/
  | hostLoadGo
  /-- NEIGHBOUR_BOOT_REQUEST (R346). -/
  | neighbourBootRequest
  /-- SNAPSHOT_WRITTEN (R348). -/
  | snapshotWritten
  /-- HELLO_TIMER (R354). -/
  | helloTimer
  /-- HELLO (R354). -/
  | hello (dir : Nat) (frame : List Byte)
  /-- NEIGHBOUR_LOST (R354). -/
  | neighbourLost (dir : Nat)
  /-- PROBE (R355). -/
  | probe
  /-- PROBE_RECEIVED (R355). -/
  | probeReceived (dir : Nat) (frame : List Byte)
  /-- PROBE_ANS (R355). -/
  | probeAns (dir : Nat) (frame : List Byte)
  /-- PROBE_WINDOW_END (R355). -/
  | probeWindowEnd
  /-- EPLEN_RELAY (R357). -/
  | eplenRelay (dir : Nat) (frame : List Byte)
  /-- REQ (R360). -/
  | req (dir : Nat) (frame : List Byte) (locked : Bool) (env : BusEnv)
  /-- REMOTE_CONTEXT_IDLE (R359). -/
  | remoteContextIdle
  /-- SUBSCRIBE_REFRESH (R362). -/
  | subscribeRefresh
  /-- SUBSCRIBER_EXPIRY (R362). -/
  | subscriberExpiry
  /-- EVENT (R363). -/
  | event (dir : Nat) (frame : List Byte)
  /-- UPD_NOP (R367). -/
  | updNop
  /-- LOAD (R367). -/
  | load (img : List Byte)
  /-- RELAY (R369). -/
  | relay
  /-- ACTIVATE (R373). -/
  | activate
  /-- UPD_ABORT (R375). -/
  | updAbort
  /-- CLEAR (R367). -/
  | clear
  /-- OFFER (R369). -/
  | offer (dir : Nat) (frame : List Byte)
  /-- OFFER_ANS (R369). -/
  | offerAns (dir : Nat) (frame : List Byte)
  /-- OFFER_TIMEOUT (R369). -/
  | offerTimeout (dir : Nat)
  /-- BLOCK (R370). -/
  | block (dir : Nat) (frame : List Byte)
  /-- BLOCK_ACK (R370). -/
  | blockAck (dir : Nat) (frame : List Byte)
  /-- BLOCK_RESEND (R370). -/
  | blockResend (dir blk : Nat)
  /-- BLOCK_RECEIVE_TIMEOUT (R370). -/
  | blockReceiveTimeout
  /-- UPD_STAGED (R371). -/
  | updStaged (readOk : Bool)
  /-- POLL (R372). -/
  | poll (rx : Option (Nat × List Byte))
  /-- VOTE (R372). -/
  | vote (dir : Nat) (frame : List Byte)
  /-- UPD_RING_TIMEOUT (R372). -/
  | updRingTimeout
  /-- ARM (R373). -/
  | arm (dir : Nat) (frame : List Byte)
  /-- ARMED (R373). -/
  | armed (dir : Nat) (frame : List Byte)
  /-- ARM_GUARD_DEADLINE (R373). -/
  | armGuardDeadline
  /-- COMMIT (R373). -/
  | commit (dir : Nat) (frame : List Byte)
  /-- ACTIVATION_INSTANT (R374). -/
  | activationInstant
  /-- ABORT (R375). -/
  | abort (dir : Nat) (frame : List Byte)
  /-- IMG_REQ (R376). -/
  | imgReq (dir : Nat) (frame : List Byte)
  /-- PWR_NOP (R383). -/
  | pwrNop (req : Nat)
  /-- PWR_STANDBY (R387). -/
  | pwrStandby (req key : Nat)
  /-- PWR_SLEEP (R385). -/
  | pwrSleep (req key : Nat)
  /-- SLEEP_DRAIN_END (R385). -/
  | sleepDrainEnd (passA passB : Bool) (aon : Nat)
  /-- PWR_LEAN (R384). -/
  | pwrLean (req : Nat)
  /-- PWR_RUN (R384). -/
  | pwrRun (req : Nat)
  /-- PHY_SLEEP_NOACK (R390). -/
  | phySleepNoack (port : Nat)
  /-- WAKE_PIN (R389). -/
  | wakePin (levels aon : Nat) (held : Nat := 0)
  /-- PHY_WAKE (R389). -/
  | phyWake (ports aon : Nat)
  /-- T1S_ACTIVITY_WAKE (R389). -/
  | t1sActivityWake (ports aon : Nat) (us : Nat := 50)
  /-- WAKE_TIMER (R389). -/
  | wakeTimer (aon : Nat)
  /-- GOVERNOR_TICK (R396). -/
  | governorTick (temps : List Nat) (power : Nat)
  /-- THERMAL_SHUTDOWN (R399). -/
  | thermalShutdown (sensor tmax : Nat)
  /-- LPDDR5_TRAINED (R412). -/
  | lpddr5Trained (result size : Nat)
  /-- LPDDR5_RETRAIN (R413). -/
  | lpddr5Retrain (ok : Bool)
  /-- MEM_TEST_NOP (R414). -/
  | memTestNop
  /-- MEM_TEST_RUN (R414). -/
  | memTestRun (alg : Nat)
  /-- MEM_TEST_ABORT (R414). -/
  | memTestAbort
  /-- MEM_TEST_DONE (R414). -/
  | memTestDone (fails : List Nat)
  /-- TST_LANE_CLR (R403). -/
  | tstLaneClr (lane : Nat)
  /-- TST_ROD_CLR (R407). -/
  | tstRodClr (rod : Nat)
  /-- JTAG_INSTRUCTION_LOAD (R409). -/
  | jtagInstructionLoad (code : Nat) (scan : Option (Nat × Nat × Nat) := none)
  /-- TAP_RESET (R409). -/
  | tapReset
  /-- TLY_SNAPSHOT (R418). -/
  | tlySnapshot (clear : Bool)
  /-- TLY_AUTO_SNAPSHOT (R418). -/
  | tlyAutoSnapshot
  /-- TRACE_RECORD_WRITE (R421). -/
  | traceRecordWrite (full : Bool)
  /-- FREEZE_NOW (R423). -/
  | freezeNow
  /-- TRC_ARM (R424). -/
  | trcArm
  /-- TRC_ENABLE (R424). -/
  | trcEnable (on : Bool)
  /-- CHECKER_LOCK (R403). -/
  | checkerLock (lane : Nat) (bits : List Bool := [])
  /-- CHECKER_LOCK_LOSS (R403). -/
  | checkerLockLoss (lane : Nat) (errs : List Nat)
  /-- MSIX_UNMASK (R304). -/
  | msixUnmask (vec : Nat)
  /-- PHYWK_RISE (R390). -/
  | phywkRise (ports : Nat)
  /-- COMMIT_RESEND (R373). -/
  | commitResend
  /-- VBATK_RISE (R443). -/
  | vbatkRise (xtal : Bool)
  deriving DecidableEq, Repr

end Sys2Proof
end

