-- ==== Sys2Proof/Config.lean ====
section
/-! DEFINITION. What the spec leaves open as uninterpreted constants: nothing in Lean can evaluate them,
so a claim holds whatever they are. Cryptographic primitives are named by their standards and not
defined by the spec, so each is an uninterpreted function of its inputs. Keys are numbers, key lengths
are in bits. -/

namespace Sys2Proof

/-- A fresh free value: argument 0 is the state's counter `freeCtr` (DESIGN CHOICE, log 32). -/
opaque Config.free : Nat → BitVec 64

/-- Whether the XL frame that rod `rod` sends is in its data phase at CLK_FAB count `fab` (R62): the spec gives the switching
points by ISO 11898-1:2024 and no command marks them (DESIGN CHOICE, log 101). -/
opaque Config.dataPhase : (rod fab : Nat) → Bool

/-- AES-GCM keystream application: key, suite, packet number and IV material, bytes. The result is cut
or padded to the length of the input by its user (DESIGN CHOICE, log 5). -/
opaque Config.gcmCipher : (key suite pn iv : Nat) → (bytes : List Byte) → List Byte

/-- AES-GCM integrity check value over header and secure data (DESIGN CHOICE, log 5). -/
opaque Config.gcmTag : (key suite pn iv : Nat) → (header data : List Byte) → BitVec 128

/-- DRBG output number `n` (CTR_DRBG of SP 800-90A, R266). -/
opaque Config.drbg : Nat → BitVec 256

/-- CMAC-AES (SP 800-38B): key, key length, message (DESIGN CHOICE, log 5). -/
opaque Config.cmac : (key len : Nat) → List Byte → BitVec 128

/-- HMAC-SHA-256 (FIPS 198): 256-bit key, message. -/
opaque Config.hmac : (key : Nat) → List Byte → BitVec 256

/-- A block cipher under one key: encryption and the decryption that undoes it. -/
structure Cipher where
  enc : BitVec 128 → BitVec 128 := id
  dec : BitVec 128 → BitVec 128 := id
  dec_enc : ∀ x, dec (enc x) = x := by intro x; rfl
  deriving Inhabited

/-- AES (FIPS 197): key, key length. Nothing but the inversion of encryption by decryption is known of it. -/
opaque Config.aes : (key len : Nat) → Cipher

/-- AES-256 in counter mode: key, 16-byte first counter block as a number, bytes (R338). -/
opaque Config.aesCtr : (key block : Nat) → List Byte → List Byte

/-- The 256-bit device seed, fused at manufacture and readable only by the key store (R279). -/
opaque Config.deviceSeed : BitVec 256

/-- Public keys: the uncompressed ECDSA P-256 key of a private key (FIPS 186-5), 65 bytes, and the ML-DSA-65 key of a
seed (FIPS 204), 1,952 bytes (R279). -/
opaque Config.ecdsaPublic : (private_ : Nat) → List Byte
opaque Config.mldsaPublic : (seed : Nat) → List Byte

/-- The ECDSA P-256 signature of a SHA-256 digest under a private key, 64 bytes, and the ML-DSA-65 signature of a
message under a seed and a context string, 3,309 bytes (R280). -/
opaque Config.ecdsa : (private_ digest : Nat) → List Byte
opaque Config.mldsa : (seed : Nat) → (context message : List Byte) → List Byte

/-- SHA-256 and SHA-384 (FIPS 180-4) as numbers. -/
opaque Config.sha256 : List Byte → BitVec 256
opaque Config.sha384 : List Byte → BitVec 384

/-- ECDSA P-256 verification (FIPS 186-5): public key, digest, signature. ML-DSA-65 verification (FIPS 204):
public key, context string, message, signature (R331). -/
opaque Config.ecdsaVerify : (pk : List Byte) → (digest : Nat) → (sig : List Byte) → Bool
opaque Config.mldsaVerify : (pk context message sig : List Byte) → Bool

/-- Table code, entry and 64-bit word that lie at 8-byte word `n` of the table memory image of BAR2 (R288): its physical
order is not stated (DESIGN CHOICE, log 82). -/
opaque Config.tablePlace : (n : Nat) → Nat × Nat × Nat

/-- The ball of cell `j` of the boundary register (R411), whose order the BSDL file gives and the spec does not: below 32
the balls of that Ethernet port, from 64 to 191 those of rod `n - 64`, from 320 to 323 BYP_CTL `n - 320`; any other number
is a ball of no unit that can be fused off (DESIGN CHOICE, log 124). -/
opaque Config.bsrBall : (j : Nat) → Nat

/-- Owner key digest `k` of the fuse array (R331). -/
opaque Config.ownerDigest : Nat → BitVec 384

/-- HOPS_LEFT of the PROBE that a device sends: the spec states no value (R355)
(DESIGN CHOICE, log 65). -/
opaque Config.probeHops : BitVec 8

end Sys2Proof
end

