-- ==== Sys2Proof/Machine/Bits.lean ====
section
/-! DEFINITION. Bit-field, byte-order and checksum helpers that the meanings share. A table entry
and a register field are numbers whose bit 0 is the least significant; frames carry multi-byte
fields most significant byte first, records and images least significant byte first (R18). -/

namespace Sys2Proof.Machine

/-- Units of a part (Table 0.1). -/
structure Variant where
  /-- Ethernet ports and rods that are present, as bitmaps. -/
  ports : Nat
  rods : Nat
  /-- Key slots, and whether they are scrambled and masked. -/
  slots : Nat
  scramble : Bool
  deriving DecidableEq, Repr

/-- The units that each part of the family carries, by its part number (R1, Table 0.1). -/
def variantOf (part : Nat) : Option Variant :=
  if part = 0x7680 then some ⟨0xFFFFFFFF, 2 ^ 128 - 1, 512, true⟩
  else if part = 0x7648 then some ⟨0x00FFFF3F, 2 ^ 48 - 1, 128, false⟩
  else if part = 0x7624 then some ⟨0x000F0F0F, 2 ^ 24 - 1, 128, false⟩
  else none

/-- Bits `[lo + w - 1 : lo]` of `x`. -/
def bits (x lo w : Nat) : Nat := x / 2 ^ lo % 2 ^ w

/-- Bit `i` of `x` as a Bool. -/
def bit (x i : Nat) : Bool := x / 2 ^ i % 2 == 1

/-- 1 for true, 0 for false: a one-bit field. -/
def b2n (b : Bool) : Nat := if b then 1 else 0

/-- `x` with bits `[lo + w - 1 : lo]` replaced by the low `w` bits of `v`. -/
def setBits (x lo w v : Nat) : Nat :=
  x - bits x lo w * 2 ^ lo + v % 2 ^ w * 2 ^ lo

/-- `x + n`, saturating at `top`. -/
def satAdd (top x n : Nat) : Nat := min top (x + n)

/-- Byte `i` of a byte list as a number; 0 past its end. -/
def byteAt (bs : List Byte) (i : Nat) : Nat := (bs.getD i 0).toNat

/-- Big-endian number of the bytes of a list. -/
def beNat (bs : List Byte) : Nat := bs.foldl (fun a b => a * 256 + b.toNat) 0

/-- Little-endian number of the bytes of a list. -/
def leNat (bs : List Byte) : Nat := bs.foldr (fun b a => a * 256 + b.toNat) 0

/-- The big-endian `n`-byte field at byte `i` (R18, frames). -/
def beAt (bs : List Byte) (i n : Nat) : Nat := beNat ((bs.drop i).take n)

/-- The little-endian `n`-byte field at byte `i` (R18, records and images). -/
def leAt (bs : List Byte) (i n : Nat) : Nat := leNat ((bs.drop i).take n)

/-- `n` bytes of `x`, least significant first. -/
def leBytes : Nat → Nat → List Byte
  | 0, _ => []
  | n + 1, x => BitVec.ofNat 8 x :: leBytes n (x / 256)

/-- `n` bytes of `x`, most significant first. -/
def beBytes (n x : Nat) : List Byte := (leBytes n x).reverse

/-- `bs` cut or padded with zero bytes to `n` bytes. -/
def padTo (n : Nat) (bs : List Byte) : List Byte :=
  (bs ++ List.replicate (n - bs.length) 0).take n

/-- Division rounding up. -/
def ceilDiv (a b : Nat) : Nat := (a + b - 1) / b

/-- One shift of the reflected CRC-32C register with one fed bit (R117). -/
def crcStep (crc : Nat) (b : Bool) : Nat :=
  if (crc % 2 == 1) != b then (crc / 2) ^^^ 0x82F63B78 else crc / 2

/-- `key_hash` of R117: CRC-32C over the low `w` bits of `key`, bit 0 first, register
starting at 0, result not inverted. -/
def keyHash (key w : Nat) : Nat := go w key 0
where
  go : Nat → Nat → Nat → Nat
    | 0, _, crc => crc
    | n + 1, k, crc => go n (k / 2) (crcStep crc (k % 2 == 1))

/-- Feed one byte, bit 0 first. -/
def crcByte (crc : Nat) (b : Byte) : Nat :=
  (List.range 8).foldl (fun c i => crcStep c (b.getLsbD i)) crc

/-- CRC-32C of a byte string (R330): starts from 0xFFFF_FFFF and inverts its result. -/
def crc32c (bs : List Byte) : Nat := (bs.foldl crcByte 0xFFFFFFFF) ^^^ 0xFFFFFFFF

/-- Members of `l` that are legal nearest to `v` (R14): the least distance, the lower of two. -/
def nearest (ranges : List (Nat × Nat)) (v : Nat) : Nat :=
  let cand := ranges.map (fun r => if v < r.1 then r.1 else if r.2 < v then r.2 else v)
  match cand with
  | [] => v
  | c :: cs =>
    let dist (x : Nat) := if x < v then v - x else x - v
    cs.foldl (fun best x =>
      if dist x < dist best ∨ (dist x = dist best ∧ x < best) then x else best) c

/-- The set bits of a `w`-bit bitmap, lowest first. -/
def bitList (x w : Nat) : List Nat := (List.range w).filter (bit x)

end Sys2Proof.Machine
end

