-- ==== Sys2Proof/Machine/RegMap.lean ====
section
/-! DEFINITION. The BAR0 register map (R468, R469, R470): every register of the chapters' register
tables, written from those tables: base offset, array dimensions, and for each field its place,
access type (R13), reset value and the narrowest reach that restores it (R10, R470), and the legal
values of an rwc field (R14). -/

namespace Sys2Proof.Machine

/-- Access types of Table 0.3 (R13). -/
inductive Access where
  | rw | ro | w1c | w1s | wo | rwc
  deriving DecidableEq, Repr

/-- Reset reaches of Table 0.2 (R9), with the battery domain (R11) and "none" for wo fields. A
plane reset restores no register field. -/
inductive Reach where
  | po | ch | wm | pl | rd | battery | none
  deriving DecidableEq, Repr

/-- The forms of the Reset column (R470). -/
inductive ResetForm where
  /-- A stated value. -/
  | val (n : Nat)
  /-- The value equals the register's first array index. -/
  | index0
  /-- The value equals the register's second array index. -/
  | index1
  /-- Taken from the option load. -/
  | loaded
  /-- Taken from the CFGSEL measurement. -/
  | sampled
  deriving DecidableEq, Repr

/-- The unit whose absence makes a register read 0 and ignore writes (R2, R5, R469). -/
inductive UnitOf where
  | none
  /-- Ethernet port: first array index plus the given port index. -/
  | eth (first : Nat)
  | rod
  /-- The first array index is a port index of Table 0.5. -/
  | portIndex
  deriving DecidableEq, Repr

/-- One field of a register. -/
structure FieldDesc where
  lo : Nat
  w : Nat
  acc : Access
  rst : ResetForm
  reach : Reach
  legal : List (Nat × Nat)
  deriving DecidableEq, Repr

/-- One register or register array: offset `base + i * s1 + j * s2` with `i < n1`, `j < n2`. -/
structure RegDesc where
  name : String
  base : Nat
  n1 : Nat
  s1 : Nat
  n2 : Nat
  s2 : Nat
  unit : UnitOf
  fields : List FieldDesc
  deriving DecidableEq, Repr

/-- A field of a register instance: the register's BAR0 offset, lowest bit and width. -/
structure Fld where
  off : Nat
  lo : Nat
  w : Nat
  deriving DecidableEq, Repr

/-- The key of a field in the register store. -/
def Fld.key (f : Fld) : Nat := f.off * 32 + f.lo

/-- A field with stated reset value. -/
abbrev fd (lo w : Nat) (acc : Access) (rst : Nat) (reach : Reach) : FieldDesc :=
  ⟨lo, w, acc, .val rst, reach, []⟩

/-- An rwc field with its legal ranges. -/
abbrev fc (lo w rst : Nat) (legal : List (Nat × Nat)) (reach : Reach := .wm) : FieldDesc :=
  ⟨lo, w, .rwc, .val rst, reach, legal⟩

/-- A single register. -/
abbrev reg1 (name : String) (base : Nat) (unit : UnitOf) (fields : List FieldDesc) : RegDesc :=
  ⟨name, base, 1, 4, 1, 4, unit, fields⟩

/-- A one-dimensional register array. -/
abbrev regA (name : String) (base n s : Nat) (unit : UnitOf) (fields : List FieldDesc) : RegDesc :=
  ⟨name, base, n, s, 1, 4, unit, fields⟩

/-- Registers of the GLB block (R328, R350, R440, R475). -/
def glbRegs1 : List RegDesc :=
  [ reg1 "GLB_ID" 0x0 (.none)
     [⟨0, 16, .ro, .loaded, .ch, []⟩,
      ⟨16, 4, .ro, .loaded, .ch, []⟩,
      fd 24 8 .ro 1 .po],
    regA "GLB_UID" 0x10 4 4 (.none)
     [⟨0, 32, .ro, .loaded, .ch, []⟩],
    reg1 "GLB_PRESENT_PORT" 0x20 (.none)
     [⟨0, 32, .ro, .loaded, .ch, []⟩],
    regA "GLB_PRESENT_ROD" 0x24 4 4 (.none)
     [⟨0, 32, .ro, .loaded, .ch, []⟩],
    reg1 "GLB_KEY_SLOTS" 0x34 (.none)
     [⟨0, 10, .ro, .loaded, .ch, []⟩,
      ⟨10, 1, .ro, .loaded, .ch, []⟩],
    reg1 "GLB_RETIRED_PORT" 0x38 (.none)
     [fd 0 32 .ro 0 .wm],
    reg1 "GLB_CLK_STAT" 0x40 (.none)
     [fd 0 1 .ro 0 .ch,
      fd 1 1 .ro 0 .ch,
      fd 2 1 .ro 0 .ch,
      fd 3 1 .ro 0 .battery,
      fd 16 16 .ro 0 .ch],
    regA "GLB_RETIRED_ROD" 0x60 4 4 (.none)
     [fd 0 32 .ro 0 .wm],
    reg1 "GLB_RST_STAT" 0x100 (.none)
     [fd 0 4 .ro 5 .wm,
      fd 4 1 .ro 0 .wm,
      fd 5 1 .ro 0 .wm,
      fd 8 8 .ro 0 .wm,
      fd 16 8 .ro 0 .wm],
    reg1 "GLB_SW_RST" 0x104 (.none)
     [fd 0 8 .wo 0 .none,
      fd 8 1 .wo 0 .none],
    reg1 "GLB_START" 0x108 (.none)
     [fd 0 1 .w1s 0 .wm],
    reg1 "GLB_STRAP" 0x10C (.none)
     [⟨0, 4, .ro, .sampled, .ch, []⟩,
      ⟨4, 8, .ro, .sampled, .ch, []⟩,
      ⟨12, 1, .ro, .sampled, .ch, []⟩] ]

/-- Registers of the GLB block (R328, R350, R440, R475). -/
def glbRegs2 : List RegDesc :=
  [ reg1 "GLB_LOAD_STAT" 0x110 (.none)
     [fd 0 1 .ro 0 .ch,
      fd 1 1 .ro 0 .ch,
      fd 2 2 .ro 0 .ch,
      fd 4 1 .ro 0 .ch],
    regA "GLB_FUSE" 0x140 4 4 (.none)
     [⟨0, 32, .ro, .loaded, .ch, []⟩],
    reg1 "GLB_BOOT_STAT" 0x180 (.none)
     [⟨0, 2, .ro, .sampled, .ch, []⟩,
      fd 2 1 .ro 0 .wm,
      fd 4 4 .ro 0 .wm,
      fd 8 4 .ro 0 .wm,
      fd 12 1 .ro 0 .wm,
      fd 13 1 .ro 0 .ch,
      fd 14 1 .ro 0 .wm,
      ⟨16, 4, .ro, .loaded, .ch, []⟩],
    reg1 "GLB_HL_ADDR_LO" 0x184 (.none)
     [fd 12 20 .rw 0 .wm],
    reg1 "GLB_HL_ADDR_HI" 0x188 (.none)
     [fd 0 32 .rw 0 .wm],
    reg1 "GLB_HL_LEN" 0x18C (.none)
     [fc 0 25 0x1000 [(4096, 16777216)]],
    reg1 "GLB_HL_CTL" 0x190 (.none)
     [fd 0 1 .w1s 0 .wm,
      fd 1 1 .ro 0 .wm],
    regA "GLB_GPIO_CFG" 0x400 64 4 (.none)
     [fd 0 1 .rw 0 .wm,
      fd 1 1 .rw 0 .wm,
      fd 2 1 .rw 0 .wm,
      fc 4 2 1 [(0, 2)],
      fd 16 8 .ro 0xFF .wm],
    reg1 "GLB_GPIO_IN0" 0x500 (.none)
     [fd 0 32 .ro 0 .wm],
    reg1 "GLB_GPIO_IN1" 0x504 (.none)
     [fd 0 32 .ro 0 .wm] ]

/-- All registers of the GLB block. -/
def glbRegs : List RegDesc := glbRegs1 ++ glbRegs2

/-- Registers of the SAF block (R252). -/
def safRegs : List RegDesc :=
  [ reg1 "SAF_CFG" 0x10000 (.none)
     [fd 0 3 .rw 1 .wm,
      fd 4 3 .rw 0 .wm,
      fd 8 1 .rw 1 .wm,
      fd 9 1 .rw 0 .wm,
      fc 16 8 1 [(1, 255)]],
    reg1 "SAF_STAT" 0x10004 (.none)
     [fd 0 1 .ro 1 .wm,
      fd 1 1 .ro 0 .wm,
      fd 2 2 .ro 0 .wm,
      fd 4 2 .ro 1 .wm,
      fd 6 2 .ro 3 .wm,
      fd 8 2 .ro 0 .wm],
    reg1 "SAF_PLANE_CMD" 0x10008 (.none)
     [fd 0 4 .wo 0 .none,
      fd 4 1 .wo 0 .none],
    reg1 "SAF_CMD_STAT" 0x1000C (.none)
     [fd 0 1 .ro 0 .wm,
      fd 4 4 .ro 0 .wm,
      fd 8 1 .w1c 0 .wm,
      fd 9 1 .w1c 0 .wm],
    reg1 "SAF_PLANE_STAT" 0x10010 (.none)
     [fd 0 4 .ro 1 .wm,
      fd 4 4 .ro 1 .wm,
      fd 8 4 .ro 3 .wm,
      fd 12 4 .ro 0 .wm,
      fd 16 1 .ro 1 .wm,
      fd 17 1 .ro 1 .wm,
      fd 20 4 .ro 0 .wm,
      fd 24 4 .ro 0 .wm],
    reg1 "SAF_LAST_TKO" 0x10014 (.none)
     [fd 0 32 .ro 0 .wm],
    reg1 "SAF_LAST_TKO_LEN" 0x10018 (.none)
     [fd 0 16 .ro 0 .wm],
    reg1 "SAF_DIV_HEAD" 0x1001C (.none)
     [fd 0 4 .ro 0 .wm,
      fd 4 1 .ro 0 .wm],
    regA "SAF_PAIR_STAT" 0x10020 2 4 (.none)
     [fd 0 3 .ro 1 .wm,
      fd 4 4 .ro 0 .wm,
      fd 8 8 .ro 0 .wm],
    regA "SAF_DIV_LOG_W0" 0x10040 16 8 (.none)
     [fd 0 32 .ro 0 .wm],
    regA "SAF_DIV_LOG_W1" 0x10044 16 8 (.none)
     [fd 0 4 .ro 0 .wm,
      fd 8 8 .ro 0 .wm,
      fd 16 1 .ro 0 .wm] ]

/-- Registers of the TIM block (R226). -/
def timRegs1 : List RegDesc :=
  [ reg1 "TIM_CFG" 0x20000 (.none)
     [fd 0 1 .rw 1 .wm,
      fd 1 1 .rw 0 .wm,
      fd 2 1 .rw 0 .wm],
    reg1 "TIM_JUMP_LIMIT" 0x20004 (.none)
     [fc 0 30 0x3E8 [(0, 1000000000)]],
    reg1 "TIM_STAT" 0x20008 (.none)
     [fd 0 1 .ro 0 .ch,
      fd 1 1 .ro 0 .ch,
      fd 2 1 .ro 0 .wm,
      fd 3 1 .ro 0 .ch,
      fd 4 2 .ro 0 .ch],
    reg1 "TIM_HOLD_TMO" 0x2000C (.none)
     [fc 0 16 0x3E8 [(10, 65535)]],
    reg1 "TIM_NOW_NS" 0x20010 (.none)
     [fd 0 30 .ro 0 .ch],
    reg1 "TIM_NOW_SL" 0x20014 (.none)
     [fd 0 32 .ro 0 .ch],
    reg1 "TIM_NOW_SH" 0x20018 (.none)
     [fd 0 16 .ro 0 .ch,
      fd 16 16 .ro 0 .ch],
    reg1 "TIM_NOW_N32" 0x2001C (.none)
     [fd 0 32 .ro 0 .ch],
    regA "TIM_DOM_W0" 0x20040 4 16 (.none)
     [fd 0 1 .rw 0 .wm,
      fd 8 8 .rw 0 .wm],
    regA "TIM_DOM_W1" 0x20044 4 16 (.none)
     [fd 0 32 .rw 0 .wm],
    regA "TIM_PORT" 0x20100 32 4 (.eth 0)
     [fd 0 16 .rw 0 .wm,
      fd 16 16 .rw 0 .wm],
    reg1 "TIM_TS2_STAT" 0x20200 (.none)
     [fd 0 7 .ro 0 .wm,
      fd 16 16 .ro 0 .wm] ]

/-- Registers of the TIM block (R226). -/
def timRegs2 : List RegDesc :=
  [ reg1 "TIM_TS2_HEAD0" 0x20210 (.none)
     [fd 0 16 .ro 0 .wm,
      fd 16 1 .ro 0 .wm,
      fd 24 5 .ro 0 .wm],
    reg1 "TIM_TS2_HEAD1" 0x20214 (.none)
     [fd 0 16 .ro 0 .wm],
    reg1 "TIM_TS2_HEAD2" 0x20218 (.none)
     [fd 0 32 .ro 0 .wm],
    reg1 "TIM_TS2_HEAD3" 0x2021C (.none)
     [fd 0 32 .ro 0 .wm],
    reg1 "TIM_TS2_HEAD4" 0x20220 (.none)
     [fd 0 16 .ro 0 .wm,
      fd 16 16 .ro 0 .wm],
    reg1 "TIM_TS2_ACK" 0x20230 (.none)
     [fd 0 16 .wo 0 .none],
    reg1 "TIM_TS2_POP" 0x20240 (.none)
     [fd 0 32 .ro 0 .wm],
    regA "TIM_TS2_POPDATA" 0x20244 4 4 (.none)
     [fd 0 32 .ro 0 .wm],
    reg1 "TIM_IN_CFG" 0x20300 (.none)
     [fd 0 2 .rw 0 .wm],
    reg1 "TIM_IN_STAT" 0x20304 (.none)
     [fd 0 3 .ro 0 .wm,
      fd 3 1 .w1c 0 .wm],
    reg1 "TIM_IN_HEAD0" 0x20310 (.none)
     [fd 0 16 .ro 0 .wm,
      fd 16 1 .ro 0 .wm,
      fd 17 1 .ro 0 .wm],
    reg1 "TIM_IN_HEAD1" 0x20314 (.none)
     [fd 0 32 .ro 0 .wm] ]

/-- Registers of the TIM block (R226). -/
def timRegs3 : List RegDesc :=
  [ reg1 "TIM_IN_HEAD2" 0x20318 (.none)
     [fd 0 32 .ro 0 .wm],
    reg1 "TIM_IN_HEAD3" 0x2031C (.none)
     [fd 0 16 .ro 0 .wm,
      fd 16 16 .ro 0 .wm],
    reg1 "TIM_IN_ACK" 0x20320 (.none)
     [fd 0 16 .wo 0 .none],
    reg1 "TIM_OUT_CFG" 0x20400 (.none)
     [fc 0 2 0 [(0, 1)],
      fd 2 1 .rw 1 .wm],
    reg1 "TIM_OUT_START_NS" 0x20404 (.none)
     [fc 0 30 0 [(0, 999999999)]],
    reg1 "TIM_OUT_START_SL" 0x20408 (.none)
     [fd 0 32 .rw 0 .wm],
    reg1 "TIM_OUT_START_SH" 0x2040C (.none)
     [fd 0 16 .rw 0 .wm],
    reg1 "TIM_OUT_PERIOD" 0x20410 (.none)
     [fc 0 30 1000000000 [(100, 1000000000)]],
    reg1 "TIM_OUT_WIDTH" 0x20414 (.none)
     [fc 0 30 10000000 [(5, 999999995)]] ]

/-- All registers of the TIM block. -/
def timRegs : List RegDesc := timRegs1 ++ timRegs2 ++ timRegs3

/-- Registers of the FWD block (R115, R124, R128). -/
def fwdRegs : List RegDesc :=
  [ reg1 "TBL_CMD" 0x40000 (.none)
     [fd 0 4 .wo 0 .none,
      fd 4 1 .wo 0 .none],
    reg1 "TBL_ADDR" 0x40004 (.none)
     [fd 0 20 .rw 0 .wm,
      fc 20 4 0 [(0, 15)],
      fd 24 4 .rw 0 .wm],
    reg1 "TBL_STAT" 0x40008 (.none)
     [fd 0 1 .ro 0 .wm,
      fd 4 4 .ro 0 .wm,
      fd 8 4 .ro 0 .wm,
      fd 12 1 .ro 0 .wm,
      fd 13 1 .ro 0 .wm,
      fd 14 1 .w1c 0 .wm],
    reg1 "TBL_RESULT" 0x4000C (.none)
     [fd 0 20 .ro 0 .wm],
    reg1 "TBL_COUNT" 0x40010 (.none)
     [fd 0 32 .ro 0 .wm],
    regA "TBL_DATA" 0x40020 8 4 (.none)
     [fd 0 32 .rw 0 .wm],
    reg1 "FWD_CFG" 0x40100 (.none)
     [fd 0 1 .rw 1 .wm,
      fc 16 16 0x12C [(10, 65535)]],
    reg1 "FWD_AGE_NOW" 0x40104 (.none)
     [fd 0 32 .ro 0 .wm],
    reg1 "FWD_TRAP" 0x40108 (.none)
     [fd 0 16 .rw 0xFFFF .wm,
      fd 16 1 .rw 0 .wm] ]

/-- Registers of the FWL block (R139, R146, R150, R153, R154, R159, R160). -/
def fwlRegs1 : List RegDesc :=
  [ reg1 "FWL_CFG" 0x80000 (.none)
     [fd 0 8 .rw 0 .wm,
      fd 8 1 .rw 0 .wm,
      fc 9 2 0 [(0, 2)],
      fd 11 1 .rw 1 .wm],
    reg1 "FWL_STAT" 0x80004 (.none)
     [fd 0 1 .ro 0 .wm,
      fd 16 15 .ro 0 .wm],
    reg1 "FWL_NOW" 0x80008 (.none)
     [fd 0 16 .ro 0 .wm],
    reg1 "FWL_FLOW_TMO0" 0x80010 (.none)
     [fc 0 16 0x32 [(1, 32767)],
      fc 16 16 0x32 [(1, 32767)]],
    reg1 "FWL_FLOW_TMO1" 0x80014 (.none)
     [fc 0 16 0xBB8 [(1, 32767)],
      fc 16 16 0x64 [(1, 32767)]],
    reg1 "FWL_FLOW_TMO2" 0x80018 (.none)
     [fc 0 16 0x64 [(1, 32767)],
      fc 16 16 0x14 [(1, 32767)]],
    reg1 "FWL_FLOW_TMO3" 0x8001C (.none)
     [fc 0 16 0x12C [(1, 32767)],
      fc 16 16 0x4B0 [(1, 32767)]],
    regA "FWL_DIAG_W0" 0x80200 16 32 (.none)
     [fd 0 1 .ro 0 .wm,
      fd 8 8 .ro 0 .wm,
      fd 16 16 .ro 0 .wm],
    regA "FWL_DIAG_W1" 0x80204 16 32 (.none)
     [fd 0 1 .ro 0 .wm],
    ⟨"FWL_DIAG_IP", 0x80210, 16, 32, 4, 4, .none,
     [fd 0 32 .ro 0 .wm]⟩,
    regA "FWL_PORT" 0x80400 192 4 (.portIndex)
     [fd 0 2 .rw 3 .wm,
      fd 2 1 .rw 0 .wm],
    regA "FWL_METER_W0" 0x82000 1024 8 (.none)
     [fc 0 19 1 [(1, 400000)]] ]

/-- Registers of the FWL block (R139, R146, R150, R153, R154, R159, R160). -/
def fwlRegs2 : List RegDesc :=
  [ regA "FWL_METER_W1" 0x82004 1024 8 (.none)
     [fc 0 16 0x28 [(1, 65535)]] ]

/-- All registers of the FWL block. -/
def fwlRegs : List RegDesc := fwlRegs1 ++ fwlRegs2

/-- Registers of the STR block (R168, R170, R171, R177). -/
def strRegs1 : List RegDesc :=
  [ regA "STR_BLOCK" 0xA0400 256 4 (.none)
     [fd 0 32 .w1c 0 .wm],
    regA "STR_GATE_W0" 0xA1000 64 32 (.none)
     [fd 0 1 .rw 0 .wm,
      fd 1 1 .w1s 0 .wm,
      fd 2 1 .rw 0 .wm,
      fd 3 1 .w1c 0 .wm,
      fd 4 1 .ro 0 .wm,
      fc 8 8 1 [(1, 64)],
      fd 16 8 .ro 0 .wm],
    regA "STR_GATE_CYCLE" 0xA1004 64 32 (.none)
     [fc 0 30 1000000 [(1000, 1000000000)]],
    regA "STR_GATE_BASE_NS" 0xA1008 64 32 (.none)
     [fc 0 30 0 [(0, 999999999)]],
    regA "STR_GATE_BASE_SL" 0xA100C 64 32 (.none)
     [fd 0 32 .rw 0 .wm],
    regA "STR_GATE_BASE_SH" 0xA1010 64 32 (.none)
     [fd 0 16 .rw 0 .wm],
    regA "STR_GATE_OPER_CYCLE" 0xA1014 64 32 (.none)
     [fd 0 30 .ro 0 .wm],
    regA "STR_GATE_CHANGE_NS" 0xA1018 64 32 (.none)
     [fd 0 30 .ro 0 .wm],
    regA "STR_GATE_CHANGE_SL" 0xA101C 64 32 (.none)
     [fd 0 32 .ro 0 .wm],
    regA "STR_METER_W0" 0xA4000 1024 16 (.none)
     [fc 0 19 1 [(0, 400000)]],
    regA "STR_METER_W1" 0xA4004 1024 16 (.none)
     [fd 0 16 .rw 0x28 .wm],
    regA "STR_METER_W2" 0xA4008 1024 16 (.none)
     [fc 0 19 0 [(0, 400000)]] ]

/-- Registers of the STR block (R168, R170, R171, R177). -/
def strRegs2 : List RegDesc :=
  [ regA "STR_METER_W3" 0xA400C 1024 16 (.none)
     [fd 0 16 .rw 0 .wm,
      fd 16 1 .rw 0 .wm,
      fd 17 1 .rw 0 .wm,
      fd 18 1 .rw 0 .wm,
      fd 19 1 .rw 0 .wm,
      fd 20 1 .w1c 0 .wm],
    ⟨"STR_GCL_ADMIN_W0", 0xB0000, 64, 512, 64, 8, .none,
     [fc 0 30 1000000 [(1, 1000000000)],
      fd 30 1 .rw 1 .wm]⟩,
    ⟨"STR_GCL_ADMIN_W1", 0xB0004, 64, 512, 64, 8, .none,
     [fd 0 3 .rw 0 .wm,
      fd 3 1 .rw 0 .wm]⟩,
    ⟨"STR_GCL_OPER_W0", 0xB8000, 64, 512, 64, 8, .none,
     [fd 0 30 .ro 0 .wm,
      fd 30 1 .ro 0 .wm]⟩,
    ⟨"STR_GCL_OPER_W1", 0xB8004, 64, 512, 64, 8, .none,
     [fd 0 3 .ro 0 .wm,
      fd 3 1 .ro 0 .wm]⟩ ]

/-- All registers of the STR block. -/
def strRegs : List RegDesc := strRegs1 ++ strRegs2

/-- Registers of the SCH block (R186, R187, R191, R201). -/
def schRegs1 : List RegDesc :=
  [ regA "SCH_PORT_CFG_B" 0xC0000 8 128 (.eth 0)
     [fc 0 6 0x14 [(0, 63)],
      fd 8 1 .rw 0 .wm,
      fd 9 1 .w1s 0 .wm,
      fc 16 11 1 [(1, 1024)]],
    regA "SCH_PORT_CFG_GS" 0xC0400 24 128 (.eth 8)
     [fc 0 6 0x14 [(0, 63)],
      fd 8 1 .rw 0 .wm,
      fd 9 1 .w1s 0 .wm,
      fc 16 11 1 [(1, 256)]],
    regA "SCH_PORT_STAT" 0xC0004 32 128 (.eth 0)
     [fd 0 11 .ro 0 .wm,
      fd 16 8 .ro 0xFF .wm,
      fd 24 1 .ro 0 .wm],
    regA "SCH_ADMIN_CYCLE" 0xC0008 32 128 (.eth 0)
     [fc 0 30 1000000 [(1000, 1000000000)]],
    regA "SCH_ADMIN_BASE_NS" 0xC000C 32 128 (.eth 0)
     [fc 0 30 0 [(0, 999999999)]],
    regA "SCH_ADMIN_BASE_SL" 0xC0010 32 128 (.eth 0)
     [fd 0 32 .rw 0 .wm],
    regA "SCH_ADMIN_BASE_SH" 0xC0014 32 128 (.eth 0)
     [fd 0 16 .rw 0 .wm],
    regA "SCH_OPER_CYCLE" 0xC0018 32 128 (.eth 0)
     [fd 0 30 .ro 0 .wm],
    regA "SCH_CHANGE_NS" 0xC001C 32 128 (.eth 0)
     [fd 0 30 .ro 0 .wm],
    regA "SCH_CHANGE_SL" 0xC0020 32 128 (.eth 0)
     [fd 0 32 .ro 0 .wm],
    regA "SCH_FP_CFG" 0xC0024 16 128 (.eth 0)
     [fd 0 8 .rw 0 .wm,
      fd 8 1 .rw 0 .wm,
      fd 9 1 .rw 0 .wm,
      fd 10 2 .rw 0 .wm,
      fc 12 7 0x0A [(1, 128)]],
    regA "SCH_FP_TIME" 0xC0028 16 128 (.eth 0)
     [fd 0 16 .rw 0 .wm,
      fd 16 16 .rw 0 .wm] ]

/-- Registers of the SCH block (R186, R187, R191, R201). -/
def schRegs2 : List RegDesc :=
  [ regA "SCH_FP_STAT" 0xC002C 16 128 (.eth 0)
     [fd 0 3 .ro 0 .wm,
      fd 3 1 .ro 0 .wm],
    ⟨"SCH_CLASS_W0", 0xC1000, 32, 256, 8, 32, .eth 0,
     [⟨0, 3, .rw, .index1, .wm, []⟩,
      fc 8 8 1 [(1, 255)],
      fc 16 2 0 [(0, 2)]]⟩,
    ⟨"SCH_CLASS_IDLE", 0xC1004, 32, 256, 8, 32, .eth 0,
     [fc 0 25 1000000 [(1, 25000000)]]⟩,
    ⟨"SCH_CLASS_CIR", 0xC1008, 32, 256, 8, 32, .eth 0,
     [fc 0 25 1000000 [(1, 25000000)]]⟩,
    ⟨"SCH_CLASS_CBS", 0xC100C, 32, 256, 8, 32, .eth 0,
     [fc 0 20 0x5F2 [(64, 1048575)]]⟩,
    ⟨"SCH_CLASS_MAXRES", 0xC1010, 32, 256, 8, 32, .eth 0,
     [fd 0 30 .rw 0 .wm]⟩,
    ⟨"SCH_CLASS_CREDIT", 0xC1014, 32, 256, 8, 32, .eth 0,
     [fd 0 32 .ro 0 .wm]⟩,
    ⟨"SCH_CLASS_MAX_OPEN", 0xC1018, 32, 256, 8, 32, .eth 0,
     [fd 0 30 .ro 0x3FFFFFFF .wm]⟩,
    reg1 "SCH_SHAPE_NOW" 0xC3000 (.none)
     [fd 0 32 .ro 0 .ch],
    regA "SCH_ROD_OVH" 0xC3200 128 4 (.rod)
     [fc 0 10 0x40 [(0, 1023)]],
    ⟨"SCH_RODQ_W0", 0xC4000, 128, 128, 8, 16, .rod,
     [fc 0 2 0 [(0, 2)]]⟩,
    ⟨"SCH_RODQ_RATE", 0xC4004, 128, 128, 8, 16, .rod,
     [fc 0 25 100000 [(1, 20000000)]]⟩ ]

/-- Registers of the SCH block (R186, R187, R191, R201). -/
def schRegs3 : List RegDesc :=
  [ ⟨"SCH_RODQ_BURST", 0xC4008, 128, 128, 8, 16, .rod,
     [fc 0 20 0x4100 [(64, 1048575)]]⟩,
    ⟨"SCH_RODQ_CREDIT", 0xC400C, 128, 128, 8, 16, .rod,
     [fd 0 32 .ro 0 .wm]⟩,
    ⟨"SCH_GCL_ADMIN_B_W0", 0xC8000, 8, 16384, 1024, 8, .eth 0,
     [fc 0 30 1000000 [(1, 1000000000)]]⟩,
    ⟨"SCH_GCL_ADMIN_B_W1", 0xC8004, 8, 16384, 1024, 8, .eth 0,
     [fd 0 8 .rw 0xFF .wm,
      fc 8 2 0 [(0, 2)]]⟩,
    ⟨"SCH_GCL_OPER_B_W0", 0xCA000, 8, 16384, 1024, 8, .eth 0,
     [fd 0 30 .ro 0 .wm]⟩,
    ⟨"SCH_GCL_OPER_B_W1", 0xCA004, 8, 16384, 1024, 8, .eth 0,
     [fd 0 8 .ro 0 .wm,
      fd 8 2 .ro 0 .wm]⟩,
    ⟨"SCH_GCL_ADMIN_GS_W0", 0xE8000, 24, 4096, 256, 8, .eth 8,
     [fc 0 30 1000000 [(1, 1000000000)]]⟩,
    ⟨"SCH_GCL_ADMIN_GS_W1", 0xE8004, 24, 4096, 256, 8, .eth 8,
     [fd 0 8 .rw 0xFF .wm,
      fc 8 2 0 [(0, 2)]]⟩,
    ⟨"SCH_GCL_OPER_GS_W0", 0xE8800, 24, 4096, 256, 8, .eth 8,
     [fd 0 30 .ro 0 .wm]⟩,
    ⟨"SCH_GCL_OPER_GS_W1", 0xE8804, 24, 4096, 256, 8, .eth 8,
     [fd 0 8 .ro 0 .wm,
      fd 8 2 .ro 0 .wm]⟩ ]

/-- All registers of the SCH block. -/
def schRegs : List RegDesc := schRegs1 ++ schRegs2 ++ schRegs3

/-- Registers of the PRT block (R111, R112, R121, R276, R476). -/
def prtRegs : List RegDesc :=
  [ regA "PRT_MAC_CFG_B" 0x100000 8 4096 (.eth 0)
     [fc 0 3 1 [(0, 5)],
      fd 3 1 .rw 0 .wm,
      fd 4 1 .rw 1 .wm,
      fc 16 14 0x5F2 [(64, 10240)]],
    regA "PRT_MAC_CFG_G" 0x108000 8 4096 (.eth 8)
     [fc 0 3 4 [(0, 0), (4, 5)],
      fd 3 1 .rw 0 .wm,
      fd 4 1 .rw 1 .wm,
      fc 16 14 0x5F2 [(64, 10240)]],
    regA "PRT_MAC_CFG_S" 0x110000 16 4096 (.eth 16)
     [fc 0 3 6 [(6, 6)],
      fd 3 1 .rw 0 .wm,
      fd 4 1 .rw 1 .wm,
      fc 16 14 0x5F2 [(64, 10240)]],
    regA "PRT_MAC_STAT" 0x100004 32 4096 (.eth 0)
     [fd 0 1 .ro 0 .wm,
      fd 1 3 .ro 0 .wm,
      fd 4 1 .ro 0 .wm],
    regA "PRT_FWD_CFG_E" 0x100100 32 4096 (.eth 0)
     [fc 0 12 1 [(1, 4094)],
      fd 12 3 .rw 0 .wm,
      fc 16 2 0 [(0, 2)],
      fd 18 1 .rw 1 .wm,
      fc 19 2 2 [(0, 2)],
      fd 21 1 .rw 1 .wm,
      fd 22 1 .rw 0 .wm,
      fd 23 1 .rw 1 .wm,
      fd 24 1 .rw 1 .wm,
      fd 25 1 .rw 1 .wm],
    regA "PRT_FWD_CFG_C" 0x120100 4 4096 (.none)
     [fc 0 12 1 [(1, 4094)],
      fd 12 3 .rw 0 .wm,
      fc 16 2 0 [(0, 2)],
      fd 18 1 .rw 1 .wm,
      fc 19 2 2 [(0, 2)],
      fd 21 1 .rw 0 .wm,
      fd 22 1 .rw 0 .wm,
      fd 23 1 .rw 0 .wm,
      fd 24 1 .rw 0 .wm,
      fd 25 1 .rw 0 .wm],
    regA "PRT_LEARN" 0x100104 36 4096 (.portIndex)
     [fc 0 17 0x10000 [(0, 65536)]],
    regA "PRT_LEARN_COUNT" 0x100108 36 4096 (.portIndex)
     [fd 0 17 .ro 0 .wm],
    regA "PRT_PCP_MAP" 0x10010C 36 4096 (.portIndex)
     [fd 0 24 .rw 0xFAC688 .wm],
    regA "PRT_MSEC_CFG" 0x100200 16 4096 (.eth 0)
     [fd 0 1 .rw 0 .wm,
      fd 1 1 .rw 1 .wm,
      fc 2 2 0 [(0, 2)],
      fd 4 1 .rw 1 .wm,
      fc 5 2 0 [(0, 2)],
      fd 7 1 .rw 1 .wm,
      fd 8 2 .rw 0 .wm,
      fc 16 6 0x18 [(8, 40)]],
    regA "PRT_MSEC_WINDOW" 0x100204 16 4096 (.eth 0)
     [fd 0 32 .rw 0 .wm] ]

/-- Registers of the T1S block (R477). -/
def t1sRegs : List RegDesc :=
  [ regA "T1S_CFG" 0x140000 16 256 (.eth 16)
     [fd 0 1 .rw 1 .wm,
      fc 1 8 0 [(0, 254)],
      fc 9 8 8 [(1, 255)],
      fc 17 8 0x20 [(1, 255)]],
    regA "T1S_BURST" 0x140004 16 256 (.eth 16)
     [fd 0 8 .rw 0 .wm,
      fc 8 8 0x80 [(1, 255)]],
    regA "T1S_STAT" 0x140008 16 256 (.eth 16)
     [fd 0 1 .ro 0 .wm] ]

/-- Registers of the ROD block (R50, R52, R58, R59, R61, R62, R63, R64, R65, R73, R75, R77, R83). -/
def rodRegs1 : List RegDesc :=
  [ regA "ROD_CTL" 0x180000 128 1024 (.rod)
     [fd 0 1 .rw 1 .wm,
      fd 1 1 .rw 0 .wm,
      fd 2 1 .rw 1 .wm,
      fd 3 1 .rw 0 .wm,
      fc 4 1 1 [(0, 1)],
      fd 5 1 .rw 0 .wm,
      fd 6 1 .rw 0 .wm,
      fd 8 8 .rw 0xFF .wm,
      fc 16 12 0x800 [(1, 2048)]],
    regA "ROD_CMD" 0x180004 128 1024 (.rod)
     [fd 0 4 .wo 0 .none,
      fd 4 4 .wo 0 .none],
    regA "ROD_CMD_STAT" 0x180008 128 1024 (.rod)
     [fd 0 1 .ro 0 .rd,
      fd 4 4 .ro 0 .rd,
      fd 8 4 .ro 0 .rd,
      fd 16 1 .w1c 0 .rd],
    regA "ROD_STAT" 0x18000C 128 1024 (.rod)
     [fd 0 4 .ro 1 .rd,
      fd 4 3 .ro 2 .wm,
      fd 7 1 .ro 0 .rd,
      fd 8 1 .ro 0 .rd,
      fd 9 1 .ro 0 .rd,
      fd 10 1 .ro 0 .rd,
      fd 12 4 .ro 0 .wm,
      fd 16 8 .ro 0 .rd],
    regA "ROD_RESET" 0x180010 128 1024 (.rod)
     [fd 0 1 .wo 0 .none],
    regA "ROD_NBT" 0x180014 128 1024 (.rod)
     [fc 0 8 3 [(0, 255)],
      fc 8 9 0x3F [(2, 256)],
      fc 17 7 0x10 [(1, 127)],
      fc 24 7 0x10 [(1, 127)]],
    regA "ROD_DBT" 0x180018 128 1024 (.rod)
     [fc 0 8 3 [(0, 255)],
      fc 8 9 0xE [(1, 64)],
      fc 17 7 5 [(1, 32)],
      fc 24 7 5 [(1, 32)]],
    regA "ROD_TDC" 0x18001C 128 1024 (.rod)
     [fd 0 1 .rw 1 .wm,
      fc 8 8 0xF [(0, 255)],
      fc 16 8 4 [(0, 255)]],
    regA "ROD_PWM" 0x180020 128 1024 (.rod)
     [fc 0 8 0x14 [(1, 255)],
      fc 8 8 0x3C [(1, 255)],
      fc 16 8 0 [(0, 255)]],
    regA "ROD_XCVR" 0x180024 128 1024 (.rod)
     [fc 0 7 0x7F [(0, 63), (127, 127)],
      fd 7 1 .rw 1 .wm,
      fc 8 7 0x7F [(0, 63), (127, 127)],
      fd 15 1 .rw 1 .wm,
      fd 16 8 .rw 0x28 .wm],
    regA "ROD_LIN" 0x180028 128 1024 (.rod)
     [fd 0 4 .rw 0xD .wm,
      fc 4 12 0x208 [(26, 4095)],
      fc 16 5 0xD [(13, 26)],
      fc 21 3 1 [(1, 4)],
      fc 24 4 0xB [(9, 15)],
      fc 28 4 4 [(4, 10)]],
    regA "ROD_LAUNCH" 0x18002C 128 1024 (.rod)
     [fd 0 16 .rw 0 .wm,
      fd 16 16 .rw 0x64 .wm] ]

/-- Registers of the ROD block (R50, R52, R58, R59, R61, R62, R63, R64, R65, R73, R75, R77, R83). -/
def rodRegs2 : List RegDesc :=
  [ regA "ROD_ERR" 0x180030 128 1024 (.rod)
     [fd 0 8 .ro 0 .rd,
      fd 8 8 .ro 0 .rd,
      fd 16 4 .ro 0 .rd],
    regA "ROD_EVT" 0x180034 128 1024 (.rod)
     [fd 0 10 .w1c 0 .rd],
    regA "ROD_DEFROUTE" 0x180038 128 1024 (.rod)
     [fd 0 16 .rw 0 .wm,
      fd 16 8 .rw 0 .wm],
    regA "ROD_ARB_HEAD" 0x18003C 128 1024 (.rod)
     [fd 0 4 .ro 0 .rd,
      fd 4 1 .ro 0 .rd],
    ⟨"ROD_ARB_LOG", 0x180100, 128, 1024, 64, 4, .rod,
     [fd 0 32 .ro 0 .rd]⟩ ]

/-- All registers of the ROD block. -/
def rodRegs : List RegDesc := rodRegs1 ++ rodRegs2

/-- Registers of the CRY block (R89, R98). -/
def cryRegs : List RegDesc :=
  [ reg1 "CRY_CFG" 0x200000 (.none)
     [fd 0 16 .ro 0 .wm,
      fd 16 8 .rw 0xC5 .wm,
      fd 24 1 .rw 0 .wm,
      fd 25 1 .ro 0 .wm],
    reg1 "CRY_EMIT" 0x200004 (.none)
     [fd 0 8 .wo 0 .none] ]

/-- Registers of the KEY block (R281). -/
def keyRegs : List RegDesc :=
  [ reg1 "KEY_CMD" 0x240000 (.none)
     [fd 0 4 .wo 0 .none,
      fd 4 4 .wo 0 .none],
    reg1 "KEY_SLOT" 0x240004 (.none)
     [fd 0 10 .rw 0 .wm,
      fd 16 11 .rw 0 .wm],
    reg1 "KEY_ATTR" 0x240008 (.none)
     [fc 0 3 1 [(0, 2)],
      fd 3 7 .rw 0 .wm,
      fd 10 3 .rw 7 .wm,
      fd 13 1 .rw 0 .wm],
    reg1 "KEY_USES" 0x24000C (.none)
     [fd 0 24 .rw 0xFFFFFF .wm],
    reg1 "KEY_LEN" 0x240010 (.none)
     [fc 0 11 0 [(0, 1024)]],
    reg1 "KEY_STAT" 0x240014 (.none)
     [fd 0 1 .ro 0 .wm,
      fd 4 4 .ro 0 .wm,
      fd 8 4 .ro 0 .wm,
      fd 12 1 .w1c 0 .wm],
    reg1 "KEY_RESULT" 0x240018 (.none)
     [fd 0 10 .ro 0 .wm,
      fd 16 12 .ro 0 .wm],
    reg1 "KEY_STORE_STAT" 0x240020 (.none)
     [fd 0 1 .ro 0 .wm,
      fd 1 1 .ro 0 .wm,
      fd 2 1 .ro 0 .wm,
      fd 3 1 .w1s 0 .battery,
      fd 16 10 .ro 0 .wm],
    reg1 "KEY_ARC" 0x240024 (.none)
     [fd 0 32 .ro 0 .battery],
    regA "KEY_IN" 0x240400 256 4 (.none)
     [fd 0 32 .rw 0 .wm],
    regA "KEY_OUT" 0x241000 1024 4 (.none)
     [fd 0 32 .ro 0 .wm] ]

/-- Registers of the UPD block (R377). -/
def updRegs : List RegDesc :=
  [ reg1 "UPD_CMD" 0x280000 (.none)
     [fd 0 4 .wo 0 .none],
    reg1 "UPD_STAT" 0x280004 (.none)
     [fd 0 1 .ro 0 .wm,
      fd 4 4 .ro 0 .wm,
      fd 8 4 .ro 0 .wm,
      fd 12 1 .w1c 0 .wm,
      fd 16 3 .ro 0 .wm,
      fd 19 1 .ro 0 .wm],
    reg1 "UPD_HOST_ADDR_LO" 0x280008 (.none)
     [fd 12 20 .rw 0 .wm],
    reg1 "UPD_HOST_ADDR_HI" 0x28000C (.none)
     [fd 0 32 .rw 0 .wm],
    reg1 "UPD_HOST_LEN" 0x280010 (.none)
     [fc 0 25 0x1000 [(4096, 16777216)]],
    reg1 "UPD_SESSION" 0x280014 (.none)
     [fd 0 32 .ro 0 .wm],
    reg1 "UPD_PROGRESS" 0x280018 (.none)
     [fd 0 13 .ro 0 .wm,
      fd 16 13 .ro 0 .wm],
    reg1 "UPD_VOTES" 0x28001C (.none)
     [fd 0 8 .ro 0 .wm,
      fd 8 8 .ro 0 .wm,
      fd 16 4 .ro 0 .wm,
      fd 20 1 .ro 0 .wm,
      fd 24 4 .ro 0 .wm],
    reg1 "UPD_ACT_NS" 0x280020 (.none)
     [fd 0 30 .ro 0 .wm],
    reg1 "UPD_ACT_SL" 0x280024 (.none)
     [fd 0 32 .ro 0 .wm],
    reg1 "UPD_ACT_SH" 0x280028 (.none)
     [fd 0 16 .ro 0 .wm] ]

/-- Registers of the DMA block (R285, R288, R297, R300, R302, R303, R304, R305). -/
def dmaRegs1 : List RegDesc :=
  [ reg1 "DMA_CFG" 0x2C0000 (.none)
     [fd 0 1 .rw 0 .wm],
    reg1 "DMA_STAT" 0x2C0004 (.none)
     [fd 0 1 .w1c 1 .wm],
    reg1 "DMA_B2_BASE" 0x2C0010 (.none)
     [fc 0 9 0 [(0, 497)]],
    regA "DMA_RXMAP" 0x2C0020 8 4 (.none)
     [⟨0, 6, .rw, .index0, .wm, []⟩,
      fc 6 3 0 [(0, 5)]],
    regA "DMA_IRQ_MAP" 0x2C0100 131 4 (.none)
     [⟨0, 8, .rw, .index0, .wm, []⟩,
      fd 8 1 .rw 1 .wm,
      fc 16 8 1 [(1, 255)],
      fd 24 8 .rw 0 .wm],
    reg1 "DMA_EVR_BASE_LO" 0x2C0400 (.none)
     [fd 14 18 .rw 0 .wm],
    reg1 "DMA_EVR_BASE_HI" 0x2C0404 (.none)
     [fd 0 32 .rw 0 .wm],
    reg1 "DMA_EVR_CFG" 0x2C0408 (.none)
     [fd 0 1 .rw 0 .wm],
    reg1 "DMA_EVR_HEAD" 0x2C040C (.none)
     [fd 0 16 .ro 0 .wm],
    reg1 "DMA_EVR_TAIL" 0x2C0410 (.none)
     [fd 0 16 .rw 0 .wm],
    regA "DMA_Q_BASE_LO" 0x2C1000 128 64 (.none)
     [fd 6 26 .rw 0 .wm],
    regA "DMA_Q_BASE_HI" 0x2C1004 128 64 (.none)
     [fd 0 32 .rw 0 .wm] ]

/-- Registers of the DMA block (R285, R288, R297, R300, R302, R303, R304, R305). -/
def dmaRegs2 : List RegDesc :=
  [ regA "DMA_Q_CFG" 0x2C1008 128 64 (.none)
     [fd 0 1 .rw 0 .wm,
      fc 1 4 3 [(3, 12)],
      fd 5 1 .rw 0 .wm],
    regA "DMA_Q_WB_LO" 0x2C100C 128 64 (.none)
     [fd 3 29 .rw 0 .wm],
    regA "DMA_Q_WB_HI" 0x2C1010 128 64 (.none)
     [fd 0 32 .rw 0 .wm],
    regA "DMA_Q_DB" 0x2C1014 128 64 (.none)
     [fd 0 16 .wo 0 .none],
    regA "DMA_Q_STAT" 0x2C1018 128 64 (.none)
     [fd 0 16 .ro 0 .wm,
      fd 16 16 .ro 0 .wm],
    regA "DMA_Q_ERR" 0x2C101C 128 64 (.none)
     [fd 0 1 .ro 1 .wm,
      fd 1 3 .ro 0 .wm],
    regA "MSIX_ADDR_LO" 0x2C8000 256 16 (.none)
     [fd 2 30 .rw 0 .ch],
    regA "MSIX_ADDR_HI" 0x2C8004 256 16 (.none)
     [fd 0 32 .rw 0 .ch],
    regA "MSIX_DATA" 0x2C8008 256 16 (.none)
     [fd 0 32 .rw 0 .ch],
    regA "MSIX_CTL" 0x2C800C 256 16 (.none)
     [fd 0 1 .rw 1 .ch],
    regA "MSIX_PBA" 0x2C9000 8 4 (.none)
     [fd 0 32 .ro 0 .ch] ]

/-- All registers of the DMA block. -/
def dmaRegs : List RegDesc := dmaRegs1 ++ dmaRegs2

/-- Registers of the MEM block (R426). -/
def memRegs1 : List RegDesc :=
  [ reg1 "MEM_STAT" 0x300000 (.none)
     [fd 0 1 .ro 0 .ch,
      fd 1 1 .ro 0 .ch,
      fd 2 1 .ro 0 .ch,
      fd 4 3 .ro 0 .ch,
      fd 16 4 .ro 0 .ch],
    reg1 "MEM_TEST_CMD" 0x300010 (.none)
     [fd 0 2 .wo 0 .none,
      fd 4 2 .wo 0 .none],
    reg1 "MEM_TEST_STAT" 0x300014 (.none)
     [fd 0 1 .ro 0 .wm,
      fd 4 4 .ro 0 .wm,
      fd 16 16 .ro 0 .wm],
    reg1 "MEM_TEST_START" 0x300018 (.none)
     [fd 0 17 .rw 0 .wm],
    reg1 "MEM_TEST_LEN" 0x30001C (.none)
     [fc 0 18 1 [(1, 131072)]],
    reg1 "MEM_TEST_PAT" 0x300020 (.none)
     [fd 0 32 .rw 0 .wm],
    reg1 "MEM_TEST_FAIL_LO" 0x300024 (.none)
     [fd 0 32 .ro 0 .wm],
    reg1 "MEM_TEST_FAIL_HI" 0x300028 (.none)
     [fd 0 1 .ro 0 .wm],
    reg1 "TRC_CTL" 0x300100 (.none)
     [fd 0 1 .rw 0 .wm,
      fd 1 1 .w1s 0 .wm,
      fd 2 1 .w1s 0 .wm],
    reg1 "TRC_STAT" 0x300104 (.none)
     [fd 0 2 .ro 0 .ch,
      fd 4 1 .ro 0 .ch,
      fd 8 2 .ro 0 .ch,
      fd 10 1 .ro 0 .ch,
      fd 16 3 .ro 0 .ch],
    reg1 "TRC_REGION" 0x300108 (.none)
     [fd 0 14 .ro 0 .wm],
    reg1 "TRC_WR_PTR_LO" 0x300110 (.none)
     [fd 0 32 .ro 0 .ch] ]

/-- Registers of the MEM block (R426). -/
def memRegs2 : List RegDesc :=
  [ reg1 "TRC_WR_PTR_HI" 0x300114 (.none)
     [fd 0 1 .ro 0 .ch],
    reg1 "TRC_SEQ" 0x300118 (.none)
     [fd 0 32 .ro 0 .ch],
    reg1 "TRC_TRIG_PTR_LO" 0x300120 (.none)
     [fd 0 32 .ro 0 .ch],
    reg1 "TRC_TRIG_PTR_HI" 0x300124 (.none)
     [fd 0 1 .ro 0 .ch],
    reg1 "TRC_TRIG_SEQ" 0x300128 (.none)
     [fd 0 32 .ro 0 .ch],
    reg1 "TRC_TRIG_N32" 0x30012C (.none)
     [fd 0 32 .ro 0 .ch],
    reg1 "TRC_POST" 0x300130 (.none)
     [fd 0 13 .rw 0x40 .wm],
    reg1 "TRC_SNAPLEN" 0x300134 (.none)
     [fc 0 15 0x4000 [(64, 16384)]],
    regA "TRC_ROD_MASK" 0x300140 4 4 (.none)
     [fd 0 32 .rw 0xFFFFFFFF .wm],
    regA "TRC_TRIG_W0" 0x300180 4 8 (.none)
     [fc 0 2 0 [(0, 2)],
      fd 8 8 .rw 0 .wm,
      fd 16 16 .rw 0 .wm],
    regA "TRC_TRIG_W1" 0x300184 4 8 (.none)
     [fd 0 13 .rw 0 .wm,
      fd 13 1 .rw 0 .wm] ]

/-- All registers of the MEM block. -/
def memRegs : List RegDesc := memRegs1 ++ memRegs2

/-- Registers of the TLY block (R417, R418). -/
def tlyRegs : List RegDesc :=
  [ reg1 "TLY_PAGE" 0x340000 (.none)
     [fd 0 7 .rw 0 .wm],
    reg1 "TLY_SNAP_CTL" 0x340004 (.none)
     [fd 0 1 .wo 0 .none,
      fd 1 1 .wo 0 .none],
    reg1 "TLY_SNAP_STAT" 0x340008 (.none)
     [fd 0 1 .ro 0 .wm,
      fd 1 1 .w1c 0 .wm],
    reg1 "TLY_SNAP_SEQ" 0x34000C (.none)
     [fd 0 32 .ro 0 .wm],
    reg1 "TLY_SNAP_N32" 0x340010 (.none)
     [fd 0 32 .ro 0 .wm],
    regA "TLY_LIVE" 0x350000 16384 4 (.none)
     [fd 0 32 .ro 0 .wm],
    regA "TLY_FROZEN" 0x360000 16384 4 (.none)
     [fd 0 32 .ro 0 .wm] ]

/-- Registers of the TST block (R408). -/
def tstRegs : List RegDesc :=
  [ regA "TST_LANE_CFG" 0x380000 16 32 (.eth 0)
     [fc 0 4 0 [(0, 7)],
      fc 4 4 0 [(0, 7)],
      fd 8 1 .rw 0 .wm,
      fd 9 2 .rw 0 .wm,
      fc 16 6 1 [(1, 63)],
      fd 31 1 .wo 0 .none],
    regA "TST_LANE_STAT" 0x380004 16 32 (.eth 0)
     [fd 0 1 .ro 0 .wm,
      fd 16 16 .ro 0 .wm],
    regA "TST_LANE_ERR" 0x380008 16 32 (.eth 0)
     [fd 0 32 .ro 0 .wm],
    regA "TST_LANE_BITS_LO" 0x38000C 16 32 (.eth 0)
     [fd 0 32 .ro 0 .wm],
    regA "TST_LANE_BITS_HI" 0x380010 16 32 (.eth 0)
     [fd 0 16 .ro 0 .wm],
    regA "TST_LANE_USER_LO" 0x380014 16 32 (.eth 0)
     [fd 0 32 .rw 0 .wm],
    regA "TST_LANE_USER_HI" 0x380018 16 32 (.eth 0)
     [fd 0 32 .rw 0 .wm],
    regA "TST_T1S" 0x380400 16 16 (.eth 16)
     [fc 0 3 0 [(0, 4)],
      fd 4 1 .rw 0 .wm],
    regA "TST_ROD_CFG" 0x381000 128 16 (.rod)
     [fd 0 1 .rw 0 .wm,
      fd 1 1 .rw 0 .wm,
      fd 2 1 .rw 0 .wm,
      fc 3 3 0 [(0, 5)],
      fc 8 8 0x64 [(1, 255)],
      fc 16 16 8 [(1, 2048)]],
    regA "TST_ROD_ID" 0x381004 128 16 (.rod)
     [fd 0 29 .rw 0 .wm],
    regA "TST_ROD_CNT" 0x381008 128 16 (.rod)
     [fd 0 16 .ro 0 .wm,
      fd 16 16 .ro 0 .wm],
    regA "TST_ROD_MISS" 0x38100C 128 16 (.rod)
     [fd 0 16 .ro 0 .wm,
      fd 31 1 .wo 0 .none] ]

/-- Registers of the PWR block (R400). -/
def pwrRegs : List RegDesc :=
  [ reg1 "PWR_MODE" 0x3C0000 (.none)
     [fd 0 3 .ro 0 .wm],
    reg1 "PWR_CMD" 0x3C0004 (.none)
     [fd 0 4 .wo 0 .none,
      fd 8 8 .wo 0 .none],
    reg1 "PWR_CMD_STAT" 0x3C0008 (.none)
     [fd 0 1 .ro 0 .wm,
      fd 4 4 .ro 0 .wm,
      fd 8 4 .ro 0 .wm,
      fd 12 1 .w1c 0 .wm],
    reg1 "PWR_WAKE_CFG" 0x3C0010 (.none)
     [fd 0 8 .rw 0 .po,
      fd 8 8 .rw 0 .po,
      fc 16 4 4 [(1, 15)] .po],
    reg1 "PWR_WAKE_SRC" 0x3C0014 (.none)
     [fd 0 16 .rw 0 .po,
      fd 16 16 .rw 0 .po],
    reg1 "PWR_WAKE_TIMER" 0x3C0018 (.none)
     [fd 0 32 .rw 0 .po],
    reg1 "PWR_THERM_CFG" 0x3C0020 (.none)
     [fc 0 8 0x8C [(100, 145)],
      fc 8 8 5 [(2, 20)],
      fc 16 8 0xA [(1, 100)],
      fc 24 8 0x19 [(1, 50)]],
    reg1 "PWR_RESTORE" 0x3C0024 (.none)
     [fc 0 16 0x708 [(100, 18000)]],
    reg1 "PWR_THERM_STAT" 0x3C0028 (.none)
     [fd 0 8 .ro 0 .wm,
      fd 8 2 .ro 0 .wm,
      fd 12 3 .ro 0 .wm],
    regA "PWR_TS" 0x3C0030 4 4 (.none)
     [fd 0 8 .ro 0 .wm],
    reg1 "PWR_BUCKET" 0x3C0040 (.none)
     [fd 0 16 .ro 0x4650 .po],
    reg1 "PWR_POWER" 0x3C0044 (.none)
     [fd 0 16 .ro 0 .wm] ]

/-- Registers of the BKP block (R256, R323, R324, R350, R400). -/
def bkpRegs : List RegDesc :=
  [ reg1 "BKP_RST_CAUSE" 0x400000 (.none)
     [fd 0 7 .w1c 1 .po,
      fd 16 4 .ro 0 .po,
      fd 24 8 .ro 0 .po],
    reg1 "BKP_CLK_FAIL" 0x400004 (.none)
     [fd 0 1 .w1c 0 .po,
      fd 1 1 .w1c 0 .po],
    reg1 "BKP_TAMPER" 0x400008 (.none)
     [fd 0 5 .w1c 0 .battery],
    reg1 "BKP_BOOT" 0x400010 (.none)
     [fd 0 1 .ro 0 .po,
      fd 1 3 .ro 0 .po,
      fd 4 1 .ro 0 .po,
      fd 5 1 .ro 0 .po,
      fd 6 1 .ro 0 .po],
    reg1 "BKP_BOOT_SEQ" 0x400014 (.none)
     [fd 0 32 .ro 0 .po],
    reg1 "BKP_BOOT_BADSEQ" 0x400018 (.none)
     [fd 0 32 .ro 0 .po],
    reg1 "BKP_THERM" 0x400020 (.none)
     [fd 0 1 .w1c 0 .po,
      fd 1 2 .ro 0 .po,
      fd 8 8 .ro 0 .po,
      fd 16 16 .ro 0 .po],
    reg1 "BKP_WAKE" 0x400024 (.none)
     [fd 0 8 .w1c 0 .po,
      fd 8 16 .w1c 0 .po,
      fd 24 1 .w1c 0 .po,
      fd 25 1 .w1c 0 .po,
      fd 26 1 .w1c 0 .po,
      fd 27 1 .w1c 0 .po],
    reg1 "BKP_WAKE_T1S" 0x400028 (.none)
     [fd 0 16 .w1c 0 .po],
    regA "BKP_FW" 0x401000 7168 4 (.none)
     [fd 0 32 .rw 0 .po],
    regA "BKP_USER" 0x408000 8192 4 (.none)
     [fd 0 32 .rw 0 .po] ]

/-- Registers of the RNG block (R290, R291, R292, R294, R295, R296, R377). -/
def rngRegs1 : List RegDesc :=
  [ reg1 "RNG_STAT" 0x440000 (.none)
     [fd 0 2 .ro 0 .wm,
      fd 2 1 .ro 0 .wm,
      fd 3 1 .ro 0 .wm,
      fd 4 1 .ro 0 .wm],
    reg1 "RNG_REACH" 0x440004 (.none)
     [fd 0 4 .ro 0 .wm,
      fd 4 4 .ro 0 .wm,
      fd 8 8 .ro 0 .wm,
      fd 16 1 .ro 0 .wm,
      fd 20 4 .ro 0 .wm,
      fd 24 8 .ro 0 .wm],
    reg1 "RNG_BYP" 0x440008 (.none)
     [fd 0 4 .ro 0 .wm,
      fd 8 4 .ro 0 .wm,
      fd 16 3 .ro 0 .wm],
    reg1 "RNG_RA_RD" 0x44000C (.none)
     [fd 0 32 .ro 0 .wm],
    reg1 "RNG_RA_WR" 0x440010 (.none)
     [fd 0 32 .ro 0 .wm],
    reg1 "RNG_EVT_SUB" 0x440014 (.none)
     [fd 1 15 .rw 0 .wm],
    reg1 "RNG_SELF_TAG_LO" 0x440018 (.none)
     [⟨0, 32, .ro, .loaded, .ch, []⟩],
    reg1 "RNG_SELF_TAG_HI" 0x44001C (.none)
     [⟨0, 32, .ro, .loaded, .ch, []⟩],
    regA "RNG_NBR_LO" 0x440100 2 16 (.none)
     [fd 0 32 .ro 0 .wm],
    regA "RNG_NBR_HI" 0x440104 2 16 (.none)
     [fd 0 32 .ro 0 .wm],
    regA "RNG_NBR_INFO" 0x440108 2 16 (.none)
     [fd 0 8 .ro 0 .wm,
      fd 8 1 .ro 0 .wm],
    regA "RNG_WIN_CFG" 0x441020 15 32 (.none)
     [fd 0 1 .rw 0 .wm,
      fd 1 1 .rw 0 .wm,
      fd 2 7 .rw 0 .wm,
      fc 16 16 0x3E8 [(10, 65535)]] ]

/-- Registers of the RNG block (R290, R291, R292, R294, R295, R296, R377). -/
def rngRegs2 : List RegDesc :=
  [ regA "RNG_WIN_SEQ" 0x441024 15 32 (.none)
     [fd 0 32 .ro 0 .wm],
    regA "RNG_WIN_FENCE" 0x441028 15 32 (.none)
     [fd 0 8 .ro 0 .wm,
      fd 8 1 .ro 0 .wm],
    regA "RNG_WIN_STAT" 0x44102C 15 32 (.none)
     [fd 0 4 .ro 0 .wm,
      fd 8 6 .ro 0 .wm],
    regA "RNG_WIN_TAG_LO" 0x441030 15 32 (.none)
     [fd 0 32 .rw 0 .wm],
    regA "RNG_WIN_TAG_HI" 0x441034 15 32 (.none)
     [fd 0 32 .rw 0 .wm],
    reg1 "RNG_REL_STAT" 0x442000 (.none)
     [fd 0 6 .ro 0 .wm,
      fd 8 8 .ro 0 .wm,
      fd 16 16 .ro 0 .wm],
    reg1 "RNG_REL_ACK" 0x442004 (.none)
     [fd 0 6 .wo 0 .none],
    ⟨"RNG_REL_REC", 0x442100, 32, 32, 8, 4, .none,
     [fd 0 32 .ro 0 .wm]⟩ ]

/-- All registers of the RNG block. -/
def rngRegs : List RegDesc := rngRegs1 ++ rngRegs2

/-- The registers of the block that an offset lies in (Table 19.1). -/
def blockRegs (off : Nat) : List RegDesc :=
  if off < 0x10000 then glbRegs
  else if off < 0x20000 then safRegs
  else if off < 0x40000 then timRegs
  else if off < 0x80000 then fwdRegs
  else if off < 0xA0000 then fwlRegs
  else if off < 0xC0000 then strRegs
  else if off < 0x100000 then schRegs
  else if off < 0x140000 then prtRegs
  else if off < 0x180000 then t1sRegs
  else if off < 0x200000 then rodRegs
  else if off < 0x240000 then cryRegs
  else if off < 0x280000 then keyRegs
  else if off < 0x2C0000 then updRegs
  else if off < 0x300000 then dmaRegs
  else if off < 0x340000 then memRegs
  else if off < 0x380000 then tlyRegs
  else if off < 0x3C0000 then tstRegs
  else if off < 0x400000 then pwrRegs
  else if off < 0x410000 then bkpRegs
  else if off < 0x480000 then rngRegs
  else []

/-- The array indices at which a register holds offset `off`, if it does. -/
def RegDesc.hit (r : RegDesc) (off : Nat) : Option (Nat × Nat) :=
  if off < r.base then none
  else
    let d := off - r.base
    let i := d / r.s1
    let e := d % r.s1
    let j := e / r.s2
    if i < r.n1 && j < r.n2 && e % r.s2 == 0 then some (i, j) else none

/-- Search a register list for an offset. -/
def findIn : List RegDesc → Nat → Option (RegDesc × Nat × Nat)
  | [], _ => none
  | r :: rs, off =>
    match r.hit off with
    | some (i, j) => some (r, i, j)
    | none => findIn rs off

/-- The register at a BAR0 offset with its array indices; none where the offset is reserved
(R469). -/
def findReg (off : Nat) : Option (RegDesc × Nat × Nat) := findIn (blockRegs off) off

/-- The reset value of a field of register instance `(i, j)` (R470); loaded and sampled fields read 0
until the option load or the measurement gives them (R317, R319, R320). -/
def FieldDesc.resetAt (f : FieldDesc) (i j : Nat) : Nat :=
  match f.rst with
  | .val n => n
  | .index0 => i
  | .index1 => j
  | .loaded | .sampled => 0

/-- Distance between the register set that BAR0 shows and a core pair's own copy of it (R25, R263). -/
abbrev ownStep : Nat := 0x8000000

/-- The reset value of the field with key `k`, the same in each requester's own set
(DESIGN CHOICE, log 2) (PRESUMED, log 64). -/
def fieldReset (k : Nat) : Nat :=
  match findReg (k / 32 % ownStep) with
  | none => 0
  | some (r, i, j) =>
    match r.fields.find? (fun f => f.lo == k % 32) with
    | none => 0
    | some f => f.resetAt i j

/-- The reach of the field with key `k`. -/
def fieldReach (k : Nat) : Reach :=
  match findReg (k / 32 % ownStep) with
  | none => .wm
  | some (r, _, _) =>
    match r.fields.find? (fun f => f.lo == k % 32) with
    | none => .wm
    | some f => f.reach

end Sys2Proof.Machine
end

