-- ==== Sys2Proof/Machine/Fields.lean ====
section
/-! DEFINITION. Names of the register fields, `F.<REGISTER>_<FIELD>` with the array indices as
arguments, written from the chapters' register tables. Ports whose registers lie at one stride for
every kind of port (PRT, SCH_PORT_CFG) share one name indexed by the port. -/

namespace Sys2Proof.Machine

/-- GLB_ID.PART (R475). -/
abbrev F.GLB_ID_PART : Fld := ⟨0x0, 0, 16⟩
/-- GLB_ID.DIE_REV (R475). -/
abbrev F.GLB_ID_DIE_REV : Fld := ⟨0x0, 16, 4⟩
/-- GLB_ID.MAP_VER (R475). -/
abbrev F.GLB_ID_MAP_VER : Fld := ⟨0x0, 24, 8⟩
/-- GLB_UID.UID (R475). -/
abbrev F.GLB_UID_UID (i : Nat) : Fld := ⟨0x10 + i * 4, 0, 32⟩
/-- GLB_PRESENT_PORT.PORTS (R475). -/
abbrev F.GLB_PRESENT_PORT_PORTS : Fld := ⟨0x20, 0, 32⟩
/-- GLB_PRESENT_ROD.RODS (R475). -/
abbrev F.GLB_PRESENT_ROD_RODS (i : Nat) : Fld := ⟨0x24 + i * 4, 0, 32⟩
/-- GLB_KEY_SLOTS.COUNT (R475). -/
abbrev F.GLB_KEY_SLOTS_COUNT : Fld := ⟨0x34, 0, 10⟩
/-- GLB_KEY_SLOTS.SCRAMBLE (R475). -/
abbrev F.GLB_KEY_SLOTS_SCRAMBLE : Fld := ⟨0x34, 10, 1⟩
/-- GLB_RETIRED_PORT.PORTS (R475). -/
abbrev F.GLB_RETIRED_PORT_PORTS : Fld := ⟨0x38, 0, 32⟩
/-- GLB_CLK_STAT.ROOT_LOCK (R475). -/
abbrev F.GLB_CLK_STAT_ROOT_LOCK : Fld := ⟨0x40, 0, 1⟩
/-- GLB_CLK_STAT.PCIE_LOCK (R475). -/
abbrev F.GLB_CLK_STAT_PCIE_LOCK : Fld := ⟨0x40, 1, 1⟩
/-- GLB_CLK_STAT.DDR_LOCK (R475). -/
abbrev F.GLB_CLK_STAT_DDR_LOCK : Fld := ⟨0x40, 2, 1⟩
/-- GLB_CLK_STAT.AON_XTAL (R475). -/
abbrev F.GLB_CLK_STAT_AON_XTAL : Fld := ⟨0x40, 3, 1⟩
/-- GLB_CLK_STAT.SERDES_LOCK (R475). -/
abbrev F.GLB_CLK_STAT_SERDES_LOCK : Fld := ⟨0x40, 16, 16⟩
/-- GLB_RETIRED_ROD.RODS (R475). -/
abbrev F.GLB_RETIRED_ROD_RODS (i : Nat) : Fld := ⟨0x60 + i * 4, 0, 32⟩
/-- GLB_RST_STAT.STAGE (R328). -/
abbrev F.GLB_RST_STAT_STAGE : Fld := ⟨0x100, 0, 4⟩
/-- GLB_RST_STAT.FWD_HELD (R328). -/
abbrev F.GLB_RST_STAT_FWD_HELD : Fld := ⟨0x100, 4, 1⟩
/-- GLB_RST_STAT.SNAPSHOT_USED (R328). -/
abbrev F.GLB_RST_STAT_SNAPSHOT_USED : Fld := ⟨0x100, 5, 1⟩
/-- GLB_RST_STAT.WR_DROP (R328). -/
abbrev F.GLB_RST_STAT_WR_DROP : Fld := ⟨0x100, 8, 8⟩
/-- GLB_RST_STAT.SW_BAD (R328). -/
abbrev F.GLB_RST_STAT_SW_BAD : Fld := ⟨0x100, 16, 8⟩
/-- GLB_SW_RST.KEY (R328). -/
abbrev F.GLB_SW_RST_KEY : Fld := ⟨0x104, 0, 8⟩
/-- GLB_SW_RST.GO (R328). -/
abbrev F.GLB_SW_RST_GO : Fld := ⟨0x104, 8, 1⟩
/-- GLB_START.FWD_GO (R328). -/
abbrev F.GLB_START_FWD_GO : Fld := ⟨0x108, 0, 1⟩
/-- GLB_STRAP.CODE (R328). -/
abbrev F.GLB_STRAP_CODE : Fld := ⟨0x10C, 0, 4⟩
/-- GLB_STRAP.RAW (R328). -/
abbrev F.GLB_STRAP_RAW : Fld := ⟨0x10C, 4, 8⟩
/-- GLB_STRAP.OPEN (R328). -/
abbrev F.GLB_STRAP_OPEN : Fld := ⟨0x10C, 12, 1⟩
/-- GLB_LOAD_STAT.LOAD_DONE (R328). -/
abbrev F.GLB_LOAD_STAT_LOAD_DONE : Fld := ⟨0x110, 0, 1⟩
/-- GLB_LOAD_STAT.LOAD_FAIL (R328). -/
abbrev F.GLB_LOAD_STAT_LOAD_FAIL : Fld := ⟨0x110, 1, 1⟩
/-- GLB_LOAD_STAT.ATTEMPTS (R328). -/
abbrev F.GLB_LOAD_STAT_ATTEMPTS : Fld := ⟨0x110, 2, 2⟩
/-- GLB_LOAD_STAT.ECC_CORR (R328). -/
abbrev F.GLB_LOAD_STAT_ECC_CORR : Fld := ⟨0x110, 4, 1⟩
/-- GLB_FUSE.FUSE (R328). -/
abbrev F.GLB_FUSE_FUSE (i : Nat) : Fld := ⟨0x140 + i * 4, 0, 32⟩
/-- GLB_BOOT_STAT.SOURCE (R350). -/
abbrev F.GLB_BOOT_STAT_SOURCE : Fld := ⟨0x180, 0, 2⟩
/-- GLB_BOOT_STAT.SLOT (R350). -/
abbrev F.GLB_BOOT_STAT_SLOT : Fld := ⟨0x180, 2, 1⟩
/-- GLB_BOOT_STAT.RESULT (R350). -/
abbrev F.GLB_BOOT_STAT_RESULT : Fld := ⟨0x180, 4, 4⟩
/-- GLB_BOOT_STAT.STEP (R350). -/
abbrev F.GLB_BOOT_STAT_STEP : Fld := ⟨0x180, 8, 4⟩
/-- GLB_BOOT_STAT.BOOT_FAIL (R350). -/
abbrev F.GLB_BOOT_STAT_BOOT_FAIL : Fld := ⟨0x180, 12, 1⟩
/-- GLB_BOOT_STAT.SNAP_VALID (R350). -/
abbrev F.GLB_BOOT_STAT_SNAP_VALID : Fld := ⟨0x180, 13, 1⟩
/-- GLB_BOOT_STAT.CONFIRMED (R350). -/
abbrev F.GLB_BOOT_STAT_CONFIRMED : Fld := ⟨0x180, 14, 1⟩
/-- GLB_BOOT_STAT.KEY_REVOKED (R350). -/
abbrev F.GLB_BOOT_STAT_KEY_REVOKED : Fld := ⟨0x180, 16, 4⟩
/-- GLB_HL_ADDR_LO.ADDR (R350). -/
abbrev F.GLB_HL_ADDR_LO_ADDR : Fld := ⟨0x184, 12, 20⟩
/-- GLB_HL_ADDR_HI.ADDR (R350). -/
abbrev F.GLB_HL_ADDR_HI_ADDR : Fld := ⟨0x188, 0, 32⟩
/-- GLB_HL_LEN.LEN (R350). -/
abbrev F.GLB_HL_LEN_LEN : Fld := ⟨0x18C, 0, 25⟩
/-- GLB_HL_CTL.GO (R350). -/
abbrev F.GLB_HL_CTL_GO : Fld := ⟨0x190, 0, 1⟩
/-- GLB_HL_CTL.BUSY (R350). -/
abbrev F.GLB_HL_CTL_BUSY : Fld := ⟨0x190, 1, 1⟩
/-- GLB_GPIO_CFG.DIR (R440). -/
abbrev F.GLB_GPIO_CFG_DIR (i : Nat) : Fld := ⟨0x400 + i * 4, 0, 1⟩
/-- GLB_GPIO_CFG.OUT (R440). -/
abbrev F.GLB_GPIO_CFG_OUT (i : Nat) : Fld := ⟨0x400 + i * 4, 1, 1⟩
/-- GLB_GPIO_CFG.OD (R440). -/
abbrev F.GLB_GPIO_CFG_OD (i : Nat) : Fld := ⟨0x400 + i * 4, 2, 1⟩
/-- GLB_GPIO_CFG.PULL (R440). -/
abbrev F.GLB_GPIO_CFG_PULL (i : Nat) : Fld := ⟨0x400 + i * 4, 4, 2⟩
/-- GLB_GPIO_CFG.OWNER (R440). -/
abbrev F.GLB_GPIO_CFG_OWNER (i : Nat) : Fld := ⟨0x400 + i * 4, 16, 8⟩
/-- GLB_GPIO_IN0.LEVEL (R440). -/
abbrev F.GLB_GPIO_IN0_LEVEL : Fld := ⟨0x500, 0, 32⟩
/-- GLB_GPIO_IN1.LEVEL (R440). -/
abbrev F.GLB_GPIO_IN1_LEVEL : Fld := ⟨0x504, 0, 32⟩
/-- SAF_CFG.PRIO_A (R252). -/
abbrev F.SAF_CFG_PRIO_A : Fld := ⟨0x10000, 0, 3⟩
/-- SAF_CFG.PRIO_B (R252). -/
abbrev F.SAF_CFG_PRIO_B : Fld := ⟨0x10000, 4, 3⟩
/-- SAF_CFG.AUTO_RESTART (R252). -/
abbrev F.SAF_CFG_AUTO_RESTART : Fld := ⟨0x10000, 8, 1⟩
/-- SAF_CFG.DIV_ACT (R252). -/
abbrev F.SAF_CFG_DIV_ACT : Fld := ⟨0x10000, 9, 1⟩
/-- SAF_CFG.DIV_LIMIT (R252). -/
abbrev F.SAF_CFG_DIV_LIMIT : Fld := ⟨0x10000, 16, 8⟩
/-- SAF_STAT.SAFE_STATE (R252). -/
abbrev F.SAF_STAT_SAFE_STATE : Fld := ⟨0x10004, 0, 1⟩
/-- SAF_STAT.DEGRADED (R252). -/
abbrev F.SAF_STAT_DEGRADED : Fld := ⟨0x10004, 1, 1⟩
/-- SAF_STAT.DEBUG_SPLIT (R252). -/
abbrev F.SAF_STAT_DEBUG_SPLIT : Fld := ⟨0x10004, 2, 2⟩
/-- SAF_STAT.DRIVER (R252). -/
abbrev F.SAF_STAT_DRIVER : Fld := ⟨0x10004, 4, 2⟩
/-- SAF_STAT.CMP_OK (R252). -/
abbrev F.SAF_STAT_CMP_OK : Fld := ⟨0x10004, 6, 2⟩
/-- SAF_STAT.LATENT (R252). -/
abbrev F.SAF_STAT_LATENT : Fld := ⟨0x10004, 8, 2⟩
/-- SAF_PLANE_CMD.OP (R252). -/
abbrev F.SAF_PLANE_CMD_OP : Fld := ⟨0x10008, 0, 4⟩
/-- SAF_PLANE_CMD.PLANE (R252). -/
abbrev F.SAF_PLANE_CMD_PLANE : Fld := ⟨0x10008, 4, 1⟩
/-- SAF_CMD_STAT.BUSY (R252). -/
abbrev F.SAF_CMD_STAT_BUSY : Fld := ⟨0x1000C, 0, 1⟩
/-- SAF_CMD_STAT.STATUS (R252). -/
abbrev F.SAF_CMD_STAT_STATUS : Fld := ⟨0x1000C, 4, 4⟩
/-- SAF_CMD_STAT.DRILL_PASS (R252). -/
abbrev F.SAF_CMD_STAT_DRILL_PASS : Fld := ⟨0x1000C, 8, 1⟩
/-- SAF_CMD_STAT.DRILL_FAIL (R252). -/
abbrev F.SAF_CMD_STAT_DRILL_FAIL : Fld := ⟨0x1000C, 9, 1⟩
/-- SAF_PLANE_STAT.STATE_A (R252). -/
abbrev F.SAF_PLANE_STAT_STATE_A : Fld := ⟨0x10010, 0, 4⟩
/-- SAF_PLANE_STAT.STATE_B (R252). -/
abbrev F.SAF_PLANE_STAT_STATE_B : Fld := ⟨0x10010, 4, 4⟩
/-- SAF_PLANE_STAT.CLAIM_A (R252). -/
abbrev F.SAF_PLANE_STAT_CLAIM_A : Fld := ⟨0x10010, 8, 4⟩
/-- SAF_PLANE_STAT.CLAIM_B (R252). -/
abbrev F.SAF_PLANE_STAT_CLAIM_B : Fld := ⟨0x10010, 12, 4⟩
/-- SAF_PLANE_STAT.CLAIMING_A (R252). -/
abbrev F.SAF_PLANE_STAT_CLAIMING_A : Fld := ⟨0x10010, 16, 1⟩
/-- SAF_PLANE_STAT.CLAIMING_B (R252). -/
abbrev F.SAF_PLANE_STAT_CLAIMING_B : Fld := ⟨0x10010, 17, 1⟩
/-- SAF_PLANE_STAT.CAUSE_A (R252). -/
abbrev F.SAF_PLANE_STAT_CAUSE_A : Fld := ⟨0x10010, 20, 4⟩
/-- SAF_PLANE_STAT.CAUSE_B (R252). -/
abbrev F.SAF_PLANE_STAT_CAUSE_B : Fld := ⟨0x10010, 24, 4⟩
/-- SAF_LAST_TKO.N32 (R252). -/
abbrev F.SAF_LAST_TKO_N32 : Fld := ⟨0x10014, 0, 32⟩
/-- SAF_LAST_TKO_LEN.LEN (R252). -/
abbrev F.SAF_LAST_TKO_LEN_LEN : Fld := ⟨0x10018, 0, 16⟩
/-- SAF_DIV_HEAD.NEXT (R252). -/
abbrev F.SAF_DIV_HEAD_NEXT : Fld := ⟨0x1001C, 0, 4⟩
/-- SAF_DIV_HEAD.WRAPPED (R252). -/
abbrev F.SAF_DIV_HEAD_WRAPPED : Fld := ⟨0x1001C, 4, 1⟩
/-- SAF_PAIR_STAT.STATE (R252). -/
abbrev F.SAF_PAIR_STAT_STATE (i : Nat) : Fld := ⟨0x10020 + i * 4, 0, 3⟩
/-- SAF_PAIR_STAT.CAUSE (R252). -/
abbrev F.SAF_PAIR_STAT_CAUSE (i : Nat) : Fld := ⟨0x10020 + i * 4, 4, 4⟩
/-- SAF_PAIR_STAT.RESTARTS (R252). -/
abbrev F.SAF_PAIR_STAT_RESTARTS (i : Nat) : Fld := ⟨0x10020 + i * 4, 8, 8⟩
/-- SAF_DIV_LOG_W0.N32 (R252). -/
abbrev F.SAF_DIV_LOG_W0_N32 (i : Nat) : Fld := ⟨0x10040 + i * 8, 0, 32⟩
/-- SAF_DIV_LOG_W1.OPCODE (R252). -/
abbrev F.SAF_DIV_LOG_W1_OPCODE (i : Nat) : Fld := ⟨0x10044 + i * 8, 0, 4⟩
/-- SAF_DIV_LOG_W1.GROUPS (R252). -/
abbrev F.SAF_DIV_LOG_W1_GROUPS (i : Nat) : Fld := ⟨0x10044 + i * 8, 8, 8⟩
/-- SAF_DIV_LOG_W1.VALID (R252). -/
abbrev F.SAF_DIV_LOG_W1_VALID (i : Nat) : Fld := ⟨0x10044 + i * 8, 16, 1⟩
/-- TIM_CFG.JUMP_EN (R226). -/
abbrev F.TIM_CFG_JUMP_EN : Fld := ⟨0x20000, 0, 1⟩
/-- TIM_CFG.SERVO_OWNER (R226). -/
abbrev F.TIM_CFG_SERVO_OWNER : Fld := ⟨0x20000, 1, 1⟩
/-- TIM_CFG.TS2_MODE (R226). -/
abbrev F.TIM_CFG_TS2_MODE : Fld := ⟨0x20000, 2, 1⟩
/-- TIM_JUMP_LIMIT.LIMIT (R226). -/
abbrev F.TIM_JUMP_LIMIT_LIMIT : Fld := ⟨0x20004, 0, 30⟩
/-- TIM_STAT.SYNCED (R226). -/
abbrev F.TIM_STAT_SYNCED : Fld := ⟨0x20008, 0, 1⟩
/-- TIM_STAT.HOLDOVER (R226). -/
abbrev F.TIM_STAT_HOLDOVER : Fld := ⟨0x20008, 1, 1⟩
/-- TIM_STAT.JUMP_PEND (R226). -/
abbrev F.TIM_STAT_JUMP_PEND : Fld := ⟨0x20008, 2, 1⟩
/-- TIM_STAT.SLEWING (R226). -/
abbrev F.TIM_STAT_SLEWING : Fld := ⟨0x20008, 3, 1⟩
/-- TIM_STAT.SEL (R226). -/
abbrev F.TIM_STAT_SEL : Fld := ⟨0x20008, 4, 2⟩
/-- TIM_HOLD_TMO.TMO (R226). -/
abbrev F.TIM_HOLD_TMO_TMO : Fld := ⟨0x2000C, 0, 16⟩
/-- TIM_NOW_NS.NS (R226). -/
abbrev F.TIM_NOW_NS_NS : Fld := ⟨0x20010, 0, 30⟩
/-- TIM_NOW_SL.SEC_LO (R226). -/
abbrev F.TIM_NOW_SL_SEC_LO : Fld := ⟨0x20014, 0, 32⟩
/-- TIM_NOW_SH.SEC_HI (R226). -/
abbrev F.TIM_NOW_SH_SEC_HI : Fld := ⟨0x20018, 0, 16⟩
/-- TIM_NOW_SH.FRAC (R226). -/
abbrev F.TIM_NOW_SH_FRAC : Fld := ⟨0x20018, 16, 16⟩
/-- TIM_NOW_N32.N32 (R226). -/
abbrev F.TIM_NOW_N32_N32 : Fld := ⟨0x2001C, 0, 32⟩
/-- TIM_DOM_W0.EN (R226). -/
abbrev F.TIM_DOM_W0_EN (i : Nat) : Fld := ⟨0x20040 + i * 16, 0, 1⟩
/-- TIM_DOM_W0.DOMAIN_NUMBER (R226). -/
abbrev F.TIM_DOM_W0_DOMAIN_NUMBER (i : Nat) : Fld := ⟨0x20040 + i * 16, 8, 8⟩
/-- TIM_DOM_W1.PORTS (R226). -/
abbrev F.TIM_DOM_W1_PORTS (i : Nat) : Fld := ⟨0x20044 + i * 16, 0, 32⟩
/-- TIM_PORT.ING_CORR (R226). -/
abbrev F.TIM_PORT_ING_CORR (i : Nat) : Fld := ⟨0x20100 + i * 4, 0, 16⟩
/-- TIM_PORT.EGR_CORR (R226). -/
abbrev F.TIM_PORT_EGR_CORR (i : Nat) : Fld := ⟨0x20100 + i * 4, 16, 16⟩
/-- TIM_TS2_STAT.COUNT (R226). -/
abbrev F.TIM_TS2_STAT_COUNT : Fld := ⟨0x20200, 0, 7⟩
/-- TIM_TS2_STAT.NEXT_QSEQ (R226). -/
abbrev F.TIM_TS2_STAT_NEXT_QSEQ : Fld := ⟨0x20200, 16, 16⟩
/-- TIM_TS2_HEAD0.QSEQ (R226). -/
abbrev F.TIM_TS2_HEAD0_QSEQ : Fld := ⟨0x20210, 0, 16⟩
/-- TIM_TS2_HEAD0.VALID (R226). -/
abbrev F.TIM_TS2_HEAD0_VALID : Fld := ⟨0x20210, 16, 1⟩
/-- TIM_TS2_HEAD0.PORT (R226). -/
abbrev F.TIM_TS2_HEAD0_PORT : Fld := ⟨0x20210, 24, 5⟩
/-- TIM_TS2_HEAD1.TAG (R226). -/
abbrev F.TIM_TS2_HEAD1_TAG : Fld := ⟨0x20214, 0, 16⟩
/-- TIM_TS2_HEAD2.NS (R226). -/
abbrev F.TIM_TS2_HEAD2_NS : Fld := ⟨0x20218, 0, 32⟩
/-- TIM_TS2_HEAD3.SEC_LO (R226). -/
abbrev F.TIM_TS2_HEAD3_SEC_LO : Fld := ⟨0x2021C, 0, 32⟩
/-- TIM_TS2_HEAD4.SEC_HI (R226). -/
abbrev F.TIM_TS2_HEAD4_SEC_HI : Fld := ⟨0x20220, 0, 16⟩
/-- TIM_TS2_HEAD4.FRAC (R226). -/
abbrev F.TIM_TS2_HEAD4_FRAC : Fld := ⟨0x20220, 16, 16⟩
/-- TIM_TS2_ACK.QSEQ (R226). -/
abbrev F.TIM_TS2_ACK_QSEQ : Fld := ⟨0x20230, 0, 16⟩
/-- TIM_TS2_POP.HEAD0 (R226). -/
abbrev F.TIM_TS2_POP_HEAD0 : Fld := ⟨0x20240, 0, 32⟩
/-- TIM_TS2_POPDATA.DATA (R226). -/
abbrev F.TIM_TS2_POPDATA_DATA (i : Nat) : Fld := ⟨0x20244 + i * 4, 0, 32⟩
/-- TIM_IN_CFG.EDGE (R226). -/
abbrev F.TIM_IN_CFG_EDGE : Fld := ⟨0x20300, 0, 2⟩
/-- TIM_IN_STAT.COUNT (R226). -/
abbrev F.TIM_IN_STAT_COUNT : Fld := ⟨0x20304, 0, 3⟩
/-- TIM_IN_STAT.OVF (R226). -/
abbrev F.TIM_IN_STAT_OVF : Fld := ⟨0x20304, 3, 1⟩
/-- TIM_IN_HEAD0.QSEQ (R226). -/
abbrev F.TIM_IN_HEAD0_QSEQ : Fld := ⟨0x20310, 0, 16⟩
/-- TIM_IN_HEAD0.VALID (R226). -/
abbrev F.TIM_IN_HEAD0_VALID : Fld := ⟨0x20310, 16, 1⟩
/-- TIM_IN_HEAD0.RISING (R226). -/
abbrev F.TIM_IN_HEAD0_RISING : Fld := ⟨0x20310, 17, 1⟩
/-- TIM_IN_HEAD1.NS (R226). -/
abbrev F.TIM_IN_HEAD1_NS : Fld := ⟨0x20314, 0, 32⟩
/-- TIM_IN_HEAD2.SEC_LO (R226). -/
abbrev F.TIM_IN_HEAD2_SEC_LO : Fld := ⟨0x20318, 0, 32⟩
/-- TIM_IN_HEAD3.SEC_HI (R226). -/
abbrev F.TIM_IN_HEAD3_SEC_HI : Fld := ⟨0x2031C, 0, 16⟩
/-- TIM_IN_HEAD3.FRAC (R226). -/
abbrev F.TIM_IN_HEAD3_FRAC : Fld := ⟨0x2031C, 16, 16⟩
/-- TIM_IN_ACK.QSEQ (R226). -/
abbrev F.TIM_IN_ACK_QSEQ : Fld := ⟨0x20320, 0, 16⟩
/-- TIM_OUT_CFG.MODE (R226). -/
abbrev F.TIM_OUT_CFG_MODE : Fld := ⟨0x20400, 0, 2⟩
/-- TIM_OUT_CFG.POL (R226). -/
abbrev F.TIM_OUT_CFG_POL : Fld := ⟨0x20400, 2, 1⟩
/-- TIM_OUT_START_NS.NS (R226). -/
abbrev F.TIM_OUT_START_NS_NS : Fld := ⟨0x20404, 0, 30⟩
/-- TIM_OUT_START_SL.SEC_LO (R226). -/
abbrev F.TIM_OUT_START_SL_SEC_LO : Fld := ⟨0x20408, 0, 32⟩
/-- TIM_OUT_START_SH.SEC_HI (R226). -/
abbrev F.TIM_OUT_START_SH_SEC_HI : Fld := ⟨0x2040C, 0, 16⟩
/-- TIM_OUT_PERIOD.PERIOD (R226). -/
abbrev F.TIM_OUT_PERIOD_PERIOD : Fld := ⟨0x20410, 0, 30⟩
/-- TIM_OUT_WIDTH.WIDTH (R226). -/
abbrev F.TIM_OUT_WIDTH_WIDTH : Fld := ⟨0x20414, 0, 30⟩
/-- TBL_CMD.OP (R128). -/
abbrev F.TBL_CMD_OP : Fld := ⟨0x40000, 0, 4⟩
/-- TBL_CMD.EVICT (R128). -/
abbrev F.TBL_CMD_EVICT : Fld := ⟨0x40000, 4, 1⟩
/-- TBL_ADDR.INDEX (R128). -/
abbrev F.TBL_ADDR_INDEX : Fld := ⟨0x40004, 0, 20⟩
/-- TBL_ADDR.PART (R128). -/
abbrev F.TBL_ADDR_PART : Fld := ⟨0x40004, 20, 4⟩
/-- TBL_ADDR.TABLE (R128). -/
abbrev F.TBL_ADDR_TABLE : Fld := ⟨0x40004, 24, 4⟩
/-- TBL_STAT.BUSY (R128). -/
abbrev F.TBL_STAT_BUSY : Fld := ⟨0x40008, 0, 1⟩
/-- TBL_STAT.STATUS (R128). -/
abbrev F.TBL_STAT_STATUS : Fld := ⟨0x40008, 4, 4⟩
/-- TBL_STAT.LAST_OP (R128). -/
abbrev F.TBL_STAT_LAST_OP : Fld := ⟨0x40008, 8, 4⟩
/-- TBL_STAT.EXISTED (R128). -/
abbrev F.TBL_STAT_EXISTED : Fld := ⟨0x40008, 12, 1⟩
/-- TBL_STAT.EVICTED (R128). -/
abbrev F.TBL_STAT_EVICTED : Fld := ⟨0x40008, 13, 1⟩
/-- TBL_STAT.BUSY_HIT (R128). -/
abbrev F.TBL_STAT_BUSY_HIT : Fld := ⟨0x40008, 14, 1⟩
/-- TBL_RESULT.INDEX (R128). -/
abbrev F.TBL_RESULT_INDEX : Fld := ⟨0x4000C, 0, 20⟩
/-- TBL_COUNT.COUNT (R128). -/
abbrev F.TBL_COUNT_COUNT : Fld := ⟨0x40010, 0, 32⟩
/-- TBL_DATA.DATA (R128). -/
abbrev F.TBL_DATA_DATA (i : Nat) : Fld := ⟨0x40020 + i * 4, 0, 32⟩
/-- FWD_CFG.AGE_EN (R128). -/
abbrev F.FWD_CFG_AGE_EN : Fld := ⟨0x40100, 0, 1⟩
/-- FWD_CFG.AGE_TIME (R128). -/
abbrev F.FWD_CFG_AGE_TIME : Fld := ⟨0x40100, 16, 16⟩
/-- FWD_AGE_NOW.NOW (R124). -/
abbrev F.FWD_AGE_NOW_NOW : Fld := ⟨0x40104, 0, 32⟩
/-- FWD_TRAP.LL_MASK (R115). -/
abbrev F.FWD_TRAP_LL_MASK : Fld := ⟨0x40108, 0, 16⟩
/-- FWD_TRAP.LL_CPU (R115). -/
abbrev F.FWD_TRAP_LL_CPU : Fld := ⟨0x40108, 16, 1⟩
/-- FWL_CFG.BE_MASK (R160). -/
abbrev F.FWL_CFG_BE_MASK : Fld := ⟨0x80000, 0, 8⟩
/-- FWL_CFG.FLOW_FULL (R160). -/
abbrev F.FWL_CFG_FLOW_FULL : Fld := ⟨0x80000, 8, 1⟩
/-- FWL_CFG.EARLY_ACT (R160). -/
abbrev F.FWL_CFG_EARLY_ACT : Fld := ⟨0x80000, 9, 2⟩
/-- FWL_CFG.SUPPRESS_INACTIVE (R160). -/
abbrev F.FWL_CFG_SUPPRESS_INACTIVE : Fld := ⟨0x80000, 11, 1⟩
/-- FWL_STAT.SHED (R159). -/
abbrev F.FWL_STAT_SHED : Fld := ⟨0x80004, 0, 1⟩
/-- FWL_STAT.FLOW_USED (R159). -/
abbrev F.FWL_STAT_FLOW_USED : Fld := ⟨0x80004, 16, 15⟩
/-- FWL_NOW.NOW (R154). -/
abbrev F.FWL_NOW_NOW : Fld := ⟨0x80008, 0, 16⟩
/-- FWL_FLOW_TMO0.TMO_TCP_SYN (R150). -/
abbrev F.FWL_FLOW_TMO0_TMO_TCP_SYN : Fld := ⟨0x80010, 0, 16⟩
/-- FWL_FLOW_TMO0.TMO_TCP_SYNACK (R150). -/
abbrev F.FWL_FLOW_TMO0_TMO_TCP_SYNACK : Fld := ⟨0x80010, 16, 16⟩
/-- FWL_FLOW_TMO1.TMO_TCP_EST (R150). -/
abbrev F.FWL_FLOW_TMO1_TMO_TCP_EST : Fld := ⟨0x80014, 0, 16⟩
/-- FWL_FLOW_TMO1.TMO_TCP_FIN1 (R150). -/
abbrev F.FWL_FLOW_TMO1_TMO_TCP_FIN1 : Fld := ⟨0x80014, 16, 16⟩
/-- FWL_FLOW_TMO2.TMO_TCP_FIN2 (R150). -/
abbrev F.FWL_FLOW_TMO2_TMO_TCP_FIN2 : Fld := ⟨0x80018, 0, 16⟩
/-- FWL_FLOW_TMO2.TMO_TCP_CLOSED (R150). -/
abbrev F.FWL_FLOW_TMO2_TMO_TCP_CLOSED : Fld := ⟨0x80018, 16, 16⟩
/-- FWL_FLOW_TMO3.TMO_UDP_NEW (R150). -/
abbrev F.FWL_FLOW_TMO3_TMO_UDP_NEW : Fld := ⟨0x8001C, 0, 16⟩
/-- FWL_FLOW_TMO3.TMO_UDP_EST (R150). -/
abbrev F.FWL_FLOW_TMO3_TMO_UDP_EST : Fld := ⟨0x8001C, 16, 16⟩
/-- FWL_DIAG_W0.OPEN (R153). -/
abbrev F.FWL_DIAG_W0_OPEN (i : Nat) : Fld := ⟨0x80200 + i * 32, 0, 1⟩
/-- FWL_DIAG_W0.GEN (R153). -/
abbrev F.FWL_DIAG_W0_GEN (i : Nat) : Fld := ⟨0x80200 + i * 32, 8, 8⟩
/-- FWL_DIAG_W0.EXPIRY (R153). -/
abbrev F.FWL_DIAG_W0_EXPIRY (i : Nat) : Fld := ⟨0x80200 + i * 32, 16, 16⟩
/-- FWL_DIAG_W1.CAUSE (R154). -/
abbrev F.FWL_DIAG_W1_CAUSE (i : Nat) : Fld := ⟨0x80204 + i * 32, 0, 1⟩
/-- FWL_DIAG_IP.TESTER_IP (R153). -/
abbrev F.FWL_DIAG_IP_TESTER_IP (i : Nat) (j : Nat) : Fld := ⟨0x80210 + i * 32 + j * 4, 0, 32⟩
/-- FWL_PORT.LEVEL (R139). -/
abbrev F.FWL_PORT_LEVEL (i : Nat) : Fld := ⟨0x80400 + i * 4, 0, 2⟩
/-- FWL_PORT.DEFAULT (R139). -/
abbrev F.FWL_PORT_DEFAULT (i : Nat) : Fld := ⟨0x80400 + i * 4, 2, 1⟩
/-- FWL_METER_W0.CIR (R146). -/
abbrev F.FWL_METER_W0_CIR (i : Nat) : Fld := ⟨0x82000 + i * 8, 0, 19⟩
/-- FWL_METER_W1.CBS (R146). -/
abbrev F.FWL_METER_W1_CBS (i : Nat) : Fld := ⟨0x82004 + i * 8, 0, 16⟩
/-- STR_BLOCK.BITS (R168). -/
abbrev F.STR_BLOCK_BITS (i : Nat) : Fld := ⟨0xA0400 + i * 4, 0, 32⟩
/-- STR_GATE_W0.ENABLE (R170). -/
abbrev F.STR_GATE_W0_ENABLE (i : Nat) : Fld := ⟨0xA1000 + i * 32, 0, 1⟩
/-- STR_GATE_W0.CHANGE (R170). -/
abbrev F.STR_GATE_W0_CHANGE (i : Nat) : Fld := ⟨0xA1000 + i * 32, 1, 1⟩
/-- STR_GATE_W0.CLOSE_ON_INVALID (R170). -/
abbrev F.STR_GATE_W0_CLOSE_ON_INVALID (i : Nat) : Fld := ⟨0xA1000 + i * 32, 2, 1⟩
/-- STR_GATE_W0.LATCHED (R170). -/
abbrev F.STR_GATE_W0_LATCHED (i : Nat) : Fld := ⟨0xA1000 + i * 32, 3, 1⟩
/-- STR_GATE_W0.OPEN_NOW (R170). -/
abbrev F.STR_GATE_W0_OPEN_NOW (i : Nat) : Fld := ⟨0xA1000 + i * 32, 4, 1⟩
/-- STR_GATE_W0.ADMIN_LEN (R170). -/
abbrev F.STR_GATE_W0_ADMIN_LEN (i : Nat) : Fld := ⟨0xA1000 + i * 32, 8, 8⟩
/-- STR_GATE_W0.OPER_LEN (R170). -/
abbrev F.STR_GATE_W0_OPER_LEN (i : Nat) : Fld := ⟨0xA1000 + i * 32, 16, 8⟩
/-- STR_GATE_CYCLE.ADMIN_CYCLE (R170). -/
abbrev F.STR_GATE_CYCLE_ADMIN_CYCLE (i : Nat) : Fld := ⟨0xA1004 + i * 32, 0, 30⟩
/-- STR_GATE_BASE_NS.ADMIN_BASE_NS (R170). -/
abbrev F.STR_GATE_BASE_NS_ADMIN_BASE_NS (i : Nat) : Fld := ⟨0xA1008 + i * 32, 0, 30⟩
/-- STR_GATE_BASE_SL.ADMIN_BASE_SL (R170). -/
abbrev F.STR_GATE_BASE_SL_ADMIN_BASE_SL (i : Nat) : Fld := ⟨0xA100C + i * 32, 0, 32⟩
/-- STR_GATE_BASE_SH.ADMIN_BASE_SH (R170). -/
abbrev F.STR_GATE_BASE_SH_ADMIN_BASE_SH (i : Nat) : Fld := ⟨0xA1010 + i * 32, 0, 16⟩
/-- STR_GATE_OPER_CYCLE.OPER_CYCLE (R170). -/
abbrev F.STR_GATE_OPER_CYCLE_OPER_CYCLE (i : Nat) : Fld := ⟨0xA1014 + i * 32, 0, 30⟩
/-- STR_GATE_CHANGE_NS.CHANGE_NS (R170). -/
abbrev F.STR_GATE_CHANGE_NS_CHANGE_NS (i : Nat) : Fld := ⟨0xA1018 + i * 32, 0, 30⟩
/-- STR_GATE_CHANGE_SL.CHANGE_SL (R170). -/
abbrev F.STR_GATE_CHANGE_SL_CHANGE_SL (i : Nat) : Fld := ⟨0xA101C + i * 32, 0, 32⟩
/-- STR_METER_W0.CIR (R171). -/
abbrev F.STR_METER_W0_CIR (i : Nat) : Fld := ⟨0xA4000 + i * 16, 0, 19⟩
/-- STR_METER_W1.CBS (R171). -/
abbrev F.STR_METER_W1_CBS (i : Nat) : Fld := ⟨0xA4004 + i * 16, 0, 16⟩
/-- STR_METER_W2.EIR (R171). -/
abbrev F.STR_METER_W2_EIR (i : Nat) : Fld := ⟨0xA4008 + i * 16, 0, 19⟩
/-- STR_METER_W3.EBS (R171). -/
abbrev F.STR_METER_W3_EBS (i : Nat) : Fld := ⟨0xA400C + i * 16, 0, 16⟩
/-- STR_METER_W3.CF (R171). -/
abbrev F.STR_METER_W3_CF (i : Nat) : Fld := ⟨0xA400C + i * 16, 16, 1⟩
/-- STR_METER_W3.COLOR_AWARE (R171). -/
abbrev F.STR_METER_W3_COLOR_AWARE (i : Nat) : Fld := ⟨0xA400C + i * 16, 17, 1⟩
/-- STR_METER_W3.DROP_YELLOW (R171). -/
abbrev F.STR_METER_W3_DROP_YELLOW (i : Nat) : Fld := ⟨0xA400C + i * 16, 18, 1⟩
/-- STR_METER_W3.MARK_RED_EN (R171). -/
abbrev F.STR_METER_W3_MARK_RED_EN (i : Nat) : Fld := ⟨0xA400C + i * 16, 19, 1⟩
/-- STR_METER_W3.MARK_RED (R171). -/
abbrev F.STR_METER_W3_MARK_RED (i : Nat) : Fld := ⟨0xA400C + i * 16, 20, 1⟩
/-- STR_GCL_ADMIN_W0.INTERVAL (R170). -/
abbrev F.STR_GCL_ADMIN_W0_INTERVAL (i : Nat) (j : Nat) : Fld := ⟨0xB0000 + i * 512 + j * 8, 0, 30⟩
/-- STR_GCL_ADMIN_W0.OPEN (R170). -/
abbrev F.STR_GCL_ADMIN_W0_OPEN (i : Nat) (j : Nat) : Fld := ⟨0xB0000 + i * 512 + j * 8, 30, 1⟩
/-- STR_GCL_ADMIN_W1.IPV (R170). -/
abbrev F.STR_GCL_ADMIN_W1_IPV (i : Nat) (j : Nat) : Fld := ⟨0xB0004 + i * 512 + j * 8, 0, 3⟩
/-- STR_GCL_ADMIN_W1.IPV_EN (R170). -/
abbrev F.STR_GCL_ADMIN_W1_IPV_EN (i : Nat) (j : Nat) : Fld := ⟨0xB0004 + i * 512 + j * 8, 3, 1⟩
/-- STR_GCL_OPER_W0.INTERVAL (R177). -/
abbrev F.STR_GCL_OPER_W0_INTERVAL (i : Nat) (j : Nat) : Fld := ⟨0xB8000 + i * 512 + j * 8, 0, 30⟩
/-- STR_GCL_OPER_W0.OPEN (R177). -/
abbrev F.STR_GCL_OPER_W0_OPEN (i : Nat) (j : Nat) : Fld := ⟨0xB8000 + i * 512 + j * 8, 30, 1⟩
/-- STR_GCL_OPER_W1.IPV (R177). -/
abbrev F.STR_GCL_OPER_W1_IPV (i : Nat) (j : Nat) : Fld := ⟨0xB8004 + i * 512 + j * 8, 0, 3⟩
/-- STR_GCL_OPER_W1.IPV_EN (R177). -/
abbrev F.STR_GCL_OPER_W1_IPV_EN (i : Nat) (j : Nat) : Fld := ⟨0xB8004 + i * 512 + j * 8, 3, 1⟩
/-- SCH_PORT_CFG.OVH (R201). -/
abbrev F.SCH_PORT_CFG_OVH (i : Nat) : Fld := ⟨0xC0000 + i * 128, 0, 6⟩
/-- SCH_PORT_CFG.GATE_EN (R201). -/
abbrev F.SCH_PORT_CFG_GATE_EN (i : Nat) : Fld := ⟨0xC0000 + i * 128, 8, 1⟩
/-- SCH_PORT_CFG.CHANGE (R201). -/
abbrev F.SCH_PORT_CFG_CHANGE (i : Nat) : Fld := ⟨0xC0000 + i * 128, 9, 1⟩
/-- SCH_PORT_CFG.ADMIN_LEN (R201). -/
abbrev F.SCH_PORT_CFG_ADMIN_LEN (i : Nat) : Fld := ⟨0xC0000 + i * 128, 16, 11⟩
/-- SCH_PORT_STAT.OPER_LEN (R201). -/
abbrev F.SCH_PORT_STAT_OPER_LEN (i : Nat) : Fld := ⟨0xC0004 + i * 128, 0, 11⟩
/-- SCH_PORT_STAT.GATES_NOW (R201). -/
abbrev F.SCH_PORT_STAT_GATES_NOW (i : Nat) : Fld := ⟨0xC0004 + i * 128, 16, 8⟩
/-- SCH_PORT_STAT.HOLD_NOW (R201). -/
abbrev F.SCH_PORT_STAT_HOLD_NOW (i : Nat) : Fld := ⟨0xC0004 + i * 128, 24, 1⟩
/-- SCH_ADMIN_CYCLE.CYCLE (R201). -/
abbrev F.SCH_ADMIN_CYCLE_CYCLE (i : Nat) : Fld := ⟨0xC0008 + i * 128, 0, 30⟩
/-- SCH_ADMIN_BASE_NS.NS (R201). -/
abbrev F.SCH_ADMIN_BASE_NS_NS (i : Nat) : Fld := ⟨0xC000C + i * 128, 0, 30⟩
/-- SCH_ADMIN_BASE_SL.SL (R201). -/
abbrev F.SCH_ADMIN_BASE_SL_SL (i : Nat) : Fld := ⟨0xC0010 + i * 128, 0, 32⟩
/-- SCH_ADMIN_BASE_SH.SH (R201). -/
abbrev F.SCH_ADMIN_BASE_SH_SH (i : Nat) : Fld := ⟨0xC0014 + i * 128, 0, 16⟩
/-- SCH_OPER_CYCLE.CYCLE (R201). -/
abbrev F.SCH_OPER_CYCLE_CYCLE (i : Nat) : Fld := ⟨0xC0018 + i * 128, 0, 30⟩
/-- SCH_CHANGE_NS.NS (R201). -/
abbrev F.SCH_CHANGE_NS_NS (i : Nat) : Fld := ⟨0xC001C + i * 128, 0, 30⟩
/-- SCH_CHANGE_SL.SL (R201). -/
abbrev F.SCH_CHANGE_SL_SL (i : Nat) : Fld := ⟨0xC0020 + i * 128, 0, 32⟩
/-- SCH_FP_CFG.PREEMPTABLE (R201). -/
abbrev F.SCH_FP_CFG_PREEMPTABLE (i : Nat) : Fld := ⟨0xC0024 + i * 128, 0, 8⟩
/-- SCH_FP_CFG.FP_EN (R201). -/
abbrev F.SCH_FP_CFG_FP_EN (i : Nat) : Fld := ⟨0xC0024 + i * 128, 8, 1⟩
/-- SCH_FP_CFG.VERIFY_DIS (R201). -/
abbrev F.SCH_FP_CFG_VERIFY_DIS (i : Nat) : Fld := ⟨0xC0024 + i * 128, 9, 1⟩
/-- SCH_FP_CFG.ADD_FRAG (R201). -/
abbrev F.SCH_FP_CFG_ADD_FRAG (i : Nat) : Fld := ⟨0xC0024 + i * 128, 10, 2⟩
/-- SCH_FP_CFG.VERIFY_TIME (R201). -/
abbrev F.SCH_FP_CFG_VERIFY_TIME (i : Nat) : Fld := ⟨0xC0024 + i * 128, 12, 7⟩
/-- SCH_FP_TIME.HOLD_ADV (R201). -/
abbrev F.SCH_FP_TIME_HOLD_ADV (i : Nat) : Fld := ⟨0xC0028 + i * 128, 0, 16⟩
/-- SCH_FP_TIME.REL_ADV (R201). -/
abbrev F.SCH_FP_TIME_REL_ADV (i : Nat) : Fld := ⟨0xC0028 + i * 128, 16, 16⟩
/-- SCH_FP_STAT.VERIFY_STATUS (R201). -/
abbrev F.SCH_FP_STAT_VERIFY_STATUS (i : Nat) : Fld := ⟨0xC002C + i * 128, 0, 3⟩
/-- SCH_FP_STAT.ACTIVE (R201). -/
abbrev F.SCH_FP_STAT_ACTIVE (i : Nat) : Fld := ⟨0xC002C + i * 128, 3, 1⟩
/-- SCH_CLASS_W0.LEVEL (R201). -/
abbrev F.SCH_CLASS_W0_LEVEL (i : Nat) (j : Nat) : Fld := ⟨0xC1000 + i * 256 + j * 32, 0, 3⟩
/-- SCH_CLASS_W0.WEIGHT (R201). -/
abbrev F.SCH_CLASS_W0_WEIGHT (i : Nat) (j : Nat) : Fld := ⟨0xC1000 + i * 256 + j * 32, 8, 8⟩
/-- SCH_CLASS_W0.SHAPER (R201). -/
abbrev F.SCH_CLASS_W0_SHAPER (i : Nat) (j : Nat) : Fld := ⟨0xC1000 + i * 256 + j * 32, 16, 2⟩
/-- SCH_CLASS_IDLE.IDLE (R201). -/
abbrev F.SCH_CLASS_IDLE_IDLE (i : Nat) (j : Nat) : Fld := ⟨0xC1004 + i * 256 + j * 32, 0, 25⟩
/-- SCH_CLASS_CIR.CIR (R201). -/
abbrev F.SCH_CLASS_CIR_CIR (i : Nat) (j : Nat) : Fld := ⟨0xC1008 + i * 256 + j * 32, 0, 25⟩
/-- SCH_CLASS_CBS.ATS_CBS (R201). -/
abbrev F.SCH_CLASS_CBS_ATS_CBS (i : Nat) (j : Nat) : Fld := ⟨0xC100C + i * 256 + j * 32, 0, 20⟩
/-- SCH_CLASS_MAXRES.MAXRES (R201). -/
abbrev F.SCH_CLASS_MAXRES_MAXRES (i : Nat) (j : Nat) : Fld := ⟨0xC1010 + i * 256 + j * 32, 0, 30⟩
/-- SCH_CLASS_CREDIT.CREDIT (R201). -/
abbrev F.SCH_CLASS_CREDIT_CREDIT (i : Nat) (j : Nat) : Fld := ⟨0xC1014 + i * 256 + j * 32, 0, 32⟩
/-- SCH_CLASS_MAX_OPEN.MAX_OPEN (R201). -/
abbrev F.SCH_CLASS_MAX_OPEN_MAX_OPEN (i : Nat) (j : Nat) : Fld := ⟨0xC1018 + i * 256 + j * 32, 0, 30⟩
/-- SCH_SHAPE_NOW.NOW (R186). -/
abbrev F.SCH_SHAPE_NOW_NOW : Fld := ⟨0xC3000, 0, 32⟩
/-- SCH_ROD_OVH.OVH_BITS (R201). -/
abbrev F.SCH_ROD_OVH_OVH_BITS (i : Nat) : Fld := ⟨0xC3200 + i * 4, 0, 10⟩
/-- SCH_RODQ_W0.SHAPER (R201). -/
abbrev F.SCH_RODQ_W0_SHAPER (i : Nat) (j : Nat) : Fld := ⟨0xC4000 + i * 128 + j * 16, 0, 2⟩
/-- SCH_RODQ_RATE.RATE (R201). -/
abbrev F.SCH_RODQ_RATE_RATE (i : Nat) (j : Nat) : Fld := ⟨0xC4004 + i * 128 + j * 16, 0, 25⟩
/-- SCH_RODQ_BURST.BURST (R201). -/
abbrev F.SCH_RODQ_BURST_BURST (i : Nat) (j : Nat) : Fld := ⟨0xC4008 + i * 128 + j * 16, 0, 20⟩
/-- SCH_RODQ_CREDIT.CREDIT (R201). -/
abbrev F.SCH_RODQ_CREDIT_CREDIT (i : Nat) (j : Nat) : Fld := ⟨0xC400C + i * 128 + j * 16, 0, 32⟩
/-- SCH_GCL_ADMIN_B_W0.INTERVAL (R187). -/
abbrev F.SCH_GCL_ADMIN_B_W0_INTERVAL (i : Nat) (j : Nat) : Fld := ⟨0xC8000 + i * 16384 + j * 8, 0, 30⟩
/-- SCH_GCL_ADMIN_B_W1.GATES (R187). -/
abbrev F.SCH_GCL_ADMIN_B_W1_GATES (i : Nat) (j : Nat) : Fld := ⟨0xC8004 + i * 16384 + j * 8, 0, 8⟩
/-- SCH_GCL_ADMIN_B_W1.OP (R187). -/
abbrev F.SCH_GCL_ADMIN_B_W1_OP (i : Nat) (j : Nat) : Fld := ⟨0xC8004 + i * 16384 + j * 8, 8, 2⟩
/-- SCH_GCL_OPER_B_W0.INTERVAL (R191). -/
abbrev F.SCH_GCL_OPER_B_W0_INTERVAL (i : Nat) (j : Nat) : Fld := ⟨0xCA000 + i * 16384 + j * 8, 0, 30⟩
/-- SCH_GCL_OPER_B_W1.GATES (R191). -/
abbrev F.SCH_GCL_OPER_B_W1_GATES (i : Nat) (j : Nat) : Fld := ⟨0xCA004 + i * 16384 + j * 8, 0, 8⟩
/-- SCH_GCL_OPER_B_W1.OP (R191). -/
abbrev F.SCH_GCL_OPER_B_W1_OP (i : Nat) (j : Nat) : Fld := ⟨0xCA004 + i * 16384 + j * 8, 8, 2⟩
/-- SCH_GCL_ADMIN_GS_W0.INTERVAL (R187). -/
abbrev F.SCH_GCL_ADMIN_GS_W0_INTERVAL (i : Nat) (j : Nat) : Fld := ⟨0xE8000 + i * 4096 + j * 8, 0, 30⟩
/-- SCH_GCL_ADMIN_GS_W1.GATES (R187). -/
abbrev F.SCH_GCL_ADMIN_GS_W1_GATES (i : Nat) (j : Nat) : Fld := ⟨0xE8004 + i * 4096 + j * 8, 0, 8⟩
/-- SCH_GCL_ADMIN_GS_W1.OP (R187). -/
abbrev F.SCH_GCL_ADMIN_GS_W1_OP (i : Nat) (j : Nat) : Fld := ⟨0xE8004 + i * 4096 + j * 8, 8, 2⟩
/-- SCH_GCL_OPER_GS_W0.INTERVAL (R191). -/
abbrev F.SCH_GCL_OPER_GS_W0_INTERVAL (i : Nat) (j : Nat) : Fld := ⟨0xE8800 + i * 4096 + j * 8, 0, 30⟩
/-- SCH_GCL_OPER_GS_W1.GATES (R191). -/
abbrev F.SCH_GCL_OPER_GS_W1_GATES (i : Nat) (j : Nat) : Fld := ⟨0xE8804 + i * 4096 + j * 8, 0, 8⟩
/-- SCH_GCL_OPER_GS_W1.OP (R191). -/
abbrev F.SCH_GCL_OPER_GS_W1_OP (i : Nat) (j : Nat) : Fld := ⟨0xE8804 + i * 4096 + j * 8, 8, 2⟩
/-- PRT_MAC_CFG.MODE (R476). -/
abbrev F.PRT_MAC_CFG_MODE (i : Nat) : Fld := ⟨0x100000 + i * 4096, 0, 3⟩
/-- PRT_MAC_CFG.RS_FEC (R476). -/
abbrev F.PRT_MAC_CFG_RS_FEC (i : Nat) : Fld := ⟨0x100000 + i * 4096, 3, 1⟩
/-- PRT_MAC_CFG.AN_EN (R476). -/
abbrev F.PRT_MAC_CFG_AN_EN (i : Nat) : Fld := ⟨0x100000 + i * 4096, 4, 1⟩
/-- PRT_MAC_CFG.MAX_FRAME (R476). -/
abbrev F.PRT_MAC_CFG_MAX_FRAME (i : Nat) : Fld := ⟨0x100000 + i * 4096, 16, 14⟩
/-- PRT_MAC_STAT.LINK (R476). -/
abbrev F.PRT_MAC_STAT_LINK (i : Nat) : Fld := ⟨0x100004 + i * 4096, 0, 1⟩
/-- PRT_MAC_STAT.MODE_NOW (R476). -/
abbrev F.PRT_MAC_STAT_MODE_NOW (i : Nat) : Fld := ⟨0x100004 + i * 4096, 1, 3⟩
/-- PRT_MAC_STAT.AN_DONE (R476). -/
abbrev F.PRT_MAC_STAT_AN_DONE (i : Nat) : Fld := ⟨0x100004 + i * 4096, 4, 1⟩
/-- PRT_FWD_CFG.PVID (R112). -/
abbrev F.PRT_FWD_CFG_PVID (i : Nat) : Fld := ⟨0x100100 + i * 4096, 0, 12⟩
/-- PRT_FWD_CFG.DEF_PCP (R112). -/
abbrev F.PRT_FWD_CFG_DEF_PCP (i : Nat) : Fld := ⟨0x100100 + i * 4096, 12, 3⟩
/-- PRT_FWD_CFG.ACCEPT (R112). -/
abbrev F.PRT_FWD_CFG_ACCEPT (i : Nat) : Fld := ⟨0x100100 + i * 4096, 16, 2⟩
/-- PRT_FWD_CFG.ING_FILTER (R112). -/
abbrev F.PRT_FWD_CFG_ING_FILTER (i : Nat) : Fld := ⟨0x100100 + i * 4096, 18, 1⟩
/-- PRT_FWD_CFG.STATE (R112). -/
abbrev F.PRT_FWD_CFG_STATE (i : Nat) : Fld := ⟨0x100100 + i * 4096, 19, 2⟩
/-- PRT_FWD_CFG.LEARN_EN (R112). -/
abbrev F.PRT_FWD_CFG_LEARN_EN (i : Nat) : Fld := ⟨0x100100 + i * 4096, 21, 1⟩
/-- PRT_FWD_CFG.LIMIT_ACT (R112). -/
abbrev F.PRT_FWD_CFG_LIMIT_ACT (i : Nat) : Fld := ⟨0x100100 + i * 4096, 22, 1⟩
/-- PRT_FWD_CFG.UC_FLOOD (R112). -/
abbrev F.PRT_FWD_CFG_UC_FLOOD (i : Nat) : Fld := ⟨0x100100 + i * 4096, 23, 1⟩
/-- PRT_FWD_CFG.MC_FLOOD (R112). -/
abbrev F.PRT_FWD_CFG_MC_FLOOD (i : Nat) : Fld := ⟨0x100100 + i * 4096, 24, 1⟩
/-- PRT_FWD_CFG.BC_FLOOD (R112). -/
abbrev F.PRT_FWD_CFG_BC_FLOOD (i : Nat) : Fld := ⟨0x100100 + i * 4096, 25, 1⟩
/-- PRT_LEARN.LEARN_LIMIT (R121). -/
abbrev F.PRT_LEARN_LEARN_LIMIT (i : Nat) : Fld := ⟨0x100104 + i * 4096, 0, 17⟩
/-- PRT_LEARN_COUNT.COUNT (R121). -/
abbrev F.PRT_LEARN_COUNT_COUNT (i : Nat) : Fld := ⟨0x100108 + i * 4096, 0, 17⟩
/-- PRT_PCP_MAP.CLASSES (R111). -/
abbrev F.PRT_PCP_MAP_CLASSES (i : Nat) : Fld := ⟨0x10010C + i * 4096, 0, 24⟩
/-- PRT_MSEC_CFG.TX_EN (R276). -/
abbrev F.PRT_MSEC_CFG_TX_EN (i : Nat) : Fld := ⟨0x100200 + i * 4096, 0, 1⟩
/-- PRT_MSEC_CFG.ENCRYPT (R276). -/
abbrev F.PRT_MSEC_CFG_ENCRYPT (i : Nat) : Fld := ⟨0x100200 + i * 4096, 1, 1⟩
/-- PRT_MSEC_CFG.CONF_OFFSET (R276). -/
abbrev F.PRT_MSEC_CFG_CONF_OFFSET (i : Nat) : Fld := ⟨0x100200 + i * 4096, 2, 2⟩
/-- PRT_MSEC_CFG.INCLUDE_SCI (R276). -/
abbrev F.PRT_MSEC_CFG_INCLUDE_SCI (i : Nat) : Fld := ⟨0x100200 + i * 4096, 4, 1⟩
/-- PRT_MSEC_CFG.VALIDATE (R276). -/
abbrev F.PRT_MSEC_CFG_VALIDATE (i : Nat) : Fld := ⟨0x100200 + i * 4096, 5, 2⟩
/-- PRT_MSEC_CFG.REPLAY_PROTECT (R276). -/
abbrev F.PRT_MSEC_CFG_REPLAY_PROTECT (i : Nat) : Fld := ⟨0x100200 + i * 4096, 7, 1⟩
/-- PRT_MSEC_CFG.TX_AN (R276). -/
abbrev F.PRT_MSEC_CFG_TX_AN (i : Nat) : Fld := ⟨0x100200 + i * 4096, 8, 2⟩
/-- PRT_MSEC_CFG.PN_WARN_EXP (R276). -/
abbrev F.PRT_MSEC_CFG_PN_WARN_EXP (i : Nat) : Fld := ⟨0x100200 + i * 4096, 16, 6⟩
/-- PRT_MSEC_WINDOW.REPLAY_WINDOW (R276). -/
abbrev F.PRT_MSEC_WINDOW_REPLAY_WINDOW (i : Nat) : Fld := ⟨0x100204 + i * 4096, 0, 32⟩
/-- T1S_CFG.PLCA_EN (R477). -/
abbrev F.T1S_CFG_PLCA_EN (i : Nat) : Fld := ⟨0x140000 + i * 256, 0, 1⟩
/-- T1S_CFG.NODE_ID (R477). -/
abbrev F.T1S_CFG_NODE_ID (i : Nat) : Fld := ⟨0x140000 + i * 256, 1, 8⟩
/-- T1S_CFG.NODE_COUNT (R477). -/
abbrev F.T1S_CFG_NODE_COUNT (i : Nat) : Fld := ⟨0x140000 + i * 256, 9, 8⟩
/-- T1S_CFG.TO_TIMER (R477). -/
abbrev F.T1S_CFG_TO_TIMER (i : Nat) : Fld := ⟨0x140000 + i * 256, 17, 8⟩
/-- T1S_BURST.MAX_BC (R477). -/
abbrev F.T1S_BURST_MAX_BC (i : Nat) : Fld := ⟨0x140004 + i * 256, 0, 8⟩
/-- T1S_BURST.BURST_TMR (R477). -/
abbrev F.T1S_BURST_BURST_TMR (i : Nat) : Fld := ⟨0x140004 + i * 256, 8, 8⟩
/-- T1S_STAT.PLCA_STATUS (R477). -/
abbrev F.T1S_STAT_PLCA_STATUS (i : Nat) : Fld := ⟨0x140008 + i * 256, 0, 1⟩
/-- ROD_CTL.AUTO_RECOVER (R50). -/
abbrev F.ROD_CTL_AUTO_RECOVER (i : Nat) : Fld := ⟨0x180000 + i * 1024, 0, 1⟩
/-- ROD_CTL.LISTEN_ONLY (R50). -/
abbrev F.ROD_CTL_LISTEN_ONLY (i : Nat) : Fld := ⟨0x180000 + i * 1024, 1, 1⟩
/-- ROD_CTL.PEX (R50). -/
abbrev F.ROD_CTL_PEX (i : Nat) : Fld := ⟨0x180000 + i * 1024, 2, 1⟩
/-- ROD_CTL.PWM_EN (R50). -/
abbrev F.ROD_CTL_PWM_EN (i : Nat) : Fld := ⟨0x180000 + i * 1024, 3, 1⟩
/-- ROD_CTL.ERRSIG_EN (R50). -/
abbrev F.ROD_CTL_ERRSIG_EN (i : Nat) : Fld := ⟨0x180000 + i * 1024, 4, 1⟩
/-- ROD_CTL.MISS_ACT (R50). -/
abbrev F.ROD_CTL_MISS_ACT (i : Nat) : Fld := ⟨0x180000 + i * 1024, 5, 1⟩
/-- ROD_CTL.AUTOSTART (R50). -/
abbrev F.ROD_CTL_AUTOSTART (i : Nat) : Fld := ⟨0x180000 + i * 1024, 6, 1⟩
/-- ROD_CTL.RETRY_LIMIT (R50). -/
abbrev F.ROD_CTL_RETRY_LIMIT (i : Nat) : Fld := ⟨0x180000 + i * 1024, 8, 8⟩
/-- ROD_CTL.XL_MAX_LEN (R50). -/
abbrev F.ROD_CTL_XL_MAX_LEN (i : Nat) : Fld := ⟨0x180000 + i * 1024, 16, 12⟩
/-- ROD_CMD.OP (R52). -/
abbrev F.ROD_CMD_OP (i : Nat) : Fld := ⟨0x180004 + i * 1024, 0, 4⟩
/-- ROD_CMD.ARG (R52). -/
abbrev F.ROD_CMD_ARG (i : Nat) : Fld := ⟨0x180004 + i * 1024, 4, 4⟩
/-- ROD_CMD_STAT.BUSY (R52). -/
abbrev F.ROD_CMD_STAT_BUSY (i : Nat) : Fld := ⟨0x180008 + i * 1024, 0, 1⟩
/-- ROD_CMD_STAT.STATUS (R52). -/
abbrev F.ROD_CMD_STAT_STATUS (i : Nat) : Fld := ⟨0x180008 + i * 1024, 4, 4⟩
/-- ROD_CMD_STAT.LAST_OP (R52). -/
abbrev F.ROD_CMD_STAT_LAST_OP (i : Nat) : Fld := ⟨0x180008 + i * 1024, 8, 4⟩
/-- ROD_CMD_STAT.BUSY_HIT (R52). -/
abbrev F.ROD_CMD_STAT_BUSY_HIT (i : Nat) : Fld := ⟨0x180008 + i * 1024, 16, 1⟩
/-- ROD_STAT.STATE (R50). -/
abbrev F.ROD_STAT_STATE (i : Nat) : Fld := ⟨0x18000C + i * 1024, 0, 4⟩
/-- ROD_STAT.MODE (R50). -/
abbrev F.ROD_STAT_MODE (i : Nat) : Fld := ⟨0x18000C + i * 1024, 4, 3⟩
/-- ROD_STAT.ERR_PASSIVE (R50). -/
abbrev F.ROD_STAT_ERR_PASSIVE (i : Nat) : Fld := ⟨0x18000C + i * 1024, 7, 1⟩
/-- ROD_STAT.ERR_WARN (R50). -/
abbrev F.ROD_STAT_ERR_WARN (i : Nat) : Fld := ⟨0x18000C + i * 1024, 8, 1⟩
/-- ROD_STAT.TX_PENDING (R50). -/
abbrev F.ROD_STAT_TX_PENDING (i : Nat) : Fld := ⟨0x18000C + i * 1024, 9, 1⟩
/-- ROD_STAT.PWM_ACTIVE (R50). -/
abbrev F.ROD_STAT_PWM_ACTIVE (i : Nat) : Fld := ⟨0x18000C + i * 1024, 10, 1⟩
/-- ROD_STAT.RETIRE_CAUSE (R50). -/
abbrev F.ROD_STAT_RETIRE_CAUSE (i : Nat) : Fld := ⟨0x18000C + i * 1024, 12, 4⟩
/-- ROD_STAT.TDC_MEAS (R50). -/
abbrev F.ROD_STAT_TDC_MEAS (i : Nat) : Fld := ⟨0x18000C + i * 1024, 16, 8⟩
/-- ROD_RESET.RESET (R83). -/
abbrev F.ROD_RESET_RESET (i : Nat) : Fld := ⟨0x180010 + i * 1024, 0, 1⟩
/-- ROD_NBT.BRP (R58). -/
abbrev F.ROD_NBT_BRP (i : Nat) : Fld := ⟨0x180014 + i * 1024, 0, 8⟩
/-- ROD_NBT.TSEG1 (R58). -/
abbrev F.ROD_NBT_TSEG1 (i : Nat) : Fld := ⟨0x180014 + i * 1024, 8, 9⟩
/-- ROD_NBT.TSEG2 (R58). -/
abbrev F.ROD_NBT_TSEG2 (i : Nat) : Fld := ⟨0x180014 + i * 1024, 17, 7⟩
/-- ROD_NBT.SJW (R58). -/
abbrev F.ROD_NBT_SJW (i : Nat) : Fld := ⟨0x180014 + i * 1024, 24, 7⟩
/-- ROD_DBT.BRP (R58). -/
abbrev F.ROD_DBT_BRP (i : Nat) : Fld := ⟨0x180018 + i * 1024, 0, 8⟩
/-- ROD_DBT.TSEG1 (R58). -/
abbrev F.ROD_DBT_TSEG1 (i : Nat) : Fld := ⟨0x180018 + i * 1024, 8, 9⟩
/-- ROD_DBT.TSEG2 (R58). -/
abbrev F.ROD_DBT_TSEG2 (i : Nat) : Fld := ⟨0x180018 + i * 1024, 17, 7⟩
/-- ROD_DBT.SJW (R58). -/
abbrev F.ROD_DBT_SJW (i : Nat) : Fld := ⟨0x180018 + i * 1024, 24, 7⟩
/-- ROD_TDC.TDC_EN (R59). -/
abbrev F.ROD_TDC_TDC_EN (i : Nat) : Fld := ⟨0x18001C + i * 1024, 0, 1⟩
/-- ROD_TDC.TDCO (R59). -/
abbrev F.ROD_TDC_TDCO (i : Nat) : Fld := ⟨0x18001C + i * 1024, 8, 8⟩
/-- ROD_TDC.TDCF (R59). -/
abbrev F.ROD_TDC_TDCF (i : Nat) : Fld := ⟨0x18001C + i * 1024, 16, 8⟩
/-- ROD_PWM.PWMS (R62). -/
abbrev F.ROD_PWM_PWMS (i : Nat) : Fld := ⟨0x180020 + i * 1024, 0, 8⟩
/-- ROD_PWM.PWML (R62). -/
abbrev F.ROD_PWM_PWML (i : Nat) : Fld := ⟨0x180020 + i * 1024, 8, 8⟩
/-- ROD_PWM.PWMO (R62). -/
abbrev F.ROD_PWM_PWMO (i : Nat) : Fld := ⟨0x180020 + i * 1024, 16, 8⟩
/-- ROD_XCVR.STB_PIN (R61). -/
abbrev F.ROD_XCVR_STB_PIN (i : Nat) : Fld := ⟨0x180024 + i * 1024, 0, 7⟩
/-- ROD_XCVR.STB_ACT_HIGH (R61). -/
abbrev F.ROD_XCVR_STB_ACT_HIGH (i : Nat) : Fld := ⟨0x180024 + i * 1024, 7, 1⟩
/-- ROD_XCVR.EN_PIN (R61). -/
abbrev F.ROD_XCVR_EN_PIN (i : Nat) : Fld := ⟨0x180024 + i * 1024, 8, 7⟩
/-- ROD_XCVR.EN_ACT_HIGH (R61). -/
abbrev F.ROD_XCVR_EN_ACT_HIGH (i : Nat) : Fld := ⟨0x180024 + i * 1024, 15, 1⟩
/-- ROD_XCVR.WAKE_DLY (R61). -/
abbrev F.ROD_XCVR_WAKE_DLY (i : Nat) : Fld := ⟨0x180024 + i * 1024, 16, 8⟩
/-- ROD_LIN.DIV_FRAC (R65). -/
abbrev F.ROD_LIN_DIV_FRAC (i : Nat) : Fld := ⟨0x180028 + i * 1024, 0, 4⟩
/-- ROD_LIN.DIV_INT (R65). -/
abbrev F.ROD_LIN_DIV_INT (i : Nat) : Fld := ⟨0x180028 + i * 1024, 4, 12⟩
/-- ROD_LIN.BREAK_LEN (R65). -/
abbrev F.ROD_LIN_BREAK_LEN (i : Nat) : Fld := ⟨0x180028 + i * 1024, 16, 5⟩
/-- ROD_LIN.DELIM (R65). -/
abbrev F.ROD_LIN_DELIM (i : Nat) : Fld := ⟨0x180028 + i * 1024, 21, 3⟩
/-- ROD_LIN.BREAK_DET (R65). -/
abbrev F.ROD_LIN_BREAK_DET (i : Nat) : Fld := ⟨0x180028 + i * 1024, 24, 4⟩
/-- ROD_LIN.IDLE_SLEEP (R65). -/
abbrev F.ROD_LIN_IDLE_SLEEP (i : Nat) : Fld := ⟨0x180028 + i * 1024, 28, 4⟩
/-- ROD_LAUNCH.GUARD (R73). -/
abbrev F.ROD_LAUNCH_GUARD (i : Nat) : Fld := ⟨0x18002C + i * 1024, 0, 16⟩
/-- ROD_LAUNCH.LATE_MAX (R73). -/
abbrev F.ROD_LAUNCH_LATE_MAX (i : Nat) : Fld := ⟨0x18002C + i * 1024, 16, 16⟩
/-- ROD_ERR.TEC (R63). -/
abbrev F.ROD_ERR_TEC (i : Nat) : Fld := ⟨0x180030 + i * 1024, 0, 8⟩
/-- ROD_ERR.REC (R63). -/
abbrev F.ROD_ERR_REC (i : Nat) : Fld := ⟨0x180030 + i * 1024, 8, 8⟩
/-- ROD_ERR.LEC (R63). -/
abbrev F.ROD_ERR_LEC (i : Nat) : Fld := ⟨0x180030 + i * 1024, 16, 4⟩
/-- ROD_EVT.FLAGS (R64). -/
abbrev F.ROD_EVT_FLAGS (i : Nat) : Fld := ⟨0x180034 + i * 1024, 0, 10⟩
/-- ROD_DEFROUTE.ROUTE (R77). -/
abbrev F.ROD_DEFROUTE_ROUTE (i : Nat) : Fld := ⟨0x180038 + i * 1024, 0, 16⟩
/-- ROD_DEFROUTE.FW_CLASS (R77). -/
abbrev F.ROD_DEFROUTE_FW_CLASS (i : Nat) : Fld := ⟨0x180038 + i * 1024, 16, 8⟩
/-- ROD_ARB_HEAD.NEXT (R75). -/
abbrev F.ROD_ARB_HEAD_NEXT (i : Nat) : Fld := ⟨0x18003C + i * 1024, 0, 4⟩
/-- ROD_ARB_HEAD.WRAPPED (R75). -/
abbrev F.ROD_ARB_HEAD_WRAPPED (i : Nat) : Fld := ⟨0x18003C + i * 1024, 4, 1⟩
/-- ROD_ARB_LOG.WORD (R75). -/
abbrev F.ROD_ARB_LOG_WORD (i : Nat) (j : Nat) : Fld := ⟨0x180100 + i * 1024 + j * 4, 0, 32⟩
/-- CRY_CFG.EXT_SIZE (R89). -/
abbrev F.CRY_CFG_EXT_SIZE : Fld := ⟨0x200000, 0, 16⟩
/-- CRY_CFG.XL_GPC_TAG (R89). -/
abbrev F.CRY_CFG_XL_GPC_TAG : Fld := ⟨0x200000, 16, 8⟩
/-- CRY_CFG.MISS_CPU (R89). -/
abbrev F.CRY_CFG_MISS_CPU : Fld := ⟨0x200000, 24, 1⟩
/-- CRY_CFG.EXT_OK (R89). -/
abbrev F.CRY_CFG_EXT_OK : Fld := ⟨0x200000, 25, 1⟩
/-- CRY_EMIT.CTX (R98). -/
abbrev F.CRY_EMIT_CTX : Fld := ⟨0x200004, 0, 8⟩
/-- KEY_CMD.OP (R281). -/
abbrev F.KEY_CMD_OP : Fld := ⟨0x240000, 0, 4⟩
/-- KEY_CMD.SUB (R281). -/
abbrev F.KEY_CMD_SUB : Fld := ⟨0x240000, 4, 4⟩
/-- KEY_SLOT.SLOT (R281). -/
abbrev F.KEY_SLOT_SLOT : Fld := ⟨0x240004, 0, 10⟩
/-- KEY_SLOT.AUX (R281). -/
abbrev F.KEY_SLOT_AUX : Fld := ⟨0x240004, 16, 11⟩
/-- KEY_ATTR.TYPE (R281). -/
abbrev F.KEY_ATTR_TYPE : Fld := ⟨0x240008, 0, 3⟩
/-- KEY_ATTR.USAGE (R281). -/
abbrev F.KEY_ATTR_USAGE : Fld := ⟨0x240008, 3, 7⟩
/-- KEY_ATTR.PERM (R281). -/
abbrev F.KEY_ATTR_PERM : Fld := ⟨0x240008, 10, 3⟩
/-- KEY_ATTR.EXPIRE_RESET (R281). -/
abbrev F.KEY_ATTR_EXPIRE_RESET : Fld := ⟨0x240008, 13, 1⟩
/-- KEY_USES.USES (R281). -/
abbrev F.KEY_USES_USES : Fld := ⟨0x24000C, 0, 24⟩
/-- KEY_LEN.LEN (R281). -/
abbrev F.KEY_LEN_LEN : Fld := ⟨0x240010, 0, 11⟩
/-- KEY_STAT.BUSY (R281). -/
abbrev F.KEY_STAT_BUSY : Fld := ⟨0x240014, 0, 1⟩
/-- KEY_STAT.STATUS (R281). -/
abbrev F.KEY_STAT_STATUS : Fld := ⟨0x240014, 4, 4⟩
/-- KEY_STAT.LAST_OP (R281). -/
abbrev F.KEY_STAT_LAST_OP : Fld := ⟨0x240014, 8, 4⟩
/-- KEY_STAT.BUSY_HIT (R281). -/
abbrev F.KEY_STAT_BUSY_HIT : Fld := ⟨0x240014, 12, 1⟩
/-- KEY_RESULT.SLOT (R281). -/
abbrev F.KEY_RESULT_SLOT : Fld := ⟨0x240018, 0, 10⟩
/-- KEY_RESULT.OUT_LEN (R281). -/
abbrev F.KEY_RESULT_OUT_LEN : Fld := ⟨0x240018, 16, 12⟩
/-- KEY_STORE_STAT.READY (R281). -/
abbrev F.KEY_STORE_STAT_READY : Fld := ⟨0x240020, 0, 1⟩
/-- KEY_STORE_STAT.DRBG_FAIL (R281). -/
abbrev F.KEY_STORE_STAT_DRBG_FAIL : Fld := ⟨0x240020, 1, 1⟩
/-- KEY_STORE_STAT.SWEEP (R281). -/
abbrev F.KEY_STORE_STAT_SWEEP : Fld := ⟨0x240020, 2, 1⟩
/-- KEY_STORE_STAT.TAMPER_N_EN (R281). -/
abbrev F.KEY_STORE_STAT_TAMPER_N_EN : Fld := ⟨0x240020, 3, 1⟩
/-- KEY_STORE_STAT.FREE (R281). -/
abbrev F.KEY_STORE_STAT_FREE : Fld := ⟨0x240020, 16, 10⟩
/-- KEY_ARC.ARC (R281). -/
abbrev F.KEY_ARC_ARC : Fld := ⟨0x240024, 0, 32⟩
/-- KEY_IN.DATA (R281). -/
abbrev F.KEY_IN_DATA (i : Nat) : Fld := ⟨0x240400 + i * 4, 0, 32⟩
/-- KEY_OUT.DATA (R281). -/
abbrev F.KEY_OUT_DATA (i : Nat) : Fld := ⟨0x241000 + i * 4, 0, 32⟩
/-- UPD_CMD.OP (R377). -/
abbrev F.UPD_CMD_OP : Fld := ⟨0x280000, 0, 4⟩
/-- UPD_STAT.BUSY (R377). -/
abbrev F.UPD_STAT_BUSY : Fld := ⟨0x280004, 0, 1⟩
/-- UPD_STAT.STATUS (R377). -/
abbrev F.UPD_STAT_STATUS : Fld := ⟨0x280004, 4, 4⟩
/-- UPD_STAT.LAST_OP (R377). -/
abbrev F.UPD_STAT_LAST_OP : Fld := ⟨0x280004, 8, 4⟩
/-- UPD_STAT.BUSY_HIT (R377). -/
abbrev F.UPD_STAT_BUSY_HIT : Fld := ⟨0x280004, 12, 1⟩
/-- UPD_STAT.STATE (R377). -/
abbrev F.UPD_STAT_STATE : Fld := ⟨0x280004, 16, 3⟩
/-- UPD_STAT.NOR_STAGE (R377). -/
abbrev F.UPD_STAT_NOR_STAGE : Fld := ⟨0x280004, 19, 1⟩
/-- UPD_HOST_ADDR_LO.ADDR (R377). -/
abbrev F.UPD_HOST_ADDR_LO_ADDR : Fld := ⟨0x280008, 12, 20⟩
/-- UPD_HOST_ADDR_HI.ADDR (R377). -/
abbrev F.UPD_HOST_ADDR_HI_ADDR : Fld := ⟨0x28000C, 0, 32⟩
/-- UPD_HOST_LEN.LEN (R377). -/
abbrev F.UPD_HOST_LEN_LEN : Fld := ⟨0x280010, 0, 25⟩
/-- UPD_SESSION.SESSION (R377). -/
abbrev F.UPD_SESSION_SESSION : Fld := ⟨0x280014, 0, 32⟩
/-- UPD_PROGRESS.HELD (R377). -/
abbrev F.UPD_PROGRESS_HELD : Fld := ⟨0x280018, 0, 13⟩
/-- UPD_PROGRESS.NBLK (R377). -/
abbrev F.UPD_PROGRESS_NBLK : Fld := ⟨0x280018, 16, 13⟩
/-- UPD_VOTES.STAGED (R377). -/
abbrev F.UPD_VOTES_STAGED : Fld := ⟨0x28001C, 0, 8⟩
/-- UPD_VOTES.EXPECTED (R377). -/
abbrev F.UPD_VOTES_EXPECTED : Fld := ⟨0x28001C, 8, 8⟩
/-- UPD_VOTES.FAIL_HOP (R377). -/
abbrev F.UPD_VOTES_FAIL_HOP : Fld := ⟨0x28001C, 16, 4⟩
/-- UPD_VOTES.FAIL_DIR (R377). -/
abbrev F.UPD_VOTES_FAIL_DIR : Fld := ⟨0x28001C, 20, 1⟩
/-- UPD_VOTES.FAIL_STATUS (R377). -/
abbrev F.UPD_VOTES_FAIL_STATUS : Fld := ⟨0x28001C, 24, 4⟩
/-- UPD_ACT_NS.T_ACT (R377). -/
abbrev F.UPD_ACT_NS_T_ACT : Fld := ⟨0x280020, 0, 30⟩
/-- UPD_ACT_SL.T_ACT (R377). -/
abbrev F.UPD_ACT_SL_T_ACT : Fld := ⟨0x280024, 0, 32⟩
/-- UPD_ACT_SH.T_ACT (R377). -/
abbrev F.UPD_ACT_SH_T_ACT : Fld := ⟨0x280028, 0, 16⟩
/-- DMA_CFG.RO_EN (R303). -/
abbrev F.DMA_CFG_RO_EN : Fld := ⟨0x2C0000, 0, 1⟩
/-- DMA_STAT.WARM_SEEN (R285). -/
abbrev F.DMA_STAT_WARM_SEEN : Fld := ⟨0x2C0004, 0, 1⟩
/-- DMA_B2_BASE.BASE (R288). -/
abbrev F.DMA_B2_BASE_BASE : Fld := ⟨0x2C0010, 0, 9⟩
/-- DMA_RXMAP.BASE (R300). -/
abbrev F.DMA_RXMAP_BASE (i : Nat) : Fld := ⟨0x2C0020 + i * 4, 0, 6⟩
/-- DMA_RXMAP.SPREAD (R300). -/
abbrev F.DMA_RXMAP_SPREAD (i : Nat) : Fld := ⟨0x2C0020 + i * 4, 6, 3⟩
/-- DMA_IRQ_MAP.VEC (R304). -/
abbrev F.DMA_IRQ_MAP_VEC (i : Nat) : Fld := ⟨0x2C0100 + i * 4, 0, 8⟩
/-- DMA_IRQ_MAP.EN (R304). -/
abbrev F.DMA_IRQ_MAP_EN (i : Nat) : Fld := ⟨0x2C0100 + i * 4, 8, 1⟩
/-- DMA_IRQ_MAP.MOD_COUNT (R304). -/
abbrev F.DMA_IRQ_MAP_MOD_COUNT (i : Nat) : Fld := ⟨0x2C0100 + i * 4, 16, 8⟩
/-- DMA_IRQ_MAP.MOD_TIME (R304). -/
abbrev F.DMA_IRQ_MAP_MOD_TIME (i : Nat) : Fld := ⟨0x2C0100 + i * 4, 24, 8⟩
/-- DMA_EVR_BASE_LO.BASE (R305). -/
abbrev F.DMA_EVR_BASE_LO_BASE : Fld := ⟨0x2C0400, 14, 18⟩
/-- DMA_EVR_BASE_HI.BASE (R305). -/
abbrev F.DMA_EVR_BASE_HI_BASE : Fld := ⟨0x2C0404, 0, 32⟩
/-- DMA_EVR_CFG.EN (R305). -/
abbrev F.DMA_EVR_CFG_EN : Fld := ⟨0x2C0408, 0, 1⟩
/-- DMA_EVR_HEAD.HEAD (R305). -/
abbrev F.DMA_EVR_HEAD_HEAD : Fld := ⟨0x2C040C, 0, 16⟩
/-- DMA_EVR_TAIL.TAIL (R305). -/
abbrev F.DMA_EVR_TAIL_TAIL : Fld := ⟨0x2C0410, 0, 16⟩
/-- DMA_Q_BASE_LO.BASE (R297). -/
abbrev F.DMA_Q_BASE_LO_BASE (i : Nat) : Fld := ⟨0x2C1000 + i * 64, 6, 26⟩
/-- DMA_Q_BASE_HI.BASE (R297). -/
abbrev F.DMA_Q_BASE_HI_BASE (i : Nat) : Fld := ⟨0x2C1004 + i * 64, 0, 32⟩
/-- DMA_Q_CFG.EN (R297). -/
abbrev F.DMA_Q_CFG_EN (i : Nat) : Fld := ⟨0x2C1008 + i * 64, 0, 1⟩
/-- DMA_Q_CFG.SIZE_LOG2 (R297). -/
abbrev F.DMA_Q_CFG_SIZE_LOG2 (i : Nat) : Fld := ⟨0x2C1008 + i * 64, 1, 4⟩
/-- DMA_Q_CFG.EMPTY_ACT (R297). -/
abbrev F.DMA_Q_CFG_EMPTY_ACT (i : Nat) : Fld := ⟨0x2C1008 + i * 64, 5, 1⟩
/-- DMA_Q_WB_LO.WB (R297). -/
abbrev F.DMA_Q_WB_LO_WB (i : Nat) : Fld := ⟨0x2C100C + i * 64, 3, 29⟩
/-- DMA_Q_WB_HI.WB (R297). -/
abbrev F.DMA_Q_WB_HI_WB (i : Nat) : Fld := ⟨0x2C1010 + i * 64, 0, 32⟩
/-- DMA_Q_DB.TAIL (R297). -/
abbrev F.DMA_Q_DB_TAIL (i : Nat) : Fld := ⟨0x2C1014 + i * 64, 0, 16⟩
/-- DMA_Q_STAT.HEAD (R297). -/
abbrev F.DMA_Q_STAT_HEAD (i : Nat) : Fld := ⟨0x2C1018 + i * 64, 0, 16⟩
/-- DMA_Q_STAT.TAIL (R297). -/
abbrev F.DMA_Q_STAT_TAIL (i : Nat) : Fld := ⟨0x2C1018 + i * 64, 16, 16⟩
/-- DMA_Q_ERR.STOPPED (R302). -/
abbrev F.DMA_Q_ERR_STOPPED (i : Nat) : Fld := ⟨0x2C101C + i * 64, 0, 1⟩
/-- DMA_Q_ERR.CAUSE (R302). -/
abbrev F.DMA_Q_ERR_CAUSE (i : Nat) : Fld := ⟨0x2C101C + i * 64, 1, 3⟩
/-- MSIX_ADDR_LO.ADDR (R304). -/
abbrev F.MSIX_ADDR_LO_ADDR (i : Nat) : Fld := ⟨0x2C8000 + i * 16, 2, 30⟩
/-- MSIX_ADDR_HI.ADDR (R304). -/
abbrev F.MSIX_ADDR_HI_ADDR (i : Nat) : Fld := ⟨0x2C8004 + i * 16, 0, 32⟩
/-- MSIX_DATA.DATA (R304). -/
abbrev F.MSIX_DATA_DATA (i : Nat) : Fld := ⟨0x2C8008 + i * 16, 0, 32⟩
/-- MSIX_CTL.MASK (R304). -/
abbrev F.MSIX_CTL_MASK (i : Nat) : Fld := ⟨0x2C800C + i * 16, 0, 1⟩
/-- MSIX_PBA.PENDING (R304). -/
abbrev F.MSIX_PBA_PENDING (i : Nat) : Fld := ⟨0x2C9000 + i * 4, 0, 32⟩
/-- MEM_STAT.PRESENT (R426). -/
abbrev F.MEM_STAT_PRESENT : Fld := ⟨0x300000, 0, 1⟩
/-- MEM_STAT.TRAINED (R426). -/
abbrev F.MEM_STAT_TRAINED : Fld := ⟨0x300000, 1, 1⟩
/-- MEM_STAT.FAILED (R426). -/
abbrev F.MEM_STAT_FAILED : Fld := ⟨0x300000, 2, 1⟩
/-- MEM_STAT.CAUSE (R426). -/
abbrev F.MEM_STAT_CAUSE : Fld := ⟨0x300000, 4, 3⟩
/-- MEM_STAT.SIZE (R426). -/
abbrev F.MEM_STAT_SIZE : Fld := ⟨0x300000, 16, 4⟩
/-- MEM_TEST_CMD.OP (R426). -/
abbrev F.MEM_TEST_CMD_OP : Fld := ⟨0x300010, 0, 2⟩
/-- MEM_TEST_CMD.ALG (R426). -/
abbrev F.MEM_TEST_CMD_ALG : Fld := ⟨0x300010, 4, 2⟩
/-- MEM_TEST_STAT.BUSY (R426). -/
abbrev F.MEM_TEST_STAT_BUSY : Fld := ⟨0x300014, 0, 1⟩
/-- MEM_TEST_STAT.STATUS (R426). -/
abbrev F.MEM_TEST_STAT_STATUS : Fld := ⟨0x300014, 4, 4⟩
/-- MEM_TEST_STAT.FAILS (R426). -/
abbrev F.MEM_TEST_STAT_FAILS : Fld := ⟨0x300014, 16, 16⟩
/-- MEM_TEST_START.START (R426). -/
abbrev F.MEM_TEST_START_START : Fld := ⟨0x300018, 0, 17⟩
/-- MEM_TEST_LEN.LEN (R426). -/
abbrev F.MEM_TEST_LEN_LEN : Fld := ⟨0x30001C, 0, 18⟩
/-- MEM_TEST_PAT.PAT (R426). -/
abbrev F.MEM_TEST_PAT_PAT : Fld := ⟨0x300020, 0, 32⟩
/-- MEM_TEST_FAIL_LO.ADDR (R426). -/
abbrev F.MEM_TEST_FAIL_LO_ADDR : Fld := ⟨0x300024, 0, 32⟩
/-- MEM_TEST_FAIL_HI.ADDR (R426). -/
abbrev F.MEM_TEST_FAIL_HI_ADDR : Fld := ⟨0x300028, 0, 1⟩
/-- TRC_CTL.EN (R426). -/
abbrev F.TRC_CTL_EN : Fld := ⟨0x300100, 0, 1⟩
/-- TRC_CTL.ARM (R426). -/
abbrev F.TRC_CTL_ARM : Fld := ⟨0x300100, 1, 1⟩
/-- TRC_CTL.FREEZE_NOW (R426). -/
abbrev F.TRC_CTL_FREEZE_NOW : Fld := ⟨0x300100, 2, 1⟩
/-- TRC_STAT.STATE (R426). -/
abbrev F.TRC_STAT_STATE : Fld := ⟨0x300104, 0, 2⟩
/-- TRC_STAT.WRAPPED (R426). -/
abbrev F.TRC_STAT_WRAPPED : Fld := ⟨0x300104, 4, 1⟩
/-- TRC_STAT.TRIG_K (R426). -/
abbrev F.TRC_STAT_TRIG_K : Fld := ⟨0x300104, 8, 2⟩
/-- TRC_STAT.TRIG_SW (R426). -/
abbrev F.TRC_STAT_TRIG_SW : Fld := ⟨0x300104, 10, 1⟩
/-- TRC_STAT.STOP_CAUSE (R426). -/
abbrev F.TRC_STAT_STOP_CAUSE : Fld := ⟨0x300104, 16, 3⟩
/-- TRC_REGION.SIZE (R426). -/
abbrev F.TRC_REGION_SIZE : Fld := ⟨0x300108, 0, 14⟩
/-- TRC_WR_PTR_LO.PTR (R426). -/
abbrev F.TRC_WR_PTR_LO_PTR : Fld := ⟨0x300110, 0, 32⟩
/-- TRC_WR_PTR_HI.PTR (R426). -/
abbrev F.TRC_WR_PTR_HI_PTR : Fld := ⟨0x300114, 0, 1⟩
/-- TRC_SEQ.SEQ (R426). -/
abbrev F.TRC_SEQ_SEQ : Fld := ⟨0x300118, 0, 32⟩
/-- TRC_TRIG_PTR_LO.PTR (R426). -/
abbrev F.TRC_TRIG_PTR_LO_PTR : Fld := ⟨0x300120, 0, 32⟩
/-- TRC_TRIG_PTR_HI.PTR (R426). -/
abbrev F.TRC_TRIG_PTR_HI_PTR : Fld := ⟨0x300124, 0, 1⟩
/-- TRC_TRIG_SEQ.SEQ (R426). -/
abbrev F.TRC_TRIG_SEQ_SEQ : Fld := ⟨0x300128, 0, 32⟩
/-- TRC_TRIG_N32.N32 (R426). -/
abbrev F.TRC_TRIG_N32_N32 : Fld := ⟨0x30012C, 0, 32⟩
/-- TRC_POST.POST (R426). -/
abbrev F.TRC_POST_POST : Fld := ⟨0x300130, 0, 13⟩
/-- TRC_SNAPLEN.SNAPLEN (R426). -/
abbrev F.TRC_SNAPLEN_SNAPLEN : Fld := ⟨0x300134, 0, 15⟩
/-- TRC_ROD_MASK.MASK (R426). -/
abbrev F.TRC_ROD_MASK_MASK (i : Nat) : Fld := ⟨0x300140 + i * 4, 0, 32⟩
/-- TRC_TRIG_W0.KIND (R426). -/
abbrev F.TRC_TRIG_W0_KIND (i : Nat) : Fld := ⟨0x300180 + i * 8, 0, 2⟩
/-- TRC_TRIG_W0.BLOCK (R426). -/
abbrev F.TRC_TRIG_W0_BLOCK (i : Nat) : Fld := ⟨0x300180 + i * 8, 8, 8⟩
/-- TRC_TRIG_W0.CODE (R426). -/
abbrev F.TRC_TRIG_W0_CODE (i : Nat) : Fld := ⟨0x300180 + i * 8, 16, 16⟩
/-- TRC_TRIG_W1.RULE (R426). -/
abbrev F.TRC_TRIG_W1_RULE (i : Nat) : Fld := ⟨0x300184 + i * 8, 0, 13⟩
/-- TRC_TRIG_W1.RULE_EN (R426). -/
abbrev F.TRC_TRIG_W1_RULE_EN (i : Nat) : Fld := ⟨0x300184 + i * 8, 13, 1⟩
/-- TLY_PAGE.PAGE (R418). -/
abbrev F.TLY_PAGE_PAGE : Fld := ⟨0x340000, 0, 7⟩
/-- TLY_SNAP_CTL.GO (R418). -/
abbrev F.TLY_SNAP_CTL_GO : Fld := ⟨0x340004, 0, 1⟩
/-- TLY_SNAP_CTL.CLEAR (R418). -/
abbrev F.TLY_SNAP_CTL_CLEAR : Fld := ⟨0x340004, 1, 1⟩
/-- TLY_SNAP_STAT.BUSY (R418). -/
abbrev F.TLY_SNAP_STAT_BUSY : Fld := ⟨0x340008, 0, 1⟩
/-- TLY_SNAP_STAT.BUSY_HIT (R418). -/
abbrev F.TLY_SNAP_STAT_BUSY_HIT : Fld := ⟨0x340008, 1, 1⟩
/-- TLY_SNAP_SEQ.SEQ (R418). -/
abbrev F.TLY_SNAP_SEQ_SEQ : Fld := ⟨0x34000C, 0, 32⟩
/-- TLY_SNAP_N32.N32 (R418). -/
abbrev F.TLY_SNAP_N32_N32 : Fld := ⟨0x340010, 0, 32⟩
/-- TLY_LIVE.VALUE (R417). -/
abbrev F.TLY_LIVE_VALUE (i : Nat) : Fld := ⟨0x350000 + i * 4, 0, 32⟩
/-- TLY_FROZEN.VALUE (R417). -/
abbrev F.TLY_FROZEN_VALUE (i : Nat) : Fld := ⟨0x360000 + i * 4, 0, 32⟩
/-- TST_LANE_CFG.GEN_PAT (R408). -/
abbrev F.TST_LANE_CFG_GEN_PAT (i : Nat) : Fld := ⟨0x380000 + i * 32, 0, 4⟩
/-- TST_LANE_CFG.CHK_PAT (R408). -/
abbrev F.TST_LANE_CFG_CHK_PAT (i : Nat) : Fld := ⟨0x380000 + i * 32, 4, 4⟩
/-- TST_LANE_CFG.INV (R408). -/
abbrev F.TST_LANE_CFG_INV (i : Nat) : Fld := ⟨0x380000 + i * 32, 8, 1⟩
/-- TST_LANE_CFG.LOOP (R408). -/
abbrev F.TST_LANE_CFG_LOOP (i : Nat) : Fld := ⟨0x380000 + i * 32, 9, 2⟩
/-- TST_LANE_CFG.SQ_HALF (R408). -/
abbrev F.TST_LANE_CFG_SQ_HALF (i : Nat) : Fld := ⟨0x380000 + i * 32, 16, 6⟩
/-- TST_LANE_CFG.CLR (R408). -/
abbrev F.TST_LANE_CFG_CLR (i : Nat) : Fld := ⟨0x380000 + i * 32, 31, 1⟩
/-- TST_LANE_STAT.LOCK (R408). -/
abbrev F.TST_LANE_STAT_LOCK (i : Nat) : Fld := ⟨0x380004 + i * 32, 0, 1⟩
/-- TST_LANE_STAT.LOSS (R408). -/
abbrev F.TST_LANE_STAT_LOSS (i : Nat) : Fld := ⟨0x380004 + i * 32, 16, 16⟩
/-- TST_LANE_ERR.ERR (R408). -/
abbrev F.TST_LANE_ERR_ERR (i : Nat) : Fld := ⟨0x380008 + i * 32, 0, 32⟩
/-- TST_LANE_BITS_LO.BITS (R408). -/
abbrev F.TST_LANE_BITS_LO_BITS (i : Nat) : Fld := ⟨0x38000C + i * 32, 0, 32⟩
/-- TST_LANE_BITS_HI.BITS (R408). -/
abbrev F.TST_LANE_BITS_HI_BITS (i : Nat) : Fld := ⟨0x380010 + i * 32, 0, 16⟩
/-- TST_LANE_USER_LO.USER (R408). -/
abbrev F.TST_LANE_USER_LO_USER (i : Nat) : Fld := ⟨0x380014 + i * 32, 0, 32⟩
/-- TST_LANE_USER_HI.USER (R408). -/
abbrev F.TST_LANE_USER_HI_USER (i : Nat) : Fld := ⟨0x380018 + i * 32, 0, 32⟩
/-- TST_T1S.MODE (R408). -/
abbrev F.TST_T1S_MODE (i : Nat) : Fld := ⟨0x380400 + i * 16, 0, 3⟩
/-- TST_T1S.LOOP (R408). -/
abbrev F.TST_T1S_LOOP (i : Nat) : Fld := ⟨0x380400 + i * 16, 4, 1⟩
/-- TST_ROD_CFG.GEN_EN (R408). -/
abbrev F.TST_ROD_CFG_GEN_EN (i : Nat) : Fld := ⟨0x381000 + i * 16, 0, 1⟩
/-- TST_ROD_CFG.CHK_EN (R408). -/
abbrev F.TST_ROD_CFG_CHK_EN (i : Nat) : Fld := ⟨0x381000 + i * 16, 1, 1⟩
/-- TST_ROD_CFG.LOOP (R408). -/
abbrev F.TST_ROD_CFG_LOOP (i : Nat) : Fld := ⟨0x381000 + i * 16, 2, 1⟩
/-- TST_ROD_CFG.FMT (R408). -/
abbrev F.TST_ROD_CFG_FMT (i : Nat) : Fld := ⟨0x381000 + i * 16, 3, 3⟩
/-- TST_ROD_CFG.GAP (R408). -/
abbrev F.TST_ROD_CFG_GAP (i : Nat) : Fld := ⟨0x381000 + i * 16, 8, 8⟩
/-- TST_ROD_CFG.LEN (R408). -/
abbrev F.TST_ROD_CFG_LEN (i : Nat) : Fld := ⟨0x381000 + i * 16, 16, 16⟩
/-- TST_ROD_ID.TID (R408). -/
abbrev F.TST_ROD_ID_TID (i : Nat) : Fld := ⟨0x381004 + i * 16, 0, 29⟩
/-- TST_ROD_CNT.GOOD (R408). -/
abbrev F.TST_ROD_CNT_GOOD (i : Nat) : Fld := ⟨0x381008 + i * 16, 0, 16⟩
/-- TST_ROD_CNT.BAD (R408). -/
abbrev F.TST_ROD_CNT_BAD (i : Nat) : Fld := ⟨0x381008 + i * 16, 16, 16⟩
/-- TST_ROD_MISS.MISSED (R408). -/
abbrev F.TST_ROD_MISS_MISSED (i : Nat) : Fld := ⟨0x38100C + i * 16, 0, 16⟩
/-- TST_ROD_MISS.CLR (R408). -/
abbrev F.TST_ROD_MISS_CLR (i : Nat) : Fld := ⟨0x38100C + i * 16, 31, 1⟩
/-- PWR_MODE.MODE (R400). -/
abbrev F.PWR_MODE_MODE : Fld := ⟨0x3C0000, 0, 3⟩
/-- PWR_CMD.OP (R400). -/
abbrev F.PWR_CMD_OP : Fld := ⟨0x3C0004, 0, 4⟩
/-- PWR_CMD.KEY (R400). -/
abbrev F.PWR_CMD_KEY : Fld := ⟨0x3C0004, 8, 8⟩
/-- PWR_CMD_STAT.BUSY (R400). -/
abbrev F.PWR_CMD_STAT_BUSY : Fld := ⟨0x3C0008, 0, 1⟩
/-- PWR_CMD_STAT.STATUS (R400). -/
abbrev F.PWR_CMD_STAT_STATUS : Fld := ⟨0x3C0008, 4, 4⟩
/-- PWR_CMD_STAT.LAST_OP (R400). -/
abbrev F.PWR_CMD_STAT_LAST_OP : Fld := ⟨0x3C0008, 8, 4⟩
/-- PWR_CMD_STAT.BUSY_HIT (R400). -/
abbrev F.PWR_CMD_STAT_BUSY_HIT : Fld := ⟨0x3C0008, 12, 1⟩
/-- PWR_WAKE_CFG.PIN_EN (R400). -/
abbrev F.PWR_WAKE_CFG_PIN_EN : Fld := ⟨0x3C0010, 0, 8⟩
/-- PWR_WAKE_CFG.PIN_POL (R400). -/
abbrev F.PWR_WAKE_CFG_PIN_POL : Fld := ⟨0x3C0010, 8, 8⟩
/-- PWR_WAKE_CFG.FILT (R400). -/
abbrev F.PWR_WAKE_CFG_FILT : Fld := ⟨0x3C0010, 16, 4⟩
/-- PWR_WAKE_SRC.PHYWK_EN (R400). -/
abbrev F.PWR_WAKE_SRC_PHYWK_EN : Fld := ⟨0x3C0014, 0, 16⟩
/-- PWR_WAKE_SRC.T1S_EN (R400). -/
abbrev F.PWR_WAKE_SRC_T1S_EN : Fld := ⟨0x3C0014, 16, 16⟩
/-- PWR_WAKE_TIMER.SEC (R400). -/
abbrev F.PWR_WAKE_TIMER_SEC : Fld := ⟨0x3C0018, 0, 32⟩
/-- PWR_THERM_CFG.TJ_LIMIT (R400). -/
abbrev F.PWR_THERM_CFG_TJ_LIMIT : Fld := ⟨0x3C0020, 0, 8⟩
/-- PWR_THERM_CFG.HYST (R400). -/
abbrev F.PWR_THERM_CFG_HYST : Fld := ⟨0x3C0020, 8, 8⟩
/-- PWR_THERM_CFG.STEP_MS (R400). -/
abbrev F.PWR_THERM_CFG_STEP_MS : Fld := ⟨0x3C0020, 16, 8⟩
/-- PWR_THERM_CFG.TRACE_LEAN (R400). -/
abbrev F.PWR_THERM_CFG_TRACE_LEAN : Fld := ⟨0x3C0020, 24, 8⟩
/-- PWR_RESTORE.RESTORE (R400). -/
abbrev F.PWR_RESTORE_RESTORE : Fld := ⟨0x3C0024, 0, 16⟩
/-- PWR_THERM_STAT.TMAX (R400). -/
abbrev F.PWR_THERM_STAT_TMAX : Fld := ⟨0x3C0028, 0, 8⟩
/-- PWR_THERM_STAT.SENSOR (R400). -/
abbrev F.PWR_THERM_STAT_SENSOR : Fld := ⟨0x3C0028, 8, 2⟩
/-- PWR_THERM_STAT.LEVEL (R400). -/
abbrev F.PWR_THERM_STAT_LEVEL : Fld := ⟨0x3C0028, 12, 3⟩
/-- PWR_TS.TEMP (R400). -/
abbrev F.PWR_TS_TEMP (i : Nat) : Fld := ⟨0x3C0030 + i * 4, 0, 8⟩
/-- PWR_BUCKET.B (R400). -/
abbrev F.PWR_BUCKET_B : Fld := ⟨0x3C0040, 0, 16⟩
/-- PWR_POWER.P (R400). -/
abbrev F.PWR_POWER_P : Fld := ⟨0x3C0044, 0, 16⟩
/-- BKP_RST_CAUSE.STICKY (R324). -/
abbrev F.BKP_RST_CAUSE_STICKY : Fld := ⟨0x400000, 0, 7⟩
/-- BKP_RST_CAUSE.LAST (R324). -/
abbrev F.BKP_RST_CAUSE_LAST : Fld := ⟨0x400000, 16, 4⟩
/-- BKP_RST_CAUSE.COUNT (R324). -/
abbrev F.BKP_RST_CAUSE_COUNT : Fld := ⟨0x400000, 24, 8⟩
/-- BKP_CLK_FAIL.REFCLK_RANGE (R323). -/
abbrev F.BKP_CLK_FAIL_REFCLK_RANGE : Fld := ⟨0x400004, 0, 1⟩
/-- BKP_CLK_FAIL.PLL_UNLOCK (R323). -/
abbrev F.BKP_CLK_FAIL_PLL_UNLOCK : Fld := ⟨0x400004, 1, 1⟩
/-- BKP_TAMPER.CAUSE (R256). -/
abbrev F.BKP_TAMPER_CAUSE : Fld := ⟨0x400008, 0, 5⟩
/-- BKP_BOOT.ACTIVE_SLOT (R350). -/
abbrev F.BKP_BOOT_ACTIVE_SLOT : Fld := ⟨0x400010, 0, 1⟩
/-- BKP_BOOT.TRIES (R350). -/
abbrev F.BKP_BOOT_TRIES : Fld := ⟨0x400010, 1, 3⟩
/-- BKP_BOOT.FALLBACK (R350). -/
abbrev F.BKP_BOOT_FALLBACK : Fld := ⟨0x400010, 4, 1⟩
/-- BKP_BOOT.PENDING (R350). -/
abbrev F.BKP_BOOT_PENDING : Fld := ⟨0x400010, 5, 1⟩
/-- BKP_BOOT.BAD_SLOT (R350). -/
abbrev F.BKP_BOOT_BAD_SLOT : Fld := ⟨0x400010, 6, 1⟩
/-- BKP_BOOT_SEQ.SEQ (R350). -/
abbrev F.BKP_BOOT_SEQ_SEQ : Fld := ⟨0x400014, 0, 32⟩
/-- BKP_BOOT_BADSEQ.SEQ (R350). -/
abbrev F.BKP_BOOT_BADSEQ_SEQ : Fld := ⟨0x400018, 0, 32⟩
/-- BKP_THERM.SHUTDOWN (R400). -/
abbrev F.BKP_THERM_SHUTDOWN : Fld := ⟨0x400020, 0, 1⟩
/-- BKP_THERM.SENSOR (R400). -/
abbrev F.BKP_THERM_SENSOR : Fld := ⟨0x400020, 1, 2⟩
/-- BKP_THERM.TMAX (R400). -/
abbrev F.BKP_THERM_TMAX : Fld := ⟨0x400020, 8, 8⟩
/-- BKP_THERM.COUNT (R400). -/
abbrev F.BKP_THERM_COUNT : Fld := ⟨0x400020, 16, 16⟩
/-- BKP_WAKE.PIN (R400). -/
abbrev F.BKP_WAKE_PIN : Fld := ⟨0x400024, 0, 8⟩
/-- BKP_WAKE.PHY (R400). -/
abbrev F.BKP_WAKE_PHY : Fld := ⟨0x400024, 8, 16⟩
/-- BKP_WAKE.TIMER (R400). -/
abbrev F.BKP_WAKE_TIMER : Fld := ⟨0x400024, 24, 1⟩
/-- BKP_WAKE.TAMPER (R400). -/
abbrev F.BKP_WAKE_TAMPER : Fld := ⟨0x400024, 25, 1⟩
/-- BKP_WAKE.EARLY (R400). -/
abbrev F.BKP_WAKE_EARLY : Fld := ⟨0x400024, 26, 1⟩
/-- BKP_WAKE.THERM_HELD (R400). -/
abbrev F.BKP_WAKE_THERM_HELD : Fld := ⟨0x400024, 27, 1⟩
/-- BKP_WAKE_T1S.T1S (R400). -/
abbrev F.BKP_WAKE_T1S_T1S : Fld := ⟨0x400028, 0, 16⟩
/-- BKP_FW.DATA, the Klomin firmware area (R323), its words at 0 after power-on (DESIGN CHOICE, log 2). -/
abbrev F.BKP_FW_DATA (i : Nat) : Fld := ⟨0x401000 + i * 4, 0, 32⟩
/-- BKP_USER.DATA (R323). -/
abbrev F.BKP_USER_DATA (i : Nat) : Fld := ⟨0x408000 + i * 4, 0, 32⟩
/-- RNG_STAT.EPLEN_PAIR (R377). -/
abbrev F.RNG_STAT_EPLEN_PAIR : Fld := ⟨0x440000, 0, 2⟩
/-- RNG_STAT.EPLEN_EN (R377). -/
abbrev F.RNG_STAT_EPLEN_EN : Fld := ⟨0x440000, 2, 1⟩
/-- RNG_STAT.MULTI_HEAD (R377). -/
abbrev F.RNG_STAT_MULTI_HEAD : Fld := ⟨0x440000, 3, 1⟩
/-- RNG_STAT.CLOSED (R377). -/
abbrev F.RNG_STAT_CLOSED : Fld := ⟨0x440000, 4, 1⟩
/-- RNG_REACH.REACH0 (R377). -/
abbrev F.RNG_REACH_REACH0 : Fld := ⟨0x440004, 0, 4⟩
/-- RNG_REACH.REACH1 (R377). -/
abbrev F.RNG_REACH_REACH1 : Fld := ⟨0x440004, 4, 4⟩
/-- RNG_REACH.RING_SIZE (R377). -/
abbrev F.RNG_REACH_RING_SIZE : Fld := ⟨0x440004, 8, 8⟩
/-- RNG_REACH.HEAD_DIR (R377). -/
abbrev F.RNG_REACH_HEAD_DIR : Fld := ⟨0x440004, 16, 1⟩
/-- RNG_REACH.HEAD_HOP (R377). -/
abbrev F.RNG_REACH_HEAD_HOP : Fld := ⟨0x440004, 20, 4⟩
/-- RNG_REACH.CHANGES (R377). -/
abbrev F.RNG_REACH_CHANGES : Fld := ⟨0x440004, 24, 8⟩
/-- RNG_BYP.LEVEL (R377). -/
abbrev F.RNG_BYP_LEVEL : Fld := ⟨0x440008, 0, 4⟩
/-- RNG_BYP.PAIRS (R377). -/
abbrev F.RNG_BYP_PAIRS : Fld := ⟨0x440008, 8, 4⟩
/-- RNG_BYP.CAUSE (R377). -/
abbrev F.RNG_BYP_CAUSE : Fld := ⟨0x440008, 16, 3⟩
/-- RNG_RA_RD.SEG (R377). -/
abbrev F.RNG_RA_RD_SEG : Fld := ⟨0x44000C, 0, 32⟩
/-- RNG_RA_WR.SEG (R377). -/
abbrev F.RNG_RA_WR_SEG : Fld := ⟨0x440010, 0, 32⟩
/-- RNG_EVT_SUB.WIN (R377). -/
abbrev F.RNG_EVT_SUB_WIN : Fld := ⟨0x440014, 1, 15⟩
/-- RNG_SELF_TAG_LO.TAG (R377). -/
abbrev F.RNG_SELF_TAG_LO_TAG : Fld := ⟨0x440018, 0, 32⟩
/-- RNG_SELF_TAG_HI.TAG (R377). -/
abbrev F.RNG_SELF_TAG_HI_TAG : Fld := ⟨0x44001C, 0, 32⟩
/-- RNG_NBR_LO.TAG (R377). -/
abbrev F.RNG_NBR_LO_TAG (i : Nat) : Fld := ⟨0x440100 + i * 16, 0, 32⟩
/-- RNG_NBR_HI.TAG (R377). -/
abbrev F.RNG_NBR_HI_TAG (i : Nat) : Fld := ⟨0x440104 + i * 16, 0, 32⟩
/-- RNG_NBR_INFO.PORT (R377). -/
abbrev F.RNG_NBR_INFO_PORT (i : Nat) : Fld := ⟨0x440108 + i * 16, 0, 8⟩
/-- RNG_NBR_INFO.VALID (R377). -/
abbrev F.RNG_NBR_INFO_VALID (i : Nat) : Fld := ⟨0x440108 + i * 16, 8, 1⟩
/-- RNG_WIN_CFG.EN (R290). -/
abbrev F.RNG_WIN_CFG_EN (i : Nat) : Fld := ⟨0x441020 + i * 32, 0, 1⟩
/-- RNG_WIN_CFG.DIR (R290). -/
abbrev F.RNG_WIN_CFG_DIR (i : Nat) : Fld := ⟨0x441020 + i * 32, 1, 1⟩
/-- RNG_WIN_CFG.BASE (R290). -/
abbrev F.RNG_WIN_CFG_BASE (i : Nat) : Fld := ⟨0x441020 + i * 32, 2, 7⟩
/-- RNG_WIN_CFG.TMO (R290). -/
abbrev F.RNG_WIN_CFG_TMO (i : Nat) : Fld := ⟨0x441020 + i * 32, 16, 16⟩
/-- RNG_WIN_SEQ.NEXT (R291). -/
abbrev F.RNG_WIN_SEQ_NEXT (i : Nat) : Fld := ⟨0x441024 + i * 32, 0, 32⟩
/-- RNG_WIN_FENCE.ERRORS (R294). -/
abbrev F.RNG_WIN_FENCE_ERRORS (i : Nat) : Fld := ⟨0x441028 + i * 32, 0, 8⟩
/-- RNG_WIN_FENCE.TIMEOUT (R294). -/
abbrev F.RNG_WIN_FENCE_TIMEOUT (i : Nat) : Fld := ⟨0x441028 + i * 32, 8, 1⟩
/-- RNG_WIN_STAT.LAST_STATUS (R292). -/
abbrev F.RNG_WIN_STAT_LAST_STATUS (i : Nat) : Fld := ⟨0x44102C + i * 32, 0, 4⟩
/-- RNG_WIN_STAT.ACK_PENDING (R292). -/
abbrev F.RNG_WIN_STAT_ACK_PENDING (i : Nat) : Fld := ⟨0x44102C + i * 32, 8, 6⟩
/-- RNG_WIN_TAG_LO.TAG (R377). -/
abbrev F.RNG_WIN_TAG_LO_TAG (i : Nat) : Fld := ⟨0x441030 + i * 32, 0, 32⟩
/-- RNG_WIN_TAG_HI.TAG (R377). -/
abbrev F.RNG_WIN_TAG_HI_TAG (i : Nat) : Fld := ⟨0x441034 + i * 32, 0, 32⟩
/-- RNG_REL_STAT.UNREAD (R296). -/
abbrev F.RNG_REL_STAT_UNREAD : Fld := ⟨0x442000, 0, 6⟩
/-- RNG_REL_STAT.WRITTEN (R296). -/
abbrev F.RNG_REL_STAT_WRITTEN : Fld := ⟨0x442000, 8, 8⟩
/-- RNG_REL_STAT.LOST (R296). -/
abbrev F.RNG_REL_STAT_LOST : Fld := ⟨0x442000, 16, 16⟩
/-- RNG_REL_ACK.COUNT (R296). -/
abbrev F.RNG_REL_ACK_COUNT : Fld := ⟨0x442004, 0, 6⟩
/-- RNG_REL_REC.WORD (R295). -/
abbrev F.RNG_REL_REC_WORD (i : Nat) (j : Nat) : Fld := ⟨0x442100 + i * 32 + j * 4, 0, 32⟩

end Sys2Proof.Machine
end

