-- ==== Sys2Proof/Machine/State.lean ====
section
/-! DEFINITION. The state of the OZ-7680 as plain data. Register fields are held one by one in
`regs` (key: register offset and lowest bit, RegMap.lean); everything the spec gives the block beside
its registers is in the structures below. All times on the working clock are held in units of
2^-40 ns (R204); shaping time and every interval counted from the fabric clock is held in CLK_FAB
cycles of 1.25 ns. -/

namespace Sys2Proof.Machine

/-- An event of Table 19.7 (R478). -/
structure Event where
  block : Nat
  code : Nat
  hop : Nat := 0
  n32 : Nat
  payload : Nat
  deriving DecidableEq, Repr

/-- The one-step and two-step requests of an item descriptor (R217, R218). -/
structure TsReq where
  mode : Nat := 0
  domain : Nat := 0
  refT : Nat := 0
  twoStep : Bool := false
  tag : Nat := 0
  deriving DecidableEq, Repr

/-- An item of the bead buffer (R43, R44): an Ethernet frame with its FCS, or a rod record. -/
structure Item where
  bytes : List Byte
  isRod : Bool
  /-- Ingress port index (Table 0.5); 255 for a frame of the ACF assembler (R97). -/
  ingress : Nat
  /-- Listener context of an ACF message item (R100). -/
  lctx : Option Nat := none
  /-- Key of the cadence state of a rod record that a lookup found (R155). -/
  cadKey : Nat := 0
  /-- Entered by a core pair or the host rather than received (R28, R87). -/
  injected : Bool := false
  /-- Receive timestamp, working-clock time. -/
  t : Nat
  /-- avtp_timestamp of a TSCF frame with tv = 1 (R103). -/
  avtpTs : Option Nat := none
  /-- ACF message_timestamp with mtv = 1 (R103). -/
  msgTs : Option Nat := none
  /-- Pass count (R42). -/
  pass : Nat := 1
  /-- The whole item has been received and its check has passed. -/
  complete : Bool := true
  /-- Whether the FCS of a frame still being received will pass. -/
  fcsOk : Bool := true
  /-- The frame failed its check after its header record was made (R481). -/
  bad : Bool := false
  /-- No bead could be claimed in the middle of the frame (R45). -/
  noBead : Bool := false
  refs : Nat := 0
  /-- Beads drawn from the ingress port's reserve and from the shared pool (R45). -/
  resBeads : Nat := 0
  shBeads : Nat := 0
  ts : TsReq := {}
  /-- Base destination that a TX descriptor names in place of the DA result (Table 11.6). -/
  destOv : Option Nat := none
  deriving DecidableEq, Repr

/-- What the R-tag stage does at an Ethernet egress (R176). -/
inductive RtagAct where
  | keep
  | strip
  | insert (seq : Nat)
  deriving DecidableEq, Repr

/-- One reference to an item in a queue, with what the decision fixed for this destination. -/
structure QRef where
  /-- Id of the item (R44). -/
  item : Nat
  /-- Classified VID and PCP, DEI to send, and whether the frame is retagged at egress (R114). -/
  retag : Bool := false
  untag : Bool := false
  vid : Nat := 0
  pcp : Nat := 0
  dei : Bool := false
  rtag : RtagAct := .keep
  /-- Sent cut-through (R38). -/
  cut : Bool := false
  /-- ATS eligibility time (R194), in units of 2^-40 ns of shaping time. -/
  elig : Nat := 0
  /-- Carry index, target index and the two target words taken at enqueue (R91, R92). -/
  carry : Option (Nat × Nat × Nat) := none
  /-- Launch time, an N32 value, of a launch-time item (R103). -/
  launch : Nat := 0
  /-- Transmission attempts made (R74). -/
  attempts : Nat := 0
  /-- Descriptor: deciding rule (R144), stream index and sequence number (R176). -/
  rule : Option Nat := none
  stream : Option Nat := none
  seqNo : Option Nat := none
  /-- Trace record sequence number (R419), accepted opcode, drop rank and REASON (Table 16.7). -/
  traceSeq : Nat := 0
  op : Nat := 0
  rank : Nat := 0
  reason : Nat := 0
  /-- REASON of an RX descriptor (Table 11.8): 0 DA hit, 1 group or stream destination, 2 flood. -/
  why : Nat := 0
  deriving DecidableEq, Repr

/-- What leaves the block: the outward effects of commands, oldest first. -/
inductive Out where
  /-- A frame starts on an Ethernet port 0-31. -/
  | frame (port cls : Nat) (bytes : List Byte)
  /-- CPU port 32 or 33 hands an item to its core pair, with its ingress port, timestamp and descriptor. -/
  | cpuItem (port cls : Nat) (bytes : List Byte) (ingress t : Nat) (ref : QRef)
  /-- The egress timestamp of an item of core pair `pair` with its TAG (R218). -/
  | stamp (pair port tag t : Nat)
  /-- A frame being sent ends; `ok` is false when it ends with an inverted FCS (R39). -/
  | frameEnd (port : Nat) (ok : Bool)
  /-- A rod starts a transmission of a rod record (R81). -/
  | rodTx (rod : Nat) (record : List Byte)
  /-- A LIN commander sends a header (R67). -/
  | linHeader (rod fid : Nat)
  /-- A LIN rod drives a wake-up pulse (R76). -/
  | linWake (rod : Nat)
  /-- A rod's pins change with its state (Table 2.7): recessive TXD or an error flag. -/
  | rodErrorFlag (rod : Nat)
  /-- A rod checks the data-phase bits of its frame at the secondary sample point, `cycles` CLK_ROD cycles after the
  start of each bit (R59). -/
  | rodSamplePoint (rod cycles : Nat)
  /-- An mPacket of frame preemption (R198): verify (0) or respond (1). -/
  | mPacket (port kind : Nat)
  /-- A DMA write into host memory; `ro` says that it may carry Relaxed Ordering (R303). -/
  | hostWrite (addr : Nat) (bytes : List Byte) (ro : Bool)
  /-- An MSI-X message (R304). -/
  | msix (vector : Nat) (addr data : Nat)
  /-- A completion of a host read or atomic. -/
  | completion (value : Nat)
  /-- What core pair `pair` reads from a register, or from two in ascending order (R27). -/
  | pairRead (pair value : Nat)
  /-- A completion with Unsupported Request (R287, R289). -/
  | unsupported
  /-- An Eplen frame out of B port `port` (R356). -/
  | eplen (port : Nat) (hdr : EplenHdr) (body : List Byte)
  /-- The control pair sends Sync of a domain with its PTP domainNumber on Ethernet port `port`, one-step or
  two-step; on an S port without Pdelay, using the link delay of the image in ns, on others with Pdelay (R213). -/
  | ptp (domain number port : Nat) (oneStep : Bool) (linkDelay : Option Nat)
  /-- Bytes programmed into a NOR slot; `norErase` erases a slot. -/
  | nor (slot addr : Nat) (bytes : List Byte)
  | norErase (slot : Nat)
  /-- The bits that a data register scan of the TAP shifts out of TDO, bit 0 first (R409). -/
  | tdo (len bits : Nat)
  deriving DecidableEq, Repr

/-- A learn request (group G5, R120): insert, refresh or move. -/
structure LearnReq where
  key : Nat
  port : Nat
  move : Bool
  deriving DecidableEq, Repr

/-- TCP segment flags or a UDP datagram, as the flow table classifies it (R150). -/
structure Seg where
  tcp : Bool
  syn : Bool
  ack : Bool
  fin : Bool
  rst : Bool
  deriving DecidableEq, Repr

/-- A state update of group G6 that the firewall state engine applies (R151, R155, R157). -/
inductive Upd where
  /-- Flow creation: key fields in normal order, from endpoint B, rule, diagnostic binding. -/
  | flowNew (addrA addrB portA portB proto vid : Nat) (v6 fromB : Bool) (rule : Nat)
      (diag : Option (Nat × Nat)) (seg : Seg)
  /-- Transition or refresh of an existing flow. -/
  | flowSeg (addrA addrB portA portB proto vid : Nat) (v6 fromB : Bool) (seg : Seg)
  /-- Cadence check of state `key`: unit, bounds, extended time in ns; payload words of its event. -/
  | cad (key unit cmin cmax t64 src num ident : Nat)
  deriving DecidableEq, Repr

/-- A decision record: opcode and the eight field groups of Table 9.1 (R228). -/
structure Decision where
  op : Nat
  rank : Nat := 0
  cause : Nat := 0
  dest : Nat := 0
  cls : Nat := 0
  vid : Nat := 0
  pcp : Nat := 0
  dei : Bool := false
  retag : Bool := false
  popRtag : Bool := false
  cpu : Nat := 0
  cpuCls : Nat := 0
  carry : Nat := 0
  carryMask : Nat := 0
  /-- First target of the carry entry that the decision rests on (R92). -/
  carryBase : Nat := 0
  learn : Option LearnReq := none
  upds : List Upd := []
  /-- Firewall meter of the deciding rule (R146) and the stream's flow meter (R171). -/
  meter : Option Nat := none
  smeter : Option Nat := none
  /-- Set the stream's STR_BLOCK bit (R168); latch the gate closed (R169). -/
  block : Option Nat := none
  latch : Option Nat := none
  trace : Bool := false
  /-- Tallies that the stages mark for counting (catalogue indices, R416). -/
  counts : List Nat := []
  /-- Tallies of the outcome itself: they count only when no meter then drops the item. -/
  baseCounts : List Nat := []
  rule : Option Nat := none
  stream : Option Nat := none
  /-- Key of the stream's state when the record entered the header stream (R177). -/
  strKey : Nat := 0
  /-- Listener context that the ACF splitter serves (R166). -/
  lctx : Option Nat := none
  /-- UNTAG set of the frame's VLAN entry (R114), and the stream entry (R172 to R176). -/
  untag : Nat := 0
  strE : Nat := 0
  /-- REASON bits of a trace record (Table 16.7), and of an RX descriptor (Table 11.8). -/
  reason : Nat := 0
  why : Nat := 0
  /-- Groups in which a faulty plane's record differs (bit g for G0 to G7): zero in the record of a plane that
  works. -/
  diff : Nat := 0
  deriving DecidableEq, Repr

/-- A header record of the header stream (R37) with the decision that the plane stages reach on the
tables as they stand when the record enters (R106). -/
structure HdrRec where
  item : Nat
  drill : Bool := false
  decision : Decision
  deriving DecidableEq, Repr

/-- Scheduler and shaper state of one class queue or rod priority queue (R193, R194, R196). -/
structure ClassSt where
  /-- CBS credit in units of 2^-24 bit, and the remainder of the accrual below that. -/
  credit : Int := 0
  rem : Nat := 0
  /-- CLK_FAB cycles that `sending` still lasts. -/
  sendLeft : Nat := 0
  /-- ATS empty-time (signed: full at reset) and group eligibility time, 2^-40 ns of shaping time. -/
  emptyT : Option Int := none
  groupT : Int := 0
  /-- Fair-sharing start tag, finish tag and remainder. -/
  stag : Nat := 0
  ftag : Nat := 0
  frem : Nat := 0
  deriving DecidableEq, Repr

/-- A frame being sent on an Ethernet port. -/
structure EthTx where
  /-- Its class, its reference, its length LEN_C (R193) and whether the MAC is the express MAC (R197). -/
  cls : Nat
  ref : QRef
  lenC : Nat
  express : Bool
  /-- Its ingress check failed while it was preempted: its last fragment ends with an inverted FCS (R39). -/
  stomped : Bool := false
  deriving DecidableEq, Repr

/-- The copy of an administrative gate list that waits for its change time (R170, R191). -/
structure GatePend where
  /-- (interval, open or gates, IPV word or OP) per entry. -/
  entries : List (Nat × Nat × Nat)
  cycle : Nat
  /-- Change time, working-clock time. -/
  at40 : Nat
  deriving DecidableEq, Repr

/-- A requester's table staging buffer (R130): tag and 512 bytes as one number. -/
structure Stage where
  tag : Option (Nat × Nat) := none
  data : Nat := 0
  deriving DecidableEq, Repr

/-- A running sweep (R135). -/
structure Sweep where
  /-- 0 control, 1 service, 2 host, 3 background. -/
  req : Nat
  table : Nat
  pos : Nat
  /-- none: age sweep with limit `age`; some: value and mask of FLUSH_MASKED. -/
  flush : Option (Nat × Nat)
  age : Nat
  count : Nat
  deriving DecidableEq, Repr

/-- A cadence state (R155). -/
structure Cad where
  last : Nat := 0
  seen : Bool := false
  miss : Bool := false
  early : Bool := false
  deriving DecidableEq, Repr

/-- Buckets of a meter, in units of 10^-5 byte, and the CLK_FAB count of the last update. A firewall
meter uses the first bucket only. -/
structure Bucket where
  c : Nat
  e : Nat
  at_ : Nat
  deriving DecidableEq, Repr

/-- Sequence-recovery state of a stream (R172). -/
structure Rcv where
  takeAny : Bool := true
  rseq : Nat := 0
  hist : Nat := 0
  /-- CLK_FAB count at which the algorithm last passed an item (R175). -/
  lastAt : Nat := 0
  deriving DecidableEq, Repr

/-- An open ACF batch of a talker context (R98). -/
structure Batch where
  msgs : List (List Byte)
  count : Nat
  firstTs : Nat
  pass : Nat
  openAt : Nat
  beads : Nat
  deriving DecidableEq, Repr

/-- A message the output stages passed to the ACF assembler, waiting to be appended (R91). -/
structure AcfMsg where
  item : Nat
  ctx : Nat
  target : Nat
  deriving DecidableEq, Repr

/-- The data plane beside its registers. -/
structure DataPlane where
  items : Sparse (Option Item) := []
  nextItem : Nat := 1
  /-- Beads in use from each port's reserve, and from the shared pool (R45). -/
  resUsed : Sparse Nat := []
  shUsed : Nat := 0
  /-- Beads removed from the free list because they failed their test on release, and the items that hold such a bead
  (Table 9.9). -/
  lostBeads : Nat := 0
  badBead : List Nat := []
  /-- Reserve of each port and cap per class queue, as the image sets them (R46): key port, cap at
  key 1000 + 16 * port + class. -/
  beadCfg : Sparse Nat := []
  /-- The header stream, oldest first (R37); held between items (R235). -/
  stream : List HdrRec := []
  held : Bool := false
  /-- The decision records of planes A and B for the oldest header record (R230). -/
  decA : Option Decision := none
  decB : Option Decision := none
  /-- Class queues of ports and rods, key 16 * port + class (8 is the launch-time queue). -/
  queues : Sparse (List QRef) := []
  /-- Frames still in reception per Ethernet port, oldest first: item (0 for a frame of which none is kept), and 0 for
  a good frame, 1 for a bad one, 2 for an overlength one (R481). -/
  rx : Sparse (List (Nat × Nat)) := []
  /-- Frame being sent per Ethernet port, a preempted frame behind it, and a frame whose last byte has started while
  its successor is already chosen (R180). -/
  tx : Sparse (Option EthTx) := []
  ending : Sparse (Option EthTx) := []
  preempted : Sparse (Option EthTx) := []
  /-- Scheduler and shaper state of each class queue, key as queues (R193, R194, R196). -/
  classes : Sparse ClassSt := []
  /-- Shaping time of the last reset of warm reach or wider, when every ATS bucket became full. -/
  atsBase : Nat := 0
  /-- Virtual time per port and level, key 8 * port + level (R196). -/
  vtime : Sparse Nat := []
  /-- E of R118: entries of ROD_OVERFLOW, as the image sets them. -/
  ovfSize : Nat := 0
  /-- Learn requests (R122) and firewall state updates (R151) that wait for their engine. -/
  learnQ : List LearnReq := []
  updQ : List Upd := []
  /-- Buckets of the firewall meters (R146) and flow meters (R171); none is a full bucket. -/
  meters : Sparse (Option Bucket) := []
  smeters : Sparse (Option Bucket) := []
  /-- Cadence states (R155), sequence-recovery states (R172) and sequence generators (R176). -/
  cad : Sparse Cad := []
  rcv : Sparse Rcv := []
  gen : Sparse Nat := []
  /-- Operational base time of each gate list: key port, or 64 + gate. -/
  gateBase : Sparse Nat := []
  /-- Administrative gate lists that wait for their change time, by the same keys (R170, R191). -/
  gatePend : Sparse (Option GatePend) := []
  /-- The list that a stream gate ran before its last swap, with that swap's change time and its own base (R170). -/
  gateOld : Sparse (Option (GatePend × Nat)) := []
  /-- Rewrites of each stream entry under items in flight (R177). -/
  strEpoch : Sparse Nat := []
  /-- ACF assembler and splitter: messages to append (R91), items to split with their listener context (R100), open
  batches (R98), sequence numbers of talker and listener contexts (R99, R101). -/
  acfQ : List AcfMsg := []
  splitQ : List (Nat × Nat) := []
  batch : Sparse (Option Batch) := []
  talkSeq : Sparse Nat := []
  listenSeq : Sparse (Option Nat) := []
  /-- Staging buffers of the requesters (R130) and running sweeps, oldest first (R135). -/
  stage : Sparse Stage := []
  sweeps : List Sweep := []
  /-- Requester whose sweep the commit engine served last, 3 the background (R25); an aging pass, a flow sweep that fell due
  during another sweep of its table (R135). -/
  rrLast : Nat := 3
  ageDue : Bool := false
  flowDue : Bool := false
  /-- Entries with an uncorrectable error (R251, Table 9.9). -/
  poison : List Nat := []
  /-- PN warning posted, per SA entry (R275). -/
  pnWarned : List Nat := []
  /-- SA entries whose last PN has been sent or received (R275). -/
  pnDone : List Nat := []
  /-- SA keys, delivered by the key store (R24, R273): key entry index. -/
  saKey : Sparse Nat := []
  /-- Slot close times for the 2 s guard of R154, in FWL_NOW-independent CLK_FAB cycles. -/
  diagClosed : Sparse (Option Nat) := []
  /-- Verify attempts made since link-up, per port (R198). -/
  verifyTry : Sparse Nat := []
  deriving DecidableEq, Repr

/-- The staged registers a rod latched at its last START (R51). -/
structure RodLatch where
  nbt : Nat
  dbt : Nat
  tdc : Nat
  pwm : Nat
  lin : Nat
  loop : Bool
  deriving DecidableEq, Repr

/-- A transmission on a rod's bus. -/
structure RodTx where
  /-- 0-7 priority queue, 8 launch-time queue, 9 a test frame, 10 LIN data published again. -/
  q : Nat
  ref : QRef
  /-- The converted record. -/
  record : List Byte
  /-- FLUSH or STOP selected the item while on the bus: no further attempt (R78). -/
  final : Bool
  deriving DecidableEq, Repr

/-- A rod beside its registers. -/
structure Rod where
  /-- The registers latched at the last START (R51). -/
  latch : Option RodLatch := none
  /-- Full transmit error count (R63). -/
  tec : Nat := 0
  /-- The transmission on the bus. -/
  tx : Option RodTx := none
  /-- CLK_FAB count at which the standby pin was last released (R60). -/
  released : Option Nat := none
  /-- Levels of the standby and enable functions (asserted or not), Table 2.7. -/
  stb : Bool := false
  en : Bool := true
  /-- A rod reset runs (R83). -/
  resetting : Bool := false
  /-- LIN schedule: next slot, the CLK_FAB count at which the slot in progress ends, and the expected
  response (FID, length, classic checksum). -/
  linSlot : Nat := 0
  linEnd : Option Nat := none
  linWait : Option (Nat × Nat × Bool) := none
  /-- Data last published per FID since START (R67). -/
  linPub : Sparse (List Byte) := []
  /-- Bit length in CLK_ROD cycles that a responder measured in the sync field of the frame in progress (R65). -/
  linSync : Option Nat := none
  /-- Wake-up pulses sent in the present sequence (R76). -/
  wakePulses : Nat := 0
  /-- Test generator and checker (R407): sequence to send, last sequence seen. -/
  testSeq : Nat := 0
  testLast : Option Nat := none
  /-- CLK_FAB count at which the last test frame was sent. -/
  testAt : Option Nat := none
  deriving DecidableEq, Repr

/-- The planes, comparators and pairs beside their registers. -/
structure Saf where
  /-- CLK_FAB count at which each plane last raised its claim (R240). -/
  raisedA : Option Nat := none
  raisedB : Option Nat := none
  /-- Logic self-tests failed in a row (R240). -/
  failsA : Nat := 0
  failsB : Nat := 0
  /-- A self-check is in progress; the decisions of A and of B that are missing; it is a drill (R235, R242). -/
  checking : Bool := false
  missA : Bool := false
  missB : Bool := false
  drill : Bool := false
  /-- Plane A, and plane B, was rejoining when it entered the self-check (R235). -/
  rejA : Bool := false
  rejB : Bool := false
  /-- Plane A, and plane B, has detected a parity error while the stream was held: it withdraws at the next item
  boundary (R237). -/
  parA : Bool := false
  parB : Bool := false
  /-- A drill waits for its deadline (R242): true when A was the driver. -/
  drillWait : Option Bool := none
  /-- CLK_FAB counts of the silent divergences of the last second (R231). -/
  divTimes : List Nat := []
  /-- CLK_FAB count of the last accepted decision; a takeover whose interruption is being measured, with the
  count it is measured from, none when no decision came before it (R238). -/
  lastAccept : Option Nat := none
  tkoFrom : Option (Option Nat) := none
  /-- CLK_FAB count of each pair's last passing injection test (R247), and of the last one that followed a lockstep
  mismatch (R248). -/
  pairPass : Sparse (Option Nat) := []
  pairAgain : Sparse (Option Nat) := []
  deriving DecidableEq, Repr

/-- A pending refused step (R209): kind 1 STEP or SET, 2 SELECT. -/
structure Pending where
  kind : Nat
  dom : Nat
  /-- Step in 2^-40 ns. -/
  step : Int
  deriving DecidableEq, Repr

/-- A slew in progress (R208). -/
structure Slew where
  adj : Int
  /-- SLEW_RATE in units of 2^-40. -/
  rate : Int
  dur : Nat
  /-- CLK_FAB cycles since its start, and offset applied so far in 2^-40 ns. -/
  cycles : Nat
  applied : Int
  deriving DecidableEq, Repr

/-- A domain view (R212): offset and reference in 2^-40 ns, rate in 2^-40 units. -/
structure View where
  ofs : Int := 0
  vrate : Int := 0
  ref : Int := 0
  deriving DecidableEq, Repr

/-- An entry of the two-step queue (R218). -/
structure Ts2 where
  qseq : Nat
  port : Nat
  tag : Nat
  t : Nat
  deriving DecidableEq, Repr

/-- An entry of the TIME_IN queue (R223). -/
structure TimeIn where
  qseq : Nat
  rising : Bool
  t : Nat
  deriving DecidableEq, Repr

/-- The time base beside its registers. -/
structure TimeBase where
  /-- The working clock, in 2^-40 ns (R204). -/
  clk : Nat := 0
  /-- CLK_FAB cycles since the last reset of chip reach: shaping time is 1.25 ns each (R186). -/
  fab : Nat := 0
  /-- RATE in force (R206). -/
  rate : Int := 0
  /-- The slew in progress (R208). -/
  slew : Option Slew := none
  /-- Domain views 1 to 3 (R212). -/
  views : Sparse View := []
  /-- The refused step that waits (R209). -/
  pending : Option Pending := none
  /-- The step applied last, in 2^-40 ns (R209). -/
  lastStep : Int := 0
  /-- CLK_FAB count of the last owner write (R214). -/
  ownerAt : Nat := 0
  /-- The two-step queue, oldest first (R218). -/
  ts2 : List Ts2 := []
  /-- The TIME_IN queue, oldest first, and the QSEQ of its next entry (R223). -/
  tsIn : List TimeIn := []
  inSeq : Nat := 0
  /-- The steps applied within the last second, latest first: CLK_FAB count and size in 2^-40 ns. -/
  steps : List (Nat × Int) := []
  /-- CLK_FAB count at which HOLDOVER was last set (R214), and the domains that the control pair's servo holds
  locked (R213). -/
  holdAt : Nat := 0
  locked : List Nat := []
  /-- The latch of TIM_NOW per requester (R222): 0 control, 1 service, 2 host. -/
  nowLatch : Sparse Nat := []
  /-- TIME_OUT is asserted (the name does not mean the level, which POL decides), until CLK_FAB count `outEnd`.
  Working-clock times before which no edge is generated: behind the last edge or step, and 1 µs after the MODE write.
  START, PERIOD and WIDTH in force (ns), and each later written set with the time from which it applies, oldest
  first (R224). -/
  outHigh : Bool := false
  outEnd : Nat := 0
  outFrom : Nat := 0
  outUse : Nat × Nat × Nat := (0, 1000000000, 10000000)
  outGuard : Nat := 0
  outNew : List (Nat × Nat × Nat × Nat) := []
  deriving DecidableEq, Repr

/-- A subscriber of this device's events (R362). -/
structure Sub where
  origin : Nat
  win : Nat
  /-- Direction of travel of the subscription, and the Eplen port it arrived on. -/
  dir : Nat
  port : Nat
  hops : Nat
  at_ : Nat
  deriving DecidableEq, Repr

/-- The key store beside its registers: the VBATK contents of R254 and the requesters' challenges. -/
structure KeyStore where
  /-- Root secret; none while the VBATK contents are empty (R255). -/
  root : Option Nat := none
  /-- The key slots (Table 10.2); an unlisted slot is FREE and was never used. -/
  slots : Sparse KeySlot := []
  /-- The key journal (R269). -/
  journal : Journal := {}
  /-- MASK_SEL of every unlisted slot, and the masks in use, as DRBG output numbers (R271). -/
  maskNow : Nat := 0
  maskA : Nat := 0
  maskB : Nat := 0
  /-- Invalidated slots whose reclaim sweep has not finished, oldest first (R260). -/
  sweeps : List Nat := []
  /-- DRBG outputs drawn so far. -/
  drawn : Nat := 0
  /-- Challenge of each requester and the CLK_FAB count of its issue (R278). -/
  challenge : Sparse (Option (Nat × Nat)) := []
  /-- Slot installed as the image decryption key (BIND SUB 1). -/
  imageSlot : Option Nat := none
  /-- A tamper detection holds READY at 0 until a reset of chip reach (R256). -/
  tamperHold : Bool := false
  /-- The die is an OZ-7680 with its shield mesh, as far as the last option load has shown (R256). -/
  mesh : Bool := true
  deriving DecidableEq, Repr

/-- The image that runs: SHA-384 of its firmware and configuration sections (R280). -/
structure Measure where
  fw : Nat := 0
  cfg : Nat := 0
  deriving DecidableEq, Repr

/-- A far-side request that reads a register whose value arrives later: the Eplen port it came by, its header,
its RSEQ and the dwords it reads (R287, R294). -/
structure Reply where
  d : Nat
  hdr : EplenHdr
  rseq : Nat
  count : Nat
  deriving DecidableEq, Repr

/-- An access through a remote window that has not been answered or, behind an acknowledged write, not been
sent (R291 to R294). -/
structure Acc where
  rseq : Nat
  /-- 0 posted write, 1 acknowledged write, 2 read, 3 atomic, 4 fence, 5 subscribe (Table 14.3). -/
  kind : Nat
  atomic : Nat := 0
  off : Nat
  count : Nat
  data : List Nat := []
  sent : Bool := false
  /-- The far-side request that a fence answers instead of a host read, and a host read that names RNG_WIN_STAT too. -/
  rep : Option Reply := none
  wide : Bool := false
  deriving DecidableEq, Repr

/-- A remote window beside its registers: its waiting accesses, oldest first, and the error records that
have arrived since its last fence completed (R294). -/
structure Win where
  q : List Acc := []
  errs : Nat := 0
  deriving DecidableEq, Repr

/-- Host bridge beside its registers. -/
structure HostBridge where
  /-- Pending announcements and the CLK_FAB count of the oldest, per interrupt source (R304). -/
  irq : Sparse (Nat × Nat) := []
  /-- The link is trained, and configuration space (R284 to R286), by offset (Pcie.lean). -/
  link : Bool := false
  cfg : Sparse Nat := []
  /-- Posted writes that wait while posted credits are withheld, oldest first (R292). -/
  held : List HeldWrite := []
  /-- The remote windows (R291 to R294). -/
  wins : Sparse Win := []
  /-- TX queue that the round-robin service looks at first (R299). -/
  txNext : Nat := 0
  deriving DecidableEq, Repr

/-- A far-side context of an initiator window (R359). -/
structure Ctx where
  origin : Nat
  win : Nat
  dir : Nat
  /-- Next expected RSEQ, and the CLK_FAB count of the last REQ. -/
  next : Nat
  at_ : Nat
  deriving DecidableEq, Repr

/-- Ring logic beside its registers. -/
structure Ring where
  /-- Subscribers of this device's events (R362). -/
  subs : List Sub := []
  /-- BYP_CTL0-3 are asserted for an image request in stage 7 (R365). -/
  bypBoot : Bool := false
  /-- Contexts, least recently created first. -/
  ctxs : List Ctx := []
  /-- The answers of a probe are awaited (R355): answering hops per direction, ring heads that answered
  (direction, hop, tag), and the hops after which the own PROBE came back. -/
  probing : Bool := false
  ans : List (Nat × Nat) := []
  heads : List (Nat × Nat × Nat) := []
  back : Option Nat := none
  /-- EVENT, ERR and ANS frames that wait for an Eplen port, oldest first (R362, R363). -/
  sendQ : Sparse (List (EplenHdr × List Byte)) := []
  deriving DecidableEq, Repr

/-- A section of the image in plaintext (Table 13.3). -/
structure Section where
  ty : Nat
  dest : Nat
  count : Nat
  data : List Byte
  deriving DecidableEq, Repr

/-- The retained snapshot (R348). -/
structure Snap where
  source : Nat
  slot : Nat
  seq : Nat
  arv : Nat
  fw : Nat
  cfg : Nat
  sections : List Section
  deriving DecidableEq, Repr

/-- Reset sources, release sequence and the image in use, beside their registers. -/
structure Boot where
  /-- Sources asserted as levels (R308): supply monitors, PORST_N low, WRST_N low. -/
  po : Bool := false
  porst : Bool := false
  wrst : Bool := false
  /-- The debug enable shadow; false is its safe default, locked (R317). -/
  debugEn : Bool := false
  /-- Stages 7 and 8 are complete (R313). -/
  loaded : Bool := false
  tested : Bool := false
  /-- The image or snapshot applied in stage 7: its source (Table 12.6), SEQ, ARV, SNAP_OK, configuration
  sections in plaintext, and whether it was a full load. -/
  src : Nat := 0
  seq : Nat := 0
  arv : Nat := 0
  snapOk : Bool := false
  sections : List Section := []
  full : Bool := false
  /-- FW_PARAM items in force (R337), watchdog timeouts in ms (R311) and STAGE_MIB (R334). -/
  params : Sparse (List Byte) := []
  wdt : Nat × Nat := (0, 0)
  stageMib : Nat := 0
  /-- The retained snapshot (R348). -/
  snap : Option Snap := none
  /-- This release leaves SLEEP-RETAIN (R391). -/
  waking : Bool := false
  /-- The reset that began this release set FALLBACK (R349). -/
  fellBack : Bool := false
  /-- Copy in LPDDR5 of an image that a neighbour supplied (R371, R376). -/
  copy : Option (List Byte) := none
  /-- A request to the neighbours is open (R346). -/
  asking : Bool := false
  /-- Programs in the core memories of the control and the service pair (R333). -/
  fw : List (List Byte) := []
  /-- CLK_FAB count at the last failure of stage 7 (R346) and at the entry of stage 9 (R343). -/
  failedAt : Option Nat := none
  since : Option Nat := none
  /-- CLK_FAB cycles that the trial spent in RUN and RUN-LEAN before SLEEP-RETAIN (R391). -/
  ran : Nat := 0
  /-- A pair stays in reset because its firmware does not match FW_MEAS (R347). -/
  noFw : List Nat := []
  /-- The pad hold of Table 12.10: what each GPIO ball, and TIME_OUT under key 64, is held at (0 undriven, 1 low,
  2 high); none once stage 9 has released it (R441). -/
  gpioHold : Option (Sparse Nat) := none
  /-- SCAN_REFUSED of KLM_STATUS, the TAP instruction (R409), and the update stage of the boundary register, cell by cell
  (R411). -/
  scanRefused : Bool := false
  tapIr : Nat := 2
  bsr : Nat := 0
  deriving DecidableEq, Repr

/-- A flow of blocks toward the neighbour of one direction (R369, R370, R376). -/
structure Flow where
  /-- 0 none, 1 offered, 2 sending. -/
  state : Nat := 0
  /-- The flow serves the active image rather than the session's image (R376). -/
  serve : Bool := false
  session : Nat := 0
  /-- Blocks sent, and those of them not acknowledged, with the resends made. -/
  sent : List Nat := []
  open_ : List (Nat × Nat) := []
  deriving DecidableEq, Repr

/-- The update engine beside its registers. -/
structure Update where
  /-- Length and SHA-384 of the session's image (R366). -/
  len : Nat := 0
  hash : Nat := 0
  /-- Numbers of the blocks held; their bytes lie in the staging area, or here when staging in NOR. -/
  held : List Nat := []
  blocks : Sparse (List Byte) := []
  /-- The session was begun by LOAD here; otherwise the direction it is received from. -/
  here : Bool := false
  rxDir : Option Nat := none
  /-- Flow of blocks toward the neighbour of each direction (R369, R370, R376). -/
  flows : Sparse Flow := []
  /-- The active image as an IMG_REQ serves it. -/
  active : List Byte := []
  /-- First failure of a neighbour that this device recorded (R369, R370). -/
  nbrFail : Option Nat := none
  /-- The device votes STATE_REJECT although it is STAGED (R373). -/
  rejected : Bool := false
  /-- COMMIT is held (R373). -/
  commit : Bool := false
  /-- At the head: votes (tag of the device, state, status), tags of the devices that answered ARMED,
  whether ARM has been sent, and COMMITs sent. -/
  votes : List (Nat × Nat × Nat) := []
  armed : List Nat := []
  arming : Bool := false
  commits : Nat := 0
  deriving DecidableEq, Repr

/-- Power modes and governor beside their registers. -/
structure Power where
  /-- A SLEEP command is draining (R385). -/
  drain : Bool := false
  /-- A wake event arrived during an entry (R386). -/
  early : Bool := false
  /-- Wakes are refused until the die has cooled (R399). -/
  hot : Bool := false
  /-- Planes marked to wake as WITHDRAWN with cause 5 (R385). -/
  failA : Bool := false
  failB : Bool := false
  /-- Levels of PHYSLP_p, ports whose PHYWK_p a MAC still waits for, and ports whose missing
  acknowledgment is posted after the wake (R390). -/
  phySlp : Nat := 0
  phyWait : Nat := 0
  noAck : List Nat := []
  /-- Energy in the bucket, in µJ (R395). -/
  energy : Nat := 180000000
  /-- Milliseconds since the governor last changed its level, and since it last raised it. -/
  since : Option Nat := none
  raised : Option Nat := none
  /-- Ports and rods that RUN-LEAN holds down, and LPDDR5 in self-refresh (R384). -/
  leanPorts : Nat := 0
  leanRods : List Nat := []
  ddrSelf : Bool := false
  /-- EXT_OK before RUN-LEAN took LPDDR5 away. -/
  extWas : Bool := false
  deriving DecidableEq, Repr

/-- Who raises it: a meaning whose command carries operands that name no unit, register or message of
the table (no meaning of this model raises it; the type is the interface's). Safe. -/
inductive Fault where
  | badOperands
  deriving DecidableEq, Repr

/-- Why a command has no meaning. `notModelled` is raised by a dispatch arm only. Safe. -/
inductive Refusal where
  | notModelled (mnemonic : String)
  deriving DecidableEq, Repr

/-- The machine. -/
structure State where
  /-- Commands that wait, first in first out. -/
  pending : List Instr := []
  /-- The model's own counter for fresh free values (Config.lean). -/
  freeCtr : Nat := 0
  /-- Register fields (RegMap.lean), and the control and service pairs' own command register sets. -/
  regs : Sparse Nat := []
  /-- Table memory: key = table code * 2^20 + entry index; value = the entry's bits (R128, R129). -/
  tables : Sparse Nat := []
  /-- Live and frozen tallies by catalogue index (R416-R418). -/
  tly : Sparse Nat := []
  tlyFrozen : Sparse Nat := []
  /-- Event rings of the control and the service pair (R30). -/
  evCtl : List Event := []
  evSvc : List Event := []
  /-- What has left the block, oldest first. -/
  out : List Out := []
  /-- The data plane, the rods and the units below, each beside its registers. -/
  dp : DataPlane := {}
  rods : Sparse Rod := []
  saf : Saf := {}
  tb : TimeBase := {}
  key : KeyStore := {}
  meas : Measure := {}
  host : HostBridge := {}
  ring : Ring := {}
  boot : Boot := {}
  upd : Update := {}
  pwr : Power := {}
  /-- LPDDR5 contents, byte by byte, in the canonical form of Memory.wf; an unwritten byte reads 0 (log 50). -/
  ddr : List Host.Cell := []
  /-- Failed retrains of LPDDR5 in a row (R413). -/
  ddrFails : Nat := 0
  /-- A memory test that runs: algorithm, start and length in 64 KiB units, pattern (R414, R473). -/
  memTest : Option (Nat × Nat × Nat × Nat) := none
  /-- Fractions of a checked bit, in 1/256, per lane (R403). -/
  laneFrac : Sparse Nat := []
  /-- Latest mismatches of each locked lane checker, newest first: bits since the lock began (R403). -/
  laneMiss : Sparse (List Nat) := []
  /-- Record bytes written since the trigger (R424). -/
  trcPost : Nat := 0
  deriving DecidableEq, Repr

/-- The machine right after a power-on reset: stage 1 with the supply monitors still asserting it (R308,
R313), no option loaded, every field at its reset value (R10, R312). BKP_RST_CAUSE shows the power-on cause
(R324) and the thermal bucket is full (R395); both are reset values of their fields. The one listed field
is GLB_RST_STAT.STAGE, at offset 0x100, bit 0 (log 60) (DESIGN CHOICE, log 2) (DESIGN CHOICE, log 4). -/
def State.reset : State := { regs := [(0x100 * 32, 1)], boot := { po := true, gpioHold := some [] } }

end Sys2Proof.Machine
end

