-- ==== Sys2Proof/Machine/Tally.lean ====
section
/-! DEFINITION. The tally catalogue (R416, Table 16.5): the 20-bit index of every tally that a
meaning increments, `T.<family><Member>`, members numbered from 0 in the order of the chapters'
tally tables. -/

namespace Sys2Proof.Machine

/-- ROD family (Table 2.23). -/
def T.rod (n m : Nat) : Nat := n * 29 + m
abbrev T.rodRxOk (n : Nat) := T.rod n 0
abbrev T.rodTxOk (n : Nat) := T.rod n 1
abbrev T.rodRxMiss (n : Nat) := T.rod n 2
abbrev T.rodRxFormat (n : Nat) := T.rod n 3
abbrev T.rodRxOverlen (n : Nat) := T.rod n 4
abbrev T.rodTxOverlen (n : Nat) := T.rod n 5
abbrev T.rodTxFormat (n : Nat) := T.rod n 6
abbrev T.rodNotActive (n : Nat) := T.rod n 7
abbrev T.rodFlushed (n : Nat) := T.rod n 8
abbrev T.rodArbLoss (n : Nat) := T.rod n 9
abbrev T.rodLaunchLate (n : Nat) := T.rod n 10
abbrev T.rodLaunchRetry (n : Nat) := T.rod n 11
abbrev T.rodLaunchFull (n : Nat) := T.rod n 12
abbrev T.rodBusOff (n : Nat) := T.rod n 13
/-- ROD_ERR_… of LEC code 1-11. -/
abbrev T.rodErr (n lec : Nat) := T.rod n (13 + lec)
abbrev T.rodXlDataErr (n : Nat) := T.rod n 25
abbrev T.rodTdcSat (n : Nat) := T.rod n 26
abbrev T.rodBusy (n : Nat) := T.rod n 27
abbrev T.rodStateReject (n : Nat) := T.rod n 28
/-- CRY device family (Table 3.13): MISS, KEY_MISMATCH, SINK, LOOP, REC_BAD. -/
def T.cry (m : Nat) : Nat := 0x01000 + m
abbrev T.cryNotime (rod : Nat) : Nat := 0x02000 + rod
/-- CRY talker: MSGS, FRAMES, FORMAT, OVERLEN, NOBEAD, NOCTX. -/
def T.cryTalk (c m : Nat) : Nat := 0x03000 + c * 6 + m
/-- CRY listener: AVTP_BAD, SEQ_GAP, MALFORMED, UNSUPPORTED, BADMSG, LKEY_MISS. -/
def T.cryListen (c m : Nat) : Nat := 0x04000 + c * 6 + m
/-- FWD port (Table 4.19). -/
def T.fwd (p m : Nat) : Nat := 0x05000 + p * 17 + m
/-- FWD device: GROUP_INVALID, LEARN_NOROOM, LEARN_QFULL, LEARN_HELD, AGED. -/
def T.fwdDev (m : Nat) : Nat := 0x06000 + m
/-- TBL: OK, BUSY, NOT_FOUND, NO_ROOM, STATE_REJECT, INTEGRITY_FAIL, TIMEOUT per requester. -/
def T.tbl (r m : Nat) : Nat := 0x07000 + r * 7 + m
abbrev T.fwlRule (i : Nat) : Nat := 0x08000 + i
/-- FWL port: DROP, REDIRECT, DEFAULT_FWD, DEFAULT_DROP, BYPASS, SHED_EVAL. -/
def T.fwl (p m : Nat) : Nat := 0x0A000 + p * 6 + m
abbrev T.fwlMeter (i : Nat) : Nat := 0x0B000 + i
/-- FWL device: FLOW_NEW, FLOW_INVALID, FLOW_NOROOM, FLOW_EXPIRED, CAD_EARLY, CAD_MISSING, CAD_LATE. -/
def T.fwlDev (m : Nat) : Nat := 0x0C000 + m
abbrev T.fwlSlot (i : Nat) : Nat := 0x0D000 + i
/-- FWL rod: CAD_EARLY, CAD_MISSING, CAD_LATE. -/
def T.fwlRod (n m : Nat) : Nat := 0x0E000 + n * 3 + m
/-- STR stream (Table 6.11). -/
def T.str (i m : Nat) : Nat := 0x10000 + i * 12 + m
/-- STR gate: GATE_DROP, ADMIN_LOCKED. -/
def T.strGate (g m : Nat) : Nat := 0x28000 + g * 2 + m
/-- STR meter: METER_DROP, YELLOW_DROP, GREEN, YELLOW. -/
def T.strMeter (i m : Nat) : Nat := 0x29000 + i * 4 + m
/-- SCH class: TX, TOO_LONG, OVERRUN, ATS_DROP. -/
def T.schClass (p c m : Nat) : Nat := 0x2A000 + (8 * p + c) * 4 + m
/-- SCH port: ADMIN_LOCKED, SWAP, MM_FRAG_TX, MM_FRAG_RX, MM_HOLD, MM_ASSY_OK, MM_ASSY_ERR, MM_SMD_ERR,
MM_VERIFY_FAIL. -/
def T.sch (p m : Nat) : Nat := 0x2B000 + p * 9 + m
abbrev T.schRodAts (n q : Nat) : Nat := 0x2C000 + 8 * n + q
/-- TIM (R227): STEP_APPLIED, STEP_REFUSED, ONESTEP_ERR, TS2_OVERFLOW, TS2_POP, TS2_ACK_MISMATCH,
IN_OVERFLOW. -/
def T.tim (m : Nat) : Nat := 0x2D000 + m
/-- SAF device (R253). -/
def T.saf (m : Nat) : Nat := 0x2E000 + m
abbrev T.safPair (i : Nat) : Nat := 0x2F000 + i
/-- KEY: one member per status code, per requester. -/
def T.key (r m : Nat) : Nat := 0x30000 + r * 12 + m
/-- MSEC (R283). -/
def T.msec (p m : Nat) : Nat := 0x31000 + p * 10 + m
/-- DMA TX: OK, CLAMP, ZERO, SHORT, OVERSIZE, DB_CLAMP, CFG_LOCKED, Q_ERROR. -/
def T.dmaTx (q m : Nat) : Nat := 0x32000 + q * 8 + m
/-- DMA RX: OK, ZERO, TOO_BIG, NO_DESC, DB_CLAMP, CFG_LOCKED, Q_ERROR. -/
def T.dmaRx (q m : Nat) : Nat := 0x33000 + q * 7 + m
/-- DMA device: BAR_PARTIAL, BAR_LONG, B2_DROP. -/
def T.dma (m : Nat) : Nat := 0x34000 + m
/-- RNG window: REMOTE_ERR, LATE_ANSWER. -/
def T.rngWin (h m : Nat) : Nat := 0x35000 + h * 2 + m
/-- RNG device: RNG_REL_LOST, then the list of R378. -/
def T.rng (m : Nat) : Nat := 0x36000 + m
def T.rngPort (p m : Nat) : Nat := 0x37000 + p * 2 + m
def T.img (m : Nat) : Nat := 0x38000 + m
/-- PWR (R401), then PWR_CMD statuses. -/
def T.pwr (m : Nat) : Nat := 0x39000 + m
/-- UPD: one member per status code. -/
def T.upd (m : Nat) : Nat := 0x3A000 + m
/-- GLB: HOLD_DROP, ABSENT_DROP, ECC_CE, EVT_OVFL for control, service and host. -/
def T.glb (m : Nat) : Nat := 0x3B000 + m
/-- BUF: OVERSIZE, CAP_SKIP, EXHAUST, STOMP, RX_BAD, BAD_DROP. -/
def T.buf (p m : Nat) : Nat := 0x3C000 + p * 6 + m
/-- TRC (R422). -/
def T.trc (m : Nat) : Nat := 0x3D000 + m

/-- TBL tally member of a status code (Table 4.19). -/
def T.tblMember : Nat → Option Nat
  | 0 => some 0
  | 1 => some 1
  | 2 => some 2
  | 3 => some 3
  | 4 => some 4
  | 5 => some 5
  | 7 => some 6
  | _ => none

end Sys2Proof.Machine
end

