-- ==== Sys2Proof/Machine/Ops.lean ====
section
/-! DEFINITION. The named operations over the state that every meaning uses: register fields, table
entries, clocks, tallies, events, presence of units, items and beads, queues and references. -/

namespace Sys2Proof.Machine

/-! ### Iteration -/

/-- Do `f` for each `n` below `k`, in rising order. -/
def State.forN (s : State) (k : Nat) (f : Nat → State → State) : State :=
  (List.range k).foldl (fun s i => f i s) s

/-! ### Register fields -/

/-- Value of a register field. -/
def State.getF (s : State) (f : Fld) : Nat := sget fieldReset s.regs f.key

/-- Store a register field, cut to its width. -/
def State.setF (s : State) (f : Fld) (v : Nat) : State :=
  { s with regs := sput fieldReset s.regs f.key (v % 2 ^ f.w) }

/-- A one-bit field as a Bool. -/
def State.isF (s : State) (f : Fld) : Bool := s.getF f == 1

/-- Store a one-bit field. -/
def State.setB (s : State) (f : Fld) (b : Bool) : State := s.setF f (b2n b)

/-- Add to a field, saturating at its width. -/
def State.satF (s : State) (f : Fld) (n : Nat) : State :=
  s.setF f (satAdd (2 ^ f.w - 1) (s.getF f) n)

/-- Add 1 to a field modulo its width. -/
def State.incF (s : State) (f : Fld) : State := s.setF f (s.getF f + 1)

/-- Set bit `b` of a field. -/
def State.orF (s : State) (f : Fld) (b : Nat) : State :=
  if bit (s.getF f) b then s else s.setF f (s.getF f + 2 ^ b)

/-- Clear bit `b` of a field. -/
def State.clrF (s : State) (f : Fld) (b : Nat) : State :=
  if bit (s.getF f) b then s.setF f (s.getF f - 2 ^ b) else s

/-- The field of requester `r`'s own command register set: 2 is the host's, in BAR0; 0 and 1 are the
control and service pairs' sets, which do not appear in BAR0 (R25, R263). -/
def reqF (r : Nat) (f : Fld) : Fld :=
  if r = 2 then f else ⟨f.off + ownStep * (r + 1), f.lo, f.w⟩

/-! ### Table entries (R128) -/

/-- Key of entry `i` of table `code`. -/
def tkey (code i : Nat) : Nat := code * 2 ^ 20 + i

/-- The bits of an entry; an unwritten entry is all zero (R129). -/
def State.entry (s : State) (code i : Nat) : Nat := sget (fun _ => 0) s.tables (tkey code i)

/-- Write the bits of an entry. -/
def State.setEntry (s : State) (code i v : Nat) : State :=
  { s with tables := sput (fun _ => 0) s.tables (tkey code i) v }

/-- Bits `[lo + w - 1 : lo]` of 64-bit word `word` of an entry. -/
def ew (e word lo w : Nat) : Nat := bits e (64 * word + lo) w

/-- Replace those bits. -/
def setEw (e word lo w v : Nat) : Nat := setBits e (64 * word + lo) w v

abbrev tMac : Nat := 0
abbrev tVlan : Nat := 1
abbrev tGroup : Nat := 2
abbrev tRodDirect : Nat := 3
abbrev tRodHashed : Nat := 4
abbrev tRodOverflow : Nat := 5
abbrev tCarry : Nat := 6
abbrev tTarget : Nat := 7
abbrev tTalker : Nat := 8
abbrev tListener : Nat := 9
abbrev tLkey : Nat := 10
abbrev tRule : Nat := 11
abbrev tFlow : Nat := 12
abbrev tStream : Nat := 13
abbrev tSa : Nat := 14
abbrev tTime : Nat := 15

/-! ### Presence of ports and rods (R2, R5) -/

/-- Ethernet port `p` is present by fuse and not retired. -/
def State.ethPresent (s : State) (p : Nat) : Bool :=
  p < 32 && bit (s.getF F.GLB_PRESENT_PORT_PORTS) p && !bit (s.getF F.GLB_RETIRED_PORT_PORTS) p

/-- Rod `n` is present by fuse and not retired. -/
def State.rodPresent (s : State) (n : Nat) : Bool :=
  n < 128 && bit (s.getF (F.GLB_PRESENT_ROD_RODS (n / 32))) (n % 32)
    && !bit (s.getF (F.GLB_RETIRED_ROD_RODS (n / 32))) (n % 32)

/-- The bitmap of the ports below 36 that satisfy a test. -/
def bitmapOf (f : Nat → Bool) : Nat :=
  (List.range 36).foldl (fun n p => if f p then n + 2 ^ p else n) 0

/-- Ports of a bitmap that are present by fuse and not retired (R3), and the internal ports: those of a core pair
keep their bits while the pair is down (DEDUCED, log 15). -/
def State.portMask (s : State) : Nat := bitmapOf (fun p => decide (32 ≤ p) || s.ethPresent p)

/-- An entry as it is read and looked up: in the port bitmap of a VLAN or multicast group the bits of absent ports
read zero (R3, R109). -/
def State.seenEntry (s : State) (code i : Nat) : Nat :=
  let e := s.entry code i
  if code = tVlan ∨ code = tGroup then e - bits e 0 36 + (bits e 0 36 &&& s.portMask) else e

/-! ### Tallies (R31, R415, R416) -/

/-- The families of the tally catalogue (Table 16.5): BASE, members N, kind of instance, instances.
Kinds: 0 no unit, 1 rod, 2 port index, 3 Ethernet port, 4 port class (8 per port), 5 rod queue
(8 per rod). -/
def tallyFamilies : List (Nat × Nat × Nat × Nat) :=
  [(0x00000, 29, 1, 128), (0x01000, 5, 0, 1), (0x02000, 1, 1, 128), (0x03000, 6, 0, 256),
   (0x04000, 6, 0, 256), (0x05000, 17, 2, 192), (0x06000, 5, 0, 1), (0x07000, 7, 0, 3),
   (0x08000, 1, 0, 8192), (0x0A000, 6, 2, 192), (0x0B000, 1, 0, 1024), (0x0C000, 7, 0, 1),
   (0x0D000, 1, 0, 16), (0x0E000, 3, 1, 128), (0x10000, 12, 0, 8192), (0x28000, 2, 0, 64),
   (0x29000, 4, 0, 1024), (0x2A000, 4, 4, 256), (0x2B000, 9, 3, 32), (0x2C000, 1, 5, 1024)] ++
  [(0x2D000, 7, 0, 1), (0x2E000, 10, 0, 1), (0x2F000, 1, 0, 2), (0x30000, 12, 0, 3),
   (0x31000, 10, 3, 16), (0x32000, 8, 0, 64), (0x33000, 7, 0, 64), (0x34000, 3, 0, 1),
   (0x35000, 2, 0, 16), (0x36000, 7, 0, 1), (0x37000, 2, 3, 8), (0x38000, 2, 0, 1),
   (0x39000, 15, 0, 1), (0x3A000, 12, 0, 1), (0x3B000, 6, 0, 1), (0x3C000, 6, 2, 192),
   (0x3D000, 5, 0, 1)]

/-- The unit of a tally counts: absent and retired units and reserved indices do not (R415)
(DEDUCED, log 11). -/
def State.unitCounts (s : State) (kind u : Nat) : Bool :=
  match kind with
  | 0 => true
  | 1 => s.rodPresent u
  | 2 => if u < 32 then s.ethPresent u else if u < 36 then true
         else decide (64 ≤ u) && s.rodPresent (u - 64)
  | 3 => s.ethPresent u
  | 4 => s.ethPresent (u / 8)
  | _ => s.rodPresent (u / 8)

/-- Index `i` is in the catalogue and its unit counts (R415, R416) (DEDUCED, log 11). -/
def State.tallyCounts (s : State) (i : Nat) : Bool :=
  tallyFamilies.any (fun f => decide (f.1 ≤ i) && decide (i < f.1 + f.2.1 * f.2.2.2)
    && s.unitCounts f.2.2.1 ((i - f.1) / f.2.1))

/-- Add `n` to a tally, 64 bits wide (Table 16.6, R415). -/
def State.tallyN (s : State) (i n : Nat) : State :=
  if s.tallyCounts i then
    { s with tly := sput (fun _ => 0) s.tly i ((sget (fun _ => 0) s.tly i + n) % 2 ^ 64) }
  else s

/-- Increment a tally. -/
def State.tally (s : State) (i : Nat) : State := s.tallyN i 1

/-- Increment each tally of a list. -/
def State.tallies (s : State) (l : List Nat) : State := l.foldl State.tally s

/-- The live value of a tally. -/
def State.tallyOf (s : State) (i : Nat) : Nat := sget (fun _ => 0) s.tly i

/-! ### Clocks (R204, R186, R221) -/

/-- Whole working-clock nanoseconds since its zero. -/
def State.nowNs (s : State) : Nat := s.tb.clk / 2 ^ 40

/-- N32: the low 32 bits of working-clock nanoseconds (R204). -/
def State.now32 (s : State) : Nat := s.nowNs % 2 ^ 32

/-- N32 of a working-clock time. -/
def t32 (t : Nat) : Nat := t / 2 ^ 40 % 2 ^ 32

/-- Seconds, nanoseconds and 16-bit fraction of a working-clock time. -/
def tSec (t : Nat) : Nat := t / 2 ^ 40 / 1000000000
def tNs (t : Nat) : Nat := t / 2 ^ 40 % 1000000000
def tFrac (t : Nat) : Nat := t / 2 ^ 24 % 2 ^ 16

/-- Working-clock time of seconds and nanoseconds. -/
def tOf (sec ns : Nat) : Nat := (sec * 1000000000 + ns) * 2 ^ 40

/-- Extend an N32 value to 64-bit working-clock nanoseconds against a full time (R221). -/
def extend32 (ts now : Nat) : Nat :=
  let d := (ts + 2 ^ 32 - now % 2 ^ 32) % 2 ^ 32
  if d < 2 ^ 31 then now + d else now - (2 ^ 32 - d)

/-- Modulus of the working clock: SEC is 48 bits. -/
abbrev clkTop : Nat := 2 ^ 48 * 1000000000 * 2 ^ 40

/-- The working clock as it stood `ago` units of 2^-16 ns before now: a step applied since then does not count, one
in the same CLK_FAB cycle does (R206, R215). -/
def State.clkAgo (s : State) (ago : Nat) : Nat :=
  let since := (s.tb.steps.filter (fun e => decide ((s.tb.fab - e.1) * 5 * 2 ^ 38 < ago * 2 ^ 24))).foldl
    (fun (n : Int) e => n + e.2) 0
  (((s.tb.clk : Int) - (ago * 2 ^ 24 : Nat) - since) % (clkTop : Int)).toNat

/-- Shaping time in whole nanoseconds (R186). -/
def State.shapeNs (s : State) : Nat := s.tb.fab * 5 / 4

/-- Shaping time in 2^-40 ns. -/
def State.shape40 (s : State) : Nat := s.tb.fab * 5 * 2 ^ 38

/-- CLK_FAB cycles in a millisecond and in a second (R34). -/
abbrev cycMs : Nat := 800000
abbrev cycS : Nat := 800000000

/-! ### Outward effects -/

/-- Append an outward effect (DEDUCED, log 9). -/
def State.emit (s : State) (o : Out) : State := { s with out := s.out ++ [o] }

/-! ### FW_PARAM items in force (R337) -/

/-- Bytes of an item. -/
def State.paramBytes (s : State) (id : Nat) : Option (List Byte) :=
  match sget (fun _ => []) s.boot.params id with
  | [] => none
  | bs => some bs

/-- An item as a little-endian number, or its default. -/
def State.param (s : State) (id dflt : Nat) : Nat := ((s.paramBytes id).map leNat).getD dflt

/-! ### Free values -/

/-- The model's counter for the next fresh free value, and the state that has used it
(DESIGN CHOICE, log 3). -/
def State.fresh (s : State) : Nat × State := (s.freeCtr, { s with freeCtr := s.freeCtr + 1 })

/-! ### Interrupts, triggers and events -/

/-- One more announcement of interrupt source `src` is pending (R304) (DEDUCED, log 87). -/
def State.announce (s : State) (src : Nat) : State :=
  let old := sget (fun _ => (0, 0)) s.host.irq src
  let new := (old.1 + 1, if old.1 = 0 then s.tb.fab else old.2)
  { s with host := { s.host with irq := sput (fun _ => (0, 0)) s.host.irq src new } }

/-- Deliver an event into the host event ring in host memory (R305), or count the loss (R30). -/
def State.hostEvent (s : State) (e : Event) : State :=
  let head := s.getF F.DMA_EVR_HEAD_HEAD
  let tail := s.getF F.DMA_EVR_TAIL_TAIL
  if s.isF F.DMA_EVR_CFG_EN && (head + 2 ^ 16 - tail) % 2 ^ 16 != 1024 then
    let base := s.getF F.DMA_EVR_BASE_LO_BASE * 2 ^ 14 + s.getF F.DMA_EVR_BASE_HI_BASE * 2 ^ 32
    let phase := 1 - head / 1024 % 2
    let w0 := e.code + e.block * 2 ^ 16 + e.hop * 2 ^ 24 + phase * 2 ^ 31
    let s := s.emit (.hostWrite (base + head % 1024 * 16)
      (leBytes 4 w0 ++ leBytes 4 e.n32 ++ leBytes 8 e.payload) false)
    (s.setF F.DMA_EVR_HEAD_HEAD (head + 1)).announce 128
  else s.tally (T.glb 5)

/-- This device's 64-bit tag (RNG_SELF_TAG). -/
def State.selfTag (s : State) : Nat :=
  s.getF F.RNG_SELF_TAG_LO_TAG + s.getF F.RNG_SELF_TAG_HI_TAG * 2 ^ 32

/-- The B port that is direction `d` of the Eplen pair (R352). -/
def State.eplenPort (s : State) (d : Nat) : Nat := 2 * s.getF F.RNG_STAT_EPLEN_PAIR + d % 2

/-- Ring-head strap bit (R321). -/
def State.isHead (s : State) : Bool := bit (s.getF F.GLB_STRAP_CODE) 1

/-- Header of an Eplen frame that this device originates (Table 14.2). -/
def State.eplenHdr (s : State) (msg dir left : Nat) : EplenHdr :=
  { msg := msg, dir := dir, head := s.isHead, hopsLeft := left, hopsDone := 0, origin := s.selfTag }

/-- Core pair `i` (0 control, 1 service) runs its firmware: in lockstep or in debug split (R29), after stage
9 has been entered, and not held in reset for want of firmware (R347). -/
def State.pairUp (s : State) (i : Nat) : Bool :=
  let st := s.getF (F.SAF_PAIR_STAT_STATE i)
  (st == 1 || st == 4) && s.getF F.GLB_RST_STAT_STAGE == 9 && !s.boot.noFw.contains i

/-- Key of the class queue `cls` of port index `p`. -/
def qkey (p cls : Nat) : Nat := 16 * p + cls

/-- The Eplen port `p` can take a frame of the control pair at once: its link is up, it sends nothing, and nothing waits in
its class 6 (R356). -/
def State.eplenFree (s : State) (p : Nat) : Bool :=
  s.isF (F.PRT_MAC_STAT_LINK p) && (sget (fun _ => none) s.dp.tx p).isNone
    && (sget (fun _ => []) s.dp.queues (qkey p 6)).isEmpty

/-- Frames that wait for the Eplen port `p`. -/
def State.sendQ (s : State) (p : Nat) : List (EplenHdr × List Byte) := sget (fun _ => []) s.ring.sendQ p
def State.setSendQ (s : State) (p : Nat) (q : List (EplenHdr × List Byte)) : State :=
  { s with ring := { s.ring with sendQ := sput (fun _ => []) s.ring.sendQ p q } }

/-- EVENT frames that wait toward one subscriber (R362). -/
def eventsToward (h : EplenHdr) (q : List (EplenHdr × List Byte)) : Nat :=
  (q.filter (fun e => e.1.msg == 0x20 && e.1.dir == h.dir && e.1.hopsLeft == h.hopsLeft)).length

/-- An EVENT, ERR or ANS frame leaves by the queue of its port, in the order of production (R363); an EVENT for which 64
wait already toward its subscriber is dropped (R362) (DESIGN CHOICE, log 125). -/
def State.sendEplen (s : State) (p : Nat) (h : EplenHdr) (body : List Byte) : State :=
  let q := s.sendQ p
  if q.isEmpty && s.eplenFree p then s.emit (.eplen p h body)
  else if h.msg = 0x20 ∧ 64 ≤ eventsToward h q then s.tally (T.rng 5)
  else s.setSendQ p (q ++ [(h, body)])

/-- What waits for port `p` leaves once the port can take it. -/
def State.drainEplen (s : State) (p : Nat) : State :=
  if s.eplenFree p then ((s.sendQ p).foldl (fun s e => s.emit (.eplen p e.1 e.2)) s).setSendQ p [] else s

/-- Send one EVENT frame to each subscriber (R362, Table 14.3), answering with HOPS_LEFT equal to the
distance the subscription travelled and the inverse direction (R357), while the control pair runs (R249) (DESIGN CHOICE,
log 71). -/
def State.relayEvent (s : State) (e : Event) : State :=
  if !s.pairUp 0 then s
  else s.ring.subs.foldl (fun s sub =>
    s.sendEplen (s.eplenPort sub.port) (s.eplenHdr 0x20 (1 - sub.dir) sub.hops)
      (beBytes 2 e.code ++ beBytes 1 e.block ++ beBytes 4 e.n32 ++ beBytes 8 e.payload)) s

/-- Post an event to its three readers without looking at trace triggers (R30) (DEDUCED, log 33). The spec names no command
by which a pair takes an event out of its ring: the rings of the pairs are emptied by a warm reset only (DESIGN CHOICE,
log 118). -/
def State.postRaw (s : State) (e : Event) : State :=
  let s := if s.evCtl.length < 1024 then { s with evCtl := s.evCtl ++ [e] } else s.tally (T.glb 3)
  let s := if s.evSvc.length < 1024 then { s with evSvc := s.evSvc ++ [e] } else s.tally (T.glb 4)
  (s.hostEvent e).relayEvent e

/-- The reference that the trace recorder takes next, with its class: port 35 is served from class 7 down (R181). -/
def State.traceHead (s : State) : Option (Nat × QRef) :=
  [7, 6, 5, 4, 3, 2, 1, 0].findSome? (fun c =>
    ((sget (fun _ => []) s.dp.queues (qkey 35 c)).head?).map (fun r => (c, r)))

/-- SEQ of the next record: of the reference that waits first, or the next one that is given (R423). -/
def State.nextSeq (s : State) : Nat :=
  match s.traceHead with
  | some (_, r) => r.traceSeq
  | none => s.getF F.TRC_SEQ_SEQ

/-- Fire trigger `k` of the trace recorder (4 is the software trigger): the first trigger in CAPTURING
moves to POST, every other one is tallied (R423) (DESIGN CHOICE, log 32) (DEDUCED, log 33). -/
def State.fireTrigger (s : State) (k : Nat) : State :=
  if s.getF F.TRC_STAT_STATE = 1 then
    let s := { s.setF F.TRC_STAT_STATE 2 with trcPost := 0 }
    let s := if k < 4 then (s.setF F.TRC_STAT_TRIG_K k).setB F.TRC_STAT_TRIG_SW false
      else s.setB F.TRC_STAT_TRIG_SW true
    let s := s.setF F.TRC_TRIG_SEQ_SEQ s.nextSeq
    let s := s.setF F.TRC_TRIG_PTR_LO_PTR (s.getF F.TRC_WR_PTR_LO_PTR)
    let s := s.setF F.TRC_TRIG_PTR_HI_PTR (s.getF F.TRC_WR_PTR_HI_PTR)
    let s := s.setF F.TRC_TRIG_N32_N32 s.now32
    let (n, s) := s.fresh
    s.postRaw ⟨0x30, 3, 0, s.now32, (Config.free n).toNat⟩
  else s.tally (T.trc 4)

/-- The event triggers (KIND 1) that name an event, lowest first. -/
def State.eventTriggers (s : State) (block code : Nat) : List Nat :=
  (List.range 4).filter (fun k => s.getF (F.TRC_TRIG_W0_KIND k) == 1
    && s.getF (F.TRC_TRIG_W0_BLOCK k) == block && s.getF (F.TRC_TRIG_W0_CODE k) == code)

/-- Post an event of `block` (R30, R478), firing the trace triggers that name it (R423)
(DEDUCED, log 33). -/
def State.post (s : State) (block code payload : Nat) : State :=
  let s := s.postRaw ⟨block, code, 0, s.now32, payload⟩
  (s.eventTriggers block code).foldl State.fireTrigger s

/-- Post an event whose payload the spec does not state: the payload is a free value (log 32). -/
def State.postFree (s : State) (block code : Nat) : State :=
  let (n, s) := s.fresh
  s.post block code (Config.free n).toNat

/-! ### Presence (R2, R3, R5, R20, R29) -/

/-- Port index `p` of Table 0.5 can take part in decisions (R3, R20, R29). -/
def State.present (s : State) (p : Nat) : Bool :=
  if p < 32 then s.ethPresent p
  else if p = 32 then s.pairUp 0
  else if p = 33 then s.pairUp 1
  else if p < 36 then true
  else if p < 64 then false
  else s.rodPresent (p - 64)

/-- The unit a register belongs to is there (R2, R5, R469). -/
def State.unitThere (s : State) (u : UnitOf) (i : Nat) : Bool :=
  match u with
  | .none => true
  | .eth first => s.ethPresent (first + i)
  | .rod => s.rodPresent i
  | .portIndex => if 32 ≤ i ∧ i < 36 then true else s.present i

/-- The device is in service: stage 9 has been entered (R313, R316). -/
def State.serving (s : State) : Bool := s.getF F.GLB_RST_STAT_STAGE == 9

/-! ### Beads (R43 to R46) -/

/-- Default reserve of a port, in beads (Table 1.10); key 1000 and above is a class cap. -/
def beadDefault (k : Nat) : Nat := if 1000 ≤ k then 8192 else if k < 36 then 512 else 16

/-- Reserve of port `p`. -/
def State.reserve (s : State) (p : Nat) : Nat := sget beadDefault s.dp.beadCfg p

/-- Cap of a class queue, in beads. -/
def State.cap (s : State) (p cls : Nat) : Nat := sget beadDefault s.dp.beadCfg (1000 + 16 * p + cls)

/-- The shared pool: what remains of the 65,536 beads, less those removed from the free list (Table 9.9), after the
reserves of present ports (R46). -/
def State.sharedPool (s : State) : Nat :=
  65536 - s.dp.lostBeads - (List.range 192).foldl (fun n p =>
    if s.present p && !(decide (36 ≤ p) && decide (p < 64)) then n + s.reserve p else n) 0

/-- Beads of an item of length `l` (R43). -/
def beadsOf (l : Nat) : Nat := ceilDiv l 256

/-- Claim `n` beads for an item of ingress port `p`: first its unused reserve, then the shared pool
(R45). Answers how many came from each, or none when they do not suffice. -/
def State.claim (s : State) (p n : Nat) : Option (Nat × Nat × State) :=
  let used := sget (fun _ => 0) s.dp.resUsed p
  let free := if s.present p then s.reserve p - used else 0
  let r := min n free
  let sh := n - r
  if s.dp.shUsed + sh ≤ s.sharedPool then
    some (r, sh, { s with dp := { s.dp with
      resUsed := sput (fun _ => 0) s.dp.resUsed p (used + r), shUsed := s.dp.shUsed + sh } })
  else none

/-- Return beads to the free list. -/
def State.freeBeads (s : State) (p r sh : Nat) : State :=
  { s with dp := { s.dp with
    resUsed := sput (fun _ => 0) s.dp.resUsed p (sget (fun _ => 0) s.dp.resUsed p - r)
    shUsed := s.dp.shUsed - sh } }

/-! ### Items (R44) -/

/-- The item with an id. -/
def State.item (s : State) (i : Nat) : Option Item := sget (fun _ => none) s.dp.items i

/-- Store an item. -/
def State.setItem (s : State) (i : Nat) (it : Option Item) : State :=
  { s with dp := { s.dp with items := sput (fun _ => none) s.dp.items i it } }

/-- Add a new item; answers its id. -/
def State.newItem (s : State) (it : Item) : Nat × State :=
  let i := s.dp.nextItem
  (i, ({ s with dp := { s.dp with nextItem := i + 1 } }).setItem i (some it))

/-- Beads that fail their test as item `i` releases them leave the free list (Table 9.9). -/
def State.testBeads (s : State) (i : Nat) : State :=
  if s.dp.badBead.contains i then
    { s with dp := { s.dp with
      lostBeads := s.dp.lostBeads + s.dp.badBead.count i, badBead := s.dp.badBead.filter (· != i) } }
  else s

/-- Discard an item and return its beads. -/
def State.dropItem (s : State) (i : Nat) : State :=
  match s.item i with
  | none => s
  | some it => ((s.freeBeads it.ingress it.resBeads it.shBeads).setItem i none).testBeads i

/-- One more destination holds a reference (R44). -/
def State.addRef (s : State) (i : Nat) : State :=
  match s.item i with
  | none => s
  | some it => s.setItem i (some { it with refs := it.refs + 1 })

/-- A destination has finished: the beads return when the count reaches zero (R44). -/
def State.release (s : State) (i : Nat) : State :=
  match s.item i with
  | none => s
  | some it => if it.refs ≤ 1 then s.dropItem i else s.setItem i (some { it with refs := it.refs - 1 })

/-- Length L of an item (R43): frame with FCS, or rod record. -/
def Item.len (it : Item) : Nat := it.bytes.length

/-! ### Queues -/

/-- A class queue, oldest first. -/
def State.queue (s : State) (p cls : Nat) : List QRef := sget (fun _ => []) s.dp.queues (qkey p cls)

/-- Store a class queue. -/
def State.setQueue (s : State) (p cls : Nat) (q : List QRef) : State :=
  { s with dp := { s.dp with queues := sput (fun _ => []) s.dp.queues (qkey p cls) q } }

/-- Beads that a class queue holds (R45). -/
def State.queueBeads (s : State) (p cls : Nat) : Nat :=
  (s.queue p cls).foldl (fun n r => n + match s.item r.item with
    | none => 0
    | some it => beadsOf it.len) 0

/-- Scheduler state of a class queue. -/
def State.classSt (s : State) (p cls : Nat) : ClassSt :=
  sget (fun _ => {}) s.dp.classes (qkey p cls)

/-- Store the scheduler state of a class queue. -/
def State.setClassSt (s : State) (p cls : Nat) (c : ClassSt) : State :=
  { s with dp := { s.dp with classes := sput (fun _ => {}) s.dp.classes (qkey p cls) c } }

/-! ### Ring bypass (R364, R365) -/

/-- Port pairs with both B ports present: BYP_CTL of any other pair is driven low (R352, Table 17.10). -/
def State.pairsThere (s : State) : Nat :=
  (List.range 4).foldl (fun n k =>
    if s.ethPresent (2 * k) && s.ethPresent (2 * k + 1) then n + 2 ^ k else n) 0

/-- A plane is in service (Table 9.5). One in its self-check still counts, unless it was rejoining
(DEDUCED, log 30). -/
def State.planeServes (s : State) (b : Bool) : Bool :=
  let st := s.getF (if b then F.SAF_PLANE_STAT_STATE_B else F.SAF_PLANE_STAT_STATE_A)
  st == 1 || (st == 2 && !(if b then s.saf.rejB else s.saf.rejA))

/-- The BYP_CTL outputs that the conditions of R364 and R365 assert. -/
def State.bypLevel (s : State) : Nat :=
  if s.ring.bypBoot then s.pairsThere
  else if s.serving && !s.isF F.GLB_RST_STAT_FWD_HELD && decide (s.getF F.PWR_MODE_MODE ≤ 1)
      && !s.pwr.drain && (s.planeServes false || s.planeServes true) then s.getF F.RNG_BYP_PAIRS &&& s.pairsThere
  else 0

/-- Drive the BYP_CTL outputs anew; a release records its cause (DESIGN CHOICE, log 30). -/
def State.bypass (s : State) (cause : Nat) : State :=
  let old := s.getF F.RNG_BYP_LEVEL
  let new := s.bypLevel
  let s := s.setF F.RNG_BYP_LEVEL new
  if (bitList old 4).any (fun k => !bit new k) then s.setF F.RNG_BYP_CAUSE cause else s

/-- Discard every item queued at CPU port `32 + i`, each a drop for an absent destination (R29). -/
def State.dropCpuQueues (s : State) (i : Nat) : State :=
  s.forN 8 (fun c s =>
    let q := s.queue (32 + i) c
    (q.foldl (fun s r => (s.release r.item).tally (T.glb 1)) s).setQueue (32 + i) c [])

/-! ### Command status (R16, R17) -/

/-- Status codes of Table 0.4. -/
abbrev stOk : Nat := 0
abbrev stBusy : Nat := 1
abbrev stNotFound : Nat := 2
abbrev stNoRoom : Nat := 3
abbrev stReject : Nat := 4
abbrev stIntegrity : Nat := 5
abbrev stAuth : Nat := 6
abbrev stTimeout : Nat := 7
abbrev stOrphaned : Nat := 8
abbrev stExhausted : Nat := 9
abbrev stLocked : Nat := 10
abbrev stBinding : Nat := 11

/-- A write to BAR0 register space reaches its register: outside GLB and BKP only from stage 9 on; until
then it is discarded and counted in WR_DROP (R316). -/
def State.busGate (s : State) (f : State → State) : State :=
  if s.serving then f s else s.satF F.GLB_RST_STAT_WR_DROP 1

/-! ### Rods -/

/-- A rod's engine state. -/
def State.rod (s : State) (n : Nat) : Rod := sget (fun _ => {}) s.rods n

/-- Store a rod's engine state. -/
def State.setRod (s : State) (n : Nat) (r : Rod) : State :=
  { s with rods := sput (fun _ => {}) s.rods n r }

end Sys2Proof.Machine
end

