-- ==== Sys2Proof/Machine/Pcie.lean ====
section
/-! DEFINITION. PCIe configuration space and the link (R284 to R287, R303, R304, R474). Its registers are those of
the PCI Express Base Specification; the spec names them and gives no offsets for the capabilities, which are the
model's (PRESUMED, log 83). -/

namespace Sys2Proof.Machine

/-- A register of configuration space: offset, bits that a write stores, bits that a write of 1 clears, and its value
after reset, read-only bits included. -/
structure CfgReg where
  off : Nat
  rw : Nat
  w1c : Nat := 0
  rst : Nat
  deriving DecidableEq, Repr

/-- The registers that a write can change: Command (memory space, bus master), BARs 0 to 5 as three 64-bit BARs (Table
11.2: 64 MiB, 256 MiB prefetchable, 16 MiB), power management (D0 and D3hot), MSI-X control (256 vectors, Function Mask,
enable), Device Control (Relaxed Ordering, payload and read request size), Link Control (ASPM L1), Device Control 2
(completion timeout, 10-bit tags), and of AER the uncorrectable status, mask and severity and the ECRC enables. -/
def cfgRegs : List CfgReg :=
  [{ off := 0x04, rw := 0x406, rst := 0 },
   { off := 0x10, rw := 0xFC000000, rst := 0x4 }, { off := 0x14, rw := 0xFFFFFFFF, rst := 0 },
   { off := 0x18, rw := 0xF0000000, rst := 0xC }, { off := 0x1C, rw := 0xFFFFFFFF, rst := 0 },
   { off := 0x20, rw := 0xFF000000, rst := 0x4 }, { off := 0x24, rw := 0xFFFFFFFF, rst := 0 },
   { off := 0x44, rw := 0x3, rst := 0 },
   { off := 0x50, rw := 0xC0000000, rst := 0x00FF0011 },
   { off := 0x78, rw := 0x70F0, rst := 0x2010 },
   { off := 0x80, rw := 0x2, rst := 0 },
   { off := 0x98, rw := 0x100F, rst := 0 },
   { off := 0x104, rw := 0, w1c := 0x100000, rst := 0 },
   { off := 0x108, rw := 0x100000, rst := 0 }, { off := 0x10C, rw := 0x100000, rst := 0 },
   { off := 0x118, rw := 0x140, rst := 0xA0 }]

/-- Value of the register at an offset after reset. -/
def cfgReset (off : Nat) : Nat := ((cfgRegs.find? (fun r => r.off == off)).map CfgReg.rst).getD 0

/-- What configuration space identifies the endpoint by (R474, Table 11.1): Vendor ID, Device ID, Revision ID,
Subsystem Vendor ID, Subsystem ID and class code. -/
def State.pciIds (s : State) : List Nat :=
  [0x1F8C, s.getF F.GLB_ID_PART, s.getF F.GLB_ID_DIE_REV, 0x1F8C, s.getF F.GLB_ID_PART, 0x028000]

/-- The dword of configuration space at an offset. -/
def State.cfgWord (s : State) (off : Nat) : Nat :=
  let id (k : Nat) := s.pciIds.getD k 0
  match off with
  | 0x00 => id 0 + id 1 * 2 ^ 16
  | 0x08 => id 2 + id 5 * 2 ^ 8
  | 0x2C => id 3 + id 4 * 2 ^ 16
  | _ => sget cfgReset s.host.cfg off

/-- Store a dword of configuration space. -/
def State.setCfg (s : State) (off v : Nat) : State :=
  { s with host := { s.host with cfg := sput cfgReset s.host.cfg off v } }

/-- A configuration write of the host: each register stores its writable bits; a power state that is neither D0 nor D3hot
is not taken (Table 11.1). A configuration request can only arrive over a trained link. -/
def State.cfgWrite (s : State) (off v : Nat) : State :=
  let s := { s with host := { s.host with link := true } }
  match cfgRegs.find? (fun r => r.off == off) with
  | none => s
  | some r =>
    if off = 0x44 ∧ (v % 4 = 1 ∨ v % 4 = 2) then s
    else
      let old := s.cfgWord off
      let keep := old - (old &&& r.rw)
      s.setCfg off ((keep - (keep &&& (v &&& r.w1c))) + (v &&& r.rw))

/-- MSI-X Function Mask (R304), and the Relaxed Ordering enable of Device Control (R303). -/
def State.funcMask (s : State) : Bool := bit (s.cfgWord 0x50) 30
def State.relaxOn (s : State) : Bool := bit (s.cfgWord 0x78) 4

/-- The endpoint answers memory requests: the link is up, memory space is enabled, and the power state is D0. -/
def State.memOn (s : State) : Bool := s.host.link && bit (s.cfgWord 0x04) 1 && s.cfgWord 0x44 % 4 == 0

/-- The endpoint may read host memory: the link is up, Bus Master is enabled, and the power state is D0. -/
def State.memReads (s : State) : Bool := s.host.link && bit (s.cfgWord 0x04) 2 && s.cfgWord 0x44 % 4 == 0

/-- Base address that the host has assigned to BAR 0, 2 or 4 (R286). -/
def State.barBase (s : State) (k : Nat) : Nat :=
  (s.cfgWord (0x10 + 4 * k) / 16 * 16) + s.cfgWord (0x14 + 4 * k) * 2 ^ 32

/-- A posted request is logged as an Unsupported Request through AER (R287). -/
def State.aerPosted (s : State) : State :=
  s.setCfg 0x104 (s.cfgWord 0x104 ||| 0x100000)

/-- A read or atomic of the host arrives: nothing arrives while the link is down, and while the endpoint does not answer
memory requests it is completed with Unsupported Request. -/
def State.onRead (s : State) (f : State → State) : State :=
  if s.memOn then f s else if s.host.link then s.emit .unsupported else s

/-- A posted write of the host arrives: it is logged as an Unsupported Request where the endpoint does not answer. -/
def State.onWrite (s : State) (f : State → State) : State :=
  if s.memOn then f s else if s.host.link then s.aerPosted else s

end Sys2Proof.Machine
end

