-- ==== Sys2Proof/Machine/Flags.lean ====
section
/-! DEFINITION. The flag computations that several commands share: rod event flags (R64), the error
states of ISO 11898-1 (R63) and the pin levels that follow a rod's state (Table 2.7). -/

namespace Sys2Proof.Machine

/-- Set event flag `b` of rod `n` and post its event (R64, R478). -/
def State.rodEvt (s : State) (n b : Nat) : State :=
  (s.orF (F.ROD_EVT_FLAGS n) b).post 0x18 (b + 1) n

/-- Standby and enable outputs of a rod state (Table 2.7): asserted standby, asserted enable. -/
def rodPins (st : Nat) : Bool × Bool :=
  match st with
  | 0 => (false, false)
  | 7 | 8 => (true, false)
  | _ => (false, true)

/-- Rod `n` enters state `st`: STATE, its control pins, and the moment of a standby release (R60). -/
def State.rodGo (s : State) (n st : Nat) : State :=
  let r := s.rod n
  let (stb, en) := rodPins st
  let r := { r with stb := stb, en := en, released := if r.stb && !stb then some s.tb.fab else r.released }
  (s.setRod n r).setF (F.ROD_STAT_STATE n) st

/-- Rod `n` enters BUS_OFF, and RECOVERING at once with AUTO_RECOVER (Table 2.8). -/
def State.busOff (s : State) (n : Nat) : State :=
  let s := ((s.rodGo n 4).rodEvt n 0).tally (T.rodBusOff n)
  if s.isF (F.ROD_CTL_AUTO_RECOVER n) then s.rodGo n 5 else s

/-- Store the counters of rod `n` and follow the error states: a flag for each counter that reaches
96, one above 127, bus-off above 255 (R63). -/
def State.errCounts (s : State) (n tec rec_ : Nat) : State :=
  let rec_ := min 255 rec_
  let (tec0, rec0) := ((s.rod n).tec, s.getF (F.ROD_ERR_REC n))
  let s := s.setRod n { s.rod n with tec := tec }
  let s := (s.setF (F.ROD_ERR_TEC n) (min tec 255)).setF (F.ROD_ERR_REC n) rec_
  let warn := decide (96 ≤ tec ∨ 96 ≤ rec_)
  let reached := decide (tec0 < 96 ∧ 96 ≤ tec) || decide (rec0 < 96 ∧ 96 ≤ rec_)
  let passive := decide (127 < tec ∨ 127 < rec_)
  let s := if reached then s.rodEvt n 2 else s
  let s := if passive && !s.isF (F.ROD_STAT_ERR_PASSIVE n) then s.rodEvt n 1 else s
  let s := (s.setB (F.ROD_STAT_ERR_WARN n) warn).setB (F.ROD_STAT_ERR_PASSIVE n) passive
  if 255 < tec ∧ s.getF (F.ROD_STAT_STATE n) = 3 then s.busOff n else s

/-- Record an error code: LEC and its tally. -/
def State.lec (s : State) (n code : Nat) : State :=
  (s.setF (F.ROD_ERR_LEC n) code).tally (T.rodErr n code)

end Sys2Proof.Machine
end

