-- ==== Sys2Proof/Machine/Operands.lean ====
section
/-! DEFINITION. The operand forms: what the parser reads from an Ethernet frame within its parse
window (R37, R110, R142, R163, R164), the rod record (R81) and the length limits of its formats
(Table 2.22). -/

namespace Sys2Proof.Machine

/-- What the parser finds in the parse window of a frame. -/
structure Parsed where
  /-- The frame is shorter than its headers claim (rank 1, Table 4.2). -/
  short : Bool := false
  da : Nat := 0
  sa : Nat := 0
  tagged : Bool := false
  vid : Nat := 0
  pcp : Nat := 0
  dei : Bool := false
  rtag : Option Nat := none
  etype : Nat := 0
  l3 : Nat := 14
  /-- 0 no IP, 4 IPv4, 6 IPv6. -/
  ipv : Nat := 0
  dscp : Nat := 0
  src : Nat := 0
  dst : Nat := 0
  /-- The protocol field of the IPv4 header, whatever the frame's fragment (Table 6.1). -/
  ipProto : Option Nat := none
  /-- L4 protocol, L4 start and payload start. -/
  proto : Option Nat := none
  l4 : Nat := 0
  payload : Nat := 14
  sport : Nat := 0
  dport : Nat := 0
  flags : Nat := 0
  deriving DecidableEq, Repr

/-- The parse window of an item (R37). -/
def window (bytes : List Byte) : List Byte := bytes.take 192

/-- Frame bytes between DA and the end of the data, without the FCS. -/
def bodyLen (bytes : List Byte) : Nat := bytes.length - 4

/-- IPv6 extension headers that the parser follows: hop-by-hop, routing, fragment, authentication, destination options. R142
lists none (DESIGN CHOICE, log 112). -/
def isExt6 (nh : Nat) : Bool := nh == 0 || nh == 43 || nh == 44 || nh == 51 || nh == 60

/-- Follow up to `fuel` IPv6 extension headers from `(nh, off)`: answers the L4 protocol and start, or
none for a non-first fragment, a fifth extension header, no next header, or a header that leaves the
window. The Bool says that a header runs past the frame. -/
def ext6 (bs : List Byte) (n : Nat) : Nat → Nat → Nat → Bool → Bool × Option (Nat × Nat)
  | 0, nh, off, frag =>
    (false, if isExt6 nh || nh == 59 || frag then none else some (nh, off))
  | fuel + 1, nh, off, frag =>
    if isExt6 nh then
      if n < off + 8 then (true, none)
      else if 192 < off + 8 then (false, none)
      else
        let hl := if nh = 44 then 8
          else if nh = 51 then (byteAt bs (off + 1) + 2) * 4
          else (byteAt bs (off + 1) + 1) * 8
        let frag := frag || (nh == 44 && beAt bs (off + 2) 2 / 8 != 0)
        ext6 bs n fuel (byteAt bs off) (off + hl) frag
    else (false, if nh == 59 || frag then none else some (nh, off))

/-- L4 header and payload start of an IP frame (R142). -/
def parseL4 (bs : List Byte) (n : Nat) (p : Parsed) (pr off : Nat) : Parsed :=
  let base := if pr = 6 then 20 else if pr = 17 then 8 else 1
  if n < off + base ∧ 1 < base then { p with short := true }
  else if 192 < off + base then { p with payload := p.l3 }
  else if pr = 6 then
    let hl := byteAt bs (off + 12) / 16 * 4
    if hl < 20 ∨ n < off + hl then { p with short := true }
    else if 192 < off + hl then { p with payload := p.l3 }
    else { p with proto := some 6, l4 := off, payload := off + hl, sport := beAt bs off 2
                  dport := beAt bs (off + 2) 2, flags := byteAt bs (off + 13) }
  else if n < off + base then { p with payload := p.l3 }
  else if pr = 17 then
    { p with proto := some 17, l4 := off, payload := off + 8, sport := beAt bs off 2
             dport := beAt bs (off + 2) 2 }
  else { p with proto := some pr, l4 := off, payload := off }

/-- L3 and above, from a parse that has reached the EtherType. A header whose own fields contradict each other (IPv4 version,
IHL, total length, here; the data offset of TCP in `parseL4`) is a frame shorter than its headers claim
(DESIGN CHOICE, log 113). -/
def parseL3 (bs : List Byte) (n : Nat) (p : Parsed) : Parsed :=
  let l3 := p.l3
  if p.etype = 0x0800 then
    if n < l3 + 20 then { p with short := true }
    else
      let ihl := byteAt bs l3 % 16 * 4
      let tot := beAt bs (l3 + 2) 2
      if byteAt bs l3 / 16 ≠ 4 ∨ ihl < 20 ∨ tot < ihl ∨ n < l3 + tot then { p with short := true }
      else
        let p := { p with ipv := 4, dscp := byteAt bs (l3 + 1) / 4, src := beAt bs (l3 + 12) 4
                          dst := beAt bs (l3 + 16) 4, payload := l3, ipProto := some (byteAt bs (l3 + 9)) }
        if beAt bs (l3 + 6) 2 % 2 ^ 13 ≠ 0 then p
        else parseL4 bs n p (byteAt bs (l3 + 9)) (l3 + ihl)
  else if p.etype = 0x86DD then
    if n < l3 + 40 ∨ n < l3 + 40 + beAt bs (l3 + 4) 2 then { p with short := true }
    else
      let p := { p with ipv := 6, dscp := beAt bs l3 4 / 2 ^ 22 % 64, src := beAt bs (l3 + 8) 16
                        dst := beAt bs (l3 + 24) 16, payload := l3 }
      match ext6 bs n 4 (byteAt bs (l3 + 6)) (l3 + 40) false with
      | (true, _) => { p with short := true }
      | (false, none) => p
      | (false, some (pr, off)) => parseL4 bs n p pr off
  else { p with payload := l3 }

/-- Parse a frame (with its FCS) within the parse window: DA, SA, one 802.1Q tag, one R-tag,
EtherType, IP and L4 (R110, R142, R164). -/
def parseFrame (frame : List Byte) : Parsed :=
  let n := bodyLen frame
  let bs := window frame
  if n < 14 then { short := true }
  else
    let p : Parsed := { da := beAt bs 0 6, sa := beAt bs 6 6 }
    let tagged := beAt bs 12 2 == 0x8100
    if tagged && n < 18 then { p with short := true }
    else
      let p := if tagged then
          { p with tagged := true, pcp := beAt bs 14 2 / 2 ^ 13, dei := beAt bs 14 2 / 2 ^ 12 % 2 == 1
                   vid := beAt bs 14 2 % 2 ^ 12 }
        else p
      let off := if tagged then 16 else 12
      let hasR := beAt bs off 2 == 0xF1C1
      if hasR && n < off + 8 then { p with short := true }
      else
        let p := if hasR then { p with rtag := some (beAt bs (off + 4) 2) } else p
        let off := if hasR then off + 6 else off
        parseL3 bs n { p with etype := beAt bs off 2, l3 := off + 2 }

/-- A group or broadcast MAC address. -/
def isMulticast (mac : Nat) : Bool := mac / 2 ^ 40 % 2 == 1

/-- The broadcast address. -/
abbrev bcast : Nat := 0xFFFFFFFFFFFF

/-- An IPv4 address in IPv4-mapped form (R148). -/
def mapped (ipv a : Nat) : Nat := if ipv = 4 then 0xFFFF * 2 ^ 32 + a else a

/-- Segment of an item for the flow table (R150). -/
def Parsed.seg (p : Parsed) : Seg :=
  { tcp := p.proto == some 6, fin := bit p.flags 0, syn := bit p.flags 1, rst := bit p.flags 2
    ack := bit p.flags 4 }

/-! ### Rod records (R81) -/

/-- Data lengths that a CAN FD DLC codes (Table 2.22). -/
def fdLengths : List Nat := [0, 1, 2, 3, 4, 5, 6, 7, 8, 12, 16, 20, 24, 32, 48, 64]

/-- DLC of an FD data length. -/
def fdDlc (n : Nat) : Nat := fdLengths.findIdx (· == n)

/-- Data length that a DLC stands for in format `fmt` (Classical: 9-15 mean 8). -/
def dlcLen (fmt dlc : Nat) : Nat :=
  if fmt ≤ 1 then min dlc 8 else fdLengths.getD dlc 0

/-- Data lengths that format `fmt` admits (Table 2.22). -/
def lenLegal (fmt n : Nat) : Bool :=
  match fmt with
  | 0 | 1 => decide (n ≤ 8)
  | 2 | 3 => fdLengths.contains n
  | 4 => decide (1 ≤ n ∧ n ≤ 2048)
  | 5 => decide (1 ≤ n ∧ n ≤ 8)
  | _ => false

/-- The four header words of a rod record (Table 2.22a). -/
structure RecHdr where
  id : Nat
  fmt : Nat
  /-- Word 1: AF for FMT 4, otherwise RTR [0], BRS [1], ESI [2], CLASSIC_CS [3], DLC [7:4]. -/
  w1 : Nat
  w2 : Nat := 0
  w3 : Nat := 0
  deriving DecidableEq, Repr

/-- The header's 16 bytes, four little-endian words (R18). -/
def RecHdr.bytes (h : RecHdr) : List Byte :=
  leBytes 4 (h.id % 2 ^ 29 + h.fmt % 8 * 2 ^ 29) ++ leBytes 4 h.w1 ++ leBytes 4 h.w2 ++ leBytes 4 h.w3

/-- Read the header of a record. -/
def recHdr (rec : List Byte) : RecHdr :=
  let w0 := leAt rec 0 4
  ⟨w0 % 2 ^ 29, w0 / 2 ^ 29, leAt rec 4 4, leAt rec 8 4, leAt rec 12 4⟩

/-- The data bytes of a record. -/
def recData (rec : List Byte) : List Byte := rec.drop 16

/-- Word 1 of a frame's record. -/
def CanFrame.word1 (f : CanFrame) (classicCs : Bool) : Nat :=
  if f.fmt = 4 then f.af % 2 ^ 32
  else b2n f.rtr + b2n f.brs * 2 + b2n f.esi * 4 + b2n classicCs * 8
    + (if f.fmt ≤ 3 then f.dlc % 16 * 16 else 0)

/-- Formats that a rod mode sends and receives (Table 2.1). -/
def modeFormats (mode : Nat) : List Nat :=
  match mode with
  | 0 => [0, 1, 2, 3, 4]
  | 1 => [0, 1, 2, 3]
  | 2 => [0, 1]
  | _ => [5]

/-- KEY_KIND of a record format (Table 3.4): base CAN, extended CAN, XL, LIN. -/
def kindOf (fmt : Nat) : Nat :=
  match fmt with
  | 0 | 2 => 0
  | 1 | 3 => 1
  | 4 => 2
  | _ => 3

/-- The identifier proper of word 0: priority identifier of an XL record, else the whole field. -/
def identOf (fmt id : Nat) : Nat := if fmt = 4 then id % 2 ^ 11 else id

/-- A record whose length agrees with its DLC and format (Table 3.11, CRY_REC_BAD). FMT 6 and 7 count as inconsistent, and a
remote record is accepted with no data or with the length of its DLC (DESIGN CHOICE, log 106). -/
def recConsistent (rec : List Byte) : Bool :=
  let h := recHdr rec
  let n := rec.length - 16
  decide (16 ≤ rec.length) && (match h.fmt with
    | 0 | 1 | 2 | 3 =>
      let dlc := bits h.w1 4 4
      if bit h.w1 0 then decide (n = 0) || dlcLen h.fmt dlc == n else dlcLen h.fmt dlc == n
    | 4 | 5 => true
    | _ => false)

end Sys2Proof.Machine
end

