-- ==== Sys2Proof/Machine/Lookup.lean ====
section
/-! DEFINITION. Table lookups: hashed buckets (R116 to R118, R80, R102, R131, R134), the flow table
(R148 to R150), gate lists (R169, R187) and the entries of a table in index order. -/

namespace Sys2Proof.Machine

/-- The written entries of table `code`, in index order. -/
def State.entriesOf (s : State) (code : Nat) : List (Nat × Nat) :=
  (s.tables.filter (fun e => decide (tkey code 0 ≤ e.1) && decide (e.1 < tkey (code + 1) 0))).map
    (fun e => (e.1 - tkey code 0, e.2))

/-- Key width of a hashed table (R117). -/
def keyWidth (code : Nat) : Nat := if code = tMac then 60 else if code = tLkey then 45 else 40

/-- Validity bit of an entry of a hashed table. -/
def validIn (code e : Nat) : Bool :=
  if code = tMac then bit e 60 else if code = tLkey then ew e 1 16 1 == 1 else ew e 1 0 1 == 1

/-- Key bits of an entry (R131). -/
def keyOf (code e : Nat) : Nat := bits e 0 (keyWidth code)

/-- E of R118: entries of ROD_OVERFLOW in force, 0 when the image sets none. -/
def State.overflowSize (s : State) : Nat := s.dp.ovfSize

/-- Bucket of a key (R117, R118). -/
def State.bucketOf (s : State) (code key : Nat) : Nat :=
  let h := keyHash key (keyWidth code)
  if code = tMac then h % 2 ^ 14
  else if code = tRodOverflow then h / 2 ^ 13 % (s.overflowSize / 4)
  else h % 2 ^ 13

/-- The four way indices of a bucket. -/
def ways (bucket : Nat) : List Nat := [4 * bucket, 4 * bucket + 1, 4 * bucket + 2, 4 * bucket + 3]

/-- A way that an uncorrectable error has poisoned matches nothing and is not free (Table 9.9). -/
def State.poisoned (s : State) (code i : Nat) : Bool := s.dp.poison.contains (tkey code i)

/-- The way of a hashed table that holds `key`. -/
def State.findKey (s : State) (code key : Nat) : Option Nat :=
  if code = tRodOverflow ∧ s.overflowSize = 0 then none
  else (ways (s.bucketOf code key)).find? (fun i =>
    let e := s.entry code i
    validIn code e && keyOf code e == key && !s.poisoned code i)

/-- A hashed lookup meets a poisoned way without finding its key in another one. -/
def State.poisonMiss (s : State) (code key : Nat) : Bool :=
  (s.findKey code key).isNone && (ways (s.bucketOf code key)).any (s.poisoned code)

/-- The lowest free way for `key`. -/
def State.freeWay (s : State) (code key : Nat) : Option Nat :=
  if code = tRodOverflow ∧ s.overflowSize = 0 then none
  else (ways (s.bucketOf code key)).find? (fun i =>
    !validIn code (s.entry code i) && !s.poisoned code i)

/-- MAC key of an address under a VID (R116). -/
def macKey (mac vid : Nat) : Nat := mac + vid * 2 ^ 48

/-- ROD_HASHED and ROD_OVERFLOW key (R80): identifier, rod, kind 0 extended CAN or 1 LIN. -/
def rodKey (id rod kind : Nat) : Nat := id + rod * 2 ^ 29 + kind * 2 ^ 36

/-- ACF_LKEY key (R102). -/
def lkeyKey (id kind bus ctx : Nat) : Nat := id + kind * 2 ^ 29 + bus * 2 ^ 32 + ctx * 2 ^ 37

/-- Result of a rod's identifier lookup (R77): LKP code, cadence state key and result word. -/
structure RodHit where
  lkp : Nat
  cadKey : Nat
  word : Nat
  deriving DecidableEq, Repr

/-- Cadence state keys: direct entries, hashed ways, overflow ways, streams (R155). -/
def cadHashed : Nat := 0x100000
def cadOverflow : Nat := 0x200000
def cadStream : Nat := 0x300000

/-- Key of the recovery, generation and cadence state of stream `i`: a rewrite of its entry while items are in flight moves
on to a new key, and those items keep the old one (R177). -/
def State.strKey (s : State) (i : Nat) : Nat := i + 8192 * sget (fun _ => 0) s.dp.strEpoch i

/-- Look an identifier up for rod `n` (R77 step 3): a base or XL identifier in the direct table, an
extended or LIN identifier in the hashed table and then the overflow area. -/
def State.rodLookup (s : State) (n fmt id : Nat) : Option RodHit :=
  if fmt = 0 ∨ fmt = 2 ∨ fmt = 4 then
    let i := n * 2048 + id % 2 ^ 11
    let e := s.entry tRodDirect i
    if bit e 0 then some ⟨0, i, e⟩ else none
  else
    let key := rodKey id n (if fmt = 5 then 1 else 0)
    match s.findKey tRodHashed key with
    | some i => some ⟨1, cadHashed + i, s.entry tRodHashed i / 2 ^ 64⟩
    | none =>
      if s.isF F.CRY_CFG_EXT_OK then
        match s.findKey tRodOverflow key with
        | some i => some ⟨2, cadOverflow + i, s.entry tRodOverflow i / 2 ^ 64⟩
        | none => none
      else none

/-! ### Flows -/

/-- The two endpoints of a segment in normal order (R148): lower (address, port) first; the Bool says
that the sender is endpoint B. -/
structure FlowKey where
  addrA : Nat
  addrB : Nat
  portA : Nat
  portB : Nat
  proto : Nat
  vid : Nat
  v6 : Bool
  fromB : Bool
  deriving DecidableEq, Repr

/-- Flow key of a parsed TCP or UDP frame on VID `vid`. -/
def flowKey (p : Parsed) (vid : Nat) : FlowKey :=
  let a := mapped p.ipv p.src
  let b := mapped p.ipv p.dst
  let pr := p.proto.getD 0
  if a * 2 ^ 16 + p.sport ≤ b * 2 ^ 16 + p.dport then
    ⟨a, b, p.sport, p.dport, pr, vid, p.ipv == 6, false⟩
  else ⟨b, a, p.dport, p.sport, pr, vid, p.ipv == 6, true⟩

/-- The 309 key bits in the order of R149. -/
def FlowKey.bits309 (k : FlowKey) : Nat :=
  k.addrA + k.addrB * 2 ^ 128 + k.portA * 2 ^ 256 + k.portB * 2 ^ 272 + k.proto * 2 ^ 288
    + k.vid * 2 ^ 296 + b2n k.v6 * 2 ^ 308

/-- Bucket of a flow (R149). -/
def FlowKey.bucket (k : FlowKey) : Nat := keyHash k.bits309 309 % 2 ^ 12

/-- A flow entry holds this key. -/
def flowMatches (e : Nat) (k : FlowKey) : Bool :=
  ew e 2 0 128 == k.addrA && ew e 4 0 128 == k.addrB && ew e 1 0 16 == k.portA
    && ew e 1 16 16 == k.portB && ew e 0 22 8 == k.proto && ew e 1 32 12 == k.vid
    && bit e 21 == k.v6

/-- Timeout of a flow state, in units of 100 ms (Table 5.3). -/
def State.flowTmo (s : State) (st : Nat) : Nat :=
  match st with
  | 1 => s.getF F.FWL_FLOW_TMO0_TMO_TCP_SYN
  | 2 => s.getF F.FWL_FLOW_TMO0_TMO_TCP_SYNACK
  | 3 => s.getF F.FWL_FLOW_TMO1_TMO_TCP_EST
  | 4 => s.getF F.FWL_FLOW_TMO1_TMO_TCP_FIN1
  | 5 => s.getF F.FWL_FLOW_TMO2_TMO_TCP_FIN2
  | 6 => s.getF F.FWL_FLOW_TMO2_TMO_TCP_CLOSED
  | 7 => s.getF F.FWL_FLOW_TMO3_TMO_UDP_NEW
  | 8 => s.getF F.FWL_FLOW_TMO3_TMO_UDP_EST
  | _ => 0

/-- A way treated as absent (R150): invalid, in no listed state, timed out, or bound to a closed or
later generation of its diagnostic slot. -/
def State.flowAbsent (s : State) (e : Nat) : Bool :=
  let st := ew e 0 1 4
  !bit e 0 || st == 0 || decide (8 < st)
    || (!bit e 5 && decide (s.flowTmo st ≤
        (s.getF F.FWL_NOW_NOW + 2 ^ 16 - ew e 0 32 16) % 2 ^ 16))
    || (bit e 8 && (!s.isF (F.FWL_DIAG_W0_OPEN (ew e 0 9 4))
        || s.getF (F.FWL_DIAG_W0_GEN (ew e 0 9 4)) != ew e 0 13 8))

/-- The live flow of a key: its way. -/
def State.findFlow (s : State) (k : FlowKey) : Option Nat :=
  (ways k.bucket).find? (fun i =>
    let e := s.entry tFlow i
    !s.flowAbsent e && flowMatches e k)

/-- The lowest way that a new flow can take: a timed-out way counts as free (R151). -/
def State.freeFlow (s : State) (k : FlowKey) : Option Nat :=
  (ways k.bucket).find? (fun i => s.flowAbsent (s.entry tFlow i))

/-- Next state of a flow for a segment, none where Table 5.9 does not list it. `fromInit`: the sender
initiated the flow; `finSame`: the sender sent the first FIN. -/
def flowNext (st : Nat) (fromInit finSame : Bool) (g : Seg) : Option Nat :=
  if g.tcp && g.rst then (if 1 ≤ st ∧ st ≤ 5 then some 6 else if st = 6 then some 6 else none)
  else match st with
  | 1 => if fromInit && g.syn && !g.ack then some 1
         else if !fromInit && g.syn && g.ack then some 2 else none
  | 2 => if !fromInit && g.syn && g.ack then some 2
         else if fromInit && g.ack && !g.syn then some 3 else none
  | 3 => if g.syn then none else if g.fin then some 4 else some 3
  | 4 => if g.syn then none else if g.fin && !finSame then some 5 else some 4
  | 5 => if g.syn then none else some 5
  | 6 => if g.syn then none else some 6
  | 7 => if fromInit then some 7 else some 8
  | 8 => some 8
  | _ => none

/-- Next state of flow entry `e` for a segment sent by endpoint B or A. -/
def flowStep (e : Nat) (fromB : Bool) (g : Seg) : Option Nat :=
  if g.tcp != (ew e 0 22 8 == 6) then none
  else flowNext (ew e 0 1 4) (bit e 6 == fromB) (bit e 7 == fromB) g

/-! ### Gate lists (R169, R187) -/

/-- Position of time `t` in a cycle that starts at `base`: (t - base) mod cycle, also for t < base. -/
def cyclePos (t base cycle : Nat) : Nat :=
  if cycle = 0 then 0
  else if base ≤ t then (t - base) % cycle
  else (cycle - (base - t) % cycle) % cycle

/-- The entry of a list in force at position `p`; the last entry holds past the intervals. -/
def gateAt : List (Nat × Nat × Nat) → Nat → Option (Nat × Nat × Nat)
  | [], _ => none
  | [e], _ => some e
  | e :: es, p => if p < e.1 then some e else gateAt es (p - e.1)

/-- Working-clock time of whole nanoseconds. -/
def ns40 (ns : Nat) : Nat := ns * 2 ^ 40

/-- The list scaled to clock units. -/
def gateScale (l : List (Nat × Nat × Nat)) : List (Nat × Nat × Nat) :=
  l.map (fun e => (ns40 e.1, e.2))

/-- Key of a gate list: Ethernet port p, or stream gate g at 64 + g. -/
def gateKey (streamGate : Bool) (i : Nat) : Nat := if streamGate then 64 + i else i

/-- The operational list of stream gate `g`: (interval, open, IPV word) per entry (Table 6.9). -/
def State.strList (s : State) (g : Nat) : List (Nat × Nat × Nat) :=
  (List.range (s.getF (F.STR_GATE_W0_OPER_LEN g))).map (fun k =>
    (s.getF (F.STR_GCL_OPER_W0_INTERVAL g k), s.getF (F.STR_GCL_OPER_W0_OPEN g k),
      s.getF (F.STR_GCL_OPER_W1_IPV g k) + 8 * s.getF (F.STR_GCL_OPER_W1_IPV_EN g k)))

/-- State of stream gate `g` at item time `t` (R169): open, and the class its IPV names. An item with `t` before the last
change time uses the list of before (R170). -/
def State.streamGate (s : State) (g t : Nat) : Bool × Option Nat :=
  if !s.isF (F.STR_GATE_W0_ENABLE g) then (true, none)
  else if s.isF (F.STR_GATE_W0_LATCHED g) then (false, none)
  else
    let pend := sget (fun _ => none) s.dp.gatePend (gateKey true g)
    let cur := (s.strList g, s.getF (F.STR_GATE_OPER_CYCLE_OPER_CYCLE g),
      sget (fun _ => 0) s.dp.gateBase (gateKey true g))
    let cur := match sget (fun _ => none) s.dp.gateOld g with
      | some (o, base) => if t < o.at40 then (o.entries, o.cycle, base) else cur
      | none => cur
    let use := match pend with
      | some p => if p.at40 ≤ t then (p.entries, p.cycle, p.at40) else cur
      | none => cur
    match gateAt (gateScale use.1) (cyclePos t use.2.2 (ns40 use.2.1)) with
    | none => (false, none)
    | some (_, o, w) => (o == 1, if 8 ≤ w then some (w % 8) else none)

/-- Fields of SCH gate-list entry `k` of port `p`, operational and administrative (Table 7.4). -/
def schOperInt (p k : Nat) : Fld :=
  if p < 8 then F.SCH_GCL_OPER_B_W0_INTERVAL p k else F.SCH_GCL_OPER_GS_W0_INTERVAL (p - 8) k
def schOperGates (p k : Nat) : Fld :=
  if p < 8 then F.SCH_GCL_OPER_B_W1_GATES p k else F.SCH_GCL_OPER_GS_W1_GATES (p - 8) k
def schOperOp (p k : Nat) : Fld :=
  if p < 8 then F.SCH_GCL_OPER_B_W1_OP p k else F.SCH_GCL_OPER_GS_W1_OP (p - 8) k
def schAdmInt (p k : Nat) : Fld :=
  if p < 8 then F.SCH_GCL_ADMIN_B_W0_INTERVAL p k else F.SCH_GCL_ADMIN_GS_W0_INTERVAL (p - 8) k
def schAdmGates (p k : Nat) : Fld :=
  if p < 8 then F.SCH_GCL_ADMIN_B_W1_GATES p k else F.SCH_GCL_ADMIN_GS_W1_GATES (p - 8) k
def schAdmOp (p k : Nat) : Fld :=
  if p < 8 then F.SCH_GCL_ADMIN_B_W1_OP p k else F.SCH_GCL_ADMIN_GS_W1_OP (p - 8) k

/-- The operational gate list of Ethernet port `p`: (interval, gates, OP) per entry. -/
def State.schList (s : State) (p : Nat) : List (Nat × Nat × Nat) :=
  (List.range (s.getF (F.SCH_PORT_STAT_OPER_LEN p))).map (fun k =>
    (s.getF (schOperInt p k), s.getF (schOperGates p k), s.getF (schOperOp p k)))

/-- Gates are in use on port `p` (R188). -/
def State.gatesOn (s : State) (p : Nat) : Bool :=
  s.isF (F.SCH_PORT_CFG_GATE_EN p) && s.getF (F.SCH_PORT_STAT_OPER_LEN p) != 0

/-- Gate states of port `p` at working-clock time `t` (R187, R188). -/
def State.gatesAt (s : State) (p t : Nat) : Nat :=
  if !s.gatesOn p then 0xFF
  else
    match gateAt (gateScale (s.schList p)) (cyclePos t (sget (fun _ => 0) s.dp.gateBase p)
      (ns40 (s.getF (F.SCH_OPER_CYCLE_CYCLE p)))) with
    | none => 0xFF
    | some (_, g, _) => g

end Sys2Proof.Machine
end

