-- ==== Sys2Proof/Machine/Firewall.lean ====
section
/-! DEFINITION. Stage 7, the firewall (R139 to R151, R153, R160), and the cadence check (R155), as the
planes evaluate them: pure functions of the state and the item. -/

namespace Sys2Proof.Machine

/-- What stage 7 knows of an item. -/
structure FwlIn where
  it : Item
  p : Parsed
  /-- Ingress port of the level and rule conditions (R139). -/
  ing : Nat
  cls : Nat
  vid : Nat
  /-- Live flow of a TCP or UDP frame, looked up at level 2 and 3. -/
  flow : Option Nat
  level : Nat
  deriving DecidableEq, Repr

/-- Effective inspection level (R139, R160). A frame of the ACF assembler has no FWL_PORT register: it is
evaluated at that register's reset values (DESIGN CHOICE, log entry 12). -/
def State.fwlLevel (s : State) (it : Item) (ing cls : Nat) : Nat :=
  let l := if ing < 192 then s.getF (F.FWL_PORT_LEVEL ing) else 3
  if !it.isRod && s.isF F.FWL_STAT_SHED && bit (s.getF F.FWL_CFG_BE_MASK) cls then min l 2 else l

/-- The four matchers of a rule: base, offset, value, mask of the enabled ones (Table 5.6). -/
def ruleMatchers (r : Nat) : List (Nat × Nat × Nat × Nat) :=
  (List.range 4).filterMap (fun k =>
    if ew r 9 (16 * k + 10) 1 = 1 then
      some (ew r 9 (16 * k) 2, ew r 9 (16 * k + 2) 8, ew r (10 + k) 0 32, ew r (10 + k) 32 32)
    else none)

/-- One matcher's test (R142): its bytes lie in the item, FCS included (R43), and in the parse window. -/
def matcherHolds (x : FwlIn) (m : Nat × Nat × Nat × Nat) : Bool :=
  let (base, off, v, mask) := m
  if x.it.isRod then
    base == 3 && decide (off ≤ 60) && decide (16 + off + 4 ≤ x.it.len)
      && (beAt x.it.bytes (16 + off) 4 &&& mask) == (v &&& mask)
  else
    let start := match base with
      | 0 => 0
      | 1 => x.p.l3
      | 2 => x.p.l4
      | _ => x.p.payload
    let i := start + off
    (base != 2 || x.p.proto.isSome) && decide (i + 4 ≤ x.it.len) && decide (i + 4 ≤ 192)
      && (base != 3 || decide (off + 3 ≤ 63))
      && (beAt x.it.bytes i 4 &&& mask) == (v &&& mask)

/-- The leading `n` bits of two `w`-bit addresses agree. -/
def prefixEq (w n a b : Nat) : Bool := let k := w - min n w; a / 2 ^ k == b / 2 ^ k

/-- Conditions of an Ethernet rule beside level-2 conditions and matchers (R142). -/
def ethConds (x : FwlIn) (r : Nat) : Bool :=
  let p := x.p
  let w := if ew r 2 56 1 = 1 then 128 else 32
  let ipReq := ew r 2 57 1 == 1
  let sp := ew r 3 32 8
  let dp := ew r 3 40 8
  let isPort := p.proto == some 6 || p.proto == some 17
  bit (ew r 1 32 8) x.cls
  && (p.etype &&& ew r 2 16 16) == (ew r 2 0 16 &&& ew r 2 16 16)
  && (x.vid &&& ew r 2 44 12) == (ew r 2 32 12 &&& ew r 2 44 12)
  && (!ipReq || p.ipv == (if ew r 2 56 1 = 1 then 6 else 4))
  && (ew r 3 8 1 == 0 || p.proto == some (ew r 3 0 8))
  && (sp == 0 || (ipReq && prefixEq w sp p.src (ew r 4 0 128 % 2 ^ w)))
  && (dp == 0 || (ipReq && prefixEq w dp p.dst (ew r 6 0 128 % 2 ^ w)))
  && (ew r 3 48 1 == 0 || (isPort && decide (ew r 8 0 16 ≤ p.sport ∧ p.sport ≤ ew r 8 16 16)))
  && (ew r 3 49 1 == 0 || (isPort && decide (ew r 8 32 16 ≤ p.dport ∧ p.dport ≤ ew r 8 48 16)))
  && (ew r 3 24 8 == 0 || (p.proto == some 6
      && (p.flags &&& ew r 3 24 8) == (ew r 3 16 8 &&& ew r 3 24 8)))

/-- Conditions of a rod rule beside level-2 conditions and matchers (R142). -/
def rodConds (x : FwlIn) (r : Nat) : Bool :=
  let h := recHdr x.it.bytes
  let n := x.it.len - 16
  let fwc := bits h.w2 16 8
  (fwc &&& ew r 1 24 8) == (ew r 1 16 8 &&& ew r 1 24 8)
  && bit (ew r 1 40 6) h.fmt
  && (ew r 3 28 1 == 0 || decide (ew r 3 0 12 ≤ n ∧ n ≤ ew r 3 16 12))
  && (h.id &&& ew r 2 32 29) == (ew r 2 0 29 &&& ew r 2 32 29)

/-- An initiator frame (R150, NEW). -/
def isInitiator (p : Parsed) : Bool :=
  let g := p.seg
  p.proto == some 17 || (p.proto == some 6 && g.syn && !g.ack && !g.rst && !g.fin)

/-- STATE_MATCH of a rule (R150, R142). -/
def State.stateMatch (s : State) (x : FwlIn) (r : Nat) : Bool :=
  let m := ew r 0 22 2
  let isPort := x.p.proto == some 6 || x.p.proto == some 17
  let k := flowKey x.p x.vid
  if x.it.isRod then m == 0
  else match m with
  | 0 => true
  | 1 => isPort && x.flow.isNone && isInitiator x.p
  | _ => isPort && (match x.flow with
    | none => false
    | some i =>
      let e := s.entry tFlow i
      let ok := (flowStep e k.fromB x.p.seg).isSome
      let st := ew e 0 1 4
      if m = 2 then ok else ok && (st == 3 || st == 4 || st == 8))

/-- The gate condition of a DIAG_GATE rule (R153). -/
def State.diagHolds (s : State) (x : FwlIn) (r : Nat) : Bool :=
  let d := ew r 0 26 4
  let ip := s.getF (F.FWL_DIAG_IP_TESTER_IP d 0) + s.getF (F.FWL_DIAG_IP_TESTER_IP d 1) * 2 ^ 32
    + s.getF (F.FWL_DIAG_IP_TESTER_IP d 2) * 2 ^ 64 + s.getF (F.FWL_DIAG_IP_TESTER_IP d 3) * 2 ^ 96
  s.isF (F.FWL_DIAG_W0_OPEN d) && (x.it.isRod
    || (match ew r 0 22 2 with
      | 0 => x.p.ipv != 0 && (mapped x.p.ipv x.p.src == ip || mapped x.p.ipv x.p.dst == ip)
      | 1 => x.p.ipv != 0 && mapped x.p.ipv x.p.src == ip
      | _ => (match x.flow with
        | none => false
        | some i =>
          let e := s.entry tFlow i
          bit e 8 && ew e 0 9 4 == d && ew e 0 13 8 == s.getF (F.FWL_DIAG_W0_GEN d))))

/-- How a rule resolves for an item. -/
inductive RuleRes where
  | noMatch
  | hit
  /-- Matches because SHED resolves it (R140). -/
  | shed
  /-- Resolved by SHED as not matching. -/
  | shedNo
  /-- Fails only its diagnostic gate (R153). -/
  | denied
  deriving DecidableEq, Repr

/-- Resolve one rule (R140, R142, R153). -/
def State.ruleRes (s : State) (x : FwlIn) (r : Nat) : RuleRes :=
  let ms := ruleMatchers r
  let deep := ms.any (fun m => m.1 == 3)
  let stateful := ew r 0 22 2 != 0 || ew r 0 24 1 == 1 || ew r 0 25 1 == 1
  let req := if deep then 3 else if stateful then 2 else 1
  let plain := bit r 0 && (ew r 0 1 1 == 1) == x.it.isRod
    && (x.ing &&& ew r 1 8 8) == (ew r 1 0 8 &&& ew r 1 8 8)
    && (if x.it.isRod then rodConds x r else ethConds x r)
    && (ms.filter (fun m => decide (x.level = 3) || m.1 != 3)).all (matcherHolds x)
  if !plain then .noMatch
  else if x.level < req then (if ew r 0 30 1 = 1 then .shed else .shedNo)
  else if !s.stateMatch x r then .noMatch
  else if ew r 0 25 1 = 1 && !s.diagHolds x r then .denied
  else .hit

/-- Insert a rule by PRIO descending, index ascending among equals (R143). -/
def insRule (r : Nat × Nat) : List (Nat × Nat) → List (Nat × Nat)
  | [] => [r]
  | q :: qs => if ew q.2 0 32 16 < ew r.2 0 32 16 then r :: q :: qs else q :: insRule r qs

/-- Verdict of stage 7 with its additions. -/
structure FwlOut where
  /-- 0 forward, 1 drop, 2 redirect. -/
  verdict : Nat := 0
  cpu : Nat := 32
  cls : Nat := 0
  rule : Option Nat := none
  trace : Bool := false
  meter : Option Nat := none
  counts : List Nat := []
  upds : List Upd := []
  deriving DecidableEq, Repr

/-- The flow creation of a deciding rule (R151), or its drop or untracked forwarding when the bucket is
full. -/
def State.flowCreate (s : State) (x : FwlIn) (ri r : Nat) (o : FwlOut) : FwlOut :=
  let k := flowKey x.p x.vid
  let d := ew r 0 26 4
  if (s.freeFlow k).isNone then
    { o with verdict := if s.isF F.FWL_CFG_FLOW_FULL then o.verdict else 1
             counts := o.counts ++ [T.fwlDev 2] }
  else
    { o with upds := o.upds ++ [.flowNew k.addrA k.addrB k.portA k.portB k.proto k.vid k.v6 k.fromB ri
      (if ew r 0 25 1 = 1 then some (d, s.getF (F.FWL_DIAG_W0_GEN d)) else none) x.p.seg] }

/-- Walk the ordered rules (R143): continuing rules add count and trace, the first other match
decides. -/
def State.fwlWalk (s : State) (x : FwlIn) : List (Nat × Nat) → FwlOut → FwlOut
  | [], o =>
    if x.ing < 192 ∧ s.isF (F.FWL_PORT_DEFAULT x.ing) then
      { o with verdict := 1, counts := o.counts ++ [T.fwl x.ing 3] }
    else { o with counts := o.counts ++ [T.fwl x.ing 2] }
  | (ri, r) :: rs, o =>
    let cont := ew r 0 2 1 == 1
    let res := s.ruleRes x r
    let o := if (res == .shed || res == .shedNo) && !cont then
        { o with counts := o.counts ++ [T.fwl x.ing 5] } else o
    let o := if res == .denied then { o with counts := o.counts ++ [T.fwlSlot (ew r 0 26 4)] } else o
    if res == .hit || res == .shed then
      let o := if ew r 0 9 1 = 1 then { o with counts := o.counts ++ [T.fwlRule ri] } else o
      let o := if ew r 0 10 1 = 1 then { o with trace := true } else o
      if cont then s.fwlWalk x rs o
      else
        let v := min (ew r 0 3 2) 2
        let o := { o with verdict := v, cpu := 32 + ew r 0 5 1, cls := ew r 0 6 3, rule := some ri
                          meter := if ew r 0 11 1 = 1 then some (ew r 0 12 10) else none }
        let o := if v = 1 then { o with counts := o.counts ++ [T.fwl x.ing 0] }
          else if v = 2 then { o with counts := o.counts ++ [T.fwl x.ing 1] } else o
        if res == .hit && !x.it.isRod && ew r 0 22 2 == 1 && ew r 0 24 1 == 1 then
          s.flowCreate x ri r o
        else o
    else s.fwlWalk x rs o

/-- Stage 7 for an item (R139, R143): verdict, additions and flow update. -/
def State.firewall (s : State) (it : Item) (p : Parsed) (cls vid : Nat) : FwlOut :=
  let ing := it.ingress
  let level := s.fwlLevel it ing cls
  if level = 0 then { counts := [T.fwl ing 4] }
  else
    let isPort := !it.isRod && (p.proto == some 6 || p.proto == some 17)
    let k := flowKey p vid
    let flow := if isPort && decide (2 ≤ level) then s.findFlow k else none
    let x : FwlIn := ⟨it, p, ing, cls, vid, flow, level⟩
    let rules := (s.entriesOf tRule).foldl (fun l r => insRule r l) []
    let o := s.fwlWalk x rules {}
    match flow with
    | none => o
    | some i =>
      if (flowStep (s.entry tFlow i) k.fromB p.seg).isSome then
        { o with upds := o.upds ++
          [.flowSeg k.addrA k.addrB k.portA k.portB k.proto k.vid k.v6 k.fromB p.seg] }
      else { o with counts := o.counts ++ [T.fwlDev 1] }

/-! ### Cadence (R155) -/

/-- Cadence unit in ns. -/
def cadUnitNs (u : Nat) : Nat := 10000 * 10 ^ u

/-- Tick of a 64-bit time. -/
def cadTick (t64 u : Nat) : Nat := t64 / cadUnitNs u % 2 ^ 16

/-- A cadence state. -/
def State.cadOf (s : State) (key : Nat) : Cad := sget (fun _ => {}) s.dp.cad key

/-- Store a cadence state. -/
def State.setCad (s : State) (key : Nat) (c : Cad) : State :=
  { s with dp := { s.dp with cad := sput (fun _ => {}) s.dp.cad key c } }

/-- An arrival at `t64` is early for state `c` (R155). -/
def cadEarly (c : Cad) (u cmin t64 : Nat) : Bool :=
  c.seen && decide ((cadTick t64 u + 2 ^ 16 - c.last) % 2 ^ 16 < cmin)

end Sys2Proof.Machine
end

