-- ==== Sys2Proof/Machine/Decide.lean ====
section
/-! DEFINITION. The plane stages of Table 4.1 and their assembly into a decision record (R106 to R125,
R162 to R169, R87 to R91, R228, R229): pure functions of the state as it stands when the header record
enters the header stream. -/

namespace Sys2Proof.Machine

/-! ### VLANs, flooding and pruning -/

/-- VLAN entry of `vid`; entries 0 and 4095 are never looked up and count as invalid (R113). -/
def State.vlanEntry (s : State) (vid : Nat) : Nat :=
  if vid = 0 ∨ vid = 0xFFF then 0 else s.seenEntry tVlan vid

/-- Members of VLAN `vid` among ports 0 to 35; an invalid entry has none (R112, R113, R109). -/
def State.members (s : State) (vid : Nat) : Nat :=
  let e := s.vlanEntry vid
  if ew e 3 36 1 = 1 then bits e 0 36 else 0

/-- Port `p` of an Ethernet destination set may receive: in FORWARDING, and present (R3, R108). -/
def State.egressOk (s : State) (p : Nat) : Bool :=
  s.getF (F.PRT_FWD_CFG_STATE p) == 2 && s.present p

/-- Rank-13 pruning of an Ethernet destination set (Table 4.2). -/
def State.prune (s : State) (ing vid dest : Nat) : Nat :=
  let m := s.members vid
  bitmapOf (fun p => bit dest p && p != ing && bit m p && s.egressOk p)

/-- A destination set names an absent port (R3) or a reserved index (R20). -/
def State.namesAbsent (s : State) (dest : Nat) : Bool :=
  (List.range 192).any (fun p => bit dest p && !s.present p)

/-- Kind of a DA: 0 unicast, 1 multicast, 2 broadcast (R125). -/
def daKind (da : Nat) : Nat := if da = bcast then 2 else if isMulticast da then 1 else 0

/-- The VLAN turns flooding off for a kind (R125). -/
def State.floodOff (s : State) (vid kind : Nat) : Bool :=
  let e := s.vlanEntry vid
  (kind == 0 && ew e 3 38 1 == 1) || (kind == 1 && ew e 3 39 1 == 1)

/-- The flood set of R125; an absent CPU port that it names is pruned after it (R3, Table 4.2). -/
def State.floodSet (s : State) (ing vid kind : Nat) : Nat :=
  let m := s.members vid
  if s.floodOff vid kind then 0
  else bitmapOf (fun p => bit m p && p != ing && s.getF (F.PRT_FWD_CFG_STATE p) == 2
    && (match kind with
      | 0 => s.isF (F.PRT_FWD_CFG_UC_FLOOD p)
      | 1 => s.isF (F.PRT_FWD_CFG_MC_FLOOD p)
      | _ => s.isF (F.PRT_FWD_CFG_BC_FLOOD p)))

/-- Members of a multicast group, none when the entry is invalid (R119). -/
def State.groupSet (s : State) (g : Nat) : Option Nat :=
  let e := s.seenEntry tGroup g
  if ew e 3 0 1 = 1 then some (bits e 0 36) else none

/-! ### Stage 1: classification -/

/-- What stage 1 sets: VID, PCP and class (R110, R111). -/
structure L2Class where
  vid : Nat
  pcp : Nat
  cls : Nat
  deriving DecidableEq, Repr

/-- Ingress port of a frame of the ACF assembler: a port that no bitmap names (R97) (DEDUCED, log 12). -/
abbrev asmPort : Nat := 255

/-- Stage 1 classification (DEDUCED, log 12). A frame of the ACF assembler has no ingress port whose PRT_PCP_MAP R111 could
name: its PCP is its class (DESIGN CHOICE, log 108). -/
def State.classify (s : State) (ing : Nat) (p : Parsed) : L2Class :=
  if ing = asmPort then ⟨p.vid, p.pcp, p.pcp⟩
  else
    let vid := if p.tagged && p.vid != 0 then p.vid else s.getF (F.PRT_FWD_CFG_PVID ing)
    let pcp := if p.tagged then p.pcp else s.getF (F.PRT_FWD_CFG_DEF_PCP ing)
    ⟨vid, pcp, bits (s.getF (F.PRT_PCP_MAP_CLASSES ing)) (3 * pcp) 3⟩

/-- Rank-2 failure: port state DISABLED, or a frame type that ACCEPT does not pass (R112). -/
def State.ingressBad (s : State) (ing : Nat) (p : Parsed) : Bool :=
  ing != asmPort
    && (s.getF (F.PRT_FWD_CFG_STATE ing) == 0
      || (s.getF (F.PRT_FWD_CFG_ACCEPT ing) == 1 && !(p.tagged && p.vid != 0))
      || (s.getF (F.PRT_FWD_CFG_ACCEPT ing) == 2 && p.tagged && p.vid != 0))

/-! ### Stage 2: traps (R115) -/

/-- Result of the trap stage. -/
inductive Trap where
  | none
  | to (cpu cls : Nat)
  /-- A link-local frame whose LL_MASK bit is 0. -/
  | llDrop
  deriving DecidableEq, Repr

/-- Stage 2. -/
def State.trap (s : State) (p : Parsed) : Trap :=
  if p.etype = 0x88F7 then .to 32 7
  else if p.etype = 0x88B5 then .to 32 6
  else if p.etype = 0x888E then .to 32 6
  else if p.da / 16 = 0x0180C200000 then
    if bit (s.getF F.FWD_TRAP_LL_MASK) (p.da % 16) then .to (32 + s.getF F.FWD_TRAP_LL_CPU) 5
    else .llDrop
  else .none

/-! ### Stage 4: MAC (R116 to R121, R123) -/

/-- What stage 4 finds of the SA. -/
structure SaRes where
  /-- Rank-9 drop. -/
  drop : Bool := false
  learn : Option LearnReq := none
  /-- R121 refuses the request. -/
  limit : Bool := false
  /-- The bucket has no room (R123). -/
  noRoom : Bool := false
  staticMove : Bool := false
  trace : Bool := false
  deriving DecidableEq, Repr

/-- The learned count of port `p` has reached its limit (R121). -/
def State.atLimit (s : State) (p : Nat) : Bool :=
  decide (s.getF (F.PRT_LEARN_LEARN_LIMIT p) ≤ s.getF (F.PRT_LEARN_COUNT_COUNT p))

/-- SA lookup; `may` says that the conditions of R120 for a learn request hold. -/
def State.saLookup (s : State) (ing vid sa : Nat) (may : Bool) : SaRes :=
  let key := macKey sa vid
  match s.findKey tMac key with
  | none =>
    if !may then {}
    else if s.atLimit ing then { limit := true }
    else { learn := some ⟨key, ing, false⟩, noRoom := (s.freeWay tMac key).isNone }
  | some i =>
    let e := s.entry tMac i
    let other := ew e 1 0 8 != ing
    let stat := bit e 61
    let lock := bit e 62
    let r : SaRes := { drop := ew e 1 22 1 == 1 || (lock && other), trace := ew e 1 25 1 == 1 }
    if !may then r
    else if stat then { r with staticMove := other }
    else if other then
      if lock then r
      else if s.atLimit ing then { r with limit := true }
      else { r with learn := some ⟨key, ing, true⟩ }
    else if ew e 1 32 32 = s.getF F.FWD_AGE_NOW_NOW then r
    else { r with learn := some ⟨key, ing, false⟩ }

/-! ### Stage 5: streams (R162 to R169) -/

/-- A stream entry matches a frame (R163). -/
def streamMatches (e ing vid : Nat) (p : Parsed) : Bool :=
  let m := ew e 0 1 2
  let vidOk := ew e 0 3 1 == 1 || vid == ew e 1 48 12
  let ipOk (v : Nat) :=
    p.ipv == v
    && (if v = 4 then p.dst == ew e 2 0 32 else p.dst == ew e 2 0 128)
    && (ew e 0 4 1 == 0 || (if v = 4 then p.src == ew e 4 0 32 else p.src == ew e 4 0 128))
    && (ew e 0 5 1 == 0 || p.dscp == ew e 1 32 6)
    && (ew e 0 6 1 == 0 || (if v = 4 then p.ipProto else p.proto) == some (ew e 1 38 8))
    && (ew e 0 7 1 == 0 || ((p.proto == some 6 || p.proto == some 17) && p.sport == ew e 1 16 16))
    && (ew e 0 8 1 == 0 || ((p.proto == some 6 || p.proto == some 17) && p.dport == ew e 1 0 16))
  bit e 0 && (ing &&& ew e 0 17 8) == (ew e 0 9 8 &&& ew e 0 17 8) && vidOk
    && (match m with
      | 0 => p.da == ew e 1 0 48
      | 1 => p.sa == ew e 1 0 48
      | 2 => ipOk 4
      | _ => ipOk 6)

/-- The stream of a frame: the lowest-numbered entry that matches (R162). -/
def State.streamOf (s : State) (ing vid : Nat) (p : Parsed) : Option (Nat × Nat) :=
  (s.entriesOf tStream).find? (fun e => streamMatches e.2 ing vid p)

/-- What stage 5 finds. -/
structure StreamOut where
  idx : Option Nat := none
  key : Nat := 0
  e : Nat := 0
  cls : Option Nat := none
  drop3 : Bool := false
  drop4 : Bool := false
  early : Bool := false
  counts : List Nat := []
  block : Option Nat := none
  latch : Option Nat := none
  smeter : Option Nat := none
  upds : List Upd := []
  deriving DecidableEq, Repr

/-- Cadence check of stage 5 or 6: the early verdict under EARLY_ACT and the update (R155). -/
def State.cadenceStage (s : State) (key unit cmin cmax t64 src num ident : Nat) :
    Bool × Bool × Upd :=
  let early := cadEarly (s.cadOf key) unit cmin t64
  let act := s.getF F.FWL_CFG_EARLY_ACT
  (early && act != 0, early && act == 2, .cad key unit cmin cmax t64 src num ident)

/-- Stage 5 for an Ethernet item. -/
def State.streamStage (s : State) (it : Item) (vid : Nat) (p : Parsed) : StreamOut :=
  match s.streamOf it.ingress vid p with
  | none => {}
  | some (i, e) =>
    let o : StreamOut := { idx := some i, key := s.strKey i, e := e, counts := [T.str i 0]
                           cls := if ew e 0 25 1 = 1 then some (ew e 0 26 3) else none }
    let sdu := ew e 6 0 14
    if bit (s.getF (F.STR_BLOCK_BITS (i / 32))) (i % 32) then
      { o with drop3 := true, counts := o.counts ++ [T.str i 1] }
    else if sdu ≠ 0 ∧ sdu < it.len then
      { o with drop3 := true, counts := o.counts ++ [T.str i 2]
               block := if ew e 6 14 1 = 1 then some i else none }
    else
      let g := ew e 6 16 6
      let gate := if ew e 6 15 1 = 1 then s.streamGate g it.t else (true, none)
      if !gate.1 then
        { o with drop3 := true, counts := o.counts ++ [T.strGate g 0]
                 latch := if s.isF (F.STR_GATE_W0_CLOSE_ON_INVALID g) then some g else none }
      else
        let o := { o with cls := gate.2.or o.cls
                          smeter := if ew e 6 22 1 = 1 then some (ew e 6 23 10) else none }
        if ew e 6 59 1 = 1 then
          let c := s.cadenceStage (cadStream + s.strKey i) (ew e 6 33 2) (ew e 6 35 12) (ew e 6 47 12)
            (extend32 (t32 it.t) s.nowNs) 3 i 0
          { o with drop4 := c.1, early := c.2.1, upds := [c.2.2] }
        else o

/-! ### Assembly of an Ethernet decision (R108) -/

/-- The base destination of rank 12 before pruning: DA result, group or flood (R119, R125, R166). -/
structure BaseDest where
  set : Nat
  counts : List Nat := []
  /-- REASON of an RX descriptor (Table 11.8). -/
  why : Nat := 0
  deriving DecidableEq, Repr

/-- A multicast group as a destination. -/
def State.groupDest (s : State) (g : Nat) : BaseDest :=
  match s.groupSet g with
  | some m => ⟨m, [], 1⟩
  | none => ⟨0, [T.fwdDev 0], 1⟩

/-- Flooding as a destination; where the VLAN turns it off, the frame is not flooded and only FWD_NO_DEST counts
it (R125). -/
def State.floodDest (s : State) (ing vid da : Nat) : BaseDest :=
  ⟨s.floodSet ing vid (daKind da), if s.floodOff vid (daKind da) then [] else [T.fwd ing (11 + daKind da)], 2⟩

/-- The DA result or what replaces it. -/
def State.daDest (s : State) (ing vid : Nat) (p : Parsed) (hit : Option Nat) (flood : Bool) :
    BaseDest :=
  match hit with
  | some e =>
    if flood then s.floodDest ing vid p.da
    else if ew e 1 20 1 = 1 then s.groupDest (ew e 1 8 12)
    else ⟨2 ^ ew e 1 0 8, [], 0⟩
  | none => s.floodDest ing vid p.da

/-- Decision on an Ethernet item (R106 to R125, R166). The broadcast DA is not looked up, so a MAC entry that holds it gives no
TRACE, CPU_COPY or DROP_DA (DESIGN CHOICE, log 110). -/
def State.ethDecide (s : State) (it : Item) : Decision :=
  let p := parseFrame it.bytes
  let ing := it.ingress
  if p.short || (p.tagged && p.vid == 0xFFF) then
    { op := 0, rank := 1, cause := 1, baseCounts := [T.fwd ing 0] }
  else
    let asm := ing == asmPort
    let c := s.classify ing p
    let v := s.vlanEntry c.vid
    let bad := s.ingressBad ing p
    let st : StreamOut := if bad then {} else s.streamStage it c.vid p
    let cls := st.cls.getD c.cls
    let fw := s.firewall it p cls c.vid
    let trap := s.trap p
    let filt := !asm && s.isF (F.PRT_FWD_CFG_ING_FILTER ing) && !bit (s.members c.vid) ing
    let learning := !asm && s.getF (F.PRT_FWD_CFG_STATE ing) == 1
    let dropTo7 := bad || st.drop3 || st.drop4 || fw.verdict == 1
      || (trap == .llDrop && fw.verdict != 2)
      || (filt && trap == .none && fw.verdict != 2)
    let may := !dropTo7 && !asm && decide (ing ≤ 34) && !isMulticast p.sa
      && s.isF (F.PRT_FWD_CFG_LEARN_EN ing) && ew v 3 37 1 == 0
    let sa := s.saLookup ing c.vid p.sa may
    let da := if p.da = bcast then none
      else (s.findKey tMac (macKey p.da c.vid)).map (fun i => s.entry tMac i)
    let daBit (b : Nat) : Bool := match da with
      | none => false
      | some e => ew e 1 b 1 == 1
    let vlanTrace := ew v 3 40 1 == 1
    let strTrace := st.idx.isSome && ew st.e 0 39 1 == 1
    let macTrace := sa.trace || daBit 25
    let reason := b2n fw.trace + 2 * b2n strTrace + 4 * b2n vlanTrace + 8 * b2n macTrace
      + 64 * b2n st.early
    let learnCounts := (if sa.staticMove then [T.fwd ing 16] else [])
      ++ (if sa.limit then [T.fwd ing 8] else [])
    let d : Decision :=
      { op := 0, cls := cls, vid := c.vid, pcp := c.pcp, dei := p.dei, retag := true
        popRtag := st.idx.isSome && ew st.e 7 11 1 == 1, untag := ew v 3 0 36, strE := st.e, learn := sa.learn
        upds := st.upds ++ fw.upds, meter := fw.meter, smeter := st.smeter, block := st.block
        latch := st.latch, trace := reason != 0, counts := st.counts ++ fw.counts
        baseCounts := learnCounts, rule := fw.rule, stream := st.idx, strKey := st.key, reason := reason }
    let drop (r cause : Nat) (cs : List Nat) : Decision :=
      { d with op := 0, rank := r, cause := cause, baseCounts := learnCounts ++ cs }
    if bad then drop 2 2 [T.fwd ing 1]
    else if st.drop3 then drop 3 3 []
    else if st.drop4 then drop 4 41 []
    else if fw.verdict = 1 then drop 4 4 []
    else if fw.verdict = 2 then { d with op := 2, cpu := fw.cpu, cpuCls := fw.cls, retag := false }
    else match trap with
    | .to cpu k =>
      { d with op := 3, cpu := cpu, cpuCls := k, retag := false
               baseCounts := learnCounts ++ [T.fwd ing 2] }
    | .llDrop => drop 6 6 [T.fwd ing 3]
    | .none =>
      if filt then drop 7 7 [T.fwd ing 4]
      else if learning then drop 8 8 [T.fwd ing 5]
      else if sa.drop then drop 9 9 [T.fwd ing 6]
      else if daBit 21 then drop 10 10 [T.fwd ing 7]
      else if sa.limit && !s.isF (F.PRT_FWD_CFG_LIMIT_ACT ing) then drop 11 11 [T.fwd ing 9]
      else
        let listen := st.idx.isSome && ew st.e 0 29 1 == 1
        let split := listen && p.etype == 0x22F0
        let base : BaseDest :=
          if listen && ew st.e 0 38 1 == 0 then ⟨0, [], 0⟩
          else if st.idx.isSome && ew st.e 0 40 1 == 1 then s.groupDest (ew st.e 0 41 12)
          else if it.destOv.isSome then ⟨2 ^ it.destOv.getD 0, [], 0⟩
          else s.daDest ing c.vid p da (sa.limit || sa.noRoom)
        let set := if daBit 23 then
            base.set ||| 2 ^ (32 + b2n (daBit 24))
          else base.set
        let dest := s.prune ing c.vid set
        let gone := dest == 0 && !split
        let lost := gone && s.namesAbsent set
        { d with
          op := if split then 5 else 1
          dest := dest, why := base.why
          lctx := if split then some (ew st.e 0 30 8) else none
          baseCounts := learnCounts ++ base.counts ++ (if gone then [T.fwd ing 10] else [])
            ++ (if lost then [T.glb 1] else []) }

/-! ### Rod records and ACF message items (R107, R87 to R91) -/

/-- Result of the carry lookup (R87 to R89). -/
structure CarryRes where
  /-- A miss: some true when the key check failed. -/
  miss : Option Bool := none
  e : Nat := 0
  deriving DecidableEq, Repr

/-- The key check of R88; an injected record compares kind and identifier only. -/
def carryKeyOk (it : Item) (h : RecHdr) (e : Nat) : Bool :=
  ew e 0 29 3 == kindOf h.fmt && ew e 0 0 29 == identOf h.fmt h.id
    && (it.injected || (match it.lctx with
      | some c => ew e 0 40 1 == 1 && ew e 0 32 8 == c
      | none => ew e 0 40 1 == 0 && ew e 0 32 8 == it.ingress - 64))

/-- Carry lookup of an item's index. -/
def State.carryLookup (s : State) (it : Item) : CarryRes :=
  let h := recHdr it.bytes
  let i := h.w2 % 2 ^ 16
  let e := s.entry tCarry i
  if 16384 ≤ i ∧ (16384 + s.getF F.CRY_CFG_EXT_SIZE ≤ i ∨ !s.isF F.CRY_CFG_EXT_OK) then
    { miss := some false }
  else if ew e 1 0 1 = 0 then { miss := some false }
  else if ew e 0 41 1 = 1 ∧ !carryKeyOk it h e then { miss := some true }
  else { e := e }

/-- Targets of a carry entry that are to be served, as a mask of list positions. -/
def State.carryMask (s : State) (e : Nat) : Nat :=
  (List.range (min 8 (ew e 1 1 4))).foldl (fun n k =>
    if ew (s.entry tTarget (ew e 1 5 15 + k)) 0 23 1 = 1 then n + 2 ^ k else n) 0

/-- Decision on a rod record or an ACF message item (stages 6 to 9). The mask bit 8 stands for the
unconverted delivery of a miss to port 32 (R89). -/
def State.rodDecide (s : State) (it : Item) : Decision :=
  let h := recHdr it.bytes
  let fromRod := decide (64 ≤ it.ingress ∧ it.ingress < 192) && it.lctx.isNone && !it.injected
  let cad := if fromRod && bits h.w2 26 1 == 1 then
      let c := s.cadenceStage it.cadKey (bits h.w2 24 2) (bits h.w3 0 12) (bits h.w3 12 12)
        (extend32 (t32 it.t) s.nowNs) (bits h.w2 27 2) (it.ingress - 64) h.id
      some c
    else none
  let drop6 := match cad with | some c => c.1 | none => false
  let early := match cad with | some c => c.2.1 | none => false
  let fw := s.firewall it {} 0 0
  let c := s.carryLookup it
  let hit := c.miss.isNone
  let carryTrace := hit && ew c.e 1 20 1 == 1
  let reason := b2n fw.trace + 16 * b2n carryTrace + 64 * b2n early
  let d : Decision :=
    { op := 0, carry := h.w2 % 2 ^ 16, meter := fw.meter, trace := reason != 0
      counts := fw.counts, rule := fw.rule, reason := reason
      upds := (match cad with | some c => [c.2.2] | none => []) }
  if drop6 then { d with rank := 4, cause := 41 }
  else if fw.verdict = 1 then { d with rank := 4, cause := 4 }
  else if fw.verdict = 2 then { d with op := 2, cpu := fw.cpu, cpuCls := fw.cls }
  else if it.injected && !recConsistent it.bytes then
    { d with op := 4, baseCounts := [T.cry 4] }
  else match c.miss with
  | some bad =>
    { d with op := 4, carryMask := if s.isF F.CRY_CFG_MISS_CPU then 2 ^ 8 else 0
             baseCounts := [T.cry (b2n bad)] }
  | none =>
    { d with op := 4, carryMask := s.carryMask c.e, carryBase := ew c.e 1 5 15
             baseCounts := if ew c.e 1 1 4 = 0 then [T.cry 2] else [] }

/-- The decision a plane reaches on an item (R106, R107). -/
def State.planeDecide (s : State) (it : Item) : Decision :=
  if it.isRod then s.rodDecide it else s.ethDecide it

end Sys2Proof.Machine
end

