-- ==== Sys2Proof/Machine/Egress.lean ====
section
/-! DEFINITION. Frames as they leave a port (R114, R176, R184, R217, R275, R276), link rates, counted
lengths (R184, R185), the shaper algorithms (R193, R194), gate fit (R189, R190) and the enqueuing of a
reference at a destination (R38, R45, R57, R71, R194, R196). -/

namespace Sys2Proof.Machine

/-! ### Rates -/

/-- Data rate of a MAC mode in Mbit/s (Table 19.5) (PRESUMED, log 21). -/
def rateOf (mode : Nat) : Nat :=
  match mode with
  | 1 => 25000
  | 2 => 10000
  | 3 => 5000
  | 4 => 2500
  | 5 => 1000
  | 6 => 10
  | _ => 0

/-- Data rate of Ethernet port `p`: that of the mode in use, or of MODE before a first link-up. -/
def State.portRate (s : State) (p : Nat) : Nat :=
  let now := s.getF (F.PRT_MAC_STAT_MODE_NOW p)
  rateOf (if now = 0 then s.getF (F.PRT_MAC_CFG_MODE p) else now)

/-- Egress frame preemption is active on port `p` (R197). -/
def State.fpActive (s : State) (p : Nat) : Bool :=
  decide (p < 16) && s.isF (F.SCH_FP_CFG_FP_EN p)
    && (s.isF (F.SCH_FP_CFG_VERIFY_DIS p) || s.getF (F.SCH_FP_STAT_VERIFY_STATUS p) == 3)

/-- Set the ACTIVE status bit from its conditions (R197). -/
def State.fpUpdate (s : State) (p : Nat) : State := s.setB (F.SCH_FP_STAT_ACTIVE p) (s.fpActive p)

/-! ### Timestamps (R216) -/

/-- A timestamp of Ethernet port `p` from the clock `t` at the end of the SFD: whole units of 2^-16 ns; on B and G
ports the port's correction is added, signed, in 1/16 ns; an S port has none. -/
def stampOf (p corr t : Nat) : Nat :=
  let c : Int := if 16 ≤ p then 0 else if corr < 2 ^ 15 then corr else (corr : Int) - 2 ^ 16
  ((((t / 2 ^ 24 * 2 ^ 24 : Nat) : Int) + c * 2 ^ 36) % (clkTop : Int)).toNat

/-! ### Frame form at egress -/

/-- One step of the reflected CRC-32 of IEEE 802.3 (PRESUMED, log 14). -/
def fcsStep (crc : Nat) (b : Bool) : Nat :=
  if (crc % 2 == 1) != b then (crc / 2) ^^^ 0xEDB88320 else crc / 2

/-- FCS of a frame's bytes from DA to the end of the data, as sent on the wire (PRESUMED, log 14). -/
def fcsOf (bs : List Byte) : List Byte :=
  leBytes 4 ((bs.foldl (fun c b =>
    (List.range 8).foldl (fun c i => fcsStep c (b.getLsbD i)) c) 0xFFFFFFFF) ^^^ 0xFFFFFFFF)

/-- Tags of a received frame: DA and SA, VLAN tag, R-tag, the rest without FCS. -/
def splitTags (frame : List Byte) : List Byte × List Byte × List Byte × List Byte :=
  let bs := frame.take (frame.length - 4)
  let rest := bs.drop 12
  let tl := if beAt bs 12 2 = 0x8100 then 4 else 0
  let after := rest.drop tl
  let rl := if beAt after 0 2 = 0xF1C1 then 6 else 0
  (bs.take 12, rest.take tl, after.take rl, after.drop rl)

/-- Bytes from DA to the end of the data as they leave Ethernet port `p` before MACsec and padding
(R114, R176). -/
def egressBody (it : Item) (r : QRef) : List Byte :=
  let (mac, tag, rtag, rest) := splitTags it.bytes
  let tag := if !r.retag then tag
    else if r.untag then []
    else beBytes 2 0x8100 ++ beBytes 2 (r.pcp * 2 ^ 13 + b2n r.dei * 2 ^ 12 + r.vid)
  let rtag := match r.rtag with
    | .keep => rtag
    | .strip => []
    | .insert n => beBytes 2 0xF1C1 ++ [0, 0] ++ beBytes 2 n
  mac ++ tag ++ rtag ++ rest

/-- Port `p` protects the frames it transmits (Table 10.8). -/
def State.msecTx (s : State) (p : Nat) : Bool := decide (p < 16) && s.isF (F.PRT_MSEC_CFG_TX_EN p)

/-- Bytes that MACsec adds at port `p`: the SecTAG, 16 bytes with an SCI and 8 without, and the ICV. -/
def State.msecGrow (s : State) (p : Nat) : Nat :=
  if s.msecTx p then (if s.isF (F.PRT_MSEC_CFG_INCLUDE_SCI p) then 32 else 24) else 0

/-- Bytes on the wire from DA to FCS at Ethernet port `p` (R184). -/
def State.wireLen (s : State) (p : Nat) (it : Item) (r : QRef) : Nat :=
  max 64 ((egressBody it r).length + s.msecGrow p + 4)

/-- Counted length in bytes at Ethernet port `p` (R184). -/
def State.lenC (s : State) (p : Nat) (it : Item) (r : QRef) : Nat :=
  s.wireLen p it r + s.getF (F.SCH_PORT_CFG_OVH p)

/-- Counted length in bits at rod `n` (R185). -/
def State.rodLenC (s : State) (n : Nat) (it : Item) : Nat :=
  8 * (it.len - 16) + s.getF (F.SCH_ROD_OVH_OVH_BITS n)

/-! ### Gate fit (R189, R190) -/

/-- A gate list with the cut-offs of R187 applied: durations in 2^-40 ns that sum to the cycle. -/
def gateNorm : List (Nat × Nat × Nat) → Nat → List (Nat × Nat × Nat)
  | [], _ => []
  | [e], left => if left = 0 then [] else [(left, e.2)]
  | e :: es, left =>
    if left = 0 then []
    else if left ≤ e.1 then [(left, e.2)]
    else (e.1, e.2) :: gateNorm es (left - e.1)

/-- Open time of a class from position `p` of a normalised list: none when it never closes. `acc` runs
through the list and once more from its start. -/
def openRun (l : List (Nat × Bool)) (p : Nat) : Option Nat :=
  if l.all (fun e => e.2) then none else some (go (l ++ l) p 0)
where
  go : List (Nat × Bool) → Nat → Nat → Nat
    | [], _, acc => acc
    | e :: es, p, acc =>
      if e.1 ≤ p then go es (p - e.1) acc
      else if e.2 then go es 0 (acc + (e.1 - p)) else acc

/-- The open and closed runs of class `c` in a normalised list. -/
def classRuns (l : List (Nat × Nat × Nat)) (c : Nat) : List (Nat × Bool) :=
  l.map (fun e => (e.1, bit e.2.1 c))

/-- Time for which the gate of class `c` stays open at port `p` from working-clock time `t`: none
without end (R189). Before the first swap every gate is open until the pending change time (R188). -/
def State.openTime (s : State) (p c t : Nat) : Option Nat :=
  if !s.isF (F.SCH_PORT_CFG_GATE_EN p) then none
  else
    let cyc := ns40 (s.getF (F.SCH_OPER_CYCLE_CYCLE p))
    let l := classRuns (gateNorm (gateScale (s.schList p)) cyc) c
    let run := if s.gatesOn p then openRun l (cyclePos t (sget (fun _ => 0) s.dp.gateBase p) cyc) else none
    match sget (fun _ => none) s.dp.gatePend p with
    | none => run
    | some g =>
      let left := g.at40 - t
      let next := openRun (classRuns (gateNorm (gateScale g.entries) (ns40 g.cycle)) c) 0
      match run with
      | some r => if r < left then some r else next.map (fun n => left + n)
      | none => next.map (fun n => left + n)

/-- MAX_OPEN of a class in a new operational list, in whole ns (R190). -/
def maxOpen (entries : List (Nat × Nat × Nat)) (cycle c : Nat) : Nat :=
  let l := classRuns (gateNorm entries cycle) c
  if l.all (fun e => e.2) then 0x3FFFFFFF
  else
    min 0x3FFFFFFF ((l ++ l).foldl (fun (a : Nat × Nat) e =>
      let cur := if e.2 then a.1 + e.1 else 0
      (cur, max a.2 cur)) (0, 0)).2

/-- A transmission of `lenC` bytes at `rate` Mbit/s lasts no longer than `t40` (units of 2^-40 ns). -/
def fitsIn (lenC rate t40 : Nat) : Bool := decide (lenC * 8000 * 2 ^ 40 ≤ t40 * rate)

/-! ### Shapers (R193, R194) -/

/-- Credit unit: 2^24 per bit; the saturation bound. -/
abbrev creditTop : Int := (2 ^ 31 - 1) * 2 ^ 24

/-- Saturate a credit. -/
def satCredit (c : Int) : Int := max (-creditTop) (min creditTop c)

/-- One CLK_FAB cycle of accrual at `idle` bit/s: whole units of 2^-24 bit, remainder kept. -/
def accrue (c : ClassSt) (idle : Nat) : ClassSt :=
  let x : Nat := idle * 2 ^ 22 * 5 + c.rem
  { c with credit := satCredit (c.credit + ((x / 1000000000 : Nat) : Int)), rem := x % 1000000000 }

/-- Charge a send of `bits` bits. -/
def charge (c : ClassSt) (nbits : Nat) : ClassSt :=
  { c with credit := satCredit (c.credit - nbits * 2 ^ 24) }

/-- CREDIT as the register shows it: whole bits toward minus infinity, two's complement (R193). -/
def creditWord (c : Int) : Nat := ((c / 2 ^ 24) % 2 ^ 32).toNat

/-- Shaper kind, rate in bit/s, ATS bucket in bits and maximum residence in ns of class queue `cls` of
port index `p`; rods take SCH_RODQ (R200), ports 32 to 35 have none (R181). -/
def State.shaperOf (s : State) (p cls : Nat) : Nat × Nat × Nat × Nat :=
  if p < 32 then
    let sh := s.getF (F.SCH_CLASS_W0_SHAPER p cls)
    (sh, 1000 * (if sh = 1 then s.getF (F.SCH_CLASS_IDLE_IDLE p cls)
      else s.getF (F.SCH_CLASS_CIR_CIR p cls)),
     8 * s.getF (F.SCH_CLASS_CBS_ATS_CBS p cls), s.getF (F.SCH_CLASS_MAXRES_MAXRES p cls))
  else if 64 ≤ p ∧ cls < 8 then
    (s.getF (F.SCH_RODQ_W0_SHAPER (p - 64) cls), s.getF (F.SCH_RODQ_RATE_RATE (p - 64) cls),
     s.getF (F.SCH_RODQ_BURST_BURST (p - 64) cls), 0)
  else (0, 1, 0, 0)

/-- Duration of `nbits` bits at `rate` bit/s, in 2^-40 ns, rounded down (DESIGN CHOICE, log 20). -/
def bitTime (nbits rate : Nat) : Nat := nbits * 1000000000 * 2 ^ 40 / rate

/-- The algorithm of R194 for an item of `nbits` bits: eligibility time and new state, none when the
item exceeds the maximum residence (DESIGN CHOICE, log 20). -/
def State.ats (s : State) (p cls nbits : Nat) : Option (Nat × ClassSt) :=
  let (_, rate, cbs, maxres) := s.shaperOf p cls
  let c := s.classSt p cls
  let a : Int := s.shape40
  let rec_ : Int := bitTime nbits rate
  let full : Int := bitTime cbs rate
  let empty := c.emptyT.getD ((s.dp.atsBase : Int) - full)
  let sched := empty + rec_
  let bfull := empty + full
  let elig := max a (max c.groupT sched)
  if maxres ≠ 0 ∧ a + (maxres : Int) * 2 ^ 40 < elig then none
  else
    some (elig.toNat, { c with
      groupT := elig
      emptyT := some (if elig < bfull then sched else sched + (elig - bfull)) })

/-- A class is held by its shaper (R38, R195); `elig` is the head item's eligibility time. -/
def State.held (s : State) (p cls elig : Nat) : Bool :=
  let (sh, _, _, _) := s.shaperOf p cls
  (sh == 1 && decide ((s.classSt p cls).credit < 0)) || (sh == 2 && decide (s.shape40 < elig))

/-! ### Enqueuing -/

/-- Gate of class `cls` of port `p` is open now (R187). -/
def State.gateOpen (s : State) (p cls : Nat) : Bool := bit (s.gatesAt p s.tb.clk) cls

/-- Cut-through conditions of R38 for ingress `ing` toward Ethernet port `p`. -/
def State.cutOk (s : State) (ing p cls elig : Nat) : Bool :=
  decide (ing < 32) && decide (p < 32)
    && !(decide (ing < 16) && s.getF (F.PRT_MSEC_CFG_VALIDATE ing) != 0)
    && decide (s.portRate p ≤ s.portRate ing) && (s.queue p cls).isEmpty
    && s.gateOpen p cls && !s.held p cls elig

/-- Class wake-up of fair sharing (R196): a queue that was empty starts now, never in the past. -/
def State.wakeClass (s : State) (p cls : Nat) : State :=
  if p < 32 ∧ (s.queue p cls).isEmpty then
    let c := s.classSt p cls
    let v := sget (fun _ => 0) s.dp.vtime (8 * p + s.getF (F.SCH_CLASS_W0_LEVEL p cls))
    let d := (c.ftag + 2 ^ 48 - v) % 2 ^ 48
    s.setClassSt p cls { c with stag := if d < 2 ^ 47 then c.ftag else v }
  else s

/-- The frame of class `cls` has been sent: a class that still holds items goes on from its finish tag (R196). -/
def State.afterSend (s : State) (p cls : Nat) : State :=
  let st := s.classSt p cls
  if (s.queue p cls).isEmpty then s else s.setClassSt p cls { st with stag := st.ftag }

/-- Append a reference to a class queue and count it on the item (R44). -/
def State.push (s : State) (p cls : Nat) (r : QRef) : State :=
  ((s.wakeClass p cls).setQueue p cls (s.queue p cls ++ [r])).addRef r.item

/-- Enqueue to a class queue of an Ethernet, CPU or host DMA port: cap (R45), ATS (R194),
cut-through (R38). -/
def State.enqueue (s : State) (p cls : Nat) (r : QRef) : State :=
  match s.item r.item with
  | none => s
  | some it =>
    if it.noBead then s
    else if it.bad then s.tally (T.buf p 5)
    else if s.cap p cls ≤ s.queueBeads p cls then s.tally (T.buf p 1)
    else if p < 32 ∧ s.getF (F.SCH_CLASS_W0_SHAPER p cls) = 2 then
      match s.ats p cls (8 * s.lenC p it r) with
      | none => s.tally (T.schClass p cls 3)
      | some (elig, c) =>
        let r := { r with elig := elig, cut := s.cutOk it.ingress p cls elig }
        (s.setClassSt p cls c).push p cls r
    else s.push p cls { r with cut := s.cutOk it.ingress p cls 0 }

/-! ### Rod queues -/

/-- State code of rod `n` (Table 2.7). -/
def State.rodState (s : State) (n : Nat) : Nat := s.getF (F.ROD_STAT_STATE n)

/-- Rod `n` runs in a LIN mode. -/
def State.isLin (s : State) (n : Nat) : Bool := decide (3 ≤ s.getF (F.ROD_STAT_MODE n))

/-- Refresh TX_PENDING (Table 2.4). -/
def State.txPending (s : State) (n : Nat) : State :=
  s.setB (F.ROD_STAT_TX_PENDING n) ((List.range 9).any (fun q => !(s.queue (64 + n) q).isEmpty))

/-- Drive a LIN wake-up pulse (R76). -/
def State.linPulse (s : State) (n : Nat) : State :=
  let r := s.rod n
  if s.isF (F.ROD_CTL_LISTEN_ONLY n) then s
  else (s.setRod n { r with wakePulses := r.wakePulses + 1 }).emit (.linWake n)

/-- An item due at launch time `l` (R71). -/
def dueAt (l now : Nat) : Bool := decide ((now + 2 ^ 32 - l) % 2 ^ 32 < 2 ^ 31)

/-- Insert by launch time, equal times in order of arrival (R71); `now` gives the modular order. -/
def insLaunch (now : Nat) (r : QRef) : List QRef → List QRef
  | [] => [r]
  | q :: qs =>
    let k (x : QRef) := (x.launch + 2 ^ 31 + 2 ^ 32 - now % 2 ^ 32) % 2 ^ 32
    if k r < k q then r :: q :: qs else q :: insLaunch now r qs

/-- Enqueue to rod `n`: priority queue `q`, or 8 for the launch-time queue (R57, R71, R76, R200). -/
def State.rodEnqueue (s : State) (n q : Nat) (r : QRef) : State :=
  let st := s.rodState n
  match s.item r.item with
  | none => s
  | some it =>
    if st = 1 ∨ st = 6 ∨ st = 7 then s.tally (T.rodNotActive n)
    else if q = 8 then
      if 64 ≤ (s.queue (64 + n) 8).length then s.tally (T.rodLaunchFull n)
      else
        let s := (s.setQueue (64 + n) 8 (insLaunch s.now32 r (s.queue (64 + n) 8))).addRef r.item
        let s := s.txPending n
        if st = 8 ∧ (s.rod n).wakePulses = 0 then s.linPulse n else s
    else if s.cap (64 + n) q ≤ s.queueBeads (64 + n) q then s.tally (T.buf (64 + n) 1)
    else
      let s' := if s.getF (F.SCH_RODQ_W0_SHAPER n q) = 2 then
          match s.ats (64 + n) q (s.rodLenC n it) with
          | none => s.tally (T.schRodAts n q)
          | some (elig, c) => (s.setClassSt (64 + n) q c).push (64 + n) q { r with elig := elig }
        else s.push (64 + n) q r
      let s := s'.txPending n
      if st = 8 ∧ (s.rod n).wakePulses = 0 then s.linPulse n else s

end Sys2Proof.Machine
end

