-- ==== Sys2Proof/Machine/Carry.lean ====
section
/-! DEFINITION. Carries: format conversion (R93, R94), ACF messages (R95, R96), the ACF assembler (R97 to
R99) and splitter (R100 to R102), launch times (R103), and the entry of an item into the header stream
(R37, R42, R236). -/

namespace Sys2Proof.Machine

/-! ### Header stream -/

/-- A plane that is in service and drives a claim (R233, Table 9.5). -/
def State.planeIn (s : State) (b : Bool) : Bool :=
  s.getF (if b then F.SAF_PLANE_STAT_STATE_B else F.SAF_PLANE_STAT_STATE_A) == 1

/-- Some plane is in service or is being checked (DESIGN CHOICE, log 30). -/
def State.anyPlane (s : State) : Bool := s.planeServes false || s.planeServes true

/-- Place the header record of item `i` into the header stream with the decision that the stages reach
on the tables as they stand (R37, R106). While the stream is held, 8,192 records queue (R236); with no
plane in service every item is dropped (Table 1.11). -/
def State.enterStream (s : State) (i : Nat) : State :=
  match s.item i with
  | none => s
  | some it =>
    if !s.anyPlane then (s.dropItem i).tally (T.saf 9)
    else if s.dp.held ∧ 8192 ≤ s.dp.stream.length then (s.dropItem i).tally (T.saf 2)
    else { s with dp := { s.dp with stream := s.dp.stream ++ [⟨i, false, s.planeDecide it⟩] } }

/-- Add an item with its beads claimed from ingress `p` (R45) and enter it into the stream; with too few
beads it is dropped and tallied as buffer exhaustion. -/
def State.injectItem (s : State) (it : Item) : State :=
  match s.claim it.ingress (beadsOf it.len) with
  | none => s.tally (T.buf it.ingress 2)
  | some (r, sh, s) =>
    let (i, s) := s.newItem { it with resBeads := r, shBeads := sh }
    s.enterStream i

/-! ### Conversion (R93, R94, Table 3.6) -/

/-- Result of a conversion. -/
inductive Conv where
  | ok (record : List Byte)
  | format
  | length
  deriving DecidableEq, Repr

/-- Output format of a target for a source format (Table 3.5). -/
def outFmt (t0 src : Nat) : Nat := if bits t0 10 3 ≤ 5 then bits t0 10 3 else src

/-- Convert a record for a target with words `t0` and `t1`; `acf` selects the ACF outputs (their length set for XL, brs and esi
for every CAN output), and `esi` is the rod's own error state. An extended identifier kept toward a base format is a format
error (R93). -/
def convert (rec : List Byte) (t0 t1 : Nat) (acf esi : Bool) : Conv :=
  let h := recHdr rec
  let data := recData rec
  let n := data.length
  let o := outFmt t0 h.fmt
  let ident := if bit t0 18 then identOf h.fmt h.id else bits t1 0 29
  let rtr := h.fmt != 4 && bit h.w1 0
  let idOk := match o with
    | 0 | 2 => decide (ident ≤ 0x7FF) && !(bit t0 18 && (h.fmt == 1 || h.fmt == 3))
    | 4 => decide (ident ≤ 0x7FF)
    | 1 | 3 => true
    | 5 => decide (ident ≤ 0x3F)
    | _ => false
  let lenOk := lenLegal o n && (!acf || o != 4 || decide (n ≤ 2028))
  if !idOk || (rtr && decide (2 ≤ o)) then .format
  else if !lenOk then .length
  else
    let srcFd := h.fmt == 2 || h.fmt == 3
    let brs := if srcFd then bit h.w1 1 else bit t0 19
    let marks (e : Bool) := 2 * b2n brs + 4 * b2n e
    let w1 := match o with
      | 0 | 1 => b2n rtr + (if acf then marks (srcFd && bit h.w1 2) else 0) + 16 * (if h.fmt ≤ 1 then bits h.w1 4 4 else n)
      | 2 | 3 => marks (if acf then srcFd && bit h.w1 2 else esi) + 16 * fdDlc n
      | 4 => if h.fmt = 4 then h.w1 else identOf h.fmt h.id
      | _ => 8 * b2n (if h.fmt = 5 then bit h.w1 3 else bit t0 21)
    let xl := if h.fmt = 4 ∧ !bit t0 20 then h.id / 2 ^ 11 * 2 ^ 11
      else bits t1 29 8 * 2 ^ 11 + bits t1 37 8 * 2 ^ 19 + bits t1 45 1 * 2 ^ 27
    let id := if o = 4 then ident + xl else ident
    .ok (({ h with id := id, fmt := o, w1 := w1 } : RecHdr).bytes ++ data)

/-! ### ACF messages (R95, R96; field places of IEEE 1722-2016) -/

/-- Pad a message body to whole quadlets. -/
def quadPad (bs : List Byte) : List Byte := bs ++ List.replicate ((4 - bs.length % 4) % 4) 0

/-- The first 16 bits of an ACF message: type and length in quadlets (PRESUMED, log 13). -/
def acfHead (ty len : Nat) : List Byte := beBytes 2 (ty * 512 + len / 4)

/-- The ACF message of a converted record: `t64` is the source receive timestamp in ns, `tag` is
XL_GPC_TAG (Table 3.8) (PRESUMED, log 13). -/
def acfMessage (rec : List Byte) (t1 tag : Nat) (brief : Bool) (t64 : Nat) : List Byte :=
  let h := recHdr rec
  let data := recData rec
  let bus := bits t1 46 5
  let body := quadPad data
  let pad := body.length - data.length
  match h.fmt with
  | 4 =>
    let n := data.length
    let gid := tag * 2 ^ 40 + bus * 2 ^ 35 + bits h.id 27 1 * 2 ^ 34 + bits h.id 19 8 * 2 ^ 26
      + bits h.id 11 8 * 2 ^ 18 + bits h.id 0 11 * 2 ^ 7
    acfHead 5 (16 + body.length) ++ beBytes 6 gid ++ beBytes 4 h.w1 ++ [0, 0] ++ beBytes 2 (n - 1)
      ++ body
  | 5 =>
    acfHead 3 (12 + body.length) ++ beBytes 1 (pad * 64 + 32 + bus) ++ beBytes 1 (h.id % 256)
      ++ beBytes 8 t64 ++ body
  | f =>
    let flags (mtv : Nat) := pad * 64 + mtv * 32 + bits h.w1 0 1 * 16 + b2n (f == 1 || f == 3) * 8
      + bits h.w1 1 1 * 4 + b2n (f == 2 || f == 3) * 2 + bits h.w1 2 1
    if brief then
      acfHead 2 (8 + body.length) ++ beBytes 1 (flags 0) ++ beBytes 1 bus ++ beBytes 4 h.id ++ body
    else
      acfHead 1 (16 + body.length) ++ beBytes 1 (flags 1) ++ beBytes 1 bus ++ beBytes 8 t64
        ++ beBytes 4 h.id ++ body

/-! ### The assembler (R97 to R99) -/

/-- AVTP header length of a talker entry. -/
def avtpLen (e : Nat) : Nat := if ew e 1 62 1 = 1 then 24 else 12

/-- Batch capacity C (R98). -/
def batchCap (e : Nat) : Nat :=
  let c := ew e 1 48 14 - 22 - avtpLen e
  if ew e 1 62 1 = 1 then c else min c 2047

/-- Open batch of a talker context. -/
def State.batchOf (s : State) (c : Nat) : Option Batch := sget (fun _ => none) s.dp.batch c

/-- Store it. -/
def State.setBatch (s : State) (c : Nat) (b : Option Batch) : State :=
  { s with dp := { s.dp with batch := sput (fun _ => none) s.dp.batch c b } }

/-- Bytes of an IEEE 1722 frame that a talker entry builds from messages (R97) (PRESUMED, log 13). -/
def avtpFrame (e seq ts : Nat) (msgs : List Byte) : List Byte :=
  let hdr := if ew e 1 62 1 = 1 then
      beBytes 1 0x05 ++ beBytes 1 0x81 ++ beBytes 1 seq ++ [0] ++ beBytes 8 (ew e 2 0 64)
        ++ beBytes 4 ts ++ [0, 0, 0, 0] ++ beBytes 2 msgs.length ++ [0, 0]
    else
      beBytes 1 0x82 ++ beBytes 1 (0x80 + msgs.length / 256 % 8) ++ beBytes 1 (msgs.length % 256)
        ++ beBytes 1 seq ++ beBytes 8 (ew e 2 0 64)
  let bs := beBytes 6 (ew e 0 0 48) ++ beBytes 6 (ew e 1 0 48) ++ beBytes 2 0x8100
    ++ beBytes 2 (ew e 0 60 3 * 2 ^ 13 + ew e 0 48 12) ++ beBytes 2 0x22F0 ++ hdr ++ msgs
  bs ++ fcsOf bs

/-- Emit the open batch of talker context `c` as a frame into the header stream under entry `e`
(R97, R98): no effect when no batch is open (DEDUCED, log 12). -/
def State.emitBatch (s : State) (c e : Nat) : State :=
  match s.batchOf c with
  | none => s
  | some b =>
    let seq := sget (fun _ => 0) s.dp.talkSeq c
    let frame := avtpFrame e seq ((b.firstTs + ew e 3 32 31) % 2 ^ 32) b.msgs.flatten
    let s := s.setBatch c none
    let s := { s with dp := { s.dp with talkSeq := sput (fun _ => 0) s.dp.talkSeq c ((seq + 1) % 256) } }
    let (i, s) := s.newItem { bytes := frame, isRod := false, ingress := asmPort, t := s.tb.clk
                              pass := b.pass + 1, shBeads := b.beads }
    (s.tally (T.cryTalk c 1)).enterStream i

/-- Append a message of `msg` bytes to the batch of context `c` whose entry is `e` (R98, R99): opens one
when none is open; dropped when no bead can be claimed. -/
def State.appendMsg (s : State) (c e : Nat) (msg : List Byte) (it : Item) (urgent : Bool) : State :=
  let s := match s.batchOf c with
    | some b => if batchCap e < b.msgs.flatten.length + msg.length then s.emitBatch c e else s
    | none => s
  let b := (s.batchOf c).getD ⟨[], 0, t32 it.t, it.pass, s.tb.fab, 0⟩
  let total := 22 + avtpLen e + b.msgs.flatten.length + msg.length
  let need := beadsOf total - b.beads
  if s.sharedPool < s.dp.shUsed + need then s.tally (T.cryTalk c 4)
  else
    let s := { s with dp := { s.dp with shUsed := s.dp.shUsed + need } }
    let b := { b with msgs := b.msgs ++ [msg], count := b.count + 1, pass := max b.pass it.pass
                      beads := b.beads + need }
    let s := (s.setBatch c (some b)).tally (T.cryTalk c 0)
    if urgent ∨ max 1 (ew e 3 16 8) ≤ b.count ∨ ew e 3 0 16 = 0 then s.emitBatch c e else s

/-- The head message of the assembler's queue is converted and appended, and its source reference
released (R97 to R99); one whose talker entry holds an uncorrectable error is dropped (Table 9.9). An injected record has its injection time for a receive timestamp (DESIGN CHOICE, log 105). -/
def State.acfAppend (s : State) : State :=
  match s.dp.acfQ with
  | [] => s
  | m :: rest =>
    match s.item m.item with
    | none => { s with dp := { s.dp with acfQ := rest } }
    | some it =>
      if !it.complete then s
      else
        let s := { s with dp := { s.dp with acfQ := rest } }
        let e := s.entry tTalker m.ctx
        let t0 := m.target % 2 ^ 64
        let t1 := m.target / 2 ^ 64
        let s :=
          if s.poisoned tTalker m.ctx then s
          else if ew e 0 63 1 = 0 then s.tally (T.cryTalk m.ctx 5)
          else match convert it.bytes t0 t1 true false with
          | .format => s.tally (T.cryTalk m.ctx 2)
          | .length => s.tally (T.cryTalk m.ctx 3)
          | .ok rec =>
            let msg := acfMessage rec t1 (s.getF F.CRY_CFG_XL_GPC_TAG) (ew e 1 63 1 == 1)
              (it.t / 2 ^ 40 % 2 ^ 64)
            if batchCap e < msg.length then s.tally (T.cryTalk m.ctx 3)
            else s.appendMsg m.ctx e msg it (bit t0 22)
        s.release m.item

/-! ### The splitter (R100 to R102) -/

/-- A message that the splitter reads: how it resolves. -/
inductive AcfRead where
  | unsupported
  | bad
  /-- Record header, data, bus number and message timestamp. -/
  | msg (h : RecHdr) (data : List Byte) (bus : Nat) (ts : Option Nat)
  deriving DecidableEq, Repr

/-- Read one ACF message (R96, R101, Table 3.7). -/
def acfRead (gtag : Nat) (m : List Byte) : AcfRead :=
  let n := m.length
  let pad := byteAt m 2 / 64
  let b2 := byteAt m 2
  let can (hdr : Nat) (ts : Option Nat) (idAt : Nat) : AcfRead :=
    if n < hdr + pad then .bad
    else
      let data := (m.drop hdr).take (n - hdr - pad)
      let len := data.length
      let eff := bit b2 3
      let fdf := bit b2 1
      let rtr := bit b2 4
      let id := beAt m idAt 4 % 2 ^ 29
      let fmt := b2n eff + 2 * b2n fdf
      if (fdf && rtr) || !lenLegal fmt len || (!eff && decide (0x7FF < id)) then .bad
      else
        let dlc := if fdf then fdDlc len else len
        let w1 := b2n rtr + (if fdf then 2 * bits b2 2 1 + 4 * bits b2 0 1 else 0) + 16 * dlc
        .msg ⟨id, fmt, w1, 0, 0⟩ data (byteAt m 3 % 32) ts
  match byteAt m 0 / 2 with
  | 1 => can 16 (if bit b2 5 then some (beAt m 4 8) else none) 12
  | 2 => can 8 none 4
  | 3 =>
    if n < 12 + pad then .bad
    else
      let data := (m.drop 12).take (n - 12 - pad)
      if !lenLegal 5 data.length || decide (0x3F < byteAt m 3) then .bad
      else .msg ⟨byteAt m 3, 5, 0, 0, 0⟩ data (b2 % 32) (if bit b2 5 then some (beAt m 4 8) else none)
  | 5 =>
    let gid := beAt m 2 6
    if gid / 2 ^ 40 ≠ gtag then .unsupported
    else if n < 16 then .bad
    else
      let len := beAt m 14 2 % 2 ^ 11 + 1
      if n < 16 + len then .bad
      else
        let id := bits gid 7 11 + bits gid 18 8 * 2 ^ 11 + bits gid 26 8 * 2 ^ 19 + bits gid 34 1 * 2 ^ 27
        .msg ⟨id, 4, beAt m 8 4, 0, 0⟩ ((m.drop 16).take len) (bits gid 35 5) none
  | _ => .unsupported

/-- Carry index of a message in listener context `c` with entry `e` (R102). -/
def State.lkeyRoute (s : State) (c e : Nat) (h : RecHdr) (bus : Nat) : Option Nat :=
  match s.findKey tLkey (lkeyKey (identOf h.fmt h.id) (kindOf h.fmt) bus c) with
  | some i => some (ew (s.entry tLkey i) 1 0 16)
  | none => if ew e 1 3 1 = 1 then some (ew e 1 4 16) else none

/-- Handle the ACF messages of an AVTPDU in order (R101): `fuel` bounds their number. A message whose lookup meets a
poisoned way without finding its key is dropped (Table 9.9). -/
def State.splitMsgs (it : Item) (c e : Nat) (avtpTs : Option Nat) :
    Nat → List Byte → State → State
  | 0, _, s => s
  | fuel + 1, bs, s =>
    if bs.isEmpty then s
    else
      let len := beAt bs 0 2 % 512 * 4
      if len = 0 ∨ bs.length < len then s.tally (T.cryListen c 2)
      else
        let s := match acfRead (s.getF F.CRY_CFG_XL_GPC_TAG) (bs.take len) with
          | .unsupported => s.tally (T.cryListen c 3)
          | .bad => s.tally (T.cryListen c 4)
          | .msg h data bus ts =>
            if s.poisonMiss tLkey (lkeyKey (identOf h.fmt h.id) (kindOf h.fmt) bus c) then s
            else match s.lkeyRoute c e h bus with
            | none => s.tally (T.cryListen c 5)
            | some route =>
              s.injectItem { bytes := ({ h with w2 := route } : RecHdr).bytes ++ data, isRod := true
                             ingress := it.ingress, lctx := some c, t := it.t, avtpTs := avtpTs
                             msgTs := ts.map (· % 2 ^ 32), pass := it.pass + 1 }
        splitMsgs it c e avtpTs fuel (bs.drop len) s

/-- The splitter handles the AVTPDU of an item under listener context `c` (R100, R101); one whose listener entry holds an
uncorrectable error is dropped (Table 9.9). -/
def State.splitFrame (s : State) (it : Item) (c : Nat) : State :=
  let e := s.entry tListener c
  let p := parseFrame it.bytes
  let bs := (it.bytes.take (it.bytes.length - 4)).drop p.l3
  let sub := byteAt bs 0
  let tscf := sub == 0x05
  let hdr := if tscf then 24 else 12
  let dlen := if tscf then beAt bs 20 2 else beAt bs 1 2 % 2 ^ 11
  let seq := if tscf then byteAt bs 2 else byteAt bs 3
  let ok := ew e 1 0 1 == 1
    && (if tscf then ew e 1 2 1 == 1 else sub == 0x82 && ew e 1 1 1 == 1)
    && byteAt bs 1 / 128 == 1 && byteAt bs 1 / 16 % 8 == 0
    && beAt bs 4 8 == ew e 0 0 64 && decide (hdr + dlen ≤ bs.length)
  if s.poisoned tListener c then s
  else if !ok then s.tally (T.cryListen c 0)
  else
    let last := sget (fun _ => none) s.dp.listenSeq c
    let s := match last with
      | some l => if seq ≠ (l + 1) % 256 then s.tally (T.cryListen c 1) else s
      | none => s
    let s := { s with dp := { s.dp with
      listenSeq := sput (fun _ => none) s.dp.listenSeq c (some seq) } }
    let ts := if tscf ∧ bit (byteAt bs 1) 0 then some (beAt bs 12 4) else none
    State.splitMsgs it c e ts (dlen + 1) ((bs.drop hdr).take dlen) s

/-- The splitter takes its oldest item, when it is complete, and then releases it. -/
def State.acfSplit (s : State) : State :=
  match s.dp.splitQ with
  | [] => s
  | (i, c) :: rest =>
    match s.item i with
    | none => { s with dp := { s.dp with splitQ := rest } }
    | some it =>
      if !it.complete then s
      else
        let s := { s with dp := { s.dp with splitQ := rest } }
        (if it.bad then s else s.splitFrame it c).release i

/-! ### Launch (R103) -/

/-- Launch time of a rod target for an item: none when the selected timestamp does not exist. An injected record has its
injection time for a receive timestamp (DESIGN CHOICE, log 105). -/
def launchTime (it : Item) (t0 : Nat) : Option Nat :=
  let t := match bits t0 16 2 with
    | 1 => some (t32 it.t)
    | 2 => it.avtpTs
    | _ => it.msgTs
  t.map (fun t => (t + bits t0 32 31) % 2 ^ 32)

end Sys2Proof.Machine
end

