-- ==== Sys2Proof/Machine/Output.lean ====
section
/-! DEFINITION. The output stages on an accepted decision: meters (R146, R171), sequence recovery and
generation (R172 to R176), the trace recorder (R419), state updates (R151, R157), learn requests
(R122), carry targets (R91) and Ethernet destinations (R3, R38, R45). -/

namespace Sys2Proof.Machine

/-! ### Meters -/

/-- Units of a meter bucket per 256 bytes: 10^-5 byte each. At one unit of 64 kbit/s a CLK_FAB cycle
accrues exactly one unit. -/
abbrev meterBlock : Nat := 25600000
abbrev meterByte : Nat := 100000

/-- Firewall meter `m` on `len` bytes (R146): passes, and the new state. -/
def State.fwlMeter (s : State) (m len : Nat) : Bool × State :=
  let full := s.getF (F.FWL_METER_W1_CBS m) * meterBlock
  let b := (sget (fun _ => none) s.dp.meters m).getD ⟨full, 0, s.tb.fab⟩
  let tokens := min full (b.c + s.getF (F.FWL_METER_W0_CIR m) * (s.tb.fab - b.at_))
  let ok := decide (len * meterByte ≤ tokens)
  let b : Bucket := ⟨if ok then tokens - len * meterByte else tokens, 0, s.tb.fab⟩
  let s := { s with dp := { s.dp with meters := sput (fun _ => none) s.dp.meters m (some b) } }
  (ok, if ok then s else s.tally (T.fwlMeter m))

/-- Colours of R171. -/
inductive Colour where
  | green
  | yellow
  | red
  deriving DecidableEq, Repr

/-- Flow meter `m` on `len` bytes of an item with DEI `dei` (R171). -/
def State.flowMeter (s : State) (m len : Nat) (dei : Bool) : Colour × State :=
  let capC := s.getF (F.STR_METER_W1_CBS m) * meterBlock
  let capE := s.getF (F.STR_METER_W3_EBS m) * meterBlock
  let b := (sget (fun _ => none) s.dp.smeters m).getD ⟨capC, capE, s.tb.fab⟩
  let dt := s.tb.fab - b.at_
  let cNew := b.c + s.getF (F.STR_METER_W0_CIR m) * dt
  let c := min capC cNew
  let ovf := if s.isF (F.STR_METER_W3_CF m) then cNew - c else 0
  let e := min capE (b.e + s.getF (F.STR_METER_W2_EIR m) * dt + ovf)
  let l := len * meterByte
  let yel := s.isF (F.STR_METER_W3_COLOR_AWARE m) && dei
  let res : Colour × Nat × Nat :=
    if s.isF (F.STR_METER_W3_MARK_RED m) then (.red, c, e)
    else if !yel && decide (l ≤ c) then (.green, c - l, e)
    else if l ≤ e then (.yellow, c, e - l)
    else (.red, c, e)
  let s := { s with dp := { s.dp with
    smeters := sput (fun _ => none) s.dp.smeters m (some ⟨res.2.1, res.2.2, s.tb.fab⟩) } }
  let s := match res.1 with
    | .green => s.tally (T.strMeter m 2)
    | .yellow =>
      let s := s.tally (T.strMeter m 3)
      if s.isF (F.STR_METER_W3_DROP_YELLOW m) then s.tally (T.strMeter m 1) else s
    | .red =>
      let s := s.tally (T.strMeter m 0)
      if s.isF (F.STR_METER_W3_MARK_RED_EN m) then s.setB (F.STR_METER_W3_MARK_RED m) true else s
  (res.1, s)

/-! ### Sequence recovery and generation -/

/-- Recovery state under a stream key. -/
def State.rcvAt (s : State) (k : Nat) : Rcv := sget (fun _ => {}) s.dp.rcv k

/-- Store it. -/
def State.setRcv (s : State) (k : Nat) (r : Rcv) : State :=
  { s with dp := { s.dp with rcv := sput (fun _ => {}) s.dp.rcv k r } }

/-- Recovery state of stream `i` as it stands. -/
def State.rcvOf (s : State) (i : Nat) : Rcv := s.rcvAt (s.strKey i)

/-- All-ones history of `h` bits. -/
def histMask (h : Nat) : Nat := 2 ^ h - 1

/-- Clear bits among the `d` bits that leave an `h`-bit history (R173). -/
def zerosLeaving (hist h d : Nat) : Nat :=
  (List.range d).foldl (fun n k => if bit hist (h - d + k) then n else n + 1) 0

/-- Vector recovery of sequence number `q` (R173): pass, new state, tally members to increment and the
count of lost numbers. -/
def vectorRecover (r : Rcv) (h q now : Nat) : Bool × Rcv × List Nat × Nat :=
  if r.takeAny then (true, ⟨false, q, histMask h, now⟩, [3], 0)
  else
    let up := (q + 2 ^ 16 - r.rseq) % 2 ^ 16
    if up < 2 ^ 15 ∧ 0 < up then
      if h ≤ up then (false, r, [5], 0)
      else (true, ⟨false, q, (r.hist * 2 ^ up + 1) % 2 ^ h, now⟩, [3], zerosLeaving r.hist h up)
    else
      let back := (2 ^ 16 - up) % 2 ^ 16
      if h ≤ back then (false, r, [5], 0)
      else if bit r.hist back then (false, r, [4], 0)
      else (true, { r with hist := r.hist + 2 ^ back, lastAt := now }, [3, 6], 0)

/-- Match recovery (R174). -/
def matchRecover (r : Rcv) (q now : Nat) : Bool × Rcv × List Nat × Nat :=
  if r.takeAny then (true, { r with takeAny := false, rseq := q, lastAt := now }, [3], 0)
  else if q = r.rseq then (false, r, [4], 0)
  else
    (true, { r with rseq := q, lastAt := now }, if q = (r.rseq + 1) % 2 ^ 16 then [3] else [3, 6], 0)

/-- Sequence recovery of stream `i`, whose state has key `k`, with entry `e` on an item whose R-tag is `tag` (R172). -/
def State.recover (s : State) (i k e : Nat) (tag : Option Nat) : Bool × State :=
  if ew e 7 1 2 = 0 then (true, s)
  else match tag with
  | none => (ew e 7 10 1 == 1, s.tally (T.str i 7))
  | some q =>
    let (ok, r, members, lost) :=
      if ew e 7 1 2 = 1 then vectorRecover (s.rcvAt k) (ew e 7 3 7) q s.tb.fab
      else matchRecover (s.rcvAt k) q s.tb.fab
    let s := (s.setRcv k r).tallies (members.map (T.str i))
    (ok, if lost = 0 then s else s.tallyN (T.str i 9) lost)

/-- Sequence generation (R176): the number given to the item. -/
def State.generate (s : State) (i k e : Nat) : Option Nat × State :=
  if ew e 7 0 1 = 0 then (none, s)
  else
    let n := sget (fun _ => 0) s.dp.gen k
    let s := { s with dp := { s.dp with gen := sput (fun _ => 0) s.dp.gen k ((n + 1) % 2 ^ 16) } }
    (some n, s.tally (T.str i 10))

/-! ### Trace (R419) -/

/-- Give a marked item the next record SEQ and enqueue one reference to port 35 while the recorder
captures. -/
def State.traceItem (s : State) (i : Nat) (it : Item) (d : Decision) (rank : Nat) : State :=
  let rodMark := it.isRod && it.lctx.isNone && !it.injected && decide (64 ≤ it.ingress ∧ it.ingress < 192)
    && bit (s.getF (F.TRC_ROD_MASK_MASK ((it.ingress - 64) / 32))) ((it.ingress - 64) % 32)
  let reason := d.reason + (if rodMark then 32 else 0)
  if reason = 0 then s
  else
    let st := s.getF F.TRC_STAT_STATE
    if st = 1 ∨ st = 2 then
      let seq := s.getF F.TRC_SEQ_SEQ
      let s := s.incF F.TRC_SEQ_SEQ
      if it.noBead then s
      else if it.bad then s.tally (T.buf 35 5)
      else if s.cap 35 0 ≤ s.queueBeads 35 0 then s.tally (T.trc 1)
      else s.push 35 0 { item := i, rule := d.rule, stream := d.stream, traceSeq := seq, op := d.op
                         carry := if it.isRod then some (d.carry, 0, 0) else none
                         rank := rank, reason := reason }
    else if st = 3 then s.tally (T.trc 3) else s

/-! ### State updates, learn requests, stream marks -/

/-- Whether an update is a flow update (R151). -/
def Upd.isFlow : Upd → Bool
  | .cad .. => false
  | _ => true

/-- Pass the accepted decision's updates to the state engine: flow updates only for an item that ranks
1 to 4 do not drop (R151, R157). -/
def State.passUpdates (s : State) (us : List Upd) (drop4 : Bool) : State :=
  let us := if drop4 then us.filter (fun u => !u.isFlow) else us
  { s with dp := { s.dp with updQ := s.dp.updQ ++ us } }

/-- Place a learn request in the learn queue of 64 (R122). -/
def State.queueLearn (s : State) : Option LearnReq → State
  | none => s
  | some r =>
    if s.dp.learnQ.length < 64 then
      { s with dp := { s.dp with learnQ := s.dp.learnQ ++ [r] } }
    else s.tally (T.fwdDev 2)

/-- Set the STR_BLOCK and LATCHED bits that stage 5 asks for (R168, R169); the bit of an entry rewritten since is left clear
(R177). -/
def State.streamMarks (s : State) (d : Decision) : State :=
  let s := match d.block with
    | some i => if d.strKey = s.strKey i then s.orF (F.STR_BLOCK_BITS (i / 32)) (i % 32) else s
    | none => s
  match d.latch with
  | some g => s.setB (F.STR_GATE_W0_LATCHED g) true
  | none => s

/-! ### Destinations -/

/-- An item whose destination set holds the trace recorder takes a record SEQ and a reference as a marked one does, at its
class; in IDLE and FROZEN no reference is taken (R181, R419) (DEDUCED, log 52). -/
def State.recordRef (s : State) (d : Decision) (r : QRef) : State :=
  let st := s.getF F.TRC_STAT_STATE
  if st = 1 ∨ st = 2 then
    (s.incF F.TRC_SEQ_SEQ).enqueue 35 d.cls
      { r with traceSeq := s.getF F.TRC_SEQ_SEQ, op := d.op, rule := d.rule, stream := d.stream }
  else s

/-- Enqueue at Ethernet, CPU and host ports of the destination set, dropping where the R-tag insertion
exceeds the port's maximum frame length (R176). A port that has become absent since the decision is passed over; an
item that no present port is left for is a drop for an absent destination (R3, R29). -/
def State.toPorts (s : State) (it : Item) (d : Decision) (r : QRef) : State :=
  let here := (bitList d.dest 36).filter s.present
  if here.isEmpty && d.dest != 0 then s.tally (T.glb 1)
  else here.foldl (fun s p =>
    let r := { r with untag := bit d.untag p }
    let long := decide (p < 32) && (match r.rtag with
      | .insert _ => decide (s.getF (F.PRT_MAC_CFG_MAX_FRAME p) < s.wireLen p it r)
      | _ => false)
    if p = 35 then s.recordRef d r
    else if long then s.tally (T.str (d.stream.getD 0) 11) else s.enqueue p d.cls r) s

/-- Add an item to the splitter's queue, unless it is at pass 3 (R42) or has failed in its reception (R45, R481). -/
def State.toSplitter (s : State) (i : Nat) (it : Item) (c : Nat) : State :=
  if it.bad || it.noBead then s
  else if 3 ≤ it.pass then s.tally (T.cry 3)
  else { s.addRef i with dp := { (s.addRef i).dp with splitQ := s.dp.splitQ ++ [(i, c)] } }

/-- A carry target names a unit that is present (R3, R29). -/
def State.targetPresent (s : State) (t0 : Nat) : Bool :=
  match bits t0 0 2 with
  | 0 => s.rodPresent (bits t0 2 8)
  | 1 => true
  | _ => s.pairUp (bits t0 2 8 - 32)

/-- Serve one carry target (R91): word 0 and word 1 of the entry, its table index. -/
def State.serveTarget (s : State) (i : Nat) (it : Item) (r : QRef) (tix t : Nat) : State :=
  let t0 := t % 2 ^ 64
  let dest := bits t0 2 8
  let r := { r with carry := some (((recHdr it.bytes).w2 % 2 ^ 16), tix, t) }
  match bits t0 0 2 with
  | 0 =>
    if bits t0 16 2 = 0 then s.rodEnqueue dest (bits t0 13 3) r
    else match launchTime it t0 with
    | none => s.tally (T.cryNotime dest)
    | some l => s.rodEnqueue dest 8 { r with launch := l }
  | 1 =>
    if 3 ≤ it.pass then s.tally (T.cry 3)
    else { s.addRef i with dp := { (s.addRef i).dp with acfQ := s.dp.acfQ ++ [⟨i, dest, t⟩] } }
  | _ => s.enqueue dest (bits t0 13 3) r

/-- Serve the targets of an accepted CARRY decision in list order: those of the carry entry that the decision rests on, each
as its entry now stands, passing over one that is no longer valid (R91, R92, R89, R3). A miss goes to port 32 with target
index 0 (DESIGN CHOICE, log 104). -/
def State.toTargets (s : State) (i : Nat) (it : Item) (d : Decision) (r : QRef) : State :=
  if bit d.carryMask 8 then
    if s.pairUp 0 then s.enqueue 32 0 { r with carry := some (d.carry, 0, 0) } else s.tally (T.glb 1)
  else
    let ts := ((bitList d.carryMask 8).map (fun k =>
      (d.carryBase + k, s.entry tTarget (d.carryBase + k)))).filter (fun t => ew t.2 0 23 1 == 1)
    let here := ts.filter (fun t => s.targetPresent (t.2 % 2 ^ 64))
    if here.isEmpty then (if ts.isEmpty then s else s.tally (T.glb 1))
    else here.foldl (fun s t => s.serveTarget i it r t.1 t.2) s

/-! ### Acceptance of a decision -/

/-- The item leaves without a destination when no reference was taken (R44). -/
def State.settle (s : State) (i : Nat) : State :=
  match s.item i with
  | some it => if it.refs = 0 then s.dropItem i else s
  | none => s

/-- Meters of an accepted decision: whether they drop the item, at which rank, DEI yellow, and the
state (R146, R167, R171). Drops at ranks 1 to 3 and firewall drops take no tokens; a cadence drop does. -/
def State.applyMeters (s : State) (it : Item) (d : Decision) : Nat × Bool × State :=
  let strOk := d.rank != 1 && d.rank != 2
  let (rank, yel, s) : Nat × Bool × State :=
    match (if strOk then d.smeter else none) with
    | none => (0, false, s)
    | some m =>
      let (col, s) := s.flowMeter m it.len d.dei
      match col with
      | .green => (0, false, s)
      | .yellow => (if s.isF (F.STR_METER_W3_DROP_YELLOW m) then 3 else 0, true, s)
      | .red => (3, false, s)
  let fwOk := rank == 0 && !(d.op == 0 && (decide (1 ≤ d.rank ∧ d.rank ≤ 3) || d.rank == 4 && d.cause == 4))
  match (if fwOk then d.meter else none) with
  | none => (rank, yel, s)
  | some m =>
    let (ok, s) := s.fwlMeter m it.len
    (if ok then rank else 4, yel, s)

/-- Recovery and generation on an item that no rank drops: whether it is kept, the R-tag action and the
sequence number of the descriptor. -/
def State.sequence (s : State) (it : Item) (d : Decision) : Bool × RtagAct × Option Nat × State :=
  let tag := (parseFrame it.bytes).rtag
  match d.stream with
  | none => (true, .keep, tag, s)
  | some i =>
    let (keep, s) := s.recover i d.strKey d.strE tag
    if !keep then (false, .keep, tag, s)
    else
      let (n, s) := s.generate i d.strKey d.strE
      match n with
      | some q => (true, .insert q, some q, s)
      | none => (true, if d.popRtag then .strip else .keep, tag, s)

/-- The output stages act on an accepted decision (R228, R91, R108, R419). With FWD_HELD every decision
but a trap drops the item (R322). -/
def State.accept (s : State) (i : Nat) (d : Decision) : State :=
  match s.item i with
  | none => s
  | some it =>
    if s.isF F.GLB_RST_STAT_FWD_HELD ∧ d.op ≠ 3 then (s.tally (T.glb 0)).dropItem i
    else if d.op = 6 then s.dropItem i
    else if d.op = 0 ∧ d.rank = 1 then (s.tallies d.baseCounts).dropItem i
    else
      let s := (s.tallies d.counts).streamMarks d
      let (mrank, yel, s) := s.applyMeters it d
      let drop := d.op == 0 || mrank != 0
      let rank := if mrank != 0 && !(d.op == 0 && decide (d.rank < mrank)) then mrank
        else if d.op = 0 then d.rank else 0
      let early := decide (1 ≤ rank ∧ rank ≤ 4)
      let s := s.passUpdates d.upds early
      let s := if mrank = 0 then (s.tallies d.baseCounts).queueLearn d.learn else s
      let (keep, rtag, seqNo, s) : Bool × RtagAct × Option Nat × State :=
        if drop || it.isRod then (!drop, .keep, none, s) else s.sequence it d
      let s := s.traceItem i it d rank
      let r : QRef := { item := i, retag := d.retag, vid := d.vid, pcp := d.pcp, dei := d.dei || yel
                        rtag := rtag, rule := d.rule, stream := d.stream, seqNo := seqNo, op := d.op
                        why := d.why }
      let s := if !keep then s
        else match d.op with
        | 1 => s.toPorts it d r
        | 2 | 3 =>
          if s.present d.cpu then s.enqueue d.cpu d.cpuCls r else s.tally (T.glb 1)
        | 4 => s.toTargets i it d r
        | 5 =>
          let s := match d.lctx with
            | some c => s.toSplitter i it c
            | none => s
          s.toPorts it d r
        | _ => s
      s.settle i

/-! ### An item that fails (R39, R45, R481) -/

/-- Destination ports at which a queue entry for item `i` waits drop it, each tallying BUF_BAD_DROP when the frame is
bad (R39, R481). -/
def State.dropWaiting (s : State) (i : Nat) (bad : Bool) : State :=
  s.dp.queues.foldl (fun s e =>
    let p := e.1 / 16
    let c := e.1 % 16
    let hit := (s.queue p c).filter (fun r => r.item == i)
    if hit.isEmpty then s
    else
      let s := s.setQueue p c ((s.queue p c).filter (fun r => r.item != i))
      hit.foldl (fun s r => (if bad then s.tally (T.buf p 5) else s).release r.item) s) s

/-- The egress MAC ends a cut-through frame of item `i` with an inverted FCS (R39); one that is preempted so ends
when its last fragment has been sent. -/
def State.stomp (s : State) (i : Nat) : State :=
  let s := s.dp.preempted.foldl (fun s e =>
    match e.2 with
    | some tx => if tx.ref.item = i then
        { s with dp := { s.dp with preempted := sput (fun _ => none) s.dp.preempted e.1 (some { tx with stomped := true }) } }
      else s
    | none => s) s
  s.dp.tx.foldl (fun s e =>
    match e.2 with
    | some tx =>
      if tx.ref.item = i then
        let s := { s with dp := { s.dp with tx := sput (fun _ => none) s.dp.tx e.1 none } }
        (((s.afterSend e.1 tx.cls).tally (T.buf e.1 3)).emit (.frameEnd e.1 false)).release i
      else s
    | none => s) s

/-- Remove item `i` from the splitter's queue, which stores and forwards (R38). -/
def State.unsplit (s : State) (i : Nat) : State :=
  let hit := s.dp.splitQ.filter (fun e => e.1 == i)
  let s := { s with dp := { s.dp with splitQ := s.dp.splitQ.filter (fun e => e.1 != i) } }
  hit.foldl (fun s e => s.release e.1) s

/-- Item `i` fails while its reception goes on or ends: waiting destinations drop it, those that send it cut-through
end it, and the splitter forgets it (R39, R45, R481). -/
def State.failItem (s : State) (i : Nat) (bad : Bool) : State :=
  let queued := s.dp.stream.any (fun r => r.item == i)
  let s := ((s.dropWaiting i bad).stomp i).unsplit i
  if queued then s else s.settle i

end Sys2Proof.Machine
end

