-- ==== Sys2Proof/Machine/Saf.lean ====
section
/-! DEFINITION. Forwarding planes, comparators and lockstep pairs (R228 to R253): PLANE_DECISION,
DECISION_COMPARE, MISSING_DECISION, SELF_CHECK_COMPLETE, PLANE_PARITY_ERROR, CLAIM_CHANGE, the plane
restart, the plane commands of SAF_PLANE_CMD, the pairs, and ORPHAN_BEAD_RECLAIM. A plane operand is
false for A and true for B. -/

namespace Sys2Proof.Machine

/-! ### Planes -/

abbrev safState (b : Bool) : Fld := if b then F.SAF_PLANE_STAT_STATE_B else F.SAF_PLANE_STAT_STATE_A
abbrev safClaim (b : Bool) : Fld := if b then F.SAF_PLANE_STAT_CLAIM_B else F.SAF_PLANE_STAT_CLAIM_A
abbrev safClaiming (b : Bool) : Fld :=
  if b then F.SAF_PLANE_STAT_CLAIMING_B else F.SAF_PLANE_STAT_CLAIMING_A
abbrev safCause (b : Bool) : Fld := if b then F.SAF_PLANE_STAT_CAUSE_B else F.SAF_PLANE_STAT_CAUSE_A

/-- State code of a plane (Table 9.5). -/
def State.planeSt (s : State) (b : Bool) : Nat := s.getF (safState b)

/-- DRIVER as the claims give it (R233). -/
def State.driverNow (s : State) : Nat :=
  match s.isF (safClaiming false), s.isF (safClaiming true) with
  | false, false => 0
  | true, false => 1
  | false, true => 2
  | true, true => if s.getF (safClaim false) < s.getF (safClaim true) then 2 else 1

/-- Recompute SAF_STAT.DEGRADED: a plane, comparator instance or pair is out of service (R240). -/
def State.degrade (s : State) : State :=
  let pairOut (i : Nat) :=
    let st := s.getF (F.SAF_PAIR_STAT_STATE i)
    (st != 1 && st != 4) || s.boot.noFw.contains i
  s.setB F.SAF_STAT_DEGRADED (!s.planeServes false || !s.planeServes true || s.getF F.SAF_STAT_CMP_OK != 3
    || pairOut 0 || pairOut 1)

/-- Set a plane's state code; a plane in service drives a claim. -/
def State.setPlane (s : State) (b : Bool) (st : Nat) : State :=
  (s.setF (safState b) st).setB (safClaiming b) (st == 1)

/-- The claims follow SAF_CFG and the driver follows the claims (R233, R234). -/
def State.claims (s : State) : State :=
  let s := s.setF F.SAF_PLANE_STAT_CLAIM_A (2 * s.getF F.SAF_CFG_PRIO_A + 1)
  let s := s.setF F.SAF_PLANE_STAT_CLAIM_B (2 * s.getF F.SAF_CFG_PRIO_B)
  s.setF F.SAF_STAT_DRIVER s.driverNow

/-- A takeover is recorded, tallied and posted when withdrawals have changed the driver (R238); during a
self-check its end decides (R235). -/
def State.takeover (s : State) (oldDriver : Nat) : State :=
  if s.saf.checking then s
  else
  let s := s.setF F.SAF_STAT_DRIVER s.driverNow
  let new := s.getF F.SAF_STAT_DRIVER
  if new ≠ oldDriver ∧ new ≠ 0 then
    let s := (s.setF F.SAF_LAST_TKO_N32 s.now32).tally (T.saf 7)
    let s := { s with saf := { s.saf with tkoFrom := some s.saf.lastAccept } }
    s.postFree 0x01 2
  else s

/-- Start of a plane's restart: reset of plane reach, then the logic self-test (R239). The reset empties the plane's
decision record; R9, R10 and R312 leave open whether it also restores the fields of reset RD, which belong to rods: here
it touches no rod (DESIGN CHOICE, log 117). -/
def State.restartPlane (s : State) (b : Bool) : State :=
  let s := s.setPlane b 4
  if b then { s with dp := { s.dp with decB := none } } else { s with dp := { s.dp with decA := none } }

/-- Withdraw a plane with a cause; a second withdrawal within 1 s of raising its claim retires it
(R239, R240). `restart` says whether AUTO_RESTART may act now. -/
def State.withdraw (s : State) (b : Bool) (cause : Nat) (restart : Bool) : State :=
  let raised := if b then s.saf.raisedB else s.saf.raisedA
  let again : Bool := match raised with
    | some t => decide (s.tb.fab - t < cycS)
    | none => false
  let s := if again then
      ((s.setPlane b 6).setF (safCause b) 7).postFree 0x01 10
    else
      let s := (s.setPlane b 3).setF (safCause b) cause
      if restart && s.isF F.SAF_CFG_AUTO_RESTART then s.restartPlane b else s
  (s.degrade).bypass 2

/-- With AUTO_RESTART = 1 each withdrawn plane restarts (R239), but the one that a drill has just withdrawn, which
waits for the drill's end (R242). -/
def State.autoRestart (s : State) : State :=
  let due (s : State) (b : Bool) : State :=
    if s.planeSt b = 3 ∧ s.isF F.SAF_CFG_AUTO_RESTART ∧ s.saf.drillWait ≠ some (!b) then s.restartPlane b else s
  due (due s false) true

/-- A plane raises its claim (R239). -/
def State.raiseClaim (s : State) (b : Bool) : State :=
  let s := s.setPlane b 1
  let s := if b then { s with saf := { s.saf with raisedB := some s.tb.fab } }
    else { s with saf := { s.saf with raisedA := some s.tb.fab } }
  (s.degrade).bypass 2

/-! ### Comparison (R228 to R231) -/

/-- Groups that an opcode marks as meaningful, as a mask of G0 to G7 (Table 9.2). -/
def meaningful (op : Nat) : Nat :=
  match op with
  | 0 => 0b11100001
  | 1 => 0b11100110
  | 2 => 0b11101000
  | 3 => 0b11101000
  | 4 => 0b11010000
  | 5 => 0b11100110
  | 6 => 0b00000001
  | _ => 0

/-- The groups in which two decision records differ (Table 9.1) (DEDUCED, log 93). -/
def groupDiff (a b : Decision) : Nat :=
  let own := b2n (a.rank != b.rank || a.cause != b.cause)
    + 2 * b2n (a.dest != b.dest || a.lctx != b.lctx)
    + 4 * b2n (a.cls != b.cls || a.vid != b.vid || a.pcp != b.pcp || a.dei != b.dei
        || a.retag != b.retag || a.popRtag != b.popRtag || a.untag != b.untag)
    + 8 * b2n (a.cpu != b.cpu || a.cpuCls != b.cpuCls)
    + 16 * b2n (a.carry != b.carry || a.carryMask != b.carryMask)
    + 32 * b2n (a.learn != b.learn)
    + 64 * b2n (a.upds != b.upds || a.meter != b.meter || a.smeter != b.smeter || a.block != b.block
        || a.latch != b.latch || a.strE != b.strE)
    + 128 * b2n (a.trace != b.trace || a.counts != b.counts || a.baseCounts != b.baseCounts
        || a.rule != b.rule || a.stream != b.stream || a.reason != b.reason || a.why != b.why)
  own ||| (a.diff ^^^ b.diff)

/-- Two decisions compare equal (R229, R230). -/
def decisionsEqual (a b : Decision) : Bool :=
  let d := groupDiff a b
  a.op == b.op && decide (a.op ≤ 6) && (d &&& meaningful a.op) == 0

/-- The header record at the front of the stream. -/
def State.front (s : State) : Option HdrRec := s.dp.stream.head?

/-- Remove it together with the decisions on it. -/
def State.popStream (s : State) : State :=
  { s with dp := { s.dp with stream := s.dp.stream.tail, decA := none, decB := none } }

/-- Discard the item at the front as step 1 of R235: the trace recorder receives it when either plane
marked it (DEDUCED, log 92). -/
def State.discardFront (s : State) : State :=
  match s.front with
  | none => s
  | some r =>
    let marked := [s.dp.decA, s.dp.decB].filterMap id |>.find? (fun d => d.trace)
    let s := match s.item r.item with
      | some it =>
        let d := marked.getD { op := 0 }
        s.traceItem r.item it (if marked.isSome then d else { d with reason := 0 }) 0
      | none => s
    ((s.tally (T.saf 0)).settle r.item).popStream

/-- A plane begins its self-check (R235 step 3), if it is in service or rejoining. -/
def State.checkStart (s : State) (b : Bool) : State :=
  let st := s.planeSt b
  let rej := st == 5
  if st = 1 ∨ st = 5 then
    let s := s.setPlane b 2
    if b then { s with saf := { s.saf with rejB := rej } } else { s with saf := { s.saf with rejA := rej } }
  else s

/-- Steps 1 to 3 of R235: the stream is held and the planes check themselves, a rejoining plane too; a plane
whose decision was missing does not (R232) (DEDUCED, log 92). -/
def State.startCheck (s : State) (missA missB : Bool) : State :=
  let s := { s with
    dp := { s.dp with held := true, decA := none, decB := none }
    saf := { s.saf with checking := true, missA := missA, missB := missB } }
  let s := if missA then s else s.checkStart false
  let s := if missB then s else s.checkStart true
  s.postFree 0x01 1

/-- The mismatch procedure on the item at the front (R235) (DEDUCED, log 92). -/
def State.mismatch (s : State) (missA missB : Bool) : State := s.discardFront.startCheck missA missB

/-- Write the divergence log and react to DIV_LIMIT (R230, R231): the state, and whether the mismatch
procedure is due at the next boundary. -/
def State.silentDiv (s : State) (op groups : Nat) : State × Bool :=
  let k := s.getF F.SAF_DIV_HEAD_NEXT
  let s := if s.isF (F.SAF_DIV_LOG_W1_VALID k) then s.setB F.SAF_DIV_HEAD_WRAPPED true else s
  let s := (s.setF (F.SAF_DIV_LOG_W0_N32 k) s.now32).setF (F.SAF_DIV_LOG_W1_OPCODE k) op
  let s := (s.setF (F.SAF_DIV_LOG_W1_GROUPS k) groups).setB (F.SAF_DIV_LOG_W1_VALID k) true
  let s := ((s.incF F.SAF_DIV_HEAD_NEXT).tally (T.saf 3)).postFree 0x01 4
  let times := s.tb.fab :: s.saf.divTimes.filter (fun t => decide (s.tb.fab - t < cycS))
  if s.getF F.SAF_CFG_DIV_LIMIT ≤ times.length then
    let s := ({ s with saf := { s.saf with divTimes := [] } }).postFree 0x01 5
    (s, s.isF F.SAF_CFG_DIV_ACT)
  else ({ s with saf := { s.saf with divTimes := times } }, false)

/-- A decision is accepted at the output stages; the end of a takeover's interruption is recorded (R238). Its
length is a free value when no decision came before it (DESIGN CHOICE, log 92). -/
def State.acceptFront (s : State) (d : Decision) : State :=
  match s.front with
  | none => s
  | some r =>
    let s := s.popStream
    let s := match s.saf.tkoFrom with
      | some (some t) => s.setF F.SAF_LAST_TKO_LEN_LEN (min 65535 ((s.tb.fab - t) * 5 / 4))
      | some none =>
        let (n, s) := s.fresh
        s.setF F.SAF_LAST_TKO_LEN_LEN (bits (Config.free n).toNat 0 16)
      | none => s
    let s := { s with saf := { s.saf with tkoFrom := none, lastAccept := some s.tb.fab } }
    s.accept r.item d

/-- A plane whose decisions are compared: IN_SERVICE or REJOIN (Table 9.5) (DESIGN CHOICE, log 30). -/
def State.compared (s : State) (b : Bool) : Bool := s.planeSt b == 1 || s.planeSt b == 5

/-! ### Uncorrectable memory errors (Table 9.9) -/

/-- A table entry or way with an uncorrectable error stays poisoned; a flow becomes absent. -/
def State.poisonEntry (s : State) (code i : Nat) : State :=
  let code := code % 16
  let i := i % 2 ^ 20
  if code = tFlow then
    let n := s.getF F.FWL_STAT_FLOW_USED
    (s.setF F.FWL_STAT_FLOW_USED (n - b2n (bit (s.entry tFlow i) 0))).setEntry tFlow i 0
  else if s.dp.poison.contains (tkey code i) then s
  else { s with dp := { s.dp with poison := tkey code i :: s.dp.poison } }

/-- The reaction to an uncorrectable error (Table 9.9): a state entry is rewritten in its initial state; destinations that
have not started an item drop it and one that sends it cut-through ends it; the item of a failed descriptor is dropped, and
a broken link flushes its queue. -/
def State.memUe (s : State) : MemUe → State
  | .entry code i => s.poisonEntry code i
  | .cadence k => s.setCad k {}
  | .recovery i => s.setRcv (s.strKey i) {}
  | .snapshot => s.setB F.GLB_BOOT_STAT_SNAP_VALID false
  | .fwlMeter m => { s with dp := { s.dp with meters := sput (fun _ => none) s.dp.meters m none } }
  | .strMeter m => { s with dp := { s.dp with smeters := sput (fun _ => none) s.dp.smeters m none } }
  | .bead i bad =>
    match s.item i with
    | none => s
    | some it =>
      let s := if bad then { s with dp := { s.dp with badBead := i :: s.dp.badBead } } else s
      (s.setItem i (some { it with noBead := true })).failItem i false
  | .queue p c broken =>
    let q := s.queue p c
    let (gone, kept) := if broken then (q, []) else (q.take 1, q.drop 1)
    gone.foldl (fun s r => s.release r.item) (s.setQueue p c kept)

/-- Memory, table code and index of an error, as the SAF_MEM_UE event gives them: bits [63:56], [55:48] and [31:0]
(DESIGN CHOICE, log 116). -/
def uePayload : MemUe → Nat
  | .entry code i => code % 16 * 2 ^ 48 + i % 2 ^ 20
  | .cadence k => 2 ^ 56 + k % 2 ^ 32
  | .recovery i => 2 * 2 ^ 56 + i % 2 ^ 32
  | .fwlMeter m => 3 * 2 ^ 56 + m % 2 ^ 32
  | .strMeter m => 4 * 2 ^ 56 + m % 2 ^ 32
  | .bead i _ => 5 * 2 ^ 56 + i % 2 ^ 32
  | .queue p c _ => 6 * 2 ^ 56 + qkey p c % 2 ^ 32
  | .snapshot => 7 * 2 ^ 56

/-- An uncorrectable error is handled, tallied and posted (R251); one in the snapshot only ends its validity (R348). -/
def State.onMemUe (s : State) (u : MemUe) : State :=
  if u = .snapshot then s.memUe u else ((s.memUe u).tally (T.saf 6)).post 0x01 8 (uePayload u)

/-- Some entry of table `code` is poisoned. -/
def State.anyPoison (s : State) (code : Nat) : Bool :=
  s.dp.poison.any (fun k => k / 2 ^ 20 == code)

/-- The planes' lookups for an item read a poisoned entry (Table 9.9). -/
def State.readsPoison (s : State) (it : Item) : Bool :=
  if s.dp.poison.isEmpty then false
  else if it.isRod then
    let i := (recHdr it.bytes).w2 % 2 ^ 16
    let e := s.entry tCarry i
    let base := ew e 1 5 15
    s.anyPoison tRule || s.poisoned tCarry i
      || (List.range (min 8 (ew e 1 1 4))).any (fun k => s.poisoned tTarget (base + k)
        || (let t := s.entry tTarget (base + k)
            ew t 0 23 1 == 1 && ew t 0 0 2 == 1 && s.poisoned tTalker (ew t 0 2 8)))
  else
    let p := parseFrame it.bytes
    let c := s.classify it.ingress p
    let da := s.findKey tMac (macKey p.da c.vid)
    let st := s.streamOf it.ingress c.vid p
    s.anyPoison tRule || s.anyPoison tStream || s.poisoned tVlan c.vid
      || (match st with
        | some (_, e) => (ew e 0 29 1 == 1 && p.etype == 0x22F0 && s.poisoned tListener (ew e 0 30 8))
          || (ew e 0 40 1 == 1 && s.poisoned tGroup (ew e 0 41 12))
        | none => false)
      || (p.da != bcast && s.poisonMiss tMac (macKey p.da c.vid))
      || s.poisonMiss tMac (macKey p.sa c.vid)
      || (match da with
        | some i => ew (s.entry tMac i) 1 20 1 == 1 && s.poisoned tGroup (ew (s.entry tMac i) 1 8 12)
        | none => false)

/-! ### The commands -/

/-- PLANE_DECISION (R106): plane `b` delivers its decision on the record at the front. `ue` names an uncorrectable error
that a data-plane memory shows, and `ce` counts the correctable errors that its words correct (R32); `diff` marks the groups
that a faulty plane delivers wrongly and `op` the opcode that it delivers instead (DEDUCED, log 93). -/
def doPlaneDecision (b : Bool) (ue : Option MemUe) (diff : Nat) (op : Option Nat) (ce : Nat) (s : State) : State :=
  let s := if ce = 0 then s else s.tallyN (T.glb 2) ce
  let s := match ue with
    | some u => s.onMemUe u
    | none => s
  match s.front with
  | none => s
  | some r =>
    if s.dp.held || !s.compared b then s
    else
      let bad := match s.item r.item with
        | some it => s.readsPoison it
        | none => false
      let d := if bad then { op := 6, rank := 0 } else r.decision
      let d := { d with diff := diff % 2 ^ 8, op := (op.map (· % 16)).getD d.op }
      if b then { s with dp := { s.dp with decB := some d } }
      else { s with dp := { s.dp with decA := some d } }

/-- DECISION_COMPARE (R230): the decisions on the front item have arrived. `split`: the comparator
instances disagree (R244); `minority`: output stages report different drivers, and this plane is the one
that the minority accepts (R243). -/
def doDecisionCompare (split : Bool) (minority : Option Bool) (s : State) : State :=
  if s.dp.held || s.dp.stream.isEmpty then s
  else
    let ca := s.compared false
    let cb := s.compared true
    let da := if ca then s.dp.decA else none
    let db := if cb then s.dp.decB else none
    if (ca && da.isNone) || (cb && db.isNone) then s
    else
      let s := match minority with
        | some b =>
          let s := (s.tally (T.saf 4)).postFree 0x01 6
          s.orF F.SAF_STAT_LATENT (b2n b)
        | none => s
      match da, db with
      | some a, some b =>
        let drv := if s.getF F.SAF_STAT_DRIVER = 2 then b else a
        if s.getF F.SAF_STAT_CMP_OK = 0 then s.acceptFront drv
        else if split ∧ s.getF F.SAF_STAT_CMP_OK = 3 then
          ((s.tally (T.saf 5)).postFree 0x01 7).mismatch false false
        else if !decisionsEqual a b then s.mismatch false false
        else
          let d := groupDiff a b % 2 ^ 8
          if d = 0 then s.acceptFront drv
          else
            let (s, check) := s.silentDiv drv.op d
            let s := s.acceptFront drv
            if check then s.startCheck false false else s
      | some a, none => s.acceptFront a
      | none, some b => s.acceptFront b
      | none, none => s

/-- MISSING_DECISION (R232): 1 µs has passed without the decision of one plane, or of both. -/
def doMissingDecision (s : State) : State :=
  if s.dp.held || s.dp.stream.isEmpty then s
  else
    let ma := s.compared false && s.dp.decA.isNone
    let mb := s.compared true && s.dp.decB.isNone
    if ma || mb then s.mismatch ma mb else s

/-- End of the self-check for one plane: withdrawn when its decision was missing (cause 2) or when it fails
(cause 1, or 6 when it was rejoining), back to its state otherwise. -/
def State.checkPlane (s : State) (b miss pass : Bool) : State :=
  let st := s.planeSt b
  let rej := if b then s.saf.rejB else s.saf.rejA
  let s := if b then { s with saf := { s.saf with rejB := false } }
    else { s with saf := { s.saf with rejA := false } }
  if miss ∧ (st = 1 ∨ st = 5) then s.withdraw b 2 true
  else if st = 2 then
    if !pass then s.withdraw b (if rej then 6 else 1) true
    else s.setPlane b (if rej then 5 else 1)
  else s

/-- Drop every record that waits when no plane is left (Table 1.11). -/
def State.noPlane (s : State) : State :=
  if s.anyPlane then s
  else
    let s := s.dp.stream.foldl (fun s r => (s.tally (T.saf 9)).dropItem r.item) s
    { s with dp := { s.dp with stream := [], decA := none, decB := none } }

/-- The decisions on the waiting records are evaluated again from their header records (R235 step 5). -/
def State.evaluateAgain (s : State) : State :=
  { s with dp := { s.dp with stream := s.dp.stream.map (fun r =>
    match s.item r.item with
    | some it => { r with decision := s.planeDecide it }
    | none => r) } }

/-- A plane that detected a parity error in the hold withdraws itself at the boundary after it (R237). -/
def State.parityDue (s : State) : State :=
  let due (s : State) (b : Bool) : State :=
    if (if b then s.saf.parB else s.saf.parA) && s.compared b then s.withdraw b 2 true else s
  let s := due (due s false) true
  { s with saf := { s.saf with parA := false, parB := false } }

/-- SELF_CHECK_COMPLETE (R235 steps 4 and 5, R242 step 2, R244): results of the planes and of the
comparator instances. Priorities written in the hold wait for the first boundary after it (R234). -/
def doSelfCheckComplete (passA passB cmpA cmpB : Bool) (s : State) : State :=
  if !s.saf.checking then s
  else
    let old := s.getF F.SAF_STAT_DRIVER
    let was (b : Bool) := s.planeSt b == 2
    let transient := (!was false || passA) && (!was true || passB) && !s.saf.missA && !s.saf.missB
      && !s.saf.drill
    let ok := s.getF F.SAF_STAT_CMP_OK
    let gone := (if bit ok 0 && !cmpA then [0] else []) ++ (if bit ok 1 && !cmpB then [1] else [])
    let s := gone.foldl (fun s k => (s.clrF F.SAF_STAT_CMP_OK k).postFree 0x01 10) s
    let s :=
      if s.saf.drill then
        let drvB := old == 2
        let s := s.checkPlane (!drvB) false (if drvB then passA else passB)
        let s := s.withdraw drvB 4 false
        { s with saf := { s.saf with drill := false, drillWait := some (!drvB) } }
      else
        let rejoinA := was false && s.saf.rejA && passA && old == 2
        let rejoinB := was true && s.saf.rejB && passB && old == 1
        let s := s.checkPlane false s.saf.missA passA
        let s := s.checkPlane true s.saf.missB passB
        let s := if rejoinA && s.planeSt true != 1 then s.raiseClaim false else s
        if rejoinB && s.planeSt false != 1 then s.raiseClaim true else s
    let s := if transient then s.tally (T.saf 1) else s
    let s := { s with
      dp := { s.dp with held := false }
      saf := { s.saf with checking := false, missA := false, missB := false } }
    let s := (s.parityDue.takeover old).degrade.noPlane
    s.evaluateAgain.bypass 2

/-- PLANE_PARITY_ERROR (R237): the plane withdraws itself with cause 2; as the driver it takes the item
in error with it. In a hold there is no boundary until the stream resumes: the plane withdraws then. -/
def doPlaneParityError (b : Bool) (s : State) : State :=
  if s.dp.held then
    if s.compared b || s.planeSt b == 2 then
      { s with saf := { s.saf with parA := s.saf.parA || !b, parB := s.saf.parB || b } }
    else s
  else if !s.compared b then s
  else
    let old := s.getF F.SAF_STAT_DRIVER
    let s := if old = b2n b + 1 then s.discardFront else s
    let s := if b then { s with dp := { s.dp with decB := none } }
      else { s with dp := { s.dp with decA := none } }
    ((s.withdraw b 2 true).takeover old).noPlane.bypass 2

/-- CLAIM_CHANGE (R234): written priorities take effect at an item boundary, unless the stream is
held. -/
def doClaimChange (s : State) : State := if s.dp.held then s else s.claims

/-- PLANE_LOGIC_TEST_DONE (R239, R240). -/
def doPlaneLogicTestDone (b pass : Bool) (s : State) : State :=
  if s.planeSt b ≠ 4 then s
  else
    let setFails (n : Nat) (s : State) : State :=
      if b then { s with saf := { s.saf with failsB := n } }
      else { s with saf := { s.saf with failsA := n } }
    let fails := (if b then s.saf.failsB else s.saf.failsA) + 1
    if pass then (setFails 0 s).setPlane b 5
    else if 3 ≤ fails then
      (((setFails fails s).setPlane b 6).setF (safCause b) 7).postFree 0x01 10
    else
      let s := ((setFails fails s).setPlane b 3).setF (safCause b) 5
      if s.isF F.SAF_CFG_AUTO_RESTART then s.restartPlane b else s

/-- REJOIN_END (R239): the plane raises its claim; SAF_REVERT is posted when it becomes the driver. -/
def doRejoinEnd (b : Bool) (s : State) : State :=
  if s.planeSt b ≠ 5 ∨ s.dp.held then s
  else
    let old := s.getF F.SAF_STAT_DRIVER
    let s := (s.raiseClaim b).claims
    if s.getF F.SAF_STAT_DRIVER ≠ old then s.postFree 0x01 3 else s

/-- A SAF_PLANE_CMD command: discarded while BUSY is 1, otherwise its status is reported (R241, R17). -/
def State.safCmd (s : State) (run : State → Nat × State) : State :=
  s.busGate (fun s =>
    if s.isF F.SAF_CMD_STAT_BUSY then s
    else
      let (st, s') := run s
      s'.setF F.SAF_CMD_STAT_STATUS st)

/-- SAF_PLANE_CMD NOP (Table 9.12). -/
def doSafNop (s : State) : State := s.safCmd (fun s => (stOk, s))

/-- SAF_PLANE_CMD WITHDRAW (R241): rejected for the only plane in service. -/
def doWithdraw (b : Bool) (s : State) : State :=
  s.safCmd (fun s =>
    let st := s.planeSt b
    if s.planeServes b ∧ !s.planeServes (!b) then (stReject, s)
    else if st = 1 ∨ st = 2 ∨ st = 4 ∨ st = 5 then
      let old := s.getF F.SAF_STAT_DRIVER
      (stOk, ((s.withdraw b 3 true).takeover old))
    else (stOk, s))

/-- SAF_PLANE_CMD RESTART (R241): a retired plane leaves its retirement, and the count of its failed self-tests begins
anew; a withdrawn one keeps it (R240). -/
def doRestart (b : Bool) (s : State) : State :=
  s.safCmd (fun s =>
    let st := s.planeSt b
    if st ≠ 3 ∧ st ≠ 6 then (stReject, s)
    else
      let s := if st = 3 then s
        else if b then { s with saf := { s.saf with failsB := 0 } }
        else { s with saf := { s.saf with failsA := 0 } }
      (stOk, s.restartPlane b))

/-- SAF_PLANE_CMD DRILL (R242 step 1): the drill record mismatches by injection. -/
def doDrill (s : State) : State :=
  s.safCmd (fun s =>
    if s.planeSt false ≠ 1 ∨ s.planeSt true ≠ 1 ∨ s.dp.held ∨ s.saf.checking
        ∨ s.saf.drillWait.isSome then (stReject, s)
    else
      let s := (s.tally (T.saf 8)).setB F.SAF_CMD_STAT_BUSY true
      (stOk, ({ s with saf := { s.saf with drill := true } }).startCheck false false))

/-- DRILL_DEADLINE (R242 steps 3 and 4): 12 µs after the flag, whether every output stage accepts the
former standby (DESIGN CHOICE, log 6). -/
def doDrillDeadline (accepted : Bool) (s : State) : State :=
  match s.saf.drillWait with
  | none => s
  | some wasA =>
    let b := !wasA
    let s := { s with saf := { s.saf with drillWait := none } }
    let s := s.setB F.SAF_CMD_STAT_BUSY false
    if accepted then
      let s := s.setB F.SAF_CMD_STAT_DRILL_PASS true
      if s.planeSt b = 3 then s.restartPlane b else s
    else
      let old := s.getF F.SAF_STAT_DRIVER
      let s := (s.setB F.SAF_CMD_STAT_DRILL_FAIL true).orF F.SAF_STAT_LATENT (b2n (!b))
      let s := if s.planeSt b = 6 then s else s.raiseClaim b
      (((s.withdraw (!b) 4 true).claims).takeover old).degrade.noPlane

/-- SAF_PLANE_CMD CLEAR_LATENT (R243). -/
def doClearLatent (b : Bool) (s : State) : State :=
  s.safCmd (fun s => (stOk, s.clrF F.SAF_STAT_LATENT (b2n b)))

/-! ### Core pairs (R246 to R249) -/

/-- The staging buffer of a requester is cleared (R249). -/
def State.clearStage (s : State) (r : Nat) : State :=
  { s with dp := { s.dp with stage := sput (fun _ => {}) s.dp.stage r {} } }

/-- A pair leaves service: its CPU port becomes absent and its queued items are discarded (R29, R249). -/
def State.pairDown (s : State) (i st cause : Nat) : State :=
  let s := (s.setF (F.SAF_PAIR_STAT_STATE i) st).setF (F.SAF_PAIR_STAT_CAUSE i) cause
  let s := s.clrF F.SAF_STAT_DEBUG_SPLIT i
  let s := s.setB F.SAF_STAT_SAFE_STATE (s.getF F.SAF_STAT_DEBUG_SPLIT == 0)
  let s := if i = 0 then { s with ring := { s.ring with sendQ := [] } } else s
  ((s.clearStage i).dropCpuQueues i).degrade

/-- LOCKSTEP_MISMATCH (R248): pair `i` flags a mismatch of its bus outputs (1) or register-file writes
(2), or an uncorrectable error of its core memory (3). In debug split the comparator is disconnected (R250). -/
def doLockstepMismatch (i cause : Nat) (s : State) : State :=
  let i := i % 2
  let cause := nearest [(1, 3)] cause
  if !s.pairUp i || (cause != 3 && s.getF (F.SAF_PAIR_STAT_STATE i) == 4) then s
  else
    let s := if cause = 3 then s else s.tally (T.safPair i)
    let again : Bool := match sget (fun _ => none) s.saf.pairAgain i with
      | some t => decide (s.tb.fab - t < cycS)
      | none => false
    if again ∧ cause ≠ 3 then (s.pairDown i 5 7).postFree 0x01 10
    else
      let s := (s.pairDown i 3 cause).satF (F.SAF_PAIR_STAT_RESTARTS i) 1
      s.postFree 0x01 9

/-- PAIR_INJECTION_TEST_DONE (R247): at start-up or in a pair restart. -/
def doPairInjectionTestDone (i : Nat) (pass : Bool) (s : State) : State :=
  let i := i % 2
  if s.getF (F.SAF_PAIR_STAT_STATE i) = 5 then s
  else if pass then
    let c := s.getF (F.SAF_PAIR_STAT_CAUSE i)
    let s := { s with saf := { s.saf with
      pairPass := sput (fun _ => none) s.saf.pairPass i (some s.tb.fab)
      pairAgain := if s.getF (F.SAF_PAIR_STAT_STATE i) = 3 ∧ (c = 1 ∨ c = 2) then
          sput (fun _ => none) s.saf.pairAgain i (some s.tb.fab) else s.saf.pairAgain } }
    if s.getF (F.SAF_PAIR_STAT_STATE i) = 3 then s.setF (F.SAF_PAIR_STAT_STATE i) 2 else s
  else (s.pairDown i 5 4).postFree 0x01 10

/-- PAIR_RESTART_DONE (R248, R347): the firmware sections that the source delivers, in plaintext and in section-table
order, are checked against FW_MEAS; where they do not match, or the source does not deliver, the pair stays in reset
until the next reset of warm reach or wider. -/
def doPairRestartDone (i : Nat) (fw : Option (List Byte)) (s : State) : State :=
  let i := i % 2
  if s.getF (F.SAF_PAIR_STAT_STATE i) ≠ 2 ∨ s.boot.noFw.contains i then s
  else if fw.map (fun b => (Config.sha384 b).toNat) = some s.meas.fw then (s.setF (F.SAF_PAIR_STAT_STATE i) 1).degrade
  else (({ s with boot := { s.boot with noFw := i :: s.boot.noFw } }).degrade).postFree 0x00 5

/-- ORPHAN_BEAD_RECLAIM (R251, Table 9.9): beads that no item and no open batch owns return to the free
list. -/
def doOrphanBeadReclaim (s : State) : State :=
  let items := s.dp.items.filterMap (fun e => e.2)
  let res := items.foldl (fun m it =>
    sput (fun _ => 0) m it.ingress (sget (fun _ => 0) m it.ingress + it.resBeads)) ([] : Sparse Nat)
  let sh := items.foldl (fun n it => n + it.shBeads) 0
  let batches := (s.dp.batch.filterMap (fun e => e.2)).foldl (fun n b => n + b.beads) 0
  { s with dp := { s.dp with resUsed := res, shUsed := sh + batches } }

/-! ### Meanings of the commands -/

/-- Meaning of PAIR_INJECTION_TEST_DONE (R247). -/
def execPairInjectionTestDone (pair : Nat) (pass : Bool) (s : State) : Host.Outcome State Fault Refusal :=
  .next (doPairInjectionTestDone pair pass s)

/-- Meaning of PLANE_DECISION (R106). -/
def execPlaneDecision (plane : Bool) (ue : Option MemUe) (diff : Nat) (s : State) (op : Option Nat := none)
    (ce : Nat := 0) : Host.Outcome State Fault Refusal :=
  .next (doPlaneDecision plane ue diff op ce s)

/-- Meaning of DECISION_COMPARE (R230). -/
def execDecisionCompare (split : Bool) (minority : Option Bool)
    (s : State) : Host.Outcome State Fault Refusal :=
  .next (doDecisionCompare split minority s)

/-- Meaning of MISSING_DECISION (R232). -/
def execMissingDecision (s : State) : Host.Outcome State Fault Refusal := .next (doMissingDecision s)

/-- Meaning of SELF_CHECK_COMPLETE (R235). -/
def execSelfCheckComplete (passA passB cmpA cmpB : Bool) (s : State) : Host.Outcome State Fault Refusal :=
  .next (doSelfCheckComplete passA passB cmpA cmpB s)

/-- Meaning of PLANE_PARITY_ERROR (R237). -/
def execPlaneParityError (plane : Bool) (s : State) : Host.Outcome State Fault Refusal :=
  .next (doPlaneParityError plane s)

/-- Meaning of CLAIM_CHANGE (R234). -/
def execClaimChange (s : State) : Host.Outcome State Fault Refusal := .next (doClaimChange s)

/-- Meaning of PLANE_LOGIC_TEST_DONE (R239). -/
def execPlaneLogicTestDone (plane pass : Bool) (s : State) : Host.Outcome State Fault Refusal :=
  .next (doPlaneLogicTestDone plane pass s)

/-- Meaning of REJOIN_END (R239). -/
def execRejoinEnd (plane : Bool) (s : State) : Host.Outcome State Fault Refusal := .next (doRejoinEnd plane s)

/-- Meaning of SAF_NOP (R241). -/
def execSafNop (s : State) : Host.Outcome State Fault Refusal := .next (doSafNop s)

/-- Meaning of WITHDRAW (R241). -/
def execWithdraw (plane : Bool) (s : State) : Host.Outcome State Fault Refusal := .next (doWithdraw plane s)

/-- Meaning of RESTART (R241). -/
def execRestart (plane : Bool) (s : State) : Host.Outcome State Fault Refusal := .next (doRestart plane s)

/-- Meaning of DRILL (R242). -/
def execDrill (s : State) : Host.Outcome State Fault Refusal := .next (doDrill s)

/-- Meaning of DRILL_DEADLINE (R242). -/
def execDrillDeadline (accepted : Bool) (s : State) : Host.Outcome State Fault Refusal :=
  .next (doDrillDeadline accepted s)

/-- Meaning of CLEAR_LATENT (R243). -/
def execClearLatent (plane : Bool) (s : State) : Host.Outcome State Fault Refusal :=
  .next (doClearLatent plane s)

/-- Meaning of LOCKSTEP_MISMATCH (R248). -/
def execLockstepMismatch (pair cause : Nat) (s : State) : Host.Outcome State Fault Refusal :=
  .next (doLockstepMismatch pair cause s)

/-- Meaning of PAIR_RESTART_DONE (R248). -/
def execPairRestartDone (pair : Nat) (fw : Option (List Byte)) (s : State) : Host.Outcome State Fault Refusal :=
  .next (doPairRestartDone pair fw s)

/-- Meaning of ORPHAN_BEAD_RECLAIM (R251). -/
def execOrphanBeadReclaim (s : State) : Host.Outcome State Fault Refusal := .next (doOrphanBeadReclaim s)

end Sys2Proof.Machine
end

