-- ==== Sys2Proof/Machine/Ingress.lean ====
section
/-! DEFINITION. Entry of items (R28, R37, R39, R43, R45, R216, R276, R481): PARSE_WINDOW_COMPLETE,
FRAME_RX_END and CPU_INJECTION. -/

namespace Sys2Proof.Machine

/-- The data plane receives: service has been entered (R313) in RUN or RUN-LEAN (R384). -/
def State.receives (s : State) : Bool :=
  s.serving && decide (s.getF F.PWR_MODE_MODE ≤ 1) && !s.pwr.drain

/-! ### MACsec on receive (R276; frame checks of IEEE 802.1AE-2018 Clause 10) -/

/-- Result of the MACsec engine for a received frame: none drops it. -/
abbrev MsecRx := Option (List Byte) × State

/-- The receive SC of port `p` that a SecTAG selects: the one whose SAs hold its SCI, or SC 1
(PRESUMED, log 42). -/
def State.rxSc (s : State) (p an : Nat) (sci : Option Nat) : Option Nat :=
  match sci with
  | none => some 1
  | some v => (List.range 32).find? (fun c =>
      c != 0 && ew (s.entry tSa ((p * 32 + c) * 4 + an)) 1 0 64 == v)

/-- Full packet number of a received frame: an XPN suite recovers the upper half (PRESUMED, log 42). -/
def fullPn (xpn : Bool) (next pn : Nat) : Nat :=
  if !xpn then pn
  else
    let hi := next / 2 ^ 32
    if bit next 31 && !bit pn 31 then (hi + 1) * 2 ^ 32 + pn else hi * 2 ^ 32 + pn

/-- IV material of an SA entry (PRESUMED, log 42). -/
def saIv (e : Nat) : Nat := ew e 1 0 64 + ew e 3 0 32 * 2 ^ 64 + ew e 4 0 96 * 2 ^ 96

/-- Key bits of SA entry `i`. -/
def State.saKeyOf (s : State) (i : Nat) : Nat := sget (fun _ => 0) s.dp.saKey i

/-- An SA is usable: VALID and KEY_BOUND (R273). -/
def saUsable (e : Nat) : Bool := bit e 0 && bit e 1

/-- PN limit of a suite (R275). -/
def pnLimit (suite : Nat) : Nat := if 2 ≤ suite then 2 ^ 64 - 1 else 2 ^ 32 - 1

/-- Bytes that the confidentiality offset leaves clear. -/
def confOffset (c : Nat) : Nat := if c = 0 then 0 else if c = 1 then 30 else 50

/-- A SecTAG that is not valid (Clause 10): version bit; ES or SCB beside SC; a short length of 48 or more, or one that the
`room` bytes behind the SecTAG do not hold with the ICV, fewer than 48 secured bytes without one; packet number 0, where the
suite does not extend it (PRESUMED, log 41). -/
def badTag (tci sl pn : Nat) (xpn : Bool) (room : Nat) : Bool :=
  bit tci 7 || (bit tci 5 && (bit tci 6 || bit tci 4)) || decide (48 ≤ sl) || decide (room < (if sl = 0 then 48 else sl) + 16)
    || (pn == 0 && !xpn)

/-- Verify and decapsulate a frame received on port `p` with VALIDATE not 0 (PRESUMED, log 41). -/
def State.msecVerify (s : State) (p : Nat) (frame : List Byte) : MsecRx :=
  let strict := s.getF (F.PRT_MSEC_CFG_VALIDATE p) == 2
  let bs := frame.take (frame.length - 4)
  let mac := bs.take 12
  let et := beAt bs 12 2
  if et = 0x888E then (some frame, s)
  else if et ≠ 0x88E5 then
    (if strict then none else some frame, s.tally (T.msec p 8))
  else
    let tci := byteAt bs 14
    let sl := byteAt bs 15
    let sc := bit tci 5
    let hdr := if sc then 16 else 8
    let pn := beAt bs 16 4
    let an := tci % 4
    let sa := (s.rxSc p an (if sc then some (beAt bs 20 8) else none)).map
      (fun c => (p * 32 + c) * 4 + an)
    let xpn := sa.any (fun i => decide (2 ≤ ew (s.entry tSa i) 0 2 2))
    if badTag tci sl pn xpn (bs.length - (12 + hdr)) then (none, s.tally (T.msec p 9))
    else
      let n := if sl = 0 then bs.length - 28 - hdr else sl
      let body := (bs.drop (12 + hdr)).take n
      let icv := beAt bs (12 + hdr + n) 16
      let clear := fun (pl : List Byte) => mac ++ pl ++ fcsOf (mac ++ pl)
      let enc := bit tci 3 || bit tci 2
      match sa.filter (fun i => saUsable (s.entry tSa i)) with
      | none =>
        (if strict || enc then none else some (clear body), s.tally (T.msec p 7))
      | some i =>
        let e := s.entry tSa i
        let suite := ew e 0 2 2
        let limit := pnLimit suite
        let done := s.dp.pnDone.contains i
        let next := if done then limit + 1 else ew e 2 0 64 % (limit + 1)
        let pn := fullPn xpn (min next limit) pn
        let win := s.getF (F.PRT_MSEC_WINDOW_REPLAY_WINDOW p)
        if s.isF (F.PRT_MSEC_CFG_REPLAY_PROTECT p) && decide (pn + win < next) then
          (none, s.tally (T.msec p 6))
        else
          let key := s.saKeyOf i
          let head := bs.take (12 + hdr)
          let ok := (Config.gcmTag key suite pn (saIv e) head body).toNat == icv
          let off := confOffset (s.getF (F.PRT_MSEC_CFG_CONF_OFFSET p))
          let rest := body.drop off
          let plain := if bit tci 3 then
              body.take off ++ padTo rest.length (Config.gcmCipher key suite pn (saIv e) rest) else body
          if !ok then
            if strict || enc then (none, s.tally (T.msec p 5))
            else (some (clear plain), s.tally (T.msec p 4))
          else
            let s := if pn < next then s
              else if pn = limit then { s with dp := { s.dp with pnDone := i :: s.dp.pnDone } }
              else s.setEntry tSa i (setEw e 2 0 64 (ew e 2 0 64 / (limit + 1) * (limit + 1) + (pn + 1)))
            (some (clear plain), s.tally (T.msec p 3))

/-! ### Reception -/

/-- Ingress timestamp (R216): `ago` is the age of the end of the SFD in units of 2^-16 ns (DEDUCED, log 23). -/
def State.rxStamp (s : State) (p ago : Nat) : Nat :=
  stampOf p (s.getF (F.TIM_PORT_ING_CORR p)) (s.clkAgo ago)

/-- Why a received frame is bad (R481): 0 good, 1 FCS or short, 2 overlength. -/
def State.rxCode (s : State) (p len : Nat) (fcsOk : Bool) : Nat :=
  if s.getF (F.PRT_MAC_CFG_MAX_FRAME p) < len then 2 else if !fcsOk || decide (len < 64) then 1 else 0

/-- Tally a bad frame on its ingress port (R481). -/
def State.tallyBad (s : State) (p code : Nat) : State :=
  if code = 0 then s else s.tally (T.buf p (if code = 2 then 0 else 4))

/-- The frame's badness is known before its parse window completes (R481). -/
def State.knownEarly (s : State) (p len code : Nat) : Bool :=
  code != 0 && (decide (len ≤ 192) || (code == 2 && decide (s.getF (F.PRT_MAC_CFG_MAX_FRAME p) < 192)))

/-- Note a frame whose last byte is still to come: its item, 0 when none is kept, and what its end will find. -/
def State.inReception (s : State) (p i code : Nat) : State :=
  { s with dp := { s.dp with
    rx := sput (fun _ => []) s.dp.rx p (sget (fun _ => []) s.dp.rx p ++ [(i, code)]) } }

/-- Beads that a received frame claims in all: at most the 64 of the largest item (R43). -/
def frameBeads (bytes : List Byte) : Nat := min 64 (beadsOf bytes.length)

/-- Place a received frame into the header stream. `late`: its last byte is still to come, so it holds the bead of its
parse window and claims the others as they arrive (R45); it stays in reception until FRAME_RX_END. With no bead it is
dropped as buffer exhaustion (DESIGN CHOICE, log 40). -/
def State.receive (s : State) (p : Nat) (late : Bool) (bytes : List Byte) (t code : Nat) : State :=
  match s.claim p (if late then 1 else frameBeads bytes) with
  | none => (if late then s.inReception p 0 code else s).tally (T.buf p 2)
  | some (r, sh, s) =>
    let (i, s) := s.newItem { bytes := bytes.take 16384, isRod := false, ingress := p, t := t, complete := !late
                              fcsOk := code == 0, resBeads := r, shBeads := sh }
    (if late then s.inReception p i code else s).enterStream i

/-- PARSE_WINDOW_COMPLETE (R37): the parse window of a frame received on Ethernet port `p` completes.
`bytes` is the whole frame from DA to FCS as it will have arrived, `fcsOk` whether its FCS holds, `ago`
the age of its SFD in 2^-16 ns (DESIGN CHOICE, log 40). -/
def doParseWindowComplete (p : Nat) (bytes : List Byte) (fcsOk : Bool) (ago : Nat) (s : State) : State :=
  if !s.ethPresent p then s
  else if s.ring.bypBoot then
    let p' := parseFrame bytes
    if p'.etype = 0x88B5 then s else s.tally (T.glb 0)
  else if !s.receives then s
  else
    let code := s.rxCode p bytes.length fcsOk
    if s.knownEarly p bytes.length code then s.tallyBad p code
    else
      let t := s.rxStamp p ago
      let late := decide (192 < bytes.length)
      if p < 16 ∧ s.getF (F.PRT_MSEC_CFG_VALIDATE p) ≠ 0 then
        match s.msecVerify p bytes with
        | (none, s) => if late then s.inReception p 0 code else s.tallyBad p code
        | (some bytes, s) => s.receive p late bytes t code
      else s.receive p late bytes t code

/-! ### End of reception -/

/-- MAC merge results of a reception (R203): `frags` non-final fragments, and 0 nothing else, 1 a frame
reassembled, 2 a failed reassembly, 3 an unknown SMD. -/
def State.mmReceive (s : State) (p frags mm : Nat) : State :=
  if 16 ≤ p ∨ !s.ethPresent p then s
  else
    let s := if frags = 0 then s else s.tallyN (T.sch p 3) frags
    match mm with
    | 1 => s.tally (T.sch p 5)
    | 2 => s.tally (T.sch p 6)
    | 3 => s.tally (T.sch p 7)
    | _ => s

/-- The beads of frame `i` behind its first one are claimed as its bytes arrive (R45): when none can be claimed the
event is tallied as buffer exhaustion and the frame is dropped at every destination that has not started it. -/
def State.claimRest (s : State) (i : Nat) (it : Item) : State :=
  let n := frameBeads it.bytes - (it.resBeads + it.shBeads)
  match (if n = 0 then some (0, 0, s) else s.claim it.ingress n) with
  | some (r, sh, s) => s.setItem i (some { it with resBeads := it.resBeads + r, shBeads := it.shBeads + sh })
  | none => ((s.tally (T.buf it.ingress 2)).setItem i (some { it with noBead := true })).failItem i false

/-- FRAME_RX_END (R481): the last byte of the oldest frame in reception on port `p` arrives; `frags` and
`mm` are what the MAC merge sublayer saw of it (DESIGN CHOICE, log 40). -/
def doFrameRxEnd (p frags mm : Nat) (s : State) : State :=
  let s := s.mmReceive p frags mm
  match sget (fun _ => []) s.dp.rx p with
  | [] => s
  | (i, code) :: rest =>
    let s := { s with dp := { s.dp with rx := sput (fun _ => []) s.dp.rx p rest } }
    let s := match s.item i with
      | some it => s.claimRest i it
      | none => s
    let s := s.tallyBad p code
    match s.item i with
    | none => s
    | some it =>
      let s := s.setItem i (some { it with complete := true, bad := code != 0 && !it.noBead })
      if code = 0 ∨ it.noBead then s else s.failItem i true

/-! ### Injection by a core pair (R28, R217, R218) -/

/-- CPU_INJECTION: core pair `i` places an Ethernet frame (without FCS) or a rod record in its injection
queue, and it enters the header stream with the CPU port as ingress. Its timestamp is the injection time, which R95, R97 and
R103 name for received items only (DESIGN CHOICE, log 105). -/
def doCpuInjection (i : Nat) (isRod : Bool) (bytes : List Byte) (mode domain refT : Nat)
    (twoStep : Bool) (tag : Nat) (s : State) : State :=
  let i := i % 2
  if !s.receives || !s.pairUp i then s
  else
    let bytes := if isRod then bytes.take 16384 else
      let b := bytes.take 16380
      b ++ fcsOf b
    s.injectItem { bytes := bytes, isRod := isRod, ingress := 32 + i, injected := true, t := s.tb.clk
                   ts := { mode := nearest [(0, 2)] mode, domain := domain % 4, refT := refT % 2 ^ 64
                           twoStep := twoStep, tag := tag % 2 ^ 16 } }

/-! ### Meanings of the commands -/

/-- Meaning of PARSE_WINDOW_COMPLETE (R37). -/
def execParseWindowComplete (port : Nat) (bytes : List Byte) (fcsOk : Bool) (ago : Nat)
    (s : State) : Host.Outcome State Fault Refusal :=
  .next (doParseWindowComplete port bytes fcsOk ago s)

/-- Meaning of FRAME_RX_END (R481). -/
def execFrameRxEnd (port frags mm : Nat) (s : State) : Host.Outcome State Fault Refusal :=
  .next (doFrameRxEnd port frags mm s)

/-- Meaning of CPU_INJECTION (R28). -/
def execCpuInjection (pair : Nat) (isRod : Bool) (bytes : List Byte) (mode domain refT : Nat) (twoStep : Bool) (tag : Nat)
    (s : State) : Host.Outcome State Fault Refusal :=
  .next (doCpuInjection pair isRod bytes mode domain refT twoStep tag s)

end Sys2Proof.Machine
end

