-- ==== Sys2Proof/Machine/Tables.lean ====
section
/-! DEFINITION. The table command interface (R25, R26, R128 to R136, R177, R273, R275): entry layouts
and clamps, the effects of writing an entry, the commands, sweeps, learning (R120 to R123) and aging
(R124). A requester operand is 0 for the control pair, 1 for the service pair, 2 for the host. -/

namespace Sys2Proof.Machine

/-! ### Tables (Table 4.7) -/

/-- Entry size in bytes. -/
def entryBytes (code : Nat) : Nat :=
  match code with
  | 1 | 2 | 8 | 15 => 32
  | 3 => 8
  | 11 => 128
  | 12 | 13 | 14 => 64
  | _ => 16

/-- Number of 32-byte parts of an entry. -/
def entryParts (code : Nat) : Nat := ceilDiv (entryBytes code) 32

/-- Largest PART for a table: TBL_ADDR clamps to it (Table 4.10). -/
def lastPart (code : Nat) : Nat := entryParts code - 1

/-- Hashed tables that accept INSERT, DELETE and SEARCH: FLOW does not (R149). -/
def keyedTable (code : Nat) : Bool := code == tMac || code == tRodHashed || code == tRodOverflow
  || code == tLkey

/-- Present size of a table in entries (Table 4.7, R87, R118). -/
def State.tableSize (s : State) (code : Nat) : Nat :=
  match code with
  | 0 => 65536
  | 1 | 2 => 4096
  | 3 => 262144
  | 4 | 7 | 10 => 32768
  | 5 => if s.isF F.CRY_CFG_EXT_OK then s.overflowSize else 0
  | 6 => 16384 + (if s.isF F.CRY_CFG_EXT_OK then s.getF F.CRY_CFG_EXT_SIZE else 0)
  | 8 | 9 => 256
  | 11 | 13 => 8192
  | 12 => 16384
  | 14 => 2048
  | _ => 16

/-- The addressed entry exists (R132, R272). -/
def State.entryThere (s : State) (code i : Nat) : Bool :=
  decide (i < s.tableSize code)
    && (code != tRodDirect || s.rodPresent (i / 2048))
    && (code != tSa || s.ethPresent (i / 128))

/-- An entry held in LPDDR5 (R33). -/
def inDdr (code i : Nat) : Bool := code == tRodOverflow || (code == tCarry && decide (16384 ≤ i))

/-! ### Layouts: reserved bits read 0, out-of-range values clamp (R12, R14) -/

/-- Clamp bits `[lo + w - 1 : lo]` of word `k` to the nearest legal value. -/
def clampEw (e k lo w : Nat) (rs : List (Nat × Nat)) : Nat :=
  setEw e k lo w (nearest rs (ew e k lo w))

/-- Keep only the listed bit ranges (word, low bit, width) of an entry. -/
def keepBits (e : Nat) (rs : List (Nat × Nat × Nat)) : Nat :=
  rs.foldl (fun a r => a + ew e r.1 r.2.1 r.2.2 * 2 ^ (64 * r.1 + r.2.1)) 0

/-- Clamps of a non-zero entry of table `code` (DEDUCED, log 15). -/
def entryClamp (code e : Nat) : Nat :=
  match code with
  | 6 =>
    let e := clampEw (clampEw e 0 29 3 [(0, 3)]) 1 1 4 [(0, 8)]
    let e := if ew e 0 40 1 = 0 then clampEw e 0 32 8 [(0, 127)] else e
    clampEw e 1 5 15 [(0, 32768 - ew e 1 1 4)]
  | 7 =>
    let e := clampEw (clampEw (clampEw e 0 0 2 [(0, 2)]) 0 10 3 [(0, 6)]) 0 32 32 [(0, 0x7FFFFFFF)]
    let e := clampEw e 0 2 8 (match ew e 0 0 2 with
      | 0 => [(0, 127)]
      | 1 => [(0, 255)]
      | _ => [(32, 33)])
    let o := ew e 0 10 3
    if o = 0 ∨ o = 2 ∨ o = 4 then clampEw e 1 0 29 [(0, 0x7FF)]
    else if o = 5 then clampEw e 1 0 29 [(0, 0x3F)] else e
  | 8 => clampEw (clampEw e 1 48 14 [(64, 10240)]) 3 16 8 [(1, 255)]
  | 11 =>
    if ew e 0 1 1 = 1 then clampEw (clampEw e 3 0 12 [(0, 2048)]) 3 16 12 [(0, 2048)] else e
  | 13 =>
    let e := clampEw (clampEw e 6 0 14 [(0, 0), (64, 10240)]) 7 1 2 [(0, 2)]
    clampEw (clampEw e 7 3 7 [(2, 64)]) 7 12 12 [(1, 4095)]
  | _ => e

/-- Bits that entry `i` of table `code` stores. The first 256 ROD_DIRECT entries of a rod keep bits 7 to 4 too:
those of a LIN commander hold its schedule (Table 2.18) (DEDUCED, log 16). -/
def State.entryKeep (s : State) (code i e : Nat) : Nat :=
  match code with
  | 0 => keepBits e [(0, 0, 63), (1, 0, 26), (1, 32, 32)]
  | 1 => (bits e 0 36 &&& s.portMask) + keepBits e [(3, 0, 41)]
  | 2 => (bits e 0 36 &&& s.portMask) + keepBits e [(3, 0, 1)]
  | 3 => if i % 2048 < 256 then bits e 0 63 else keepBits e [(0, 0, 4), (0, 8, 55)]
  | 4 | 5 => keepBits e [(0, 0, 38), (1, 0, 4), (1, 8, 55)]
  | 6 => keepBits e [(0, 0, 42), (1, 0, 21)]
  | 7 => keepBits e [(0, 0, 24), (0, 32, 32), (1, 0, 51)]
  | 8 => keepBits e [(0, 0, 64), (1, 0, 64), (2, 0, 64), (3, 0, 24), (3, 32, 31)]
  | 9 => keepBits e [(0, 0, 64), (1, 0, 20)]
  | 10 => keepBits e [(0, 0, 45), (1, 0, 17)]
  | 11 => keepBits e [(0, 0, 31), (0, 32, 16), (1, 0, 46), (2, 0, 61), (3, 0, 12), (3, 16, 34), (4, 0, 64), (5, 0, 64),
      (6, 0, 64), (7, 0, 64), (8, 0, 64), (9, 0, 11), (9, 16, 11), (9, 32, 11), (9, 48, 11),
      (10, 0, 64), (11, 0, 64), (12, 0, 64), (13, 0, 64)]
  | 12 => keepBits e [(0, 0, 30), (0, 32, 29), (1, 0, 44), (2, 0, 64), (3, 0, 64), (4, 0, 64),
      (5, 0, 64)]
  | 13 => keepBits e [(0, 0, 53), (1, 0, 60), (2, 0, 64), (3, 0, 64), (4, 0, 64), (5, 0, 64), (6, 0, 60),
      (7, 0, 24)]
  | 14 => keepBits e [(0, 0, 1), (0, 2, 2), (1, 0, 64), (2, 0, 64), (3, 0, 32), (4, 0, 64), (5, 0, 32)]
  | _ => e

/-- NEXT_PN after a write of `new` over `old` under a suite: it never decreases, nor do the 32 bits that a suite without
extended numbering uses (R275, Table 10.7). -/
def pnMerge (suite old new : Nat) : Nat :=
  if new < old ∨ (suite < 2 ∧ new % 2 ^ 32 < old % 2 ^ 32) then old else new

/-- A written MACSEC_SA entry: NEXT_PN never decreases, KEY_BOUND and SLOT are kept unless VALID is 0 or
SUITE changes (R273, R275). -/
def saMerge (old e : Nat) : Nat :=
  let e := setEw e 2 0 64 (pnMerge (ew e 0 2 2) (ew old 2 0 64) (ew e 2 0 64))
  if bit e 0 && ew e 0 2 2 == ew old 0 2 2 then
    setEw (setEw e 0 1 1 (ew old 0 1 1)) 0 4 10 (ew old 0 4 10)
  else e

/-- The entry `i` that a write of `e` over `old` stores (DEDUCED, log 15). -/
def State.storedEntry (s : State) (code i old e : Nat) : Nat :=
  let e := s.entryKeep code i e
  let e := if e = 0 then 0 else entryClamp code e
  if code = tSa then (if e = 0 ∧ ew old 2 0 64 = 0 then 0 else saMerge old e) else e

/-! ### Effects of writing an entry -/

/-- A dynamic MAC entry counts at its port (R121). -/
def macCounts (e : Nat) : Option Nat := if bit e 60 && !bit e 61 then some (ew e 1 0 8) else none

/-- Change a port's learned count. -/
def State.learnedBy (s : State) (p : Option Nat) (up : Bool) : State :=
  match p with
  | none => s
  | some p =>
    let f := F.PRT_LEARN_COUNT_COUNT p
    if 36 ≤ p then s else s.setF f (if up then s.getF f + 1 else s.getF f - 1)

/-- Clear the cadence state of a key (R155). -/
def State.clearCad (s : State) (key : Nat) : State := s.setCad key {}

/-- A cadence update of stream `i` (R155). -/
def Upd.ofStream (i : Nat) : Upd → Bool
  | .cad key .. => decide (cadStream ≤ key) && (key - cadStream) % 8192 == i
  | _ => false

/-- An item of stream `i` is in the header stream, or its cadence update waits (R177). -/
def State.streamBusy (s : State) (i : Nat) : Bool :=
  s.dp.stream.any (fun h => h.decision.stream == some i) || s.dp.updQ.any (Upd.ofStream i)

/-- Clear the state that belongs to stream `i`; items that entered the header stream before keep the old state (R177). -/
def State.clearStream (s : State) (i : Nat) : State :=
  let k := s.strKey i
  let s := if s.streamBusy i then
      { s with dp := { s.dp with strEpoch := sput (fun _ => 0) s.dp.strEpoch i (sget (fun _ => 0) s.dp.strEpoch i + 1) } }
    else
      let s := (s.setRcv k {}).clearCad (cadStream + k)
      { s with dp := { s.dp with gen := sput (fun _ => 0) s.dp.gen k 0 } }
  s.clrF (F.STR_BLOCK_BITS (i / 32)) (i % 32)

/-- Write entry `i` of table `code` as a whole with everything that the write clears or moves
(R26, R79, R97, R98, R100, R121, R155, R177, R251, R273). -/
def State.putEntry (s : State) (code i e : Nat) : State :=
  let old := s.entry code i
  let s := if code = tTalker then s.emitBatch i old else s
  let s := s.setEntry code i e
  let s := { s with dp := { s.dp with poison := s.dp.poison.filter (fun k => k != tkey code i) } }
  match code with
  | 0 => (s.learnedBy (macCounts old) false).learnedBy (macCounts e) true
  | 3 => s.clearCad i
  | 4 => s.clearCad (cadHashed + i)
  | 5 => s.clearCad (cadOverflow + i)
  | 8 => { s with dp := { s.dp with talkSeq := sput (fun _ => 0) s.dp.talkSeq i 0 } }
  | 9 => { s with dp := { s.dp with listenSeq := sput (fun _ => none) s.dp.listenSeq i none } }
  | 12 =>
    let n := s.getF F.FWL_STAT_FLOW_USED
    s.setF F.FWL_STAT_FLOW_USED (n + b2n (bit e 0) - b2n (bit old 0))
  | 13 => s.clearStream i
  | 14 =>
    if bit e 1 then s
    else { s with dp := { s.dp with
      saKey := sput (fun _ => 0) s.dp.saKey i 0
      pnWarned := s.dp.pnWarned.filter (· != i), pnDone := s.dp.pnDone.filter (· != i) } }
  | _ => s

/-- Write an entry from a command: reserved bits and clamps first. -/
def State.writeEntry (s : State) (code i e : Nat) : State :=
  s.putEntry code i (s.storedEntry code i (s.entry code i) e)

/-! ### Requesters -/

/-- A requester that can issue a command: a pair must be in service. -/
def State.requesterUp (s : State) (r : Nat) : Bool := decide (r = 2) || s.pairUp r

/-- The 32 bytes of a requester's TBL_DATA as one number, word 0 lowest. -/
def State.tblData (s : State) (r : Nat) : Nat :=
  (List.range 8).foldl (fun n k => n + s.getF (reqF r (F.TBL_DATA_DATA k)) * 2 ^ (32 * k)) 0

/-- Write TBL_DATA. -/
def State.setTblData (s : State) (r v : Nat) : State :=
  s.forN 8 (fun k s => s.setF (reqF r (F.TBL_DATA_DATA k)) (bits v (32 * k) 32))

/-- Table, index and part of a requester's TBL_ADDR. -/
def State.tblAddr (s : State) (r : Nat) : Nat × Nat × Nat :=
  let code := s.getF (reqF r F.TBL_ADDR_TABLE)
  (code, s.getF (reqF r F.TBL_ADDR_INDEX), min (s.getF (reqF r F.TBL_ADDR_PART)) (lastPart code))

/-- The end of a table command: its status and tally (R16, R17) (DEDUCED, log 17). -/
def State.tblEnd (s : State) (r st : Nat) : State :=
  let s := s.setF (reqF r F.TBL_STAT_STATUS) st
  match T.tblMember st with
  | some m => s.tally (T.tbl r m)
  | none => s

/-- A table command of requester `r`: discarded while BUSY is 1 (R133), otherwise run; `run` answers its
status, none for a sweep that goes on. -/
def State.tblCmd (s : State) (r op : Nat) (run : State → Option Nat × State) : State :=
  let go (s : State) : State :=
    if s.isF (reqF r F.TBL_STAT_BUSY) then
      (s.setB (reqF r F.TBL_STAT_BUSY_HIT) true).tally (T.tbl r 1)
    else
      match run (s.setF (reqF r F.TBL_STAT_LAST_OP) op) with
      | (some st, s) => s.tblEnd r st
      | (none, s) => s.setB (reqF r F.TBL_STAT_BUSY) true
  if !s.requesterUp r then s
  else if r = 2 then s.busGate go else go s

/-- Another requester's sweep runs on the table (R135). -/
def State.sweptByOther (s : State) (r code : Nat) : Bool :=
  s.dp.sweeps.any (fun w => w.table == code && w.req != r)

/-- Staging buffer of a requester. -/
def State.stageOf (s : State) (r : Nat) : Stage := sget (fun _ => {}) s.dp.stage r

/-- Store it. -/
def State.setStage (s : State) (r : Nat) (b : Stage) : State :=
  { s with dp := { s.dp with stage := sput (fun _ => {}) s.dp.stage r b } }

/-! ### Commands (Table 4.14) -/

/-- TBL_CMD NOP. -/
def doTblNop (r : Nat) (s : State) : State := let r := min r 2; s.tblCmd r 0 (fun s => (some stOk, s))

/-- READ of a stored table (R130, R132): `slow` says that an LPDDR5 access exceeds 10 µs. -/
def State.tblRead (s : State) (r : Nat) (slow : Bool) : Option Nat × State :=
  let (code, i, part) := s.tblAddr r
  if !s.entryThere code i then (some stNotFound, s)
  else if part ≠ 0 then
    let b := s.stageOf r
    if b.tag = some (code, i) then (some stOk, s.setTblData r (bits b.data (256 * part) 256))
    else (some stReject, s)
  else if s.poisoned code i then (some stIntegrity, s)
  else if slow ∧ inDdr code i then (some stTimeout, s)
  else
    let e := s.seenEntry code i
    (some stOk, (s.setStage r ⟨some (code, i), e⟩).setTblData r (bits e 0 256))

/-- WRITE of a stored table (R130, R132, R135). -/
def State.tblWrite (s : State) (r : Nat) (slow : Bool) : Option Nat × State :=
  let (code, i, part) := s.tblAddr r
  if s.sweptByOther r code then (some stReject, s)
  else if !s.entryThere code i then (some stNotFound, s)
  else
    let n := 8 * min 32 (entryBytes code)
    let b := s.stageOf r
    let data := if b.tag = some (code, i) then b.data else 0
    let data := setBits data (256 * part) 256 (bits (s.tblData r) 0 n)
    if part < lastPart code then (some stOk, s.setStage r ⟨some (code, i), data⟩)
    else if slow ∧ inDdr code i then (some stTimeout, s)
    else (some stOk, (s.setStage r ⟨some (code, i), data⟩).writeEntry code i data)

/-- The oldest dynamic way of a MAC bucket, the lowest among equal ages (R134). -/
def State.oldestWay (s : State) (key : Nat) : Option Nat :=
  let now := s.getF F.FWD_AGE_NOW_NOW
  let age (i : Nat) := (now + 2 ^ 32 - ew (s.entry tMac i) 1 32 32) % 2 ^ 32
  let dyn := (ways (s.bucketOf tMac key)).filter (fun i =>
    !bit (s.entry tMac i) 61 && !s.poisoned tMac i)
  match dyn with
  | [] => none
  | w :: ws => some (ws.foldl (fun a i => if age a < age i then i else a) w)

/-- What ends a keyed command before it acts: a way of the bucket that it reads with an uncorrectable error among it
(R132). -/
def State.keyedCheck (s : State) (r code key : Nat) (slow change : Bool) : Option Nat :=
  if !keyedTable code then some stReject
  else if change && s.sweptByOther r code then some stReject
  else if s.tableSize code = 0 then some stNotFound
  else if (ways (s.bucketOf code key)).any (s.poisoned code) then some stIntegrity
  else if slow && inDdr code 0 then some stTimeout
  else none

/-- INSERT (R134) (DEDUCED, log 17). -/
def State.tblInsert (s : State) (r : Nat) (evict slow : Bool) : Option Nat × State :=
  let (code, _, _) := s.tblAddr r
  let e := s.storedEntry code 0 0 (bits (s.tblData r) 0 128)
  let key := keyOf code e
  match s.keyedCheck r code key slow true with
  | some st => (some st, s)
  | none =>
    let put (i : Nat) (existed evicted : Bool) : Option Nat × State :=
      let s := (s.putEntry code i e).setF (reqF r F.TBL_RESULT_INDEX) i
      (some stOk, (s.setB (reqF r F.TBL_STAT_EXISTED) existed).setB (reqF r F.TBL_STAT_EVICTED) evicted)
    match s.findKey code key with
    | some i => put i true false
    | none =>
      match s.freeWay code key with
      | some i => put i false false
      | none =>
        match (if code = tMac ∧ evict then s.oldestWay key else none) with
        | some i => put i false true
        | none => (some stNoRoom, s)

/-- DELETE (R132). -/
def State.tblDelete (s : State) (r : Nat) (slow : Bool) : Option Nat × State :=
  let (code, _, _) := s.tblAddr r
  let key := keyOf code (s.tblData r % 2 ^ 64)
  match s.keyedCheck r code key slow true with
  | some st => (some st, s)
  | none =>
    match s.findKey code key with
    | none => (some stNotFound, s)
    | some i => (some stOk, (s.putEntry code i 0).setF (reqF r F.TBL_RESULT_INDEX) i)

/-- SEARCH (R132). -/
def State.tblSearch (s : State) (r : Nat) (slow : Bool) : Option Nat × State :=
  let (code, _, _) := s.tblAddr r
  let key := keyOf code (s.tblData r % 2 ^ 64)
  match s.keyedCheck r code key slow false with
  | some st => (some st, s)
  | none =>
    match s.findKey code key with
    | none => (some stNotFound, s)
    | some i => (some stOk, (s.setTblData r (s.entry code i)).setF (reqF r F.TBL_RESULT_INDEX) i)

/-- INSERT. -/
def doInsert (r : Nat) (evict slow : Bool) (s : State) : State :=
  let r := min r 2; s.tblCmd r 3 (fun s => s.tblInsert r evict slow)

/-- DELETE. -/
def doDelete (r : Nat) (slow : Bool) (s : State) : State :=
  let r := min r 2; s.tblCmd r 4 (fun s => s.tblDelete r slow)

/-- SEARCH. -/
def doSearch (r : Nat) (slow : Bool) (s : State) : State :=
  let r := min r 2; s.tblCmd r 5 (fun s => s.tblSearch r slow)

/-! ### Sweeps (R135) -/

/-- Start a sweep for requester `r`. -/
def State.startSweep (s : State) (w : Sweep) : Option Nat × State :=
  if s.dp.sweeps.any (fun v => v.table == w.table) then (some stReject, s)
  else (none, { s with dp := { s.dp with sweeps := s.dp.sweeps ++ [w] } })

/-- FLUSH_MASKED: the value and mask of 16 bytes, of 8 for an 8-byte entry (Table 4.14). -/
def doFlushMasked (r : Nat) (s : State) : State :=
  let r := min r 2
  s.tblCmd r 6 (fun s =>
    let (code, _, _) := s.tblAddr r
    let w := if entryBytes code = 8 then 64 else 128
    if code = tTime then (some stReject, s)
    else s.startSweep ⟨r, code, 0, some (bits (s.tblData r) 0 w, bits (s.tblData r) 128 w), 0, 0⟩)

/-- AGE_SWEEP on the MAC table: an age limit below 1 stores 1 (Table 4.14). -/
def doAgeSweep (r : Nat) (s : State) : State :=
  let r := min r 2
  s.tblCmd r 7 (fun s =>
    let (code, _, _) := s.tblAddr r
    if code ≠ tMac then (some stReject, s)
    else s.startSweep ⟨r, tMac, 0, none, max 1 (s.tblData r % 2 ^ 16), 0⟩)

/-- A dynamic MAC entry has reached age `a` (R124). -/
def State.macAged (s : State) (e a : Nat) : Bool :=
  bit e 60 && !bit e 61
    && decide (a ≤ (s.getF F.FWD_AGE_NOW_NOW + 2 ^ 32 - ew e 1 32 32) % 2 ^ 32)

/-- A sweep visits entry `i`: whether it removed it (R124, R129, R131, R135, R152). The background pass of the MAC table takes
AGE_TIME as it stands. -/
def State.sweepVisit (s : State) (w : Sweep) (i : Nat) : Bool × State :=
  let e := s.entry w.table i
  if w.table = tRodDirect ∧ !s.rodPresent (i / 2048) then (false, s)
  else match w.flush with
  | some (v, m) =>
    if e ≠ 0 ∧ (bits (s.seenEntry w.table i) 0 128 &&& m) = (v &&& m) then (true, s.putEntry w.table i 0) else (false, s)
  | none =>
    if w.table = tFlow then
      if e ≠ 0 ∧ s.flowAbsent e then (true, (s.putEntry tFlow i 0).tally (T.fwlDev 3)) else (false, s)
    else if s.macAged e (if w.req = 3 then s.getF F.FWD_CFG_AGE_TIME else w.age) ∧ !s.poisoned tMac i then
      (true, (s.putEntry tMac i 0).tally (T.fwdDev 4))
    else (false, s)

/-- The sweep that the commit engine serves next: the requesters take turns (R25); of the background's two, the one that
waits longer. -/
def State.nextSweep (s : State) : Option Sweep :=
  (List.range 4).findSome? (fun k => s.dp.sweeps.find? (fun w => w.req == (s.dp.rrLast + 1 + k) % 4))

/-- A background sweep of table `code` starts, or waits while another sweep of the table runs (R135). -/
def State.backSweep (s : State) (code : Nat) : State :=
  let busy := s.dp.sweeps.any (fun w => w.table == code)
  let s := if code = tMac then { s with dp := { s.dp with ageDue := busy } }
    else { s with dp := { s.dp with flowDue := busy } }
  if busy then s else { s with dp := { s.dp with sweeps := s.dp.sweeps ++ [⟨3, code, 0, none, 0, 0⟩] } }

/-- Sweep `w` ends: its requester sees status `st`, and a background sweep that has waited for it starts (R124, R135). -/
def State.sweepEnd (s : State) (w : Sweep) (st : Nat) : State :=
  let s := { s with dp := { s.dp with sweeps := s.dp.sweeps.filter (fun v => v.table != w.table) } }
  let s := if 2 < w.req then s
    else
      let s := if st = stOk then s.setF (reqF w.req F.TBL_COUNT_COUNT) (min (2 ^ 32 - 1) w.count) else s
      (s.setB (reqF w.req F.TBL_STAT_BUSY) false).tblEnd w.req st
  if w.table == tMac && s.dp.ageDue && s.isF F.FWD_CFG_AGE_EN then s.backSweep tMac
  else if w.table == tFlow && s.dp.flowDue then s.backSweep tFlow
  else s

/-- SWEEP_SLOT: the sweep whose turn it is visits its next four entries; after the last one the requester's BUSY clears and
TBL_COUNT is written. With `slow` an access to an LPDDR5 table exceeds 10 µs: the sweep ends with TIMEOUT and keeps what it
has swept (R132) (DESIGN CHOICE, log 111). A background aging pass ends when AGE_EN is 0 (R124). -/
def doSweepSlot (slow : Bool) (s : State) : State :=
  match s.nextSweep with
  | none => s
  | some w =>
    let s := { s with dp := { s.dp with rrLast := w.req } }
    let size := s.tableSize w.table
    let last := min size (w.pos + 4)
    if slow && inDdr w.table (last - 1) then s.sweepEnd w stTimeout
    else if w.req == 3 && w.table == tMac && !s.isF F.FWD_CFG_AGE_EN then s.sweepEnd w stOk
    else
      let (n, s) := (List.range (last - w.pos)).foldl (fun (a : Nat × State) k =>
        let (hit, s) := a.2.sweepVisit w (w.pos + k)
        (a.1 + b2n hit, s)) (0, s)
      let w := { w with pos := last, count := w.count + n }
      if size ≤ last then s.sweepEnd w stOk
      else
        let rest := s.dp.sweeps.filter (fun v => v.table != w.table)
        { s with dp := { s.dp with sweeps := rest ++ [w] } }

/-! ### Learning and aging -/

/-- A running FLUSH_MASKED on the MAC table matches the entry that a learn would write (R135). -/
def State.flushHolds (s : State) (e : Nat) : Bool :=
  s.dp.sweeps.any (fun w => w.table == tMac && (match w.flush with
    | some (v, m) => (bits e 0 128 &&& m) == (v &&& m)
    | none => false))

/-- The dynamic entry that learning writes for `key` on port `p` (R120). -/
def State.learnedEntry (s : State) (key p : Nat) : Nat :=
  key + 2 ^ 60 + p * 2 ^ 64 + s.getF F.FWD_AGE_NOW_NOW * 2 ^ 96

/-- LEARN_APPLY (R122): the oldest request is rechecked against the table and applied. A learn into a bucket with an
uncorrectable way is discarded as Table 9.9 has it, and counts as FWD_LEARN_NOROOM (DESIGN CHOICE, log 109). -/
def doLearnApply (s : State) : State :=
  match s.dp.learnQ with
  | [] => s
  | q :: rest =>
    let s := { s with dp := { s.dp with learnQ := rest } }
    let e := s.learnedEntry q.key q.port
    if (ways (s.bucketOf tMac q.key)).any (s.poisoned tMac) then s.tally (T.fwdDev 1)
    else match s.findKey tMac q.key with
    | some i =>
      let old := s.entry tMac i
      if bit old 61 then s
      else if ew old 1 0 8 = q.port then
        s.putEntry tMac i (setEw old 1 32 32 (s.getF F.FWD_AGE_NOW_NOW))
      else if q.move then
        let moved := setEw (setEw old 1 0 8 q.port) 1 32 32 (s.getF F.FWD_AGE_NOW_NOW)
        if bit old 62 then s
        else if s.flushHolds moved then s.tally (T.fwdDev 3)
        else if s.atLimit q.port then s.tally (T.fwd q.port 8)
        else (s.putEntry tMac i moved).tally (T.fwd q.port 15)
      else s.putEntry tMac i (setEw old 1 32 32 (s.getF F.FWD_AGE_NOW_NOW))
    | none =>
      if s.flushHolds e then s.tally (T.fwdDev 3)
      else if s.atLimit q.port then s.tally (T.fwd q.port 8)
      else match s.freeWay tMac q.key with
      | none => s.tally (T.fwdDev 1)
      | some i => (s.putEntry tMac i e).tally (T.fwd q.port 14)

/-- AGING_PASS (R124, R135): with AGE_EN = 1 the background pass of the MAC table falls due; SWEEP_SLOT serves it. -/
def doAgingPass (s : State) : State := if s.isF F.FWD_CFG_AGE_EN then s.backSweep tMac else s

/-- AGE_NOW_TICK (R124). -/
def doAgeNowTick (s : State) : State := s.incF F.FWD_AGE_NOW_NOW

/-! ### Meanings of the commands -/

/-- Meaning of TBL_NOP (R128). -/
def execTblNop (req : Nat) (s : State) : Host.Outcome State Fault Refusal := .next (doTblNop req s)

/-- Meaning of INSERT (R134). -/
def execInsert (req : Nat) (evict slow : Bool) (s : State) : Host.Outcome State Fault Refusal :=
  .next (doInsert req evict slow s)

/-- Meaning of DELETE (R132). -/
def execDelete (req : Nat) (slow : Bool) (s : State) : Host.Outcome State Fault Refusal :=
  .next (doDelete req slow s)

/-- Meaning of SEARCH (R132). -/
def execSearch (req : Nat) (slow : Bool) (s : State) : Host.Outcome State Fault Refusal :=
  .next (doSearch req slow s)

/-- Meaning of FLUSH_MASKED (R135). -/
def execFlushMasked (req : Nat) (s : State) : Host.Outcome State Fault Refusal := .next (doFlushMasked req s)

/-- Meaning of AGE_SWEEP (R135). -/
def execAgeSweep (req : Nat) (s : State) : Host.Outcome State Fault Refusal := .next (doAgeSweep req s)

/-- Meaning of SWEEP_SLOT (R135). -/
def execSweepSlot (slow : Bool) (s : State) : Host.Outcome State Fault Refusal := .next (doSweepSlot slow s)

/-- Meaning of LEARN_APPLY (R122). -/
def execLearnApply (s : State) : Host.Outcome State Fault Refusal := .next (doLearnApply s)

/-- Meaning of AGING_PASS (R124). -/
def execAgingPass (s : State) : Host.Outcome State Fault Refusal := .next (doAgingPass s)

/-- Meaning of AGE_NOW_TICK (R124). -/
def execAgeNowTick (s : State) : Host.Outcome State Fault Refusal := .next (doAgeNowTick s)

end Sys2Proof.Machine
end

