-- ==== Sys2Proof/Machine/Regs.lean ====
section
/-! DEFINITION. Storing and reading a register word by the access types of its fields (R12 to R14),
without the behaviour of any single register (Bus.lean). -/

namespace Sys2Proof.Machine

/-- The value that a field holds after `v` is written over `old` (Table 0.3, R14). -/
def FieldDesc.store (f : FieldDesc) (old v : Nat) : Nat :=
  match f.acc with
  | .rw => v
  | .rwc => if f.legal.isEmpty then v else nearest f.legal v
  | .w1c => old - (old &&& v)
  | .w1s => old ||| v
  | .ro | .wo => old

/-- Write `word` to the fields of a register at offset `off`; `at_` is the place of the copy that the
requester writes (BAR0, or a pair's own set). -/
def State.storeFields (s : State) (fs : List FieldDesc) (at_ word : Nat) : State :=
  fs.foldl (fun s f =>
    let x : Fld := ⟨at_, f.lo, f.w⟩
    match f.acc with
    | .ro | .wo => s
    | _ => s.setF x (f.store (s.getF x) (bits word f.lo f.w))) s

/-- Write a register word: reserved offsets and registers of absent units ignore it (R2, R469). -/
def State.storeReg (s : State) (off word : Nat) : State :=
  match findReg off with
  | none => s
  | some (r, i, _) => if s.unitThere r.unit i then s.storeFields r.fields off word else s

/-- What a register of an absent unit reads: 0, but ROD_STAT of a retired rod keeps its retirement cause readable
(R2, R5). -/
def State.absentWord (s : State) (base i : Nat) : Nat :=
  if base = 0x18000C then s.getF (F.ROD_STAT_RETIRE_CAUSE i) * 2 ^ 12 else 0

/-- The stored word of a register, at offset `off` of the set that the requester reads; wo fields, reserved bits and
absent units read 0. -/
def State.regWord (s : State) (off : Nat) : Nat :=
  match findReg (off % ownStep) with
  | none => 0
  | some (r, i, _) =>
    if s.unitThere r.unit i then
      r.fields.foldl (fun n f =>
        if f.acc = .wo then n else n + s.getF ⟨off, f.lo, f.w⟩ * 2 ^ f.lo) 0
    else s.absentWord r.base i

end Sys2Proof.Machine
end

