-- ==== Sys2Proof/Machine/Monitor.lean ====
section
/-! DEFINITION. The firewall state engine (R151, R155, R157), the flow sweep (R152), FWL_NOW and the
diagnostic slots (R153, R154), the cadence scanner (R156), meter writes (R147, R171), stream gates
(R169, R170) and the recovery reset timer (R175). -/

namespace Sys2Proof.Machine

/-! ### Flow updates -/

/-- Key of an update's flow. -/
def FlowKey.of (a b pa pb proto vid : Nat) (v6 fromB : Bool) : FlowKey :=
  ⟨a, b, pa, pb, proto, vid, v6, fromB⟩

/-- Apply a segment to flow entry `i`: the transition of Table 5.9 and a refresh of STAMP. -/
def State.flowApply (s : State) (i : Nat) (fromB : Bool) (g : Seg) : State :=
  let e := s.entry tFlow i
  match flowStep e fromB g with
  | none => s
  | some st =>
    let e' := setEw (setEw e 0 1 4 st) 0 32 16 (s.getF F.FWL_NOW_NOW)
    let e' := if ew e 0 1 4 = 3 ∧ st = 4 then setEw e' 0 7 1 (b2n fromB) else e'
    s.putEntry tFlow i e'

/-- A new flow entry (R151). -/
def newFlow (k : FlowKey) (rule now : Nat) (diag : Option (Nat × Nat)) (tcp : Bool) : Nat :=
  let d := match diag with
    | some (slot, gen) => 2 ^ 8 + slot * 2 ^ 9 + gen * 2 ^ 13
    | none => 0
  1 + (if tcp then 1 else 7) * 2 + b2n k.fromB * 2 ^ 6 + d + b2n k.v6 * 2 ^ 21 + k.proto * 2 ^ 22
    + now * 2 ^ 32 + rule * 2 ^ 48 + k.portA * 2 ^ 64 + k.portB * 2 ^ 80 + k.vid * 2 ^ 96
    + k.addrA * 2 ^ 128 + k.addrB * 2 ^ 256

/-- Event payload of a cadence event (R158; the packing is a DESIGN CHOICE, log 31). -/
def cadPayload (src num ident e unit : Nat) : Nat :=
  src % 4 + num % 2 ^ 13 * 2 ^ 2 + ident % 2 ^ 29 * 2 ^ 15 + e % 2 ^ 16 * 2 ^ 44 + unit % 4 * 2 ^ 60

/-- Count a cadence outcome: member 0 early, 1 missing, 2 late, per rod or for streams. -/
def State.cadTally (s : State) (src num m : Nat) : State :=
  if src = 3 then s.tally (T.fwlDev (4 + m)) else s.tally (T.fwlRod num m)

/-- The check of R155 against the state as it stands (R157). -/
def State.cadApply (s : State) (key unit cmin cmax t64 src num ident : Nat) : State :=
  let c := s.cadOf key
  let tick := cadTick t64 unit
  let e := (tick + 2 ^ 16 - c.last) % 2 ^ 16
  let pay := cadPayload src num ident e unit
  if !c.seen then s.setCad key ⟨tick, true, false, false⟩
  else if e < cmin then
    let s := s.cadTally src num 0
    let s := if c.early then s else s.post 0x08 1 pay
    s.setCad key { c with early := true }
  else
    let s := if cmax ≠ 0 ∧ cmax < e then
        if c.miss then s.post 0x08 4 pay else (s.cadTally src num 2).post 0x08 3 pay
      else s
    s.setCad key ⟨tick, true, false, false⟩

/-- Apply one state update (R157). -/
def State.applyUpd (s : State) : Upd → State
  | .flowNew a b pa pb proto vid v6 fromB rule diag g =>
    let k := FlowKey.of a b pa pb proto vid v6 fromB
    match s.findFlow k with
    | some i => s.flowApply i fromB g
    | none =>
      match s.freeFlow k with
      | none => s.tally (T.fwlDev 2)
      | some i =>
        (s.putEntry tFlow i (newFlow k rule (s.getF F.FWL_NOW_NOW) diag g.tcp)).tally (T.fwlDev 0)
  | .flowSeg a b pa pb proto vid v6 fromB g =>
    match s.findFlow (FlowKey.of a b pa pb proto vid v6 fromB) with
    | some i => s.flowApply i fromB g
    | none => s
  | .cad key unit cmin cmax t64 src num ident => s.cadApply key unit cmin cmax t64 src num ident

/-- STATE_UPDATE_APPLY (R157): the oldest update is applied between two items. -/
def doStateUpdateApply (s : State) : State :=
  match s.dp.updQ with
  | [] => s
  | u :: rest => ({ s with dp := { s.dp with updQ := rest } }).applyUpd u

/-- FLOW_SWEEP (R152, R135): the background sweep of FLOW falls due; SWEEP_SLOT serves it. -/
def doFlowSweep (s : State) : State := s.backSweep tFlow

/-- FWL_NOW_TICK (R154). -/
def doFwlNowTick (s : State) : State := s.incF F.FWL_NOW_NOW

/-! ### Diagnostic slots (R153, R154) -/

/-- Close slot `k` with a cause: OPEN 0, GEN counts on, all in one commit slot. -/
def State.closeSlot (s : State) (k cause : Nat) : State :=
  if !s.isF (F.FWL_DIAG_W0_OPEN k) then s
  else
    let s := (s.setB (F.FWL_DIAG_W0_OPEN k) false).incF (F.FWL_DIAG_W0_GEN k)
    let s := s.setF (F.FWL_DIAG_W1_CAUSE k) cause
    let s := { s with dp := { s.dp with
      diagClosed := sput (fun _ => none) s.dp.diagClosed k (some s.tb.fab) } }
    s.post 0x08 6 (k + s.getF (F.FWL_DIAG_W0_GEN k) * 2 ^ 8 + cause * 2 ^ 16)

/-- Open slot `k` for a tester (R153, R154, R278): none is the STATE_REJECT of an open less than 2 s
after the slot's last close. -/
def State.openSlot (s : State) (k ip dur : Nat) : Option State :=
  let soon := match sget (fun _ => none) s.dp.diagClosed k with
    | some t => decide (s.tb.fab - t < 2 * cycS)
    | none => false
  if soon then none
  else
    let s := s.forN 4 (fun j s => s.setF (F.FWL_DIAG_IP_TESTER_IP k j) (bits ip (32 * j) 32))
    let s := (s.setB (F.FWL_DIAG_W0_OPEN k) true).setF (F.FWL_DIAG_W0_EXPIRY k)
      (s.getF F.FWL_NOW_NOW + dur)
    some (s.post 0x08 5 (k + s.getF (F.FWL_DIAG_W0_GEN k) * 2 ^ 8 + s.getF (F.FWL_DIAG_W1_CAUSE k) * 2 ^ 16))

/-- DIAG_SLOT_EXPIRY (R154): FWL_NOW has reached the slot's EXPIRY. -/
def doDiagSlotExpiry (k : Nat) (s : State) : State :=
  let k := k % 16
  if (s.getF F.FWL_NOW_NOW + 2 ^ 16 - s.getF (F.FWL_DIAG_W0_EXPIRY k)) % 2 ^ 16 < 2 ^ 15 then
    s.closeSlot k 0
  else s

/-- DIAG_CLOSE (R154): a close command from the service pair. -/
def doDiagClose (k : Nat) (s : State) : State :=
  if s.pairUp 1 then s.closeSlot (k % 16) 1 else s

/-! ### The cadence scanner (R156) -/

/-- Bounds of the cadence state `key`: unit, MIN, MAX, enabled, source kind, rod or stream, identifier;
none when the state is not scanned. -/
def State.cadBounds (s : State) (key : Nat) : Option (Nat × Nat × Bool × Nat × Nat × Nat) :=
  let rodWord (w src rod ident : Nat) : Option (Nat × Nat × Bool × Nat × Nat × Nat) :=
    if s.rodPresent rod then some (bits w 32 2, bits w 46 12, bit w 58, src, rod, ident) else none
  if key < cadHashed then rodWord (s.entry tRodDirect key) 0 (key / 2048) (key % 2048)
  else if key < cadOverflow then
    let e := s.entry tRodHashed (key - cadHashed)
    rodWord (e / 2 ^ 64) 1 (bits e 29 7) (bits e 0 29)
  else if key < cadStream then
    let e := s.entry tRodOverflow (key - cadOverflow)
    if s.isF F.CRY_CFG_EXT_OK then rodWord (e / 2 ^ 64) 2 (bits e 29 7) (bits e 0 29) else none
  else
    let i := (key - cadStream) % 8192
    let e := s.entry tStream i
    some (ew e 6 33 2, ew e 6 47 12, ew e 6 59 1 == 1, 3, i, 0)

/-- Key of the state that the scanner visits under `key`: a stream's present one (R177). -/
def State.scanKey (s : State) (key : Nat) : Nat :=
  if key < cadStream then key else cadStream + s.strKey ((key - cadStream) % 8192)

/-- CADENCE_SCAN (R156): the scanner visits the state with this key. -/
def doCadenceScan (key : Nat) (s : State) : State :=
  let key := s.scanKey key
  match s.cadBounds key with
  | none => s
  | some (unit, cmax, en, src, num, ident) =>
    let c := s.cadOf key
    let tick := cadTick s.nowNs unit
    let e := (tick + 2 ^ 16 - c.last) % 2 ^ 16
    if !c.seen then s
    else
      let due := en && cmax != 0 && decide (cmax < e) && !c.miss
      if due && src != 3 && s.isF F.FWL_CFG_SUPPRESS_INACTIVE && s.rodState num != 3 then
        s.setCad key { c with seen := false }
      else
        let s := if due then
            (s.cadTally src num 1).post 0x08 2 (cadPayload src num ident e unit)
          else s
        s.setCad key { c with miss := c.miss || due
                              last := if 32768 ≤ e then (tick + 2 ^ 16 - 32768) % 2 ^ 16 else c.last }

/-! ### Meters -/

/-- A word of FWL_METER[m] is stored and the bucket becomes full (R147). -/
def State.fwlMeterStore (s : State) (m word v : Nat) : State :=
  let s := s.storeReg (0x82000 + 8 * m + 4 * word) v
  { s with dp := { s.dp with meters := sput (fun _ => none) s.dp.meters m none } }

/-- FWL_METER_WRITE (R147). -/
def doFwlMeterWrite (m word v : Nat) (s : State) : State :=
  s.busGate (fun s => s.fwlMeterStore (m % 1024) (word % 2) v)

/-- A word of STR_METER[m] is stored and both buckets become full (R171). -/
def State.strMeterStore (s : State) (m word v : Nat) : State :=
  let s := s.storeReg (0xA4000 + 16 * m + 4 * word) v
  { s with dp := { s.dp with smeters := sput (fun _ => none) s.dp.smeters m none } }

/-- STR_METER_WRITE (R171). -/
def doStrMeterWrite (m word v : Nat) (s : State) : State :=
  s.busGate (fun s => s.strMeterStore (m % 1024) (word % 4) v)

/-! ### Gate lists: change and swap (R170, R191, R192) -/

/-- The earliest base + k * cycle that lies at least 1 µs after `now` (working-clock units). -/
def changeTime (base cycle now : Nat) : Nat :=
  let least := now + ns40 1000
  if least ≤ base then base else if cycle = 0 then least else base + ceilDiv (least - base) cycle * cycle

/-- A pending administrative list. -/
def State.pendOf (s : State) (key : Nat) : Option GatePend := sget (fun _ => none) s.dp.gatePend key

/-- Store it. -/
def State.setPend (s : State) (key : Nat) (g : Option GatePend) : State :=
  { s with dp := { s.dp with gatePend := sput (fun _ => none) s.dp.gatePend key g } }

/-- Store the operational base time of a list. -/
def State.setGateBase (s : State) (key t : Nat) : State :=
  { s with dp := { s.dp with gateBase := sput (fun _ => 0) s.dp.gateBase key t } }

/-- OPEN_NOW of a stream gate as its list gives it (Table 6.8). -/
def State.openNow (s : State) (g : Nat) : State :=
  s.setB (F.STR_GATE_W0_OPEN_NOW g) (s.streamGate g s.tb.clk).1

/-- A write of 1 to CHANGE of gate `g` (R170); ignored and tallied while pending. -/
def State.streamChange (s : State) (g : Nat) : State :=
    if s.isF (F.STR_GATE_W0_CHANGE g) then s.tally (T.strGate g 1)
    else
      let n := s.getF (F.STR_GATE_W0_ADMIN_LEN g)
      let cycle := s.getF (F.STR_GATE_CYCLE_ADMIN_CYCLE g)
      let sec := s.getF (F.STR_GATE_BASE_SL_ADMIN_BASE_SL g)
        + s.getF (F.STR_GATE_BASE_SH_ADMIN_BASE_SH g) * 2 ^ 32
      let at_ := changeTime (tOf sec (s.getF (F.STR_GATE_BASE_NS_ADMIN_BASE_NS g))) (ns40 cycle) s.tb.clk
      let es := (List.range n).map (fun k =>
        (s.getF (F.STR_GCL_ADMIN_W0_INTERVAL g k), s.getF (F.STR_GCL_ADMIN_W0_OPEN g k),
          s.getF (F.STR_GCL_ADMIN_W1_IPV g k) + 8 * s.getF (F.STR_GCL_ADMIN_W1_IPV_EN g k)))
      let s := (s.setPend (gateKey true g) (some ⟨es, cycle, at_⟩)).setB (F.STR_GATE_W0_CHANGE g) true
      (s.setF (F.STR_GATE_CHANGE_NS_CHANGE_NS g) (tNs at_)).setF (F.STR_GATE_CHANGE_SL_CHANGE_SL g)
        (tSec at_)

/-- STREAM_GATE_CHANGE (R170). -/
def doStreamGateChange (g : Nat) (s : State) : State := s.busGate (fun s => s.streamChange (g % 64))

/-- The copy becomes the operational list of gate `g` (R170, R177). -/
def State.swapStream (s : State) (g : Nat) : State :=
  match s.pendOf (gateKey true g) with
  | none => s
  | some p =>
    let old : GatePend := ⟨s.strList g, s.getF (F.STR_GATE_OPER_CYCLE_OPER_CYCLE g), p.at40⟩
    let base := sget (fun _ => 0) s.dp.gateBase (gateKey true g)
    let s := { s with dp := { s.dp with gateOld := sput (fun _ => none) s.dp.gateOld g (some (old, base)) } }
    let s := (s.setPend (gateKey true g) none).setB (F.STR_GATE_W0_CHANGE g) false
    let s := s.forN 64 (fun k s =>
      let e := p.entries.getD k (0, 0, 0)
      let s := (s.setF (F.STR_GCL_OPER_W0_INTERVAL g k) e.1).setF (F.STR_GCL_OPER_W0_OPEN g k) e.2.1
      (s.setF (F.STR_GCL_OPER_W1_IPV g k) e.2.2).setF (F.STR_GCL_OPER_W1_IPV_EN g k) (e.2.2 / 8))
    let s := (s.setF (F.STR_GATE_W0_OPER_LEN g) p.entries.length).setF
      (F.STR_GATE_OPER_CYCLE_OPER_CYCLE g) p.cycle
    (s.setGateBase (gateKey true g) p.at40).openNow g

/-- STREAM_GATE_SWAP (R170): the working clock has reached the change time of gate `g`. -/
def doStreamGateSwap (g : Nat) (s : State) : State :=
  let g := g % 64
  match s.pendOf (gateKey true g) with
  | some p => if p.at40 ≤ s.tb.clk then s.swapStream g else s
  | none => s

/-! ### Recovery reset (R175) -/

/-- RECOVERY_RESET: the scanner finds stream `i` without a passed item for RESET_TMO ms. -/
def doRecoveryReset (i : Nat) (s : State) : State :=
  let i := i % 8192
  let e := s.entry tStream i
  let r := s.rcvOf i
  if bit e 0 && ew e 7 1 2 != 0 && !r.takeAny && decide (r.lastAt + ew e 7 12 12 * cycMs ≤ s.tb.fab) then
    (s.setRcv (s.strKey i) { r with takeAny := true }).tally (T.str i 8)
  else s

/-! ### Meanings of the commands -/

/-- Meaning of STATE_UPDATE_APPLY (R157). -/
def execStateUpdateApply (s : State) : Host.Outcome State Fault Refusal := .next (doStateUpdateApply s)

/-- Meaning of FLOW_SWEEP (R152). -/
def execFlowSweep (s : State) : Host.Outcome State Fault Refusal := .next (doFlowSweep s)

/-- Meaning of FWL_NOW_TICK (R154). -/
def execFwlNowTick (s : State) : Host.Outcome State Fault Refusal := .next (doFwlNowTick s)

/-- Meaning of DIAG_SLOT_EXPIRY (R154). -/
def execDiagSlotExpiry (slot : Nat) (s : State) : Host.Outcome State Fault Refusal :=
  .next (doDiagSlotExpiry slot s)

/-- Meaning of DIAG_CLOSE (R154). -/
def execDiagClose (slot : Nat) (s : State) : Host.Outcome State Fault Refusal := .next (doDiagClose slot s)

/-- Meaning of CADENCE_SCAN (R156). -/
def execCadenceScan (key : Nat) (s : State) : Host.Outcome State Fault Refusal := .next (doCadenceScan key s)

/-- Meaning of FWL_METER_WRITE (R147). -/
def execFwlMeterWrite (meter word value : Nat) (s : State) : Host.Outcome State Fault Refusal :=
  .next (doFwlMeterWrite meter word value s)

/-- Meaning of STR_METER_WRITE (R171). -/
def execStrMeterWrite (meter word value : Nat) (s : State) : Host.Outcome State Fault Refusal :=
  .next (doStrMeterWrite meter word value s)

/-- Meaning of STREAM_GATE_CHANGE (R170). -/
def execStreamGateChange (gate : Nat) (s : State) : Host.Outcome State Fault Refusal :=
  .next (doStreamGateChange gate s)

/-- Meaning of STREAM_GATE_SWAP (R170). -/
def execStreamGateSwap (gate : Nat) (s : State) : Host.Outcome State Fault Refusal :=
  .next (doStreamGateSwap gate s)

/-- Meaning of RECOVERY_RESET (R175). -/
def execRecoveryReset (stream : Nat) (s : State) : Host.Outcome State Fault Refusal :=
  .next (doRecoveryReset stream s)

end Sys2Proof.Machine
end

