-- ==== Sys2Proof/Machine/Sched.lean ====
section
/-! DEFINITION. Egress scheduling (R179 to R203): the selection at a transmission opportunity, MACsec
protection on transmit (R275, R276), one-step and two-step timestamps (R217, R218), gate boundaries, the
swap of administrative lists (R191, R192), shaper resets (R195), the link and frame preemption
(R197 to R199). -/

namespace Sys2Proof.Machine

/-! ### Domain views (R212) -/

/-- View parameters of domain `d`. -/
def State.view (s : State) (d : Nat) : View := sget (fun _ => {}) s.tb.views d

/-- Time of a view at working-clock time `n`, both in 2^-40 ns (R212). -/
def View.at (v : View) (n : Int) : Int := n + v.ofs + (n - v.ref) * v.vrate / 2 ^ 40

/-! ### Timestamps at the SFD (R216 to R218) -/

/-- Egress timestamp (R216): the SFD leaves `sfd` units of 2^-16 ns after the selection (DEDUCED, log 23). -/
def State.txStamp (s : State) (p sfd : Nat) : Nat :=
  stampOf p (s.getF (F.TIM_PORT_EGR_CORR p)) (s.tb.clk + sfd * 2 ^ 24)

/-- Replace `n` bytes at offset `i` of a byte list, most significant byte first (R18). -/
def beSet (bs : List Byte) (i n v : Nat) : List Byte := bs.take i ++ beBytes n v ++ bs.drop (i + n)

/-- Offset of the PTP message in a frame body: behind EtherType 0x88F7 and any VLAN tag. -/
def ptpAt (bs : List Byte) : Option Nat :=
  let o := if beAt bs 12 2 = 0x8100 then 16 else 12
  if beAt bs o 2 = 0x88F7 ∧ o + 2 + 44 ≤ bs.length then some (o + 2) else none

/-- One-step insertion into the plaintext (R217): new body, and whether a PTP message was found. -/
def State.oneStep (s : State) (r : TsReq) (t : Nat) (bs : List Byte) : List Byte × Bool :=
  if r.mode = 0 then (bs, true)
  else match ptpAt bs with
  | none => (bs, false)
  | some o =>
    let add (x : Nat) (bs : List Byte) := beSet bs (o + 8) 8 ((beAt bs (o + 8) 8 + x) % 2 ^ 64)
    if r.mode = 1 then
      let v := ((s.view r.domain).at t).toNat
      let bs := beSet (beSet bs (o + 34) 6 (tSec v % 2 ^ 48)) (o + 40) 4 (tNs v)
      (add (tFrac v) bs, true)
    else (add (((t / 2 ^ 24 : Nat) - (r.refT : Int) * 2 ^ 16) % 2 ^ 64).toNat bs, true)

/-- A two-step timestamp is taken (R218): the host's queue, or the pair that injected the item. -/
def State.twoStep (s : State) (it : Item) (p t : Nat) : State :=
  if !it.ts.twoStep then s
  else if it.ingress = 32 ∨ it.ingress = 33 then s.emit (.stamp (it.ingress - 32) p it.ts.tag t)
  else
    let q := s.getF F.TIM_TS2_STAT_NEXT_QSEQ
    let s := s.incF F.TIM_TS2_STAT_NEXT_QSEQ
    if s.tb.ts2.length < 64 then { s with tb := { s.tb with ts2 := s.tb.ts2 ++ [⟨q, p, it.ts.tag, t⟩] } }
    else (s.tally (T.tim 3)).postFree 0x02 5

/-! ### MACsec on transmit (R275, R276; frame format of IEEE 802.1AE-2018) -/

/-- Protect a frame body with SA entry `e` and packet number `pn`. -/
def State.msecProtect (s : State) (p e key pn : Nat) (bs : List Byte) : List Byte :=
  let suite := ew e 0 2 2
  let enc := s.isF (F.PRT_MSEC_CFG_ENCRYPT p)
  let sci := s.isF (F.PRT_MSEC_CFG_INCLUDE_SCI p)
  let user := bs.drop 12
  let tci := 32 * b2n sci + 12 * b2n enc + s.getF (F.PRT_MSEC_CFG_TX_AN p)
  let sl := if user.length < 48 then user.length else 0
  let head := bs.take 12 ++ beBytes 2 0x88E5 ++ beBytes 1 tci ++ beBytes 1 sl ++ beBytes 4 (pn % 2 ^ 32)
    ++ (if sci then beBytes 8 (ew e 1 0 64) else [])
  let off := confOffset (s.getF (F.PRT_MSEC_CFG_CONF_OFFSET p))
  let rest := user.drop off
  let data := if enc then
      user.take off ++ padTo rest.length (Config.gcmCipher key suite pn (saIv e) rest) else user
  head ++ data ++ beBytes 16 (Config.gcmTag key suite pn (saIv e) head data).toNat

/-- The transmit engine of port `p` (R275, R276): the protected body, or none when it drops the frame
(PRESUMED, log 41) (DEDUCED, log 43). -/
def State.msecSend (s : State) (p : Nat) (bs : List Byte) : Option (List Byte) × State :=
  if !s.msecTx p then (some bs, s)
  else
    let i := p * 128 + s.getF (F.PRT_MSEC_CFG_TX_AN p)
    let e := s.entry tSa i
    let suite := ew e 0 2 2
    let limit := pnLimit suite
    let pn := ew e 2 0 64 % (limit + 1)
    if !saUsable e then (none, s.tally (T.msec p 1))
    else if s.dp.pnDone.contains i then (none, s.tally (T.msec p 2))
    else
      let out := s.msecProtect p e (s.saKeyOf i) pn bs
      let s := if pn = limit then { s with dp := { s.dp with pnDone := i :: s.dp.pnDone } }
        else s.setEntry tSa i (setEw e 2 0 64 (ew e 2 0 64 + 1))
      let x := s.getF (F.PRT_MSEC_CFG_PN_WARN_EXP p)
      let thr := limit - 2 ^ (if 2 ≤ suite then x else min x 30)
      let s := if thr ≤ pn + 1 ∧ !s.dp.pnWarned.contains i then
          ({ s with dp := { s.dp with pnWarned := i :: s.dp.pnWarned } }).postFree 0x24 3
        else s
      (some out, s.tally (T.msec p 0))

/-! ### Selection (R179, R180, R189, R190, R196, R199) -/

/-- Fair-sharing tag `a` comes no later than `b`, modulo 2^48. -/
def tagLe (a b : Nat) : Bool := decide ((b + 2 ^ 48 - a) % 2 ^ 48 < 2 ^ 47)

/-- The later of two tags. -/
def tagMax (a b : Nat) : Nat := if tagLe a b then b else a

/-- Virtual time of a level of a port. -/
def State.vtimeOf (s : State) (p level : Nat) : Nat := sget (fun _ => 0) s.dp.vtime (8 * p + level)

/-- The head item of class `c` takes longer than MAX_OPEN of its class (R190), whatever GATE_EN says
(DEDUCED, log 107). -/
def State.tooLong (s : State) (p c : Nat) (r : QRef) : Bool :=
  match s.item r.item with
  | none => false
  | some it =>
    let m := s.getF (F.SCH_CLASS_MAX_OPEN_MAX_OPEN p c)
    m != 0x3FFFFFFF && decide (m * s.portRate p < s.lenC p it r * 8000)

/-- Drop heads that R190 drops: `q` is the queue of class `c`, oldest first. -/
def State.dropLong (p c : Nat) : List QRef → State → State
  | [], s => s
  | r :: rs, s =>
    if s.tooLong p c r then
      dropLong p c rs (((s.setQueue p c rs).release r.item).tally (T.schClass p c 1))
    else s

/-- Drop the heads of every class queue that R190 drops. -/
def State.dropAllLong (s : State) (p : Nat) : State :=
  s.forN 8 (fun c s => State.dropLong p c (s.queue p c) s)

/-- An item in class `c` is preemptable at port `p`: not one that asks for timestamps (R197, R217). -/
def State.preemptable (s : State) (p c : Nat) (it : Item) : Bool :=
  s.fpActive p && bit (s.getF (F.SCH_FP_CFG_PREEMPTABLE p)) c && it.ts.mode == 0 && !it.ts.twoStep

/-- Class `c` of port `p` is a candidate (Table 7.1 steps 1 to 3); `expressOnly` while a preemptable
frame is in service. -/
def State.candidate (s : State) (p : Nat) (expressOnly : Bool) (c : Nat) : Bool :=
  match s.queue p c with
  | [] => false
  | r :: _ =>
    match s.item r.item with
    | none => false
    | some it =>
      let pre := s.preemptable p c it
      let fits := match s.openTime p c s.tb.clk with
        | none => true
        | some t => fitsIn (s.lenC p it r) (s.portRate p) t
      (it.complete || r.cut) && s.gateOpen p c && fits && !s.held p c r.elig
        && !(pre && (expressOnly || s.isF (F.SCH_PORT_STAT_HOLD_NOW p)))

/-- The class that steps 4 and 5 choose among the candidates: highest level, smallest start tag raised
to the level's virtual time, the higher class among equal tags (R179, R196). -/
def State.choose (s : State) (p : Nat) (cands : List Nat) : Option Nat :=
  let lvl (c : Nat) := s.getF (F.SCH_CLASS_W0_LEVEL p c)
  let top := cands.foldl (fun m c => max m (lvl c)) 0
  let v := s.vtimeOf p top
  let tag (c : Nat) := tagMax (s.classSt p c).stag v
  (cands.filter (fun c => lvl c == top)).foldl (fun best c =>
    match best with
    | none => some c
    | some b => if tagLe (tag c) (tag b) then some c else some b) none

/-- Charge the shaper and the tags of class `c` for a frame of `lenC` bytes (R193, R196). -/
def State.onSelect (s : State) (p c lenC : Nat) : State :=
  let lvl := s.getF (F.SCH_CLASS_W0_LEVEL p c)
  let st := s.classSt p c
  let tag := tagMax st.stag (s.vtimeOf p lvl)
  let w := max 1 (s.getF (F.SCH_CLASS_W0_WEIGHT p c))
  let q := lenC * 256 + st.frem
  let st := if s.getF (F.SCH_CLASS_W0_SHAPER p c) = 1 then charge st (8 * lenC) else st
  let s := s.setClassSt p c { st with
    stag := tag, ftag := (tag + q / w) % 2 ^ 48, frem := q % w
    sendLeft := ceilDiv (lenC * 6400) (max 1 (s.portRate p)) }
  { s with dp := { s.dp with vtime := sput (fun _ => 0) s.dp.vtime (8 * p + lvl) tag } }

/-- Frame in progress on port `p`, and the preempted frame behind it. -/
def State.txOf (s : State) (p : Nat) : Option EthTx := sget (fun _ => none) s.dp.tx p
def State.preemptedOf (s : State) (p : Nat) : Option EthTx := sget (fun _ => none) s.dp.preempted p
def State.endingOf (s : State) (p : Nat) : Option EthTx := sget (fun _ => none) s.dp.ending p
def State.setTx (s : State) (p : Nat) (t : Option EthTx) : State :=
  { s with dp := { s.dp with tx := sput (fun _ => none) s.dp.tx p t } }
def State.setEnding (s : State) (p : Nat) (t : Option EthTx) : State :=
  { s with dp := { s.dp with ending := sput (fun _ => none) s.dp.ending p t } }
def State.setPreempted (s : State) (p : Nat) (t : Option EthTx) : State :=
  { s with dp := { s.dp with preempted := sput (fun _ => none) s.dp.preempted p t } }

/-- Bytes of frame data in the shortest non-final fragment of port `p` (R197). -/
def State.minFrag (s : State) (p : Nat) : Nat := 64 * (1 + s.getF (F.SCH_FP_CFG_ADD_FRAG p)) - 4

/-- The frame in progress is preempted: a non-final fragment has been sent (R199). -/
def State.preempt (s : State) (p : Nat) (t : EthTx) : State :=
  ((s.setTx p none).setPreempted p (some t)).tally (T.sch p 2)

/-- Start the head frame of class `c` on port `p` (stages 8 to 10 of Table 1.7). -/
def State.startFrame (s : State) (p c sfd : Nat) : State :=
  match s.queue p c with
  | [] => s
  | r :: rs =>
    match s.item r.item with
    | none => s
    | some it =>
      let lenC := s.lenC p it r
      let pre := s.preemptable p c it
      let s := (s.onSelect p c lenC).setQueue p c rs
      let t := s.txStamp p sfd
      let (body, found) := s.oneStep it.ts t (egressBody it r)
      match s.msecSend p body with
      | (none, s) => s.release r.item
      | (some body, s) =>
        let s := if found then s else s.tally (T.tim 2)
        let bs := padTo (max 60 body.length) body
        let s := (s.twoStep it p t).tally (T.schClass p c 0)
        (s.setTx p (some { cls := c, ref := r, lenC := lenC, express := !pre })).emit (.frame p c (bs ++ fcsOf bs))

/-- The classes among which steps 4 and 5 of Table 7.1 choose; a preempted frame's class waits for its last
fragment (R199). -/
def State.cands (s : State) (p : Nat) (express : Bool) : List Nat :=
  (List.range 8).filter (fun c => s.candidate p express c && (match s.preemptedOf p with
    | some t => t.cls != c
    | none => true))

/-- An opportunity while `n` bytes of the present fragment of the preemptable frame `t` have been sent: an express
candidate, or the MAC merge hold, preempts it once the fragment is long enough (R197, R199)
(DESIGN CHOICE, log 22). -/
def State.selectPreempt (s : State) (p sfd n : Nat) (t : EthTx) : State :=
  if t.express ∨ (s.preemptedOf p).isSome ∨ !s.fpActive p ∨ n < s.minFrag p then s
  else match s.choose p ((s.cands p true).filter (· != t.cls)) with
  | some c => (s.preempt p t).startFrame p c sfd
  | none => if s.isF (F.SCH_PORT_STAT_HOLD_NOW p) then s.preempt p t else s

/-- PLCA runs on Ethernet port `p`: its opportunities are the PHY's (R180, R477). -/
def State.plcaOn (s : State) (p : Nat) : Bool := decide (16 ≤ p) && s.isF (F.T1S_CFG_PLCA_EN (p - 16))

/-- An opportunity when the MAC has started the last byte of the frame `t` in progress (R180): the next frame is
chosen behind it. -/
def State.selectNext (s : State) (p sfd : Nat) (t : EthTx) : State :=
  if s.plcaOn p ∨ (s.endingOf p).isSome ∨ (s.item t.ref.item).any (fun it => !it.complete) then s
  else
    let s := s.afterSend p t.cls
    match s.choose p (s.cands p (s.preemptedOf p).isSome) with
    | none => s
    | some c => ((s.setEnding p (some t)).setTx p none).startFrame p c sfd

/-- The selection at Ethernet port `p` (R179, R180); `sent` is the number of bytes of the present fragment, none at
an idle MAC and when the last byte of the frame in progress has started. -/
def State.selectEth (s : State) (p sfd : Nat) (sent : Option Nat) : State :=
  let s := s.dropAllLong p
  match s.txOf p, sent with
  | some t, some n => s.selectPreempt p sfd n t
  | some t, none => s.selectNext p sfd t
  | none, _ =>
    match s.preemptedOf p with
    | some t =>
      match s.choose p (s.cands p true) with
      | some c => s.startFrame p c sfd
      | none =>
        if s.isF (F.SCH_PORT_STAT_HOLD_NOW p) then s
        else (s.setPreempted p none).setTx p (some t)
    | none =>
      match s.choose p (s.cands p false) with
      | some c => s.startFrame p c sfd
      | none => s

/-- CPU port `p` hands the head item of its highest class to its core pair (R181). -/
def State.selectCpu (s : State) (p : Nat) : State :=
  let ready (c : Nat) : Bool := match s.queue p c with
    | [] => false
    | r :: _ => (s.item r.item).any (fun it => it.complete)
  match ((List.range 8).reverse).find? ready with
  | none => s
  | some c =>
    match s.queue p c with
    | [] => s
    | r :: rs =>
      match s.item r.item with
      | none => s
      | some it =>
        ((s.setQueue p c rs).emit (.cpuItem p c it.bytes it.ingress it.t r)).release r.item

/-- The link of port `p` is up (R182). -/
def State.linkUp (s : State) (p : Nat) : Bool := s.isF (F.PRT_MAC_STAT_LINK p)

/-- TX_OPPORTUNITY (R180): the MAC of Ethernet port `p` is idle or has started the last byte of the frame in
progress, or the PHY grants port `p` its PLCA opportunity, or core pair `p - 32` takes an item. With `sent` the
MAC is within a frame that may be preempted (DESIGN CHOICE, log 22). -/
def doTxOpportunity (p sfd : Nat) (sent : Option Nat) (s : State) : State :=
  if p < 32 then
    if s.ethPresent p ∧ s.linkUp p then s.selectEth p sfd sent else s
  else if p < 34 then (if s.pairUp (p - 32) then s.selectCpu p else s)
  else s

/-- EGRESS_FRAME_END (R44, R196): the frame in progress on port `p` ends and its reference is released.
A cut-through frame cannot end before its reception; one that failed its check while it was preempted ends with an
inverted FCS (R39). -/
def doEgressFrameEnd (p : Nat) (s : State) : State :=
  match s.endingOf p with
  | some t => ((s.setEnding p none).emit (.frameEnd p true)).release t.ref.item
  | none =>
    match s.txOf p with
    | none => s
    | some t =>
      if (s.item t.ref.item).any (fun it => !it.complete) then s
      else
        let s := ((s.setTx p none).emit (.frameEnd p (!t.stomped))).afterSend p t.cls
        (if t.stomped then s.tally (T.buf p 3) else s).release t.ref.item

/-! ### Gate boundaries and swaps (R187, R188, R190 to R192) -/

/-- Set the MAC merge hold of port `p`; a preemptable frame in progress is preempted at the next TX_OPPORTUNITY that
finds its fragment long enough (R199) (DESIGN CHOICE, log 22). -/
def State.setHold (s : State) (p : Nat) (on : Bool) : State :=
  let was := s.isF (F.SCH_PORT_STAT_HOLD_NOW p)
  let s := s.setB (F.SCH_PORT_STAT_HOLD_NOW p) on
  if on && !was then s.tally (T.sch p 4) else s

/-- GATES_NOW follows the list; with the gates off every gate is open and the hold released (R188). -/
def State.gatesNow (s : State) (p : Nat) : State :=
  let s := s.setF (F.SCH_PORT_STAT_GATES_NOW p) (s.gatesAt p s.tb.clk)
  if s.gatesOn p then s else s.setHold p false

/-- GATE_ENTRY_BOUNDARY (R187): an entry boundary of port `p`'s list is reached. -/
def doGateEntryBoundary (p : Nat) (s : State) : State := if s.ethPresent p then s.gatesNow p else s

/-- The frame in progress on port `p` is still being sent when the list now in force closes its gate
(R191, R192). -/
def State.overrun (s : State) (p : Nat) : State :=
  match (s.endingOf p).or (s.txOf p) with
  | none => s
  | some t =>
    match s.openTime p t.cls s.tb.clk with
    | none => s
    | some o =>
      if o < (s.classSt p t.cls).sendLeft * 5 * 2 ^ 38 then s.tally (T.schClass p t.cls 2) else s

/-- Longest list of port `p`: 1,024 entries on B ports, 256 on G and S ports. -/
def listMax (p : Nat) : Nat := if p < 8 then 1024 else 256

/-- A write of 1 to CHANGE of port `p` (R191); ignored and tallied while CHANGE reads 1. -/
def State.schChange (s : State) (p : Nat) : State :=
    if !s.ethPresent p then s
    else if s.isF (F.SCH_PORT_CFG_CHANGE p) then s.tally (T.sch p 0)
    else
      let n := min (listMax p) (s.getF (F.SCH_PORT_CFG_ADMIN_LEN p))
      let cycle := s.getF (F.SCH_ADMIN_CYCLE_CYCLE p)
      let sec := s.getF (F.SCH_ADMIN_BASE_SL_SL p) + s.getF (F.SCH_ADMIN_BASE_SH_SH p) * 2 ^ 32
      let at_ := changeTime (tOf sec (s.getF (F.SCH_ADMIN_BASE_NS_NS p))) (ns40 cycle) s.tb.clk
      let es := (List.range n).map (fun k =>
        (s.getF (schAdmInt p k), s.getF (schAdmGates p k), s.getF (schAdmOp p k)))
      let s := (s.setPend p (some ⟨es, cycle, at_⟩)).setB (F.SCH_PORT_CFG_CHANGE p) true
      (s.setF (F.SCH_CHANGE_NS_NS p) (tNs at_)).setF (F.SCH_CHANGE_SL_SL p) (tSec at_)

/-- SCH_CHANGE (R191). -/
def doSchChange (p : Nat) (s : State) : State := s.busGate (fun s => s.schChange p)

/-- The copy becomes the operational list of port `p` (R190, R191). -/
def State.swapSch (s : State) (p : Nat) : State :=
  match s.pendOf p with
  | none => s
  | some g =>
    let s := (s.setPend p none).setB (F.SCH_PORT_CFG_CHANGE p) false
    let n := max g.entries.length (s.getF (F.SCH_PORT_STAT_OPER_LEN p))
    let s := s.forN n (fun k s =>
      let e := g.entries.getD k (0, 0, 0)
      ((s.setF (schOperInt p k) e.1).setF (schOperGates p k) e.2.1).setF (schOperOp p k) e.2.2)
    let s := (s.setF (F.SCH_PORT_STAT_OPER_LEN p) g.entries.length).setF (F.SCH_OPER_CYCLE_CYCLE p) g.cycle
    let s := (s.setGateBase p g.at40).tally (T.sch p 1)
    let s := s.forN 8 (fun c s => s.setF (F.SCH_CLASS_MAX_OPEN_MAX_OPEN p c) (maxOpen g.entries g.cycle c))
    let s := (((s.gatesNow p).overrun p).dropAllLong p)
    if !s.gatesOn p || !s.fpActive p then s
    else match g.entries.head? with
    | some (_, _, 1) => s.setHold p true
    | some (_, _, 2) => s.setHold p false
    | _ => s

/-- SCH_SWAP (R191): the working clock has reached the change time of port `p`. -/
def doSchSwap (p : Nat) (s : State) : State :=
  match s.pendOf p with
  | some g => if p < 32 ∧ g.at40 ≤ s.tb.clk then s.swapSch p else s
  | none => s

/-- A step of the working clock acts on port `p` (R192): a change time that it passes swaps the list, otherwise the
position in the list is found again; a frame in progress may overrun. -/
def State.stepPort (s : State) (p : Nat) : State :=
  match s.pendOf p with
  | some g => if g.at40 ≤ s.tb.clk then s.swapSch p else (s.gatesNow p).overrun p
  | none => (s.gatesNow p).overrun p

/-- A step acts on every gate list (R192, R170). -/
def State.stepGates (s : State) : State :=
  let s := s.forN 32 (fun p s => s.stepPort p)
  s.forN 64 (fun g s =>
    match s.pendOf (gateKey true g) with
    | some p => if p.at40 ≤ s.tb.clk then s.swapStream g else s
    | none => s)

/-! ### Shaper parameters (R195, R196, R200) -/

/-- Reset the shaper of class queue `c` of port index `p` after its parameters changed from `old`: kind,
rate, bucket and IDLE as they were (R195). -/
def State.reshape (s : State) (p c : Nat) (old new : Nat × Nat × Nat × Nat) : State :=
  let (sh0, idle0, cir0, cbs0) := old
  let (sh, idle, cir, cbs) := new
  let st := s.classSt p c
  let st := if sh0 ≠ sh ∨ idle0 ≠ idle then { st with credit := 0, rem := 0 } else st
  let st := if sh0 ≠ sh ∨ cir0 ≠ cir ∨ cbs0 ≠ cbs then
      { st with emptyT := some ((s.shape40 : Int) - bitTime cbs cir) } else st
  let s := s.setClassSt p c st
  if sh0 ≠ sh ∧ sh = 2 then s.setQueue p c ((s.queue p c).map (fun r => { r with elig := 0 })) else s

/-- SHAPER, idle slope, CIR (bit/s) and bucket (bits) of a class queue. -/
def State.shapeParams (s : State) (p c : Nat) : Nat × Nat × Nat × Nat :=
  if p < 64 then
    (s.getF (F.SCH_CLASS_W0_SHAPER p c), 1000 * s.getF (F.SCH_CLASS_IDLE_IDLE p c),
      1000 * s.getF (F.SCH_CLASS_CIR_CIR p c), 8 * s.getF (F.SCH_CLASS_CBS_ATS_CBS p c))
  else
    (s.getF (F.SCH_RODQ_W0_SHAPER (p - 64) c), s.getF (F.SCH_RODQ_RATE_RATE (p - 64) c),
      s.getF (F.SCH_RODQ_RATE_RATE (p - 64) c), s.getF (F.SCH_RODQ_BURST_BURST (p - 64) c))

/-- Write word `w` of SCH_CLASS[p][c] or SCH_RODQ[p - 64][c] with the effects of a changed value: the
shaper (R195), the remainder of a changed WEIGHT and the tag of a changed LEVEL (R196). -/
def State.schParam (s : State) (p c w v : Nat) : State :=
  let off := if p < 64 then 0xC1000 + 256 * p + 32 * c + 4 * w else 0xC4000 + 128 * (p - 64) + 16 * c + 4 * w
  let old := s.shapeParams p c
  let lvl := s.getF (F.SCH_CLASS_W0_LEVEL p c)
  let wt := s.getF (F.SCH_CLASS_W0_WEIGHT p c)
  let s := s.storeReg off v
  let s := s.reshape p c old (s.shapeParams p c)
  if p < 32 then
    let st := s.classSt p c
    let st := if s.getF (F.SCH_CLASS_W0_WEIGHT p c) ≠ wt then { st with frem := 0 } else st
    let lvl' := s.getF (F.SCH_CLASS_W0_LEVEL p c)
    let st := if lvl' ≠ lvl ∧ !(s.queue p c).isEmpty then
        { st with stag := tagMax (s.vtimeOf p lvl') st.ftag } else st
    s.setClassSt p c st
  else s

/-- SHAPER_PARAM_WRITE (R195): a write of word `w` of the shaper registers of port or rod queue `c`. -/
def doShaperParamWrite (p c w v : Nat) (s : State) : State :=
  s.busGate (fun s =>
    if p < 32 then s.schParam p (c % 8) (w % 5) v
    else if 64 ≤ p ∧ p < 192 then s.schParam p (c % 8) (w % 3) v
    else s)

/-! ### Link and frame preemption (R182, R197, R198, R199) -/

/-- Set VERIFY_STATUS and what follows from it. -/
def State.setVerify (s : State) (p st : Nat) : State :=
  (s.setF (F.SCH_FP_STAT_VERIFY_STATUS p) st).fpUpdate p

/-- Verify attempts made since the last start of verification. -/
def State.setTries (s : State) (p n : Nat) : State :=
  { s with dp := { s.dp with verifyTry := sput (fun _ => 0) s.dp.verifyTry p n } }

/-- Start verification on port `p` (R198); with VERIFY_DIS 1 its status reads disabled. -/
def State.startVerify (s : State) (p : Nat) : State :=
  if 16 ≤ p then s
  else if s.isF (F.SCH_FP_CFG_VERIFY_DIS p) then s.setVerify p 0
  else ((s.setTries p 1).setVerify p 2).emit (.mPacket p 0)

/-- A topology change is counted and posted (R354, R378). -/
def State.topoChange (s : State) : State := (s.satF F.RNG_REACH_CHANGES 1).postFree 0x44 1

/-- The neighbour entry of direction `d` is cleared (R354). -/
def State.clearNbr (s : State) (d : Nat) : State :=
  if s.isF (F.RNG_NBR_INFO_VALID d) then
    let s := (s.setF (F.RNG_NBR_LO_TAG d) 0).setF (F.RNG_NBR_HI_TAG d) 0
    ((s.setF (F.RNG_NBR_INFO_PORT d) 0).setB (F.RNG_NBR_INFO_VALID d) false).topoChange
  else s

/-- The link of port `p` goes down: CBS credits are 0 and stay so (R182), and its Eplen neighbour is lost
(R354). -/
def State.dropLink (s : State) (p : Nat) : State :=
  let s := if s.isF F.RNG_STAT_EPLEN_EN && p / 2 == s.getF F.RNG_STAT_EPLEN_PAIR then s.clearNbr (p % 2) else s
  let s := (s.setB (F.PRT_MAC_STAT_LINK p) false).setB (F.PRT_MAC_STAT_AN_DONE p) false
  let s := s.forN 8 (fun c s => s.setClassSt p c { s.classSt p c with credit := 0, rem := 0 })
  if p < 16 then s.setVerify p 0 else s

/-- LINK_DOWN (R182). -/
def doLinkDown (p : Nat) (s : State) : State := if s.ethPresent p then s.dropLink p else s

/-- The port is out of service: a lane or PHY test (R404, R406), RUN-LEAN (R384), or a PHY that has not woken
(R390). -/
def State.portHeld (s : State) (p : Nat) : Bool :=
  bit s.pwr.leanPorts p || bit s.pwr.phyWait p
    || (if p < 16 then
          s.getF (F.TST_LANE_CFG_GEN_PAT p) != 0 || s.getF (F.TST_LANE_CFG_CHK_PAT p) != 0
            || s.getF (F.TST_LANE_CFG_LOOP p) != 0
        else s.getF (F.TST_T1S_MODE (p - 16)) != 0 || s.isF (F.TST_T1S_LOOP (p - 16)))

/-- LINK_UP (R198, R476): the MAC's configured mode comes into use. -/
def doLinkUp (p : Nat) (s : State) : State :=
  let mode := s.getF (F.PRT_MAC_CFG_MODE p)
  if !s.ethPresent p || mode == 0 || s.linkUp p || s.portHeld p || decide (2 ≤ s.getF F.PWR_MODE_MODE)
    then s
  else
    let s := (s.setB (F.PRT_MAC_STAT_LINK p) true).setF (F.PRT_MAC_STAT_MODE_NOW p) mode
    let s := s.setB (F.PRT_MAC_STAT_AN_DONE p) (mode == 5 && s.isF (F.PRT_MAC_CFG_AN_EN p))
    s.startVerify p

/-- VERIFY_RESPONSE (R197, R198). -/
def doVerifyResponse (p : Nat) (s : State) : State :=
  if s.ethPresent p ∧ p < 16 ∧ s.linkUp p ∧ s.getF (F.SCH_FP_STAT_VERIFY_STATUS p) = 2 then s.setVerify p 3
  else s

/-- VERIFY_TIMEOUT (R198): VERIFY_TIME has passed; the third unanswered attempt fails. -/
def doVerifyTimeout (p : Nat) (s : State) : State :=
  if s.ethPresent p ∧ p < 16 ∧ s.getF (F.SCH_FP_STAT_VERIFY_STATUS p) = 2 then
    let n := sget (fun _ => 0) s.dp.verifyTry p
    if n < 3 then (s.setTries p (n + 1)).emit (.mPacket p 0)
    else (s.setVerify p 4).tally (T.sch p 8)
  else s

/-- VERIFY_MPACKET_RECEIVED (R198): answered whenever FP_EN is 1 (DEDUCED, log 26). -/
def doVerifyMpacketReceived (p : Nat) (s : State) : State :=
  if s.ethPresent p ∧ p < 16 ∧ s.linkUp p ∧ s.isF (F.SCH_FP_CFG_FP_EN p) then s.emit (.mPacket p 1) else s

/-- Advance with which the OP of an entry acts on the hold, in 2^-40 ns (R199). -/
def State.holdAdv (s : State) (p op : Nat) : Nat :=
  ns40 (if op = 1 then s.getF (F.SCH_FP_TIME_HOLD_ADV p) else s.getF (F.SCH_FP_TIME_REL_ADV p))

/-- OP 1 asserts the MAC merge hold, OP 2 releases it, any other OP keeps it (R199). -/
def State.holdOp (s : State) (p op : Nat) : State :=
  if op = 1 then s.setHold p true else if op = 2 then s.setHold p false else s

/-- Entry 0 of the pending list: its OP, where the advance before the change time has been reached (R199). -/
def State.pendHold (s : State) (p k : Nat) : Option Nat :=
  match s.pendOf p with
  | some g => match g.entries.head? with
    | some (_, _, op) => if k = 0 ∧ g.at40 ≤ s.tb.clk + s.holdAdv p op then some op else none
    | none => none
  | none => none

/-- The list in force ends before `ahead` has passed (R189). -/
def State.endsWithin (s : State) (p ahead : Nat) : Bool :=
  match s.pendOf p with
  | some g => decide (g.at40 ≤ s.tb.clk + ahead)
  | none => false

/-- Start of entry `k` in a list, in 2^-40 ns. -/
def entryStart (l : List (Nat × Nat × Nat)) (k : Nat) : Nat :=
  ns40 ((l.take k).foldl (fun n e => n + e.1) 0)

/-- MAC_MERGE_HOLD (R199): the advance before the boundary of entry `k` of port `p`'s list, or before the change time
of a pending list whose entry 0 it is, is reached. -/
def doMacMergeHold (p k : Nat) (s : State) : State :=
  if !s.ethPresent p || !s.fpActive p || !s.gatesOn p then s
  else match s.pendHold p k with
  | some op => s.holdOp p op
  | none =>
    let l := s.schList p
    match l[k]? with
    | none => s
    | some (int, _, op) =>
      let cyc := ns40 (s.getF (F.SCH_OPER_CYCLE_CYCLE p))
      let adv := s.holdAdv p op
      let pos := cyclePos s.tb.clk (sget (fun _ => 0) s.dp.gateBase p) cyc
      let start := entryStart l k
      let past := (pos + adv + cyc - start) % cyc
      if cyc ≤ start ∨ adv + ns40 int ≤ past ∨ (past < adv ∧ s.endsWithin p (adv - past)) then s
      else s.holdOp p op

/-! ### Meanings of the commands -/

/-- Meaning of TX_OPPORTUNITY (R180). -/
def execTxOpportunity (port sfd : Nat) (s : State) (sent : Option Nat := none) :
    Host.Outcome State Fault Refusal :=
  .next (doTxOpportunity port sfd sent s)

/-- Meaning of EGRESS_FRAME_END (R44). -/
def execEgressFrameEnd (port : Nat) (s : State) : Host.Outcome State Fault Refusal :=
  .next (doEgressFrameEnd port s)

/-- Meaning of GATE_ENTRY_BOUNDARY (R187). -/
def execGateEntryBoundary (port : Nat) (s : State) : Host.Outcome State Fault Refusal :=
  .next (doGateEntryBoundary port s)

/-- Meaning of SCH_CHANGE (R191). -/
def execSchChange (port : Nat) (s : State) : Host.Outcome State Fault Refusal := .next (doSchChange port s)

/-- Meaning of SCH_SWAP (R191). -/
def execSchSwap (port : Nat) (s : State) : Host.Outcome State Fault Refusal := .next (doSchSwap port s)

/-- Meaning of SHAPER_PARAM_WRITE (R195). -/
def execShaperParamWrite (port cls word value : Nat) (s : State) : Host.Outcome State Fault Refusal :=
  .next (doShaperParamWrite port cls word value s)

/-- Meaning of LINK_DOWN (R182). -/
def execLinkDown (port : Nat) (s : State) : Host.Outcome State Fault Refusal := .next (doLinkDown port s)

/-- Meaning of LINK_UP (R198). -/
def execLinkUp (port : Nat) (s : State) : Host.Outcome State Fault Refusal := .next (doLinkUp port s)

/-- Meaning of VERIFY_RESPONSE (R198). -/
def execVerifyResponse (port : Nat) (s : State) : Host.Outcome State Fault Refusal :=
  .next (doVerifyResponse port s)

/-- Meaning of VERIFY_TIMEOUT (R198). -/
def execVerifyTimeout (port : Nat) (s : State) : Host.Outcome State Fault Refusal :=
  .next (doVerifyTimeout port s)

/-- Meaning of VERIFY_MPACKET_RECEIVED (R198). -/
def execVerifyMpacketReceived (port : Nat) (s : State) : Host.Outcome State Fault Refusal :=
  .next (doVerifyMpacketReceived port s)

/-- Meaning of MAC_MERGE_HOLD (R199). -/
def execMacMergeHold (port entry : Nat) (s : State) : Host.Outcome State Fault Refusal :=
  .next (doMacMergeHold port entry s)

end Sys2Proof.Machine
end

