-- ==== Sys2Proof/Machine/Time.lean ====
section
/-! DEFINITION. The working clock and the time base (R204 to R227): the clock's advance, slews, steps and
their effects (R209, R215), the domain views (R211, R212), the TIME_BASE entries of the table command
interface (R207), the gPTP actions of the control pair (R213), holdover (R214), the two-step and TIME_IN
queues and TIME_OUT. -/

namespace Sys2Proof.Machine

/-! ### Signed fields -/

/-- Two's complement reading of the low `w` bits. -/
def signed (w x : Nat) : Int :=
  let x := x % 2 ^ w
  if x < 2 ^ (w - 1) then x else (x : Int) - 2 ^ w

/-- Two's complement field of `w` bits. -/
def unsigned (w : Nat) (i : Int) : Nat := (i % 2 ^ w).toNat

/-- Division rounded to nearest, halves away from zero; `d` is positive. -/
def roundAway (n : Int) (d : Nat) : Int :=
  let q : Int := (n.natAbs * 2 + d) / (2 * d)
  if n < 0 then -q else q

/-! ### The clock (R204, R205, R208) -/

/-- INC in 2^-40 ns for a total rate in 2^-40 units: 1.25 (1 + rate), rounded half to even (R204). -/
def clkInc (rate : Int) : Int :=
  let x := 5 * rate
  let q := x / 4
  let m := x % 4
  5 * 2 ^ 38 + (if m = 3 ∨ (m = 2 ∧ q % 2 = 1) then q + 1 else q)

/-- Move the working clock by `d` (2^-40 ns). -/
def State.moveClk (s : State) (d : Int) : State :=
  { s with tb := { s.tb with clk := (((s.tb.clk : Int) + d) % clkTop).toNat } }

/-- CLK_FAB cycles of a slew of `dur` µs. -/
def slewCycles (dur : Nat) : Nat := dur * 800

/-- Advance the working clock by one CLK_FAB cycle (R204, R208): the slew counts its own part
(DESIGN CHOICE, log 1). -/
def State.advanceClk (s : State) : State :=
  match s.tb.slew with
  | some w =>
    if w.cycles < slewCycles w.dur then
      let inc := clkInc (s.tb.rate + w.rate)
      let w := { w with cycles := w.cycles + 1, applied := w.applied + (inc - clkInc s.tb.rate) }
      ({ s with tb := { s.tb with slew := some w } }).moveClk inc
    else s.moveClk (clkInc s.tb.rate)
  | none => s.moveClk (clkInc s.tb.rate)

/-! ### CLK_FAB cycle (R186, R193) -/

/-- The queue's frame is being sent: T has not passed on an Ethernet port, or the frame is on the bus of a
rod (R193, R200). -/
def State.sendingNow (s : State) (p c : Nat) : Bool :=
  if p < 64 then s.classSt p c |>.sendLeft |> (decide <| 0 < ·)
  else match (s.rod (p - 64)).tx with
  | some t => t.q == c
  | none => false

/-- One cycle of the shaper of class queue `c` of port index `p` (R182, R193). -/
def State.shapeTick (s : State) (p c : Nat) : State :=
  let (sh, idle, _, _) := s.shaperOf p c
  let st := s.classSt p c
  let sending := s.sendingNow p c
  let st' := if sh ≠ 1 then st
    else if p < 32 ∧ !s.linkUp p then { st with credit := 0, rem := 0 }
    else if p < 32 ∧ !s.gateOpen p c ∧ !sending then st
    else if sending || decide (st.credit < 0) || !(s.queue p c).isEmpty then accrue st idle
    else if 0 < st.credit then { st with credit := 0, rem := 0 } else st
  s.setClassSt p c { st' with sendLeft := st'.sendLeft - 1 }

/-- Every class queue that holds items or shaper state goes through one cycle (DESIGN CHOICE, log 1). -/
def State.shapeTicks (s : State) : State :=
  let keys := (s.dp.classes.map (·.1)) ++ ((s.dp.queues.map (·.1)).filter (fun k =>
    !s.dp.classes.any (fun e => e.1 == k)))
  keys.foldl (fun s k => s.shapeTick (k / 16) (k % 16)) s

/-- Bits that a lane checks in one CLK_FAB cycle, in 1/256: its line rate times 1.25 ns (R402)
(PRESUMED, log 21). -/
def laneBits (mode : Nat) : Nat :=
  match mode with
  | 1 => 8250
  | 2 => 3300
  | 3 => 1650
  | 4 => 1000
  | 5 => 400
  | _ => 0

/-- Locked lane checkers count the bits they check, saturating (R403). -/
def State.laneTicks (s : State) : State :=
  s.forN 16 (fun l s =>
    if s.isF (F.TST_LANE_STAT_LOCK l) then
      let n := sget (fun _ => 0) s.laneFrac l + laneBits (s.getF (F.PRT_MAC_CFG_MODE l))
      let b := satAdd (2 ^ 48 - 1) (s.getF (F.TST_LANE_BITS_LO_BITS l)
        + s.getF (F.TST_LANE_BITS_HI_BITS l) * 2 ^ 32) (n / 256)
      { (s.setF (F.TST_LANE_BITS_LO_BITS l) b).setF (F.TST_LANE_BITS_HI_BITS l) (b / 2 ^ 32) with
        laneFrac := sput (fun _ => 0) s.laneFrac l (n % 256) }
    else s)

/-- Stages 6, 7 and 8 run once stage 5 has begun: STAGE shows 7 until stage 7 is complete (R313, R344,
R345; DEDUCED, log 60). -/
def State.stageTick (s : State) : State :=
  if s.getF F.GLB_RST_STAT_STAGE = 5 ∧ !s.boot.wrst then s.setF F.GLB_RST_STAT_STAGE 7 else s

/-- Eplen frames that wait for a port leave when it can take them (R363). -/
def State.drainTick (s : State) : State :=
  if s.ring.sendQ.isEmpty then s else s.forN 2 (fun d s => s.drainEplen (s.eplenPort d))

/-- One CLK_FAB cycle: what an idle step does. While the clocks are stopped, before stage 5 or in a power mode
that stops CLK_FAB, nothing advances (R205, R313, R381) (DESIGN CHOICE, log 1). -/
def State.tick (s : State) : State :=
  if 2 ≤ s.getF F.PWR_MODE_MODE ∨ !s.isF F.GLB_CLK_STAT_ROOT_LOCK then s
  else
    let s := s.shapeTicks.laneTicks.stageTick.drainTick.advanceClk
    { s with tb := { s.tb with fab := s.tb.fab + 1 } }

/-! ### Effects of an applied step (R215, Table 8.3) -/

/-- A launch-time item is later than launch time + LATE_MAX (R70). -/
def State.launchLate (s : State) (n : Nat) (r : QRef) : Bool :=
  dueAt r.launch s.now32
    && decide (1000 * s.getF (F.ROD_LAUNCH_LATE_MAX n) < (s.now32 + 2 ^ 32 - r.launch) % 2 ^ 32)

/-- The reference of the item on rod `n`'s bus, when it comes from queue `q`. -/
def State.onBus (s : State) (n q : Nat) : Option QRef :=
  match (s.rod n).tx with
  | some t => if t.q = q then some t.ref else none
  | none => none

/-- Drop the launch-time items of rod `n` that are late and not on the bus (R70, R57). -/
def State.dropLate (s : State) (n : Nat) : State :=
  let late := (s.queue (64 + n) 8).filter (fun r => s.launchLate n r && s.onBus n 8 != some r)
  if late.isEmpty then s
  else
    let s := s.setQueue (64 + n) 8 ((s.queue (64 + n) 8).filter (fun r => !late.contains r))
    (late.foldl (fun s r => ((s.release r.item).tally (T.rodLaunchLate n)).rodEvt n 5) s).txPending n

/-- The time-driven blocks follow an applied step of size `d` (R215). -/
def State.stepEffects (s : State) (d : Int) : State :=
  let s := s.stepGates
  let s := s.forN 64 (fun g s => s.openNow g)
  let s := s.forN 128 (fun n s => s.dropLate n)
  let s := if 10000 * 2 ^ 40 ≤ d.natAbs then
      let cad := s.dp.cad.map (fun e => (e.1, { e.2 with seen := false }))
      { s with dp := { s.dp with cad := cad.filter (fun e => e.2 != {}) } }
    else s
  let shift (g : Nat) : Nat := ((g : Int) + d).toNat
  { s with tb := { s.tb with
    outFrom := s.tb.clk, outGuard := shift s.tb.outGuard
    outNew := s.tb.outNew.map (fun e => (shift e.1, e.2)) } }

/-! ### Steps (R209 to R211) -/

/-- Note an applied step: SYNCED, no pending step, event and tally, and its place in the history of the clock. -/
def State.noteStep (s : State) (d : Int) : State :=
  let s := (s.setB F.TIM_STAT_SYNCED true).setB F.TIM_STAT_JUMP_PEND false
  let s := { s with tb := { s.tb with
    pending := none, lastStep := d
    steps := (s.tb.fab, d) :: s.tb.steps.filter (fun e => decide (s.tb.fab - e.1 ≤ cycS)) } }
  ((s.tally (T.tim 0)).postFree 0x02 1).stepEffects d

/-- Step the clock by `d`. -/
def State.applyStep (s : State) (d : Int) : State := (s.moveClk d).noteStep d

/-- Set the view of domain `d`. -/
def State.setView (s : State) (d : Nat) (v : View) : State :=
  { s with tb := { s.tb with views := sput (fun _ => {}) s.tb.views d v } }

/-- The step that selecting domain `d` makes now. -/
def State.selectStep (s : State) (d : Nat) : Int := (s.view d).at s.tb.clk - s.tb.clk

/-- Fold view `e` when domain `d` is selected at time `n` with step `st` (R211). -/
def foldView (v : View) (vrate n st : Int) : View :=
  { ofs := v.ofs + (n - v.ref) * v.vrate / 2 ^ 40 - st, vrate := v.vrate - vrate, ref := n + st }

/-- Select domain `d` (R211) (DEDUCED, log 24). -/
def State.applySelect (s : State) (d : Nat) : State :=
  let n : Int := s.tb.clk
  let st := s.selectStep d
  let vr := (s.view d).vrate
  let s := s.forN 4 (fun e s =>
    if e = d then s.setView d { s.view d with ofs := 0, vrate := 0 }
    else s.setView e (foldView (s.view e) vr n st))
  let s := { s with tb := { s.tb with rate := s.tb.rate + vr } }
  (s.setF F.TIM_STAT_SEL d).applyStep st

/-- A step of size `d` is refused (R209). -/
def State.refuses (s : State) (d : Int) : Bool :=
  s.isF F.TIM_CFG_JUMP_EN && s.isF F.TIM_STAT_SYNCED
    && decide (s.getF F.TIM_JUMP_LIMIT_LIMIT * 2 ^ 40 < d.natAbs)

/-- Store a refused step as pending (R209). -/
def State.pendStep (s : State) (p : Pending) : State :=
  let s := { s with tb := { s.tb with pending := some p } }
  ((s.setB F.TIM_STAT_JUMP_PEND true).tally (T.tim 1)).postFree 0x02 2

/-! ### TIME_BASE entries (Tables 8.1 and 8.2) -/

/-- A write by the owner: holdover ends (R214). -/
def State.ownerWrite (s : State) : State :=
  let s := { s with tb := { s.tb with ownerAt := s.tb.fab } }
  if s.isF F.TIM_STAT_HOLDOVER then (s.setB F.TIM_STAT_HOLDOVER false).postFree 0x02 4 else s

/-- Requester `r` owns the time base (R207). -/
def State.owns (s : State) (r : Nat) : Bool :=
  if s.isF F.TIM_CFG_SERVO_OWNER then r == 2 else r == 0

/-- Rate limits of RATE and VRATE. -/
def clampRate (x : Int) : Int := max (-0x20000000) (min 0x20000000 x)

/-- Entry `i` as READ returns it (Table 8.2). -/
def State.timeEntry (s : State) (i : Nat) : Nat :=
  let pair (x : Int) := unsigned 64 (x / 2 ^ 40) + unsigned 16 (x / 2 ^ 24) * 2 ^ 64
  match i with
  | 0 => tNs s.tb.clk + tFrac s.tb.clk * 2 ^ 32 + tSec s.tb.clk * 2 ^ 64 + s.now32 * 2 ^ 128
  | 1 => unsigned 32 s.tb.rate
  | 2 =>
    match s.tb.slew with
    | none => 0
    | some w =>
      unsigned 32 ((w.adj * 2 ^ 40 - w.applied).tdiv (2 ^ 40))
        + ceilDiv (slewCycles w.dur - w.cycles) 800 * 2 ^ 64
  | 3 => pair s.tb.lastStep
  | 4 => s.getF F.TIM_STAT_SEL
  | 5 =>
    match s.tb.pending with
    | none => 0
    | some p => unsigned 64 (p.step / 2 ^ 40) + (p.kind + 4 * p.dom) * 2 ^ 64
  | _ =>
    let v := s.view (i - 8)
    pair v.ofs + unsigned 32 v.vrate * 2 ^ 96 + unsigned 64 (v.ref / 2 ^ 40) * 2 ^ 128

/-- The entry exists (R207). -/
def timeThere (i : Nat) : Bool := decide (i ≤ 5) || (decide (8 ≤ i) && decide (i ≤ 11))

/-- READ of a TIME_BASE entry. -/
def State.timeRead (s : State) (r : Nat) : Option Nat × State :=
  let (_, i, _) := s.tblAddr r
  if !timeThere i then (some stNotFound, s)
  else (some stOk, (s.setStage r ⟨some (tTime, i), s.timeEntry i⟩).setTblData r (s.timeEntry i))

/-- Start a slew (R208), or end one when ADJ is 0. -/
def State.slewTo (s : State) (adj : Int) (dur : Nat) : State :=
  if adj = 0 then ({ s with tb := { s.tb with slew := none } }).setB F.TIM_STAT_SLEWING false
  else
    let dur := min (2 ^ 32 - 1) (max dur (2 * adj.natAbs))
    let w : Slew := ⟨adj, roundAway (adj * 2 ^ 40) (dur * 1000), dur, 0, 0⟩
    ({ s with tb := { s.tb with slew := some w } }).setB F.TIM_STAT_SLEWING true

/-- Step by `d` or store it as pending (R209). -/
def State.tryStep (s : State) (d : Int) : State :=
  if s.refuses d then s.pendStep ⟨1, 0, d⟩ else s.applyStep d

/-- WRITE of entry `i` with the 32 bytes `v`: status and state (R207 to R212). -/
def State.timeEffect (s : State) (r i v : Nat) : Nat × State :=
  if i = 5 then
    if r = 0 then (stReject, s)
    else match s.tb.pending with
    | none => (stReject, s)
    | some p => (stOk, if p.kind = 2 then s.applySelect p.dom else s.applyStep p.step)
  else if !s.owns r then (stReject, s)
  else match i with
  | 0 =>
    let t : Nat := tOf (ew v 1 0 48) (min 999999999 (ew v 0 0 32)) + ew v 0 32 16 * 2 ^ 24
    (stOk, s.ownerWrite.tryStep ((t : Int) - s.tb.clk))
  | 1 => (stOk, { s.ownerWrite with tb := { s.ownerWrite.tb with rate := clampRate (signed 32 v) } })
  | 2 => (stOk, s.ownerWrite.slewTo (signed 32 v) (ew v 1 0 32))
  | 3 => (stOk, s.ownerWrite.tryStep (signed 64 v * 2 ^ 40 + ((ew v 1 0 16 * 2 ^ 24 : Nat) : Int)))
  | 4 =>
    let d := v % 4
    if !s.isF (F.TIM_DOM_W0_EN d) then (stReject, s)
    else
      let s := s.ownerWrite
      if d = s.getF F.TIM_STAT_SEL then (stOk, s)
      else if s.refuses (s.selectStep d) then (stOk, s.pendStep ⟨2, d, s.selectStep d⟩)
      else (stOk, s.applySelect d)
  | _ =>
    let d := i - 8
    if d = s.getF F.TIM_STAT_SEL then (stReject, s)
    else
      let ofs : Int := signed 64 v * 2 ^ 40 + ((ew v 1 0 16 * 2 ^ 24 : Nat) : Int)
      (stOk, s.setView d ⟨ofs, clampRate (signed 32 (ew v 1 32 32)), ((ew v 2 0 64 * 2 ^ 40 : Nat) : Int)⟩)

/-- WRITE of a TIME_BASE entry from the requester's data registers, by way of its staging buffer (R130, R207). -/
def State.timeWrite (s : State) (r : Nat) : Option Nat × State :=
  let (_, i, _) := s.tblAddr r
  if !timeThere i then (some stNotFound, s)
  else
    let v := s.tblData r
    let (st, s) := s.timeEffect r i v
    (some st, if st = stOk then s.setStage r ⟨some (tTime, i), v⟩ else s)

/-- TBL_CMD READ (R130, R207). -/
def doTblRead (r : Nat) (slow : Bool) (ce : Nat) (s : State) : State :=
  let r := min r 2
  s.tblCmd r 1 (fun s => if (s.tblAddr r).1 = tTime then s.timeRead r else (s.tallyN (T.glb 2) ce).tblRead r slow)

/-- TBL_CMD WRITE (R130, R207). -/
def doTblWrite (r : Nat) (slow : Bool) (s : State) : State :=
  let r := min r 2
  s.tblCmd r 2 (fun s => if (s.tblAddr r).1 = tTime then s.timeWrite r else s.tblWrite r slow)

/-- Load a requester's address registers with TIME_BASE entry `i`, and its data registers. -/
def State.loadTime (s : State) (r i v : Nat) : State :=
  let s := (s.setF (reqF r F.TBL_ADDR_TABLE) tTime).setF (reqF r F.TBL_ADDR_INDEX) i
  (s.setF (reqF r F.TBL_ADDR_PART) 0).setTblData r v

/-- A WRITE of TIME_BASE entry `i`: requester `r` loads TBL_ADDR and TBL_DATA and writes the command. -/
def State.timeCmd (s : State) (r i v : Nat) : State :=
  let r := min r 2
  s.tblCmd r 2 (fun s => (s.loadTime r i v).timeWrite r)

/-- TIME_BASE READ of entry `i` (R207). -/
def doTimeBaseRead (r i : Nat) (s : State) : State :=
  let r := min r 2
  s.tblCmd r 1 (fun s =>
    let s := (s.setF (reqF r F.TBL_ADDR_TABLE) tTime).setF (reqF r F.TBL_ADDR_INDEX) (i % 16)
    (s.setF (reqF r F.TBL_ADDR_PART) 0).timeRead r)

/-- WRITE of CLOCK (R209): time as seconds, nanoseconds and 2^-16 ns. -/
def doClockSet (r sec ns frac : Nat) (s : State) : State :=
  s.timeCmd r 0 (ns % 2 ^ 32 + frac % 2 ^ 16 * 2 ^ 32 + sec % 2 ^ 48 * 2 ^ 64)

/-- WRITE of RATE (R207). -/
def doRateWrite (r rate : Nat) (s : State) : State := s.timeCmd r 1 (rate % 2 ^ 32)

/-- WRITE of SLEW (R208). -/
def doSlew (r adj dur : Nat) (s : State) : State := s.timeCmd r 2 (adj % 2 ^ 32 + dur % 2 ^ 32 * 2 ^ 64)

/-- SLEW_END (R208): DUR has passed. -/
def doSlewEnd (s : State) : State :=
  match s.tb.slew with
  | some w =>
    if slewCycles w.dur ≤ w.cycles then
      ({ s with tb := { s.tb with slew := none } }).setB F.TIM_STAT_SLEWING false
    else s
  | none => s

/-- WRITE of STEP (R209). -/
def doStep (r ns frac : Nat) (s : State) : State :=
  s.timeCmd r 3 (ns % 2 ^ 64 + frac % 2 ^ 16 * 2 ^ 64)

/-- WRITE of SELECT (R211). -/
def doSelect (r d : Nat) (s : State) : State := s.timeCmd r 4 (d % 4)

/-- WRITE of ACCEPT (R210). -/
def doAccept (r : Nat) (s : State) : State := s.timeCmd r 5 0

/-- WRITE of VIEW[d] (R212). -/
def doViewWrite (r d ofs frac vrate ref : Nat) (s : State) : State :=
  s.timeCmd r (8 + d % 4) (ofs % 2 ^ 64 + frac % 2 ^ 16 * 2 ^ 64 + vrate % 2 ^ 32 * 2 ^ 96
    + ref % 2 ^ 64 * 2 ^ 128)

/-! ### gPTP and holdover (R213, R214) -/

/-- TIM_HOLDOVER_ON (R214): TIM_HOLD_TMO ms have passed without a write by the owner. -/
def doTimHoldoverOn (s : State) : State :=
  if s.isF F.TIM_STAT_SYNCED && !s.isF F.TIM_STAT_HOLDOVER
      && decide (s.tb.ownerAt + s.getF F.TIM_HOLD_TMO_TMO * cycMs ≤ s.tb.fab) then
    ({ s.setB F.TIM_STAT_HOLDOVER true with tb := { s.tb with holdAt := s.tb.fab } }).postFree 0x02 3
  else s

/-- The control pair issues owner writes for the selected domain: it owns the time base, no refused step waits, and
the domain has its time source (R207, R214). -/
def State.steers (s : State) (d : Nat) : Bool :=
  !s.isF F.TIM_CFG_SERVO_OWNER && !s.isF F.TIM_STAT_JUMP_PEND && s.tb.locked.contains d

/-- A servo write of the control pair (R213): kind 1 RATE, 2 SLEW, 3 STEP for the selected domain, a VIEW
write for another one; 0 none (DESIGN CHOICE, log 96). -/
def State.servo (s : State) (d kind v : Nat) : State :=
  if kind = 0 then s
  else if d = s.getF F.TIM_STAT_SEL then (if s.steers d then s.timeCmd 0 (min kind 3) v else s)
  else if s.isF F.TIM_CFG_SERVO_OWNER then s
  else s.timeCmd 0 (8 + d) v

/-- The servo of domain `d` reports whether it is locked to its time source (R213). -/
def State.setLocked (s : State) (d : Nat) (on : Bool) : State :=
  let rest := s.tb.locked.filter (· != d)
  { s with tb := { s.tb with locked := if on then d :: rest else rest } }

/-- The highest-ranked domain of the image's list that is enabled, locked and not selected (R213). -/
def State.failoverTo (s : State) : Option Nat :=
  ((s.paramBytes 0x03).getD []).map (fun b => b.toNat) |>.find? (fun d =>
    decide (d < 4) && d != s.getF F.TIM_STAT_SEL && s.isF (F.TIM_DOM_W0_EN d) && s.tb.locked.contains d)

/-- The selected domain has been in holdover for FAILOVER_MS (R213, R337). -/
def State.failoverDue (s : State) : Bool :=
  s.isF F.TIM_STAT_HOLDOVER && (match s.paramBytes 0x04 with
    | some b => decide (s.tb.holdAt + leNat b * cycMs ≤ s.tb.fab)
    | none => false)

/-- DOMAIN_FAILOVER (R213): the servos of the domains in the bitmap `lost` are found to have lost their time source.
After the failover time in holdover the control pair selects the highest-ranked locked domain of the image's list; with
no such item in the image it selects none (DESIGN CHOICE, log 96). -/
def doDomainFailover (lost : Nat) (s : State) : State :=
  let s := { s with tb := { s.tb with locked := s.tb.locked.filter (fun d => !bit lost d) } }
  if s.pairUp 0 && s.failoverDue && !s.isF F.TIM_CFG_SERVO_OWNER && !s.isF F.TIM_STAT_JUMP_PEND then
    match s.failoverTo with
    | some d => s.timeCmd 0 4 d
    | none => s
  else s

/-- The gPTP instance that runs with PTP domainNumber `dn` on Ethernet port `p` (R213). -/
def State.ptpDomain (s : State) (p dn : Nat) : Option Nat :=
  (List.range 4).find? (fun d => s.isF (F.TIM_DOM_W0_EN d) && bit (s.getF (F.TIM_DOM_W1_PORTS d)) p
    && s.getF (F.TIM_DOM_W0_DOMAIN_NUMBER d) == dn)

/-- PTP_FRAME_TRAPPED (R213): the control pair runs the instance of domainNumber `dn` on a frame received on port
`p`; `kind` and `v` are the servo write that its firmware issues, `locked` says that the servo holds its time
source. A frame of an S port never steers a domain (DESIGN CHOICE, log 96). -/
def doPtpFrameTrapped (p dn kind v : Nat) (locked : Bool) (s : State) : State :=
  match s.ptpDomain p dn with
  | some d => if s.pairUp 0 ∧ p < 16 then (s.setLocked d locked).servo d kind (v % 2 ^ 256) else s
  | none => s

/-- Sync of domain `d` leaves on each present port of its bitmap (R213): one-step where the image enables it, on an S
port with the image's link delay. -/
def State.sendSync (s : State) (d : Nat) : State :=
  let number := s.getF (F.TIM_DOM_W0_DOMAIN_NUMBER d)
  let oneStep := s.param 0x05 0
  let delays := (s.paramBytes 0x06).getD []
  ((List.range 32).filter (fun p => bit (s.getF (F.TIM_DOM_W1_PORTS d)) p && s.ethPresent p)).foldl (fun s p =>
    s.emit (.ptp d number p (bit oneStep p) (if 16 ≤ p then some (leAt delays (2 * (p - 16)) 2) else none))) s

/-- SYNC_INTERVAL (R213): the control pair sends Sync for domain `d` and issues its servo write; `locked` says that
the servo still holds its time source (DESIGN CHOICE, log 96). -/
def doSyncInterval (d kind v : Nat) (locked : Bool) (s : State) : State :=
  let d := d % 4
  if s.pairUp 0 && s.isF (F.TIM_DOM_W0_EN d) then
    ((s.setLocked d (locked && s.tb.locked.contains d)).sendSync d).servo d kind (v % 2 ^ 256)
  else s

/-! ### Reading the clock (R222) -/

/-- A read of TIM_NOW_NS by requester `r`: NS of the mirror, which is `age` ns old, at most 160; the other
parts are latched (DEDUCED, log 23). -/
def State.nowRead (s : State) (r age : Nat) : Nat × State :=
  let t := s.clkAgo (min age 160 * 2 ^ 16)
  (tNs t, { s with tb := { s.tb with nowLatch := sput (fun _ => 0) s.tb.nowLatch r t } })

/-- A read of a register outside GLB and BKP by the host: before stage 9 it returns the reset value, here 0, without
its side effect (R316). -/
def State.hostReads (s : State) (f : State → Nat × State) : State :=
  s.onRead (fun s => if s.serving then (let (v, s) := f s; s.emit (.completion v)) else s.emit (.completion 0))

/-! ### Two-step queue and TIME_IN (R218 to R220, R223) -/

/-- Remove the head of the two-step queue. -/
def State.ts2Pop (s : State) : State := { s with tb := { s.tb with ts2 := s.tb.ts2.tail } }

/-- Words 0 to 4 of a two-step entry (Table 8.8). -/
def Ts2.words (e : Ts2) : List Nat :=
  [e.qseq + 2 ^ 16 + e.port % 32 * 2 ^ 24, e.tag, tNs e.t, tSec e.t % 2 ^ 32,
    tSec e.t / 2 ^ 32 % 2 ^ 16 + tFrac e.t * 2 ^ 16]

/-- Words 0 to 3 of a TIME_IN entry. -/
def TimeIn.words (e : TimeIn) : List Nat :=
  [e.qseq + 2 ^ 16 + b2n e.rising * 2 ^ 17, tNs e.t, tSec e.t % 2 ^ 32,
    tSec e.t / 2 ^ 32 % 2 ^ 16 + tFrac e.t * 2 ^ 16]

/-- TIM_TS2_ACK (R219, R220): ignored in forerunner mode (DEDUCED, log 25). -/
def doTimTs2Ack (q : Nat) (s : State) : State :=
  s.busGate (fun s =>
    if s.isF F.TIM_CFG_TS2_MODE then s
    else match s.tb.ts2 with
    | [] => s.tally (T.tim 5)
    | e :: _ => if e.qseq = q % 2 ^ 16 then s.ts2Pop else s.tally (T.tim 5))

/-- A read of TIM_TS2_POP (R219, R220). -/
def State.ts2Read (s : State) : Nat × State :=
  if !s.isF F.TIM_CFG_TS2_MODE then (0, s)
  else match s.tb.ts2 with
  | [] => (0, s)
  | e :: _ =>
    let w := e.words
    let s := s.forN 4 (fun k s => s.setF (F.TIM_TS2_POPDATA_DATA k) (w.getD (k + 1) 0))
    (w.getD 0 0, s.ts2Pop.tally (T.tim 4))

/-- TIM_TS2_POP (R220): a host read of TIM_TS2_POP. -/
def doTimTs2Pop (s : State) : State := s.hostReads State.ts2Read

/-- TIM_IN_CAPTURE (R223): an edge at TIME_IN, `ago` units of 2^-16 ns before now (DEDUCED, log 23). -/
def doTimInCapture (rising : Bool) (ago : Nat) (s : State) : State :=
  if !bit (s.getF F.TIM_IN_CFG_EDGE) (if rising then 0 else 1) then s
  else
    let q := s.tb.inSeq
    let s := { s with tb := { s.tb with inSeq := (q + 1) % 2 ^ 16 } }
    if s.tb.tsIn.length < 4 then
      let e : TimeIn := ⟨q, rising, s.clkAgo ago / 2 ^ 24 * 2 ^ 24⟩
      ({ s with tb := { s.tb with tsIn := s.tb.tsIn ++ [e] } }).postFree 0x02 6
    else (s.setB F.TIM_IN_STAT_OVF true).tally (T.tim 6)

/-- TIM_IN_ACK (R223): as R219 states, any value but the head's QSEQ is ignored and tallied. -/
def doTimInAck (q : Nat) (s : State) : State :=
  s.busGate (fun s =>
    match s.tb.tsIn with
    | [] => s.tally (T.tim 5)
    | e :: es => if e.qseq = q % 2 ^ 16 then { s with tb := { s.tb with tsIn := es } } else s.tally (T.tim 5))

/-! ### TIME_OUT (R224) -/

/-- START (2^-40 ns), PERIOD and WIDTH (ns) as the registers hold them. -/
def State.outRegs (s : State) : Nat × Nat × Nat :=
  (tOf (s.getF F.TIM_OUT_START_SL_SEC_LO + s.getF F.TIM_OUT_START_SH_SEC_HI * 2 ^ 32)
      (s.getF F.TIM_OUT_START_NS_NS),
    s.getF F.TIM_OUT_PERIOD_PERIOD, s.getF F.TIM_OUT_WIDTH_WIDTH)

/-- The latest instant START + k * PERIOD not after `now`. -/
def lastEdge (u : Nat × Nat × Nat) (now : Nat) : Option Nat :=
  if now < u.1 then none
  else
    let p := ns40 (max 1 u.2.1)
    some (u.1 + (now - u.1) / p * p)

/-- The latest assertion at or before `hi` and not before `lo`, among value sets given newest first, each with the
time from which it applies and up to which the older ones do: the edge, that time and the values (R224). -/
def outEdge (lo : Nat) : List (Nat × Nat × Nat × Nat) → Nat → Option (Nat × Nat × Nat × Nat × Nat)
  | [], _ => none
  | (g, u) :: older, hi =>
    match (lastEdge u hi).filter (fun t => decide (max g lo ≤ t)) with
    | some t => some (t, g, u)
    | none => if g = 0 then none else outEdge lo older (min hi (g - 1))

/-- Assert TIME_OUT for the edge at `t` under the values `u`, written sets up to time `g` being in force. -/
def State.outAssert (s : State) (t g : Nat) (u : Nat × Nat × Nat) : State :=
  { s with tb := { s.tb with
    outHigh := true, outFrom := t + 1, outUse := u, outNew := s.tb.outNew.filter (fun e => decide (g < e.1))
    outEnd := s.tb.fab + ceilDiv (min u.2.2 (u.2.1 - 5) * 4) 5 } }

/-- TIME_OUT_ASSERT: an instant START + k * PERIOD is reached. -/
def doTimeOutAssert (s : State) : State :=
  if !s.isF F.TIM_OUT_CFG_MODE || s.tb.outHigh then s
  else
    match outEdge (max s.tb.outFrom s.tb.outGuard) (s.tb.outNew.reverse ++ [(0, s.tb.outUse)]) s.tb.clk with
    | some (t, g, u) => s.outAssert t g u
    | none => s

/-- TIME_OUT_DEASSERT: the pulse width has passed, in CLK_FAB cycles. -/
def doTimeOutDeassert (s : State) : State :=
  if s.tb.outHigh ∧ s.tb.outEnd ≤ s.tb.fab then { s with tb := { s.tb with outHigh := false } } else s

/-- A write to TIM_OUT_CFG, START, PERIOD or WIDTH has been stored (R224): `was` is MODE before it. -/
def State.outWritten (s : State) (was : Bool) : State :=
  let on := s.isF F.TIM_OUT_CFG_MODE
  let soon := s.tb.clk + ns40 1000
  if !on then { s with tb := { s.tb with outHigh := false, outNew := [] } }
  else if !was then
    { s with tb := { s.tb with outFrom := s.tb.clk, outGuard := soon, outUse := s.outRegs, outNew := [] } }
  else { s with tb := { s.tb with outNew := s.tb.outNew ++ [(soon, s.outRegs)] } }

/-! ### Meanings of the commands -/

/-- Meaning of TBL_READ (R130). -/
def execTblRead (req : Nat) (slow : Bool) (s : State) (ce : Nat := 0) :
    Host.Outcome State Fault Refusal :=
  .next (doTblRead req slow ce s)

/-- Meaning of TBL_WRITE (R130). -/
def execTblWrite (req : Nat) (slow : Bool) (s : State) : Host.Outcome State Fault Refusal :=
  .next (doTblWrite req slow s)

/-- Meaning of TIME_BASE_READ (R207). -/
def execTimeBaseRead (req entry : Nat) (s : State) : Host.Outcome State Fault Refusal :=
  .next (doTimeBaseRead req entry s)

/-- Meaning of CLOCK_SET (R209). -/
def execClockSet (req sec ns frac : Nat) (s : State) : Host.Outcome State Fault Refusal :=
  .next (doClockSet req sec ns frac s)

/-- Meaning of RATE_WRITE (R207). -/
def execRateWrite (req rate : Nat) (s : State) : Host.Outcome State Fault Refusal :=
  .next (doRateWrite req rate s)

/-- Meaning of SLEW (R208). -/
def execSlew (req adj dur : Nat) (s : State) : Host.Outcome State Fault Refusal := .next (doSlew req adj dur s)

/-- Meaning of SLEW_END (R208). -/
def execSlewEnd (s : State) : Host.Outcome State Fault Refusal := .next (doSlewEnd s)

/-- Meaning of STEP (R209). -/
def execStep (req ns frac : Nat) (s : State) : Host.Outcome State Fault Refusal := .next (doStep req ns frac s)

/-- Meaning of SELECT (R211). -/
def execSelect (req domain : Nat) (s : State) : Host.Outcome State Fault Refusal :=
  .next (doSelect req domain s)

/-- Meaning of ACCEPT (R210). -/
def execAccept (req : Nat) (s : State) : Host.Outcome State Fault Refusal := .next (doAccept req s)

/-- Meaning of VIEW_WRITE (R212). -/
def execViewWrite (req domain ofs frac vrate ref : Nat) (s : State) : Host.Outcome State Fault Refusal :=
  .next (doViewWrite req domain ofs frac vrate ref s)

/-- Meaning of TIM_HOLDOVER_ON (R214). -/
def execTimHoldoverOn (s : State) : Host.Outcome State Fault Refusal := .next (doTimHoldoverOn s)

/-- Meaning of DOMAIN_FAILOVER (R213). -/
def execDomainFailover (lost : Nat) (s : State) : Host.Outcome State Fault Refusal :=
  .next (doDomainFailover lost s)

/-- Meaning of PTP_FRAME_TRAPPED (R213). -/
def execPtpFrameTrapped (port number kind : Nat) (s : State) (value : Nat := 0) (locked : Bool := true) :
    Host.Outcome State Fault Refusal :=
  .next (doPtpFrameTrapped port number kind value locked s)

/-- Meaning of SYNC_INTERVAL (R213). -/
def execSyncInterval (domain kind value : Nat) (s : State) (locked : Bool := true) :
    Host.Outcome State Fault Refusal :=
  .next (doSyncInterval domain kind value locked s)

/-- Meaning of TIM_TS2_ACK (R219). -/
def execTimTs2Ack (qseq : Nat) (s : State) : Host.Outcome State Fault Refusal := .next (doTimTs2Ack qseq s)

/-- Meaning of TIM_TS2_POP (R220). -/
def execTimTs2Pop (s : State) : Host.Outcome State Fault Refusal := .next (doTimTs2Pop s)

/-- Meaning of TIM_IN_CAPTURE (R223). -/
def execTimInCapture (rising : Bool) (ago : Nat) (s : State) : Host.Outcome State Fault Refusal :=
  .next (doTimInCapture rising ago s)

/-- Meaning of TIM_IN_ACK (R223). -/
def execTimInAck (qseq : Nat) (s : State) : Host.Outcome State Fault Refusal := .next (doTimInAck qseq s)

/-- Meaning of TIME_OUT_ASSERT (R224). -/
def execTimeOutAssert (s : State) : Host.Outcome State Fault Refusal := .next (doTimeOutAssert s)

/-- Meaning of TIME_OUT_DEASSERT (R224). -/
def execTimeOutDeassert (s : State) : Host.Outcome State Fault Refusal := .next (doTimeOutDeassert s)

end Sys2Proof.Machine
end

