-- ==== Sys2Proof/Machine/Rods.lean ====
section
/-! DEFINITION. The rods (R48 to R86, R407): commands, state machine, transceiver pins, reception and
lookup, selection and launch, arbitration and errors, LIN, and the rod test frames. Every command names
a rod; a command to an absent rod has no effect (R2). -/

namespace Sys2Proof.Machine

/-! ### Queues of a rod -/

/-- Mode of rod `n` (Table 2.4). -/
def State.rodMode (s : State) (n : Nat) : Nat := s.getF (F.ROD_STAT_MODE n)

/-- Remove reference `r` from queue `q` of rod `n` and release it (R44). -/
def State.rodDrop (s : State) (n q : Nat) (r : QRef) : State :=
  ((s.setQueue (64 + n) q ((s.queue (64 + n) q).erase r)).release r.item).txPending n

/-- Flush queue `q` of rod `n`: every item that is not on the bus; the one on the bus gets no further
attempt (R78). -/
def State.flushQueue (s : State) (n q : Nat) : State :=
  let bus := s.onBus n q
  let out := (s.queue (64 + n) q).filter (fun r => bus != some r)
  let s := s.setQueue (64 + n) q ((s.queue (64 + n) q).filter (fun r => bus == some r))
  let s := out.foldl (fun s r => (s.release r.item).tally (T.rodFlushed n)) s
  let r := s.rod n
  let s := match r.tx with
    | some t => if t.q = q then s.setRod n { r with tx := some { t with final := true } } else s
    | none => s
  s.txPending n

/-- Flush every queue of rod `n`. -/
def State.flushRod (s : State) (n : Nat) : State := s.forN 9 (fun q s => s.flushQueue n q)

/-- No frame is on rod `n`'s bus any more. -/
def State.busFree (s : State) (n : Nat) : State :=
  s.setRod n { s.rod n with tx := none, linSync := none }

/-- Rod `n` now transmits the data phase of an XL frame in PWM coding: ROD_STAT.PWM_ACTIVE (R62). -/
def State.pwmActive (s : State) (n : Nat) : Bool :=
  match (s.rod n).tx with
  | some t => s.rodMode n == 0 && s.isF (F.ROD_CTL_PWM_EN n) && (recHdr t.record).fmt == 4
    && Config.dataPhase n s.tb.fab
  | none => false

/-! ### Commands (R52 to R56) -/

/-- A rod command (R52, R53, R17): discarded while BUSY, STATE_REJECT outside `legal`; `run` answers its
status. -/
def State.rodCmd (s : State) (n op : Nat) (legal : List Nat) (run : State → Nat × State) : State :=
  s.busGate (fun s =>
    if !s.rodPresent n then s
    else if s.isF (F.ROD_CMD_STAT_BUSY n) then
      (s.setB (F.ROD_CMD_STAT_BUSY_HIT n) true).tally (T.rodBusy n)
    else
      let s := s.setF (F.ROD_CMD_STAT_LAST_OP n) op
      let (st, s) := if legal.contains (s.rodState n) then run s else (stReject, s)
      let s := if st = stReject then s.tally (T.rodStateReject n) else s
      s.setF (F.ROD_CMD_STAT_STATUS n) st)

/-- States of a rod that is not ABSENT. -/
def anyState : List Nat := [1, 2, 3, 4, 5, 6, 7, 8]

/-- ROD_CMD NOP. -/
def doRodNop (n : Nat) (s : State) : State := s.rodCmd n 0 anyState (fun s => (stOk, s))

/-- ROD_CMD SET_MODE: 5 to 15 clamp to 4. -/
def doSetMode (n arg : Nat) (s : State) : State :=
  s.rodCmd n 1 [1] (fun s => (stOk, s.setF (F.ROD_STAT_MODE n) (min 4 (arg % 16))))

/-- Quanta per bit of a bit-timing register (R58). -/
def quanta (tseg1 tseg2 : Nat) : Nat := 1 + tseg1 + tseg2

/-- The BRP that meets a limit of `lim` CLK_ROD cycles per bit or more, the staged one when it does
(R54). -/
def clampBrp (brp q lim : Nat) : Nat := if (brp + 1) * q < lim then ceilDiv lim q - 1 else brp

/-- Cycles per data-phase bit that Table 2.1 asks for at least: 20 Mbit/s for CAN XL, 8 for CAN FD. -/
def dataCycles (mode : Nat) : Nat := if mode = 0 then 8 else if mode = 1 then 20 else 0

/-- The effect of START (R54, R62): none when the PWM check fails. -/
def State.rodStart (s : State) (n : Nat) : Option State :=
  let mode := s.rodMode n
  let nbrp := s.getF (F.ROD_NBT_BRP n)
  let dbrp := s.getF (F.ROD_DBT_BRP n)
  let nq := quanta (s.getF (F.ROD_NBT_TSEG1 n)) (s.getF (F.ROD_NBT_TSEG2 n))
  let dq := quanta (s.getF (F.ROD_DBT_TSEG1 n)) (s.getF (F.ROD_DBT_TSEG2 n))
  let can := decide (mode ≤ 2)
  let nbrp' := if can then clampBrp nbrp nq 160 else nbrp
  let dbrp' := if can then clampBrp dbrp dq (dataCycles mode) else dbrp
  let int := s.getF (F.ROD_LIN_DIV_INT n)
  let frac := s.getF (F.ROD_LIN_DIV_FRAC n)
  let slow := can || decide (8000 ≤ 16 * int + frac)
  let pwm := mode == 0 && s.isF (F.ROD_CTL_PWM_EN n)
  if pwm && s.getF (F.ROD_PWM_PWMS n) + s.getF (F.ROD_PWM_PWML n) != (dbrp' + 1) * dq then none
  else
    let raised := nbrp' != nbrp || dbrp' != dbrp || !slow
    let s := (s.setF (F.ROD_NBT_BRP n) nbrp').setF (F.ROD_DBT_BRP n) dbrp'
    let s := if slow then s
      else (s.setF (F.ROD_LIN_DIV_INT n) 500).setF (F.ROD_LIN_DIV_FRAC n) 0
    let s := if raised then s.rodEvt n 9 else s
    let base := 0x180000 + n * 0x400
    let latch : RodLatch := ⟨s.regWord (base + 0x14), s.regWord (base + 0x18), s.regWord (base + 0x1C),
      s.regWord (base + 0x20), s.regWord (base + 0x28), s.isF (F.TST_ROD_CFG_LOOP n)⟩
    let s := s.setRod n { s.rod n with
      latch := some latch, linPub := [], linSlot := 0, linEnd := none, linWait := none, linSync := none }
    some (s.rodGo n 2)

/-- ROD_CMD START. -/
def doStart (n : Nat) (s : State) : State :=
  s.rodCmd n 2 [1] (fun s =>
    match s.rodStart n with
    | none => (stReject, s)
    | some s => (stOk, s))

/-- ROD_CMD STOP (R56): `rx` says that a frame is being received; with a frame on the bus the rod stays
in STOPPING, and BUSY at 1, until STOPPING_END. -/
def doStop (n : Nat) (rx : Bool) (s : State) : State :=
  s.rodCmd n 3 [2, 3, 4, 5, 8] (fun s =>
    let s := s.flushRod n
    let r := s.rod n
    if rx ∨ r.tx.isSome ∨ r.linWait.isSome then
      (stOk, (s.rodGo n 6).setB (F.ROD_CMD_STAT_BUSY n) true)
    else (stOk, s.rodGo n 1))

/-- STOPPING_END (Table 2.8): the frame in progress at STOP has ended; a rod that RUN-LEAN stops goes on to
STANDBY (R384). -/
def doStoppingEnd (n : Nat) (s : State) : State :=
  if s.rodPresent n ∧ s.rodState n = 6 ∧ (s.rod n).tx.isNone then
    ((s.setRod n { s.rod n with linWait := none, linSync := none, linEnd := none }).rodGo n
      (if s.pwr.leanRods.contains n then 7 else 1)).setB (F.ROD_CMD_STAT_BUSY n) false
  else s

/-- ROD_CMD RECOVER. -/
def doRecover (n : Nat) (s : State) : State := s.rodCmd n 4 [4] (fun s => (stOk, s.rodGo n 5))

/-- ROD_CMD FLUSH (R78): 0-7 one priority queue, 8 the launch-time queue, 9 and above all. -/
def doFlush (n arg : Nat) (s : State) : State :=
  s.rodCmd n 5 anyState (fun s =>
    let a := min 9 (arg % 16)
    (stOk, if a = 9 then s.flushRod n else s.flushQueue n a))

/-- ROD_CMD STANDBY. -/
def doRodStandby (n : Nat) (s : State) : State := s.rodCmd n 6 [1] (fun s => (stOk, s.rodGo n 7))

/-- ROD_CMD WAKE. -/
def doRodWake (n : Nat) (s : State) : State := s.rodCmd n 7 [7] (fun s => (stOk, s.rodGo n 1))

/-! ### Rod reset (R83) -/

/-- Restore the (RD) fields of rod `n` (R50). -/
def State.restoreRod (s : State) (n : Nat) : State :=
  let lo := 0x180000 + n * 0x400
  { s with regs := s.regs.filter (fun e =>
      !(decide (lo ≤ e.1 / 32) && decide (e.1 / 32 < lo + 0x400) && fieldReach e.1 == .rd)) }

/-- Start of a rod reset: the frame in progress is aborted, every item flushed, and the rod shows
CONFIG; the control pins keep their levels until the reset completes. -/
def State.resetRod (s : State) (n : Nat) : State :=
  let s := s.busFree n
  let s := (s.flushRod n).restoreRod n
  let r := s.rod n
  s.setRod n { r with tec := 0, linSlot := 0, linEnd := none, linWait := none, linSync := none, wakePulses := 0 }

/-- ROD_RESET: a write with bit 0 = 1. -/
def doRodReset (n : Nat) (s : State) : State :=
  s.busGate (fun s =>
    if !s.rodPresent n then s
    else
      let s := s.resetRod n
      (s.setRod n { s.rod n with resetting := true }).setB (F.ROD_CMD_STAT_BUSY n) true)

/-- The rod enters CONFIG after a reset and starts itself with AUTOSTART (Table 2.8). -/
def State.rodReady (s : State) (n : Nat) : State :=
  let s := s.rodGo n 1
  if s.isF (F.ROD_CTL_AUTOSTART n) then (s.rodStart n).getD s else s

/-- ROD_RESET_COMPLETE (R83). -/
def doRodResetComplete (n : Nat) (s : State) : State :=
  if !s.rodPresent n || !(s.rod n).resetting then s
  else
    ((s.setRod n { s.rod n with resetting := false }).setB (F.ROD_CMD_STAT_BUSY n) false).rodReady n

/-! ### Control pins (R61, R440) -/

/-- What ball GPIO`g` is driven to (R440): 0 not at all, 1 low, 2 high. While the pads are held it is what they are
held at; otherwise a ball that a rod owns shows the rod's function, and another one follows its register. -/
def State.gpioDrive (s : State) (g : Nat) : Nat :=
  match s.boot.gpioHold with
  | some m => sget (fun _ => 0) m g
  | none =>
    let n := s.getF (F.GLB_GPIO_CFG_OWNER g)
    if n < 128 then
      1 + b2n (if s.getF (F.ROD_XCVR_STB_PIN n) = g then (s.rod n).stb == s.isF (F.ROD_XCVR_STB_ACT_HIGH n)
        else (s.rod n).en == s.isF (F.ROD_XCVR_EN_ACT_HIGH n))
    else
      let out := s.isF (F.GLB_GPIO_CFG_OUT g)
      if s.isF (F.GLB_GPIO_CFG_DIR g) && !(s.isF (F.GLB_GPIO_CFG_OD g) && out) then 1 + b2n out else 0

/-- Level of TIME_OUT (R224): POL = 1 asserts high; held pads keep their level. -/
def State.timeOutLevel (s : State) : Bool :=
  match s.boot.gpioHold with
  | some m => sget (fun _ => 0) m 64 == 2
  | none => s.tb.outHigh == s.isF F.TIM_OUT_CFG_POL

/-- The pads held at what they are driven to now (Table 12.10, R224); pads that are held stay as they are. -/
def State.holdPads (s : State) : Option (Sparse Nat) :=
  some (((List.range 64).map (fun g => (g, s.gpioDrive g)) ++ [(64, 1 + b2n s.timeOutLevel)]).filter
    (fun e => e.2 != 0))

/-- A control function of a rod that names a ball: its standby or its enable function (R61). -/
structure PinClaim where
  rod : Nat
  enable : Bool
  ball : Nat
  deriving DecidableEq, Repr

/-- The functions that name a ball, in order of ownership: lower rod first, standby before enable. -/
def State.pinClaims (s : State) : List PinClaim :=
  (List.range 128).flatMap (fun n =>
    if !s.rodPresent n then []
    else
      let a := s.getF (F.ROD_XCVR_STB_PIN n)
      let b := s.getF (F.ROD_XCVR_EN_PIN n)
      (if a < 64 then [⟨n, false, a⟩] else []) ++ (if b < 64 then [⟨n, true, b⟩] else []))

/-- Rod that owns ball `g`. -/
def pinOwner (l : List PinClaim) (g : Nat) : Nat :=
  match l.find? (fun e => e.ball == g) with
  | some e => e.rod
  | none => 0xFF

/-- The functions that stay unconnected: an earlier one names their ball (R61). -/
def unconnected (l : List PinClaim) : List PinClaim :=
  l.filter (fun e => l.find? (fun x => x.ball == e.ball) != some e)

/-- OWNER of every ball follows the claims; a rod with a function that is unconnected now and was not, on that ball, before
sets XCVR_CONFLICT; `old` are the claims before the change. -/
def State.ownPins (s : State) (old : List PinClaim) : State :=
  let l := s.pinClaims
  let s := s.forN 64 (fun g s => s.setF (F.GLB_GPIO_CFG_OWNER g) (pinOwner l g))
  let fresh := (unconnected l).filter (fun e => !(unconnected old).contains e)
  s.forN 128 (fun n s => if fresh.any (fun e => e.rod == n) then s.rodEvt n 6 else s)

/-- ROD_XCVR of rod `n` is stored and the balls follow (R61, R440). -/
def State.xcvrStore (s : State) (n v : Nat) : State :=
  if !s.rodPresent n then s
  else
    let old := s.pinClaims
    (s.storeReg (0x180024 + n * 0x400) v).ownPins old

/-- ROD_XCVR_WRITE (R61). -/
def doRodXcvrWrite (n v : Nat) (s : State) : State := s.busGate (fun s => s.xcvrStore n v)

/-! ### Integration and recovery -/

/-- WAKE_DLY has not passed since rod `n` released its standby pin: it drives no dominant bit (R60). -/
def State.wakeWait (s : State) (n : Nat) : Bool :=
  match (s.rod n).released with
  | some t => s.getF (F.ROD_XCVR_STB_PIN n) != 0x7F
      && decide (s.tb.fab < t + 800 * s.getF (F.ROD_XCVR_WAKE_DLY n))
  | none => false

/-- INTEGRATION_COMPLETE (Table 2.8, R60): 11 recessive bits; WAKE_DLY has passed since the standby pin was
released. -/
def doIntegrationComplete (n : Nat) (s : State) : State :=
  if s.rodPresent n ∧ s.rodState n = 2 ∧ !s.wakeWait n then s.rodGo n 3 else s

/-- RECOVERY_COMPLETE (Table 2.8). -/
def doRecoveryComplete (n : Nat) (s : State) : State :=
  if s.rodPresent n ∧ s.rodState n = 5 then ((s.errCounts n 0 0).rodGo n 3).rodEvt n 3 else s

/-! ### Test generator and checker (R407) -/

/-- Length of a test frame: LEN clamped to its format (Table 2.22). -/
def testLen (fmt len : Nat) : Nat :=
  match fmt with
  | 0 | 1 => min 8 len
  | 2 | 3 => nearest (fdLengths.map (fun x => (x, x))) len
  | 4 => max 1 (min 2048 len)
  | _ => max 1 (min 8 len)

/-- Identifier of a test frame in format `fmt`. -/
def testId (fmt tid : Nat) : Nat :=
  match fmt with
  | 0 | 2 | 4 => tid % 2 ^ 11
  | 5 => tid % 64
  | _ => tid

/-- Content of test frame `k`. -/
def testData (k len : Nat) : List Byte := (List.range len).map (fun i => BitVec.ofNat 8 (k + i))

/-- The checker receives a frame with the test identifier: GOOD, BAD, or MISSED with a new k. -/
def State.testCheck (s : State) (n : Nat) (data : List Byte) : State :=
  let len := testLen (s.getF (F.TST_ROD_CFG_FMT n)) (s.getF (F.TST_ROD_CFG_LEN n))
  let k := byteAt data 0
  if data ≠ testData k len then s.satF (F.TST_ROD_CNT_BAD n) 1
  else
    let want := match (s.rod n).testLast with
      | some l => (l + 1) % 256
      | none => 0
    let skip := (k + 256 - want) % 256
    let s := s.setRod n { s.rod n with testLast := some k }
    if skip = 0 then s.satF (F.TST_ROD_CNT_GOOD n) 1 else s.satF (F.TST_ROD_MISS_MISSED n) skip

/-- The frame belongs to the checker of rod `n`. -/
def State.testFrame (s : State) (n : Nat) (f : CanFrame) : Bool :=
  s.isF (F.TST_ROD_CFG_CHK_EN n)
    && identOf f.fmt f.id == testId f.fmt (s.getF (F.TST_ROD_ID_TID n))

/-- The latched LOOP of rod `n` (R405). -/
def State.looped (s : State) (n : Nat) : Bool := ((s.rod n).latch).any (fun l => l.loop)

/-- Put a record on the bus of rod `n`. -/
def State.putOnBus (s : State) (n : Nat) (t : RodTx) : State :=
  let s := s.setRod n { s.rod n with tx := some t }
  if s.looped n then s else s.emit (.rodTx n t.record)

/-- GAP µs have passed since the last test frame (R407). -/
def State.gapOver (s : State) (n : Nat) : Bool :=
  match (s.rod n).testAt with
  | none => true
  | some t => decide (t + 800 * s.getF (F.TST_ROD_CFG_GAP n) ≤ s.tb.fab)

/-- ROD_TEST_FRAME (R407): GAP has passed in ACTIVE with every queue empty. -/
def doRodTestFrame (n : Nat) (s : State) : State :=
  let fmt := s.getF (F.TST_ROD_CFG_FMT n)
  let idle := (List.range 9).all (fun q => (s.queue (64 + n) q).isEmpty)
  if !s.rodPresent n || s.rodState n != 3 || !s.isF (F.TST_ROD_CFG_GEN_EN n) || !idle
      || (s.rod n).tx.isSome || !(modeFormats (s.rodMode n)).contains fmt
      || s.isF (F.ROD_CTL_LISTEN_ONLY n) || s.wakeWait n || !s.gapOver n then s
  else
    let len := testLen fmt (s.getF (F.TST_ROD_CFG_LEN n))
    let k := (s.rod n).testSeq
    let dlc := if fmt ≤ 1 then 16 * len else if fmt ≤ 3 then 16 * fdDlc len else 0
    let h : RecHdr := ⟨testId fmt (s.getF (F.TST_ROD_ID_TID n)), fmt, dlc, 0, 0⟩
    let s := s.setRod n { s.rod n with testSeq := (k + 1) % 256, testAt := some s.tb.fab }
    s.putOnBus n ⟨9, { item := 0 }, h.bytes ++ testData k len, false⟩

/-! ### Reception (R77) -/

/-- The look-up reads a memory word with an uncorrectable error: the rod drops the frame (Table 9.9). -/
def State.rodPoison (s : State) (n fmt id : Nat) : Bool :=
  if fmt = 0 ∨ fmt = 2 ∨ fmt = 4 then s.poisoned tRodDirect (n * 2048 + id % 2 ^ 11)
  else
    let key := rodKey id n (if fmt = 5 then 1 else 0)
    (s.findKey tRodHashed key).isNone && ((ways (s.bucketOf tRodHashed key)).any (s.poisoned tRodHashed)
      || (s.isF F.CRY_CFG_EXT_OK && s.poisonMiss tRodOverflow key))

/-- ALLOW bit of a result word for a format; LIN has none (Table 2.21). -/
def allowed (fmt e : Nat) : Bool :=
  match fmt with
  | 0 | 1 => bit e 1
  | 2 | 3 => bit e 2
  | 4 => bit e 3
  | _ => true

/-- The record of a received frame with its look-up result (Table 2.22a), and its cadence key; none when
no table holds the identifier and MISS_ACT is 0. -/
def State.rodRecord (s : State) (n : Nat) (f : CanFrame) (classic : Bool) :
    Option (Option (List Byte × Nat)) :=
  let w1 (cs : Bool) := CanFrame.word1 f cs
  match s.rodLookup n f.fmt (identOf f.fmt f.id) with
  | some hit =>
    if !allowed f.fmt hit.word then some none
    else
      let w2 := bits hit.word 8 16 + bits hit.word 24 8 * 2 ^ 16 + bits hit.word 32 2 * 2 ^ 24
        + bits hit.word 58 1 * 2 ^ 26 + hit.lkp * 2 ^ 27
      let w3 := bits hit.word 34 12 + bits hit.word 46 12 * 2 ^ 12
      some (some (({ id := f.id, fmt := f.fmt, w1 := w1 (classic || (f.fmt == 5 && bit hit.word 59)), w2 := w2
                     w3 := w3 } : RecHdr).bytes ++ f.data, hit.cadKey))
  | none =>
    if s.isF (F.ROD_CTL_MISS_ACT n) then
      let w2 := s.getF (F.ROD_DEFROUTE_ROUTE n) + s.getF (F.ROD_DEFROUTE_FW_CLASS n) * 2 ^ 16 + 3 * 2 ^ 27
      some (some (({ id := f.id, fmt := f.fmt, w1 := w1 classic, w2 := w2 } : RecHdr).bytes ++ f.data, 0))
    else none

/-- Steps 2 to 5 of R77 for a frame whose start-of-frame edge came at working-clock time `t`. -/
def State.rodReceive (s : State) (n : Nat) (f : CanFrame) (t : Nat) (classic : Bool) : State :=
  if f.fmt = 4 ∧ s.getF (F.ROD_CTL_XL_MAX_LEN n) < f.data.length then s.tally (T.rodRxOverlen n)
  else if s.rodPoison n f.fmt (identOf f.fmt f.id) then s
  else match s.rodRecord n f classic with
  | none => s.tally (T.rodRxMiss n)
  | some none => s.tally (T.rodRxFormat n)
  | some (some (rec, key)) =>
    match s.claim (64 + n) (beadsOf rec.length) with
    | none => s.tally (T.buf (64 + n) 2)
    | some (r, sh, s) =>
      let (i, s) := s.newItem { bytes := rec, isRod := true, ingress := 64 + n, t := t, cadKey := key
                                resBeads := r, shBeads := sh }
      (s.tally (T.rodRxOk n)).enterStream i

/-- REC after a successful reception (R63) (PRESUMED, log 94). -/
def recAfter (rec_ : Nat) : Nat := if 127 < rec_ then 127 else rec_ - 1

/-- The data length of a frame on the bus agrees with its format and DLC. -/
def CanFrame.sound (f : CanFrame) : Bool :=
  lenLegal f.fmt f.data.length
    && (decide (3 < f.fmt) || (if f.rtr then f.fmt ≤ 1 && f.data.isEmpty
      else f.data.length == dlcLen f.fmt (f.dlc % 16)))

/-- A bus error seen by rod `n` outside the CAN XL data phase with signalling off: counters and error
flag (R63) (PRESUMED, log 94). -/
def State.flagError (s : State) (n code : Nat) (sending heavy : Bool) : State :=
  let s := s.lec n code
  let s := if s.isF (F.ROD_CTL_LISTEN_ONLY n) then s else s.emit (.rodErrorFlag n)
  let rec_ := s.getF (F.ROD_ERR_REC n)
  let tec := (s.rod n).tec
  if sending then
    if code = 3 ∧ s.isF (F.ROD_STAT_ERR_PASSIVE n) then s else s.errCounts n (tec + 8) rec_
  else s.errCounts n tec (rec_ + (if heavy then 8 else 1))

/-- ROD_FRAME_RX (R77): rod `n` receives a complete error-free frame whose start-of-frame edge came `ago`
units of 2^-16 ns ago. A format that its mode does not support is a protocol exception or a form
error (PEX). -/
def doRodFrameRx (n : Nat) (f : CanFrame) (ago : Nat) (s : State) : State :=
  let st := s.rodState n
  let r := s.rod n
  if !s.rodPresent n || !s.receives || !(st == 3 || st == 6) || r.tx.isSome || s.looped n
      || !CanFrame.sound f then s
  else if s.isLin n then
    match r.linWait with
    | some (fid, len, classic) =>
      if f.fmt = 5 ∧ f.id = fid ∧ f.data.length = len then
        (s.setRod n { r with linWait := none, linSync := none }).rodReceive n f (s.clkAgo ago / 2 ^ 24 * 2 ^ 24) classic
      else s
    | none => s
  else if !(modeFormats (s.rodMode n)).contains f.fmt then
    (if s.isF (F.ROD_CTL_PEX n) then (if st = 3 then s.rodGo n 2 else s) else s.flagError n 2 false false)
  else
    let s := s.errCounts n (s.rod n).tec (recAfter (s.getF (F.ROD_ERR_REC n)))
    if s.testFrame n f then s.testCheck n f.data
    else s.rodReceive n f (s.clkAgo ago / 2 ^ 24 * 2 ^ 24) false

/-! ### Transmission -/

/-- The record that rod `n` sends for a queued item (R82, R93, R94): a format its mode does not send is a
format error. -/
def State.txRecord (s : State) (n : Nat) (it : Item) (r : QRef) : Conv :=
  let (t0, t1) := match r.carry with
    | some (_, _, t) => (t % 2 ^ 64, t / 2 ^ 64)
    | none => (6 * 2 ^ 10 + 2 ^ 18, 0)
  if !(modeFormats (s.rodMode n)).contains (outFmt t0 (recHdr it.bytes).fmt) then .format
  else convert it.bytes t0 t1 false (s.isF (F.ROD_STAT_ERR_PASSIVE n))

/-- Start reference `r` of queue `q` with its record: one more attempt, charged at the first (R193,
R200). -/
def State.sendRef (s : State) (n q : Nat) (r : QRef) (rec : List Byte) : State :=
  let r' := { r with attempts := r.attempts + 1 }
  let s := s.setQueue (64 + n) q ((s.queue (64 + n) q).map (fun x => if x = r then r' else x))
  let s := if r.attempts = 0 ∧ q < 8 ∧ s.getF (F.SCH_RODQ_W0_SHAPER n q) = 1 then
      match s.item r.item with
      | some it => s.setClassSt (64 + n) q (charge (s.classSt (64 + n) q) (s.rodLenC n it))
      | none => s
    else s
  s.putOnBus n ⟨q, r', rec, false⟩

/-- A record with its CLASSIC_CS flag set where the identifier or the table asks for it (R66)
(PRESUMED, log 94). -/
def linCs (rec : List Byte) (classic : Bool) : List Byte :=
  let h := recHdr rec
  let w1 := if classic || decide (0x3C ≤ h.id) || bit h.w1 3 then 8 else 0
  ({ h with w1 := w1 } : RecHdr).bytes ++ recData rec

/-- The hashed-table entry of rod `n` for LIN identifier `fid` asks for the classic checksum (R66). -/
def State.linClassic (s : State) (n fid : Nat) : Bool := (s.rodLookup n 5 fid).any (fun h => bit h.word 59)

/-- Start reference `r` of queue `q`, or drop it when it does not convert: whether it started; a LIN frame goes out with the
checksum of R66. -/
def State.tryRef (s : State) (n q : Nat) (r : QRef) : Bool × State :=
  match s.item r.item with
  | none => (false, s.setQueue (64 + n) q ((s.queue (64 + n) q).erase r))
  | some it =>
    match s.txRecord n it r with
    | .format => (false, (s.rodDrop n q r).tally (T.rodTxFormat n))
    | .length => (false, (s.rodDrop n q r).tally (T.rodTxOverlen n))
    | .ok rec => (true, s.sendRef n q r (if s.isLin n then linCs rec (s.linClassic n (recHdr rec).id) else rec))

/-- The launch guard holds priority-queue items back (R73). -/
def State.guarded (s : State) (n : Nat) : Bool :=
  match s.queue (64 + n) 8 with
  | [] => false
  | r :: _ =>
    let ahead := (r.launch + 2 ^ 32 - s.now32) % 2 ^ 32
    let g := s.getF (F.ROD_LAUNCH_GUARD n)
    g != 0 && decide (ahead < 2 ^ 31) && decide (ahead ≤ 1000 * g)

/-- A due item heads the launch-time queue. -/
def State.dueHead (s : State) (n : Nat) : Option QRef :=
  match s.queue (64 + n) 8 with
  | [] => none
  | r :: _ => if dueAt r.launch s.now32 then some r else none

/-- The item that rod `n` picks at a start-of-frame opportunity (R70, R73): queue and reference. A LIN rod
serves its priority queues in slots and responses only. -/
def State.pick (s : State) (n : Nat) : Option (Nat × QRef) :=
  match s.dueHead n with
  | some r => some (8, r)
  | none =>
    if s.guarded n || s.isLin n then none
    else
      let ok (q : Nat) : Bool := match s.queue (64 + n) q with
        | [] => false
        | r :: _ => !s.held (64 + n) q r.elig
      match ((List.range 8).reverse).find? ok with
      | none => none
      | some q => ((s.queue (64 + n) q).head?).map (fun r => (q, r))

/-- Pick and start, dropping items that do not convert; `fuel` bounds the number of drops. -/
def State.serveRod (n : Nat) : Nat → State → State
  | 0, s => s
  | fuel + 1, s =>
    match s.pick n with
    | none => s
    | some (q, r) =>
      match s.tryRef n q r with
      | (true, s) => s
      | (false, s) => serveRod n fuel s

/-- Number of references in the queues of rod `n`. -/
def State.rodLoad (s : State) (n : Nat) : Nat :=
  (List.range 9).foldl (fun k q => k + (s.queue (64 + n) q).length) 0

/-- Rod `n` may start a frame: ACTIVE, no frame of its own on the bus, not LISTEN_ONLY, and WAKE_DLY passed (R60). -/
def State.mayStart (s : State) (n : Nat) : Bool :=
  s.rodPresent n && s.rodState n == 3 && (s.rod n).tx.isNone && !s.isF (F.ROD_CTL_LISTEN_ONLY n)
    && !s.wakeWait n

/-- A schedule slot of a LIN commander is in progress (R69). -/
def State.inSlot (s : State) (n : Nat) : Bool :=
  ((s.rod n).linEnd).any (fun e => decide (s.tb.fab < e))

/-- A LIN rod may launch: a commander outside its slots (R69). -/
def State.linMayLaunch (s : State) (n : Nat) : Bool := s.rodMode n == 3 && !s.inSlot n

/-- ROD_TX_SELECT (R70). -/
def doRodTxSelect (n : Nat) (s : State) : State :=
  let s := if s.rodPresent n then s.dropLate n else s
  if !s.mayStart n || (s.isLin n && !s.linMayLaunch n) then s
  else State.serveRod n (s.rodLoad n) s

/-- LAUNCH_INSTANT (R72): the head's launch time arrives; on an idle bus its frame starts. -/
def doLaunchInstant (n : Nat) (idle : Bool) (s : State) : State :=
  let s := if s.rodPresent n then s.dropLate n else s
  if !idle || !s.mayStart n || (s.isLin n && !s.linMayLaunch n) then s
  else match s.dueHead n with
  | some r => (s.tryRef n 8 r).2
  | none => s

/-- LAUNCH_LATE (R70, R57). -/
def doLaunchLate (n : Nat) (s : State) : State := if s.rodPresent n then s.dropLate n else s

/-! ### End of an attempt (R63, R74, R75, R78) -/

/-- One arbitration-loss record (R75, Table 2.20). -/
def State.arbLog (s : State) (n : Nat) (t : RodTx) (bitpos winId winIde : Nat) : State :=
  let k := s.getF (F.ROD_ARB_HEAD_NEXT n)
  let h := recHdr t.record
  let own := identOf h.fmt h.id + b2n (h.fmt == 1 || h.fmt == 3) * 2 ^ 29 + 2 ^ 31
  let s := if s.getF (F.ROD_ARB_LOG_WORD n (4 * k + 2)) / 2 ^ 31 = 1 then
      s.setB (F.ROD_ARB_HEAD_WRAPPED n) true else s
  let s := s.setF (F.ROD_ARB_LOG_WORD n (4 * k)) s.now32
  let s := s.setF (F.ROD_ARB_LOG_WORD n (4 * k + 1)) (winId % 2 ^ 29 + winIde % 2 * 2 ^ 29)
  let s := s.setF (F.ROD_ARB_LOG_WORD n (4 * k + 2)) own
  let s := s.setF (F.ROD_ARB_LOG_WORD n (4 * k + 3))
    (bitpos % 64 + min 255 t.ref.attempts * 2 ^ 8 + t.ref.launch % 2 ^ 16 * 2 ^ 16)
  s.incF (F.ROD_ARB_HEAD_NEXT n)

/-- The attempt of `t` has failed: a flushed item leaves, a launch-time item retries or is dropped, a
priority-queue item stays at the head. -/
def State.attemptFailed (s : State) (n : Nat) (t : RodTx) : State :=
  let s := s.busFree n
  if 8 < t.q then s
  else if t.final then (s.rodDrop n t.q t.ref).tally (T.rodFlushed n)
  else if t.q = 8 then
    let limit := s.getF (F.ROD_CTL_RETRY_LIMIT n)
    if limit ≠ 0xFF ∧ limit ≤ t.ref.attempts - 1 then
      ((s.rodDrop n 8 t.ref).tally (T.rodLaunchRetry n)).rodEvt n 5
    else if s.launchLate n t.ref then
      ((s.rodDrop n 8 t.ref).tally (T.rodLaunchLate n)).rodEvt n 5
    else s
  else s

/-- ARBITRATION_LOSS (R74, R75). -/
def doArbitrationLoss (n winId : Nat) (winIde : Bool) (bitpos : Nat) (s : State) : State :=
  match (s.rod n).tx with
  | none => s
  | some t =>
    let s := if t.q ≤ 8 then s.tally (T.rodArbLoss n) else s
    let s := if t.q = 8 then (s.arbLog n t bitpos winId (b2n winIde)).rodEvt n 4 else s
    s.attemptFailed n t

/-- The latched ROD_TDC of rod `n` (R51). -/
def State.tdcWord (s : State) (n : Nat) : Nat :=
  match (s.rod n).latch with
  | some l => l.tdc
  | none => s.regWord (0x18001C + n * 0x400)

/-- Secondary sample point of the data-phase bits of rod `n`, in CLK_ROD cycles, with TDC_EN set (R59). -/
def State.samplePoint (s : State) (n : Nat) : Option Nat :=
  if bit (s.tdcWord n) 0 then some (s.getF (F.ROD_STAT_TDC_MEAS n) + bits (s.tdcWord n) 8 8) else none

/-- Measured loop delay (R59): ignored below the latched TDCF, saturating at 255. The data-phase bits are then checked at the
secondary sample point. -/
def State.tdcMeas (s : State) (n m : Nat) : State :=
  let s := if m < bits (s.tdcWord n) 16 8 then s
    else (if 255 < m then s.tally (T.rodTdcSat n) else s).setF (F.ROD_STAT_TDC_MEAS n) (min 255 m)
  match s.samplePoint n with
  | some p => s.emit (.rodSamplePoint n p)
  | none => s

/-- Measurement `m` on the frame of `t`, which must be one that switches bit rate (R59). -/
def State.tdcOf (s : State) (n : Nat) (t : RodTx) (m : Nat) : State :=
  let h := recHdr t.record
  if !s.isLin n && (h.fmt == 4 || (h.fmt == 2 || h.fmt == 3) && bit h.w1 1) then s.tdcMeas n m else s

/-- ROD_BUS_ERROR (R63): error code `code` (Table 2.15); `dataPhase` in the CAN XL data phase, `heavy` when a
receiver's counter rises by 8; `tdc` is the loop delay when the frame being sent has switched bit rate. The winner of a
bus error is not stated: free values. -/
def doRodBusError (n code : Nat) (dataPhase heavy : Bool) (tdc : Option Nat) (s : State) : State :=
  let st := s.rodState n
  let lin := s.isLin n
  let code := nearest (if lin then [(7, 11)] else [(1, 6)]) code
  if !s.rodPresent n || !(st == 3 || st == 6) then s
  else
    let tx := (s.rod n).tx
    let s := match tx, tdc with
      | some t, some m => s.tdcOf n t m
      | _, _ => s
    let quiet := dataPhase && s.rodMode n == 0 && !s.isF (F.ROD_CTL_ERRSIG_EN n)
    let s := if lin then
        let r := s.rod n
        let s := s.lec n code
        if s.rodMode n = 4 then s.setRod n { r with linWait := none, linSync := none } else s
      else if quiet then
        let s := (s.lec n code).tally (T.rodXlDataErr n)
        if st = 3 then s.rodGo n 2 else s
      else s.flagError n code tx.isSome heavy
    match tx with
    | none => s
    | some t =>
      let s := if t.q = 8 then
          let (k, s) := s.fresh
          let w := (Config.free k).toNat
          (s.arbLog n t 0x3F w (w / 2 ^ 29)).rodEvt n 4
        else s
      s.attemptFailed n t

/-- ROD_TX_COMPLETE (R78): the frame on the bus ends without error; `tdc` is the loop delay measured on a
frame that switches bit rate. The data of a LIN frame from any of its queues, the launch-time queue included, counts as
published for its identifier (DESIGN CHOICE, log 102). -/
def doRodTxComplete (n tdc : Nat) (s : State) : State :=
  match (s.rod n).tx with
  | none => s
  | some t =>
    let h := recHdr t.record
    let s := (s.busFree n).tally (T.rodTxOk n)
    let s := if s.isLin n then s
      else s.errCounts n ((s.rod n).tec - 1) (s.getF (F.ROD_ERR_REC n))
    let s := s.tdcOf n t tdc
    let s := if s.isLin n ∧ t.q ≤ 8 then
        s.setRod n { s.rod n with linPub := sput (fun _ => []) (s.rod n).linPub h.id (recData t.record) }
      else s
    if t.q ≤ 8 then s.rodDrop n t.q t.ref
    else if t.q = 9 ∧ s.looped n ∧ s.isF (F.TST_ROD_CFG_CHK_EN n) then s.testCheck n (recData t.record)
    else s

/-! ### LIN (R65 to R69, R76) -/

/-- Drop the priority-queue items of a LIN rod that do not convert to a LIN frame (R82). -/
def State.linPurge (s : State) (n : Nat) : State :=
  s.forN 8 (fun q s =>
    (s.queue (64 + n) q).foldl (fun s r =>
      match s.item r.item with
      | none => s.setQueue (64 + n) q ((s.queue (64 + n) q).erase r)
      | some it =>
        match s.txRecord n it r with
        | .format => (s.rodDrop n q r).tally (T.rodTxFormat n)
        | .length => (s.rodDrop n q r).tally (T.rodTxOverlen n)
        | .ok _ => s) s)

/-- The oldest item for LIN identifier `fid` in the highest queue that holds one (R67, R68). -/
def State.linFind (s : State) (n fid : Nat) : Option (Nat × QRef × List Byte) :=
  ((List.range 8).reverse).findSome? (fun q =>
    (s.queue (64 + n) q).findSome? (fun r =>
      match s.item r.item with
      | none => none
      | some it =>
        match s.txRecord n it r with
        | .ok rec => if (recHdr rec).id = fid then some (q, r, rec) else none
        | _ => none))

/-- LIN_SLEEP_ENTRY (Table 2.8): go-to-sleep sent or received, or the bus idle for IDLE_SLEEP. -/
def doLinSleepEntry (n : Nat) (s : State) : State :=
  if s.rodPresent n ∧ s.isLin n ∧ s.rodState n = 3 then
    (s.setRod n { s.rod n with wakePulses := 0, linWait := none, linSync := none, linEnd := none }).rodGo n 8
  else s

/-- LIN_WAKE (R76): a dominant level of more than 150 µs has ended (DEDUCED, log 95). -/
def doLinWake (n : Nat) (s : State) : State :=
  if s.rodPresent n ∧ s.isLin n ∧ s.rodState n = 8 then (s.rodEvt n 7).rodGo n 3 else s

/-- LIN_SCHEDULE_RESTART (R76): 100 ms after a commander's own wake-up pulse. -/
def doLinScheduleRestart (n : Nat) (s : State) : State :=
  if s.rodPresent n ∧ s.rodMode n = 3 ∧ 0 < (s.rod n).wakePulses then
    s.setRod n { s.rod n with linSlot := 0, linEnd := none, wakePulses := 0 }
  else s

/-- LIN_WAKE_RETRY (R76): a responder repeats its pulse up to three times; the next sequence starts anew
after 1.5 s. -/
def doLinWakeRetry (n : Nat) (s : State) : State :=
  let r := s.rod n
  if s.rodPresent n ∧ s.rodMode n = 4 ∧ 0 < r.wakePulses ∧ (s.rodState n = 8 ∨ s.rodState n = 3) then
    let s := if 3 ≤ r.wakePulses then s.setRod n { r with wakePulses := 0 } else s
    if s.rodState n = 3 ∧ s.wakeWait n then s else s.linPulse n
  else s

/-- Schedule entry of slot `k` of rod `n` (R67). -/
def State.slotEntry (s : State) (n k : Nat) : Nat := s.entry tRodDirect (n * 2048 + k)

/-- Run the slot with entry `e`: header, then published data or an expected response; a PUBLISH slot with nothing to publish
stays silent (R67). A slot whose item the launch guard holds back does not begin (R73) (DESIGN CHOICE, log 103). -/
def State.runSlot (s : State) (n k e : Nat) : State :=
  let fid := bits e 1 6
  let classic := bit e 24 || s.linClassic n fid
  let begin_ (s : State) : State := s.setRod n { s.rod n with
    linSlot := if k = 255 then 0 else k + 1, linEnd := some (s.tb.fab + bits e 8 16 * 8000), linWait := none }
  if !bit e 7 then
    let s := (begin_ s).emit (.linHeader n fid)
    s.setRod n { s.rod n with linWait := some (fid, bits e 25 3 + 1, classic || decide (0x3C ≤ fid)) }
  else
    let s := s.linPurge n
    match s.linFind n fid with
    | some (q, r, rec) =>
      if s.guarded n then s
      else ((begin_ s).emit (.linHeader n fid)).sendRef n q r (linCs rec classic)
    | none =>
      match sget (fun _ => []) (s.rod n).linPub fid with
      | [] => begin_ s
      | data =>
        let h : RecHdr := ⟨fid, 5, 0, 0, 0⟩
        ((begin_ s).emit (.linHeader n fid)).putOnBus n ⟨10, { item := 0 }, linCs (h.bytes ++ data) classic, false⟩

/-- LIN_SLOT_START (R67, R69): the slot time has passed; a launch-time item that is due goes first. -/
def doLinSlotStart (n : Nat) (s : State) : State :=
  let s := if s.rodPresent n then s.dropLate n else s
  if !s.mayStart n || s.rodMode n != 3 || s.inSlot n then s
  else match s.dueHead n with
  | some r => (s.tryRef n 8 r).2
  | none =>
    let k := (s.rod n).linSlot
    if bit (s.slotEntry n k) 0 then s.runSlot n k (s.slotEntry n k)
    else if bit (s.slotEntry n 0) 0 then s.runSlot n 0 (s.slotEntry n 0)
    else s.setRod n { s.rod n with linSlot := 0 }

/-- LIN_NO_RESP (R67) (DEDUCED, log 95). -/
def doLinNoResp (n : Nat) (s : State) : State :=
  let r := s.rod n
  if s.rodPresent n ∧ s.rodMode n = 3 ∧ r.linWait.isSome then
    ((s.setRod n { r with linWait := none }).lec n 8).rodEvt n 8
  else s

/-- Configured bit length of a LIN rod, in CLK_ROD cycles (R65). -/
def State.linDiv (s : State) (n : Nat) : Nat :=
  match (s.rod n).latch with
  | some l => 16 * bits l.lin 4 12 + bits l.lin 0 4
  | none => 16 * s.getF (F.ROD_LIN_DIV_INT n) + s.getF (F.ROD_LIN_DIV_FRAC n)

/-- A sync field with bits of `m` CLK_ROD cycles lies within ±14 % of the configured rate (R65). -/
def State.syncOk (s : State) (n m : Nat) : Bool :=
  decide (100 * s.linDiv n ≤ 114 * m) && decide (86 * m ≤ 100 * s.linDiv n)

/-- Bit length that a LIN rod uses now: the measured one until the end of the frame (R65). -/
def State.linBit (s : State) (n : Nat) : Nat := (s.rod n).linSync.getD (s.linDiv n)

/-- LIN_HEADER_RECEIVED (R65, R66, R68): a responder receives a header; `err` is an error code of its parity or stop bits, 0
for none; `sync` is the bit length of its sync field in CLK_ROD cycles (DEDUCED, log 95). It answers with an item that the
launch guard lets start (R73), once WAKE_DLY has passed (R60). -/
def doLinHeaderReceived (n fid err sync : Nat) (s : State) : State :=
  let fid := fid % 64
  if !s.rodPresent n || s.rodMode n != 4 || s.rodState n != 3 || (s.rod n).tx.isSome then s
  else
    let s := s.setRod n { s.rod n with wakePulses := 0, linWait := none, linSync := none }
    if err ≠ 0 then s.lec n (nearest [(7, 11)] err)
    else if !s.syncOk n sync then s.lec n 9
    else
      let s := s.linPurge n
      let hit := s.rodLookup n 5 fid
      let classic := hit.any (fun h => bit h.word 59)
      let mute := s.isF (F.ROD_CTL_LISTEN_ONLY n) || s.wakeWait n || s.guarded n
      match (if mute then none else s.linFind n fid) with
      | some (q, r, rec) =>
        (s.setRod n { s.rod n with linSync := some sync }).sendRef n q r (linCs rec classic)
      | none =>
        match hit with
        | some h => s.setRod n { s.rod n with
            linSync := some sync
            linWait := some (fid, bits h.word 60 3 + 1, classic || decide (0x3C ≤ fid)) }
        | none => s

/-! ### The ACF assembler and splitter (R98, R100) -/

/-- ACF_APPEND: the assembler takes the oldest message that waits for it. -/
def doAcfAppend (s : State) : State := s.acfAppend

/-- ACF_HOLD_EXPIRY: HOLD µs have passed since the batch of context `c` opened. -/
def doAcfHoldExpiry (c : Nat) (s : State) : State :=
  let c := c % 256
  let e := s.entry tTalker c
  match s.batchOf c with
  | some b => if b.openAt + 800 * ew e 3 0 16 ≤ s.tb.fab then s.emitBatch c e else s
  | none => s

/-- CRY_EMIT: the open batch of context `c` is emitted at once; no effect when none is open. -/
def doCryEmit (c : Nat) (s : State) : State :=
  s.busGate (fun s => s.emitBatch (c % 256) (s.entry tTalker (c % 256)))

/-- ACF_SPLIT: the splitter takes the oldest AVTPDU that waits for it. -/
def doAcfSplit (s : State) : State := s.acfSplit

/-! ### Meanings of the commands -/

/-- Meaning of SET_MODE (R52). -/
def execSetMode (rod arg : Nat) (s : State) : Host.Outcome State Fault Refusal := .next (doSetMode rod arg s)

/-- Meaning of ROD_NOP (R52). -/
def execRodNop (rod : Nat) (s : State) : Host.Outcome State Fault Refusal := .next (doRodNop rod s)

/-- Meaning of START (R54). -/
def execStart (rod : Nat) (s : State) : Host.Outcome State Fault Refusal := .next (doStart rod s)

/-- Meaning of STOP (R56). -/
def execStop (rod : Nat) (rx : Bool) (s : State) : Host.Outcome State Fault Refusal := .next (doStop rod rx s)

/-- Meaning of STOPPING_END (R55). -/
def execStoppingEnd (rod : Nat) (s : State) : Host.Outcome State Fault Refusal := .next (doStoppingEnd rod s)

/-- Meaning of RECOVER (R52). -/
def execRecover (rod : Nat) (s : State) : Host.Outcome State Fault Refusal := .next (doRecover rod s)

/-- Meaning of FLUSH (R78). -/
def execFlush (rod arg : Nat) (s : State) : Host.Outcome State Fault Refusal := .next (doFlush rod arg s)

/-- Meaning of ROD_STANDBY (R52). -/
def execRodStandby (rod : Nat) (s : State) : Host.Outcome State Fault Refusal := .next (doRodStandby rod s)

/-- Meaning of ROD_WAKE (R52). -/
def execRodWake (rod : Nat) (s : State) : Host.Outcome State Fault Refusal := .next (doRodWake rod s)

/-- Meaning of ROD_RESET (R83). -/
def execRodReset (rod : Nat) (s : State) : Host.Outcome State Fault Refusal := .next (doRodReset rod s)

/-- Meaning of ROD_RESET_COMPLETE (R83). -/
def execRodResetComplete (rod : Nat) (s : State) : Host.Outcome State Fault Refusal :=
  .next (doRodResetComplete rod s)

/-- Meaning of ROD_XCVR_WRITE (R61). -/
def execRodXcvrWrite (rod value : Nat) (s : State) : Host.Outcome State Fault Refusal :=
  .next (doRodXcvrWrite rod value s)

/-- Meaning of INTEGRATION_COMPLETE (R55). -/
def execIntegrationComplete (rod : Nat) (s : State) : Host.Outcome State Fault Refusal :=
  .next (doIntegrationComplete rod s)

/-- Meaning of ROD_FRAME_RX (R77). -/
def execRodFrameRx (rod : Nat) (frame : CanFrame) (ago : Nat) (s : State) : Host.Outcome State Fault Refusal :=
  .next (doRodFrameRx rod frame ago s)

/-- Meaning of ROD_BUS_ERROR (R63). -/
def execRodBusError (rod code : Nat) (dataPhase heavy : Bool) (s : State)
    (tdc : Option Nat := none) : Host.Outcome State Fault Refusal :=
  .next (doRodBusError rod code dataPhase heavy tdc s)

/-- Meaning of RECOVERY_COMPLETE (R55). -/
def execRecoveryComplete (rod : Nat) (s : State) : Host.Outcome State Fault Refusal :=
  .next (doRecoveryComplete rod s)

/-- Meaning of ROD_TX_SELECT (R70). -/
def execRodTxSelect (rod : Nat) (s : State) : Host.Outcome State Fault Refusal := .next (doRodTxSelect rod s)

/-- Meaning of LAUNCH_INSTANT (R72). -/
def execLaunchInstant (rod : Nat) (idle : Bool) (s : State) : Host.Outcome State Fault Refusal :=
  .next (doLaunchInstant rod idle s)

/-- Meaning of ARBITRATION_LOSS (R74). -/
def execArbitrationLoss (rod winId : Nat) (winIde : Bool) (bitpos : Nat)
    (s : State) : Host.Outcome State Fault Refusal :=
  .next (doArbitrationLoss rod winId winIde bitpos s)

/-- Meaning of ROD_TX_COMPLETE (R78). -/
def execRodTxComplete (rod tdc : Nat) (s : State) : Host.Outcome State Fault Refusal :=
  .next (doRodTxComplete rod tdc s)

/-- Meaning of LAUNCH_LATE (R70). -/
def execLaunchLate (rod : Nat) (s : State) : Host.Outcome State Fault Refusal := .next (doLaunchLate rod s)

/-- Meaning of LIN_SLEEP_ENTRY (R55). -/
def execLinSleepEntry (rod : Nat) (s : State) : Host.Outcome State Fault Refusal :=
  .next (doLinSleepEntry rod s)

/-- Meaning of LIN_WAKE (R76). -/
def execLinWake (rod : Nat) (s : State) : Host.Outcome State Fault Refusal := .next (doLinWake rod s)

/-- Meaning of LIN_SCHEDULE_RESTART (R76). -/
def execLinScheduleRestart (rod : Nat) (s : State) : Host.Outcome State Fault Refusal :=
  .next (doLinScheduleRestart rod s)

/-- Meaning of LIN_WAKE_RETRY (R76). -/
def execLinWakeRetry (rod : Nat) (s : State) : Host.Outcome State Fault Refusal := .next (doLinWakeRetry rod s)

/-- Meaning of LIN_SLOT_START (R67). -/
def execLinSlotStart (rod : Nat) (s : State) : Host.Outcome State Fault Refusal := .next (doLinSlotStart rod s)

/-- Meaning of LIN_NO_RESP (R67). -/
def execLinNoResp (rod : Nat) (s : State) : Host.Outcome State Fault Refusal := .next (doLinNoResp rod s)

/-- Meaning of LIN_HEADER_RECEIVED (R68). -/
def execLinHeaderReceived (rod fid err : Nat) (s : State) (sync : Nat := 0) :
    Host.Outcome State Fault Refusal :=
  .next (doLinHeaderReceived rod fid err sync s)

/-- Meaning of ROD_TEST_FRAME (R407). -/
def execRodTestFrame (rod : Nat) (s : State) : Host.Outcome State Fault Refusal := .next (doRodTestFrame rod s)

/-- Meaning of ACF_APPEND (R98). -/
def execAcfAppend (s : State) : Host.Outcome State Fault Refusal := .next (doAcfAppend s)

/-- Meaning of ACF_HOLD_EXPIRY (R98). -/
def execAcfHoldExpiry (ctx : Nat) (s : State) : Host.Outcome State Fault Refusal :=
  .next (doAcfHoldExpiry ctx s)

/-- Meaning of CRY_EMIT (R98). -/
def execCryEmit (ctx : Nat) (s : State) : Host.Outcome State Fault Refusal := .next (doCryEmit ctx s)

/-- Meaning of ACF_SPLIT (R100). -/
def execAcfSplit (s : State) : Host.Outcome State Fault Refusal := .next (doAcfSplit s)

end Sys2Proof.Machine
end

