-- ==== Sys2Proof/Machine/Keys.lean ====
section
/-! DEFINITION. The key store (R254 to R271, R277 to R283): slots, the checks of R264, the commands of
Table 10.3, the reclaim sweep, the start and the tamper reaction. A requester operand is 0 for the control
pair, 1 for the service pair, 2 for the host. -/

namespace Sys2Proof.Machine

/-! ### Check values and the journal (R258, R267, R269, R270) -/

/-- The counter-mode KDF of R267: CMAC-AES-256 under an AES-256 parent, HMAC-SHA-256 otherwise. -/
def kdf (hmac : Bool) (key nbits : Nat) (label ctx : List Byte) : Nat :=
  let msg (i : Nat) := beBytes 4 i ++ label ++ [0] ++ ctx ++ beBytes 4 nbits
  if hmac then (Config.hmac key (msg 1)).toNat / 2 ^ (256 - nbits)
  else if nbits = 128 then (Config.cmac key 256 (msg 1)).toNat
  else (Config.cmac key 256 (msg 1)).toNat * 2 ^ 128 + (Config.cmac key 256 (msg 2)).toNat

/-- Bytes of a text. -/
def ascii (t : String) : List Byte := t.toList.map (fun c => BitVec.ofNat 8 c.toNat)

/-- Words 4 to 6 of a slot (Table 10.2). -/
def slotWords (k : KeySlot) : List Byte :=
  leBytes 8 (k.state + k.ty * 2 ^ 2 + k.level * 2 ^ 5 + k.parent * 2 ^ 8 + k.pgen * 2 ^ 18 + k.gen * 2 ^ 34
    + b2n k.expire * 2 ^ 50 + k.usage * 2 ^ 51 + k.perm * 2 ^ 58) ++ leBytes 8 k.uses ++ leBytes 8 k.maskSel

/-- Check value of slot `i` with contents `k` under the root secret: the first 64 bits of CMAC-AES-256 over words 0 to 6 and
the slot index, under the key that the root gives for the label "SLOT-ICV" (R258). The words and the index go in
little-endian, the index as two bytes, and the context is empty (DESIGN CHOICE, log 119). -/
def icvOf (root i : Nat) (k : KeySlot) : Nat :=
  (Config.cmac (kdf true root 256 (ascii "SLOT-ICV") []) 256 (leBytes 32 k.key ++ slotWords k ++ leBytes 2 i)).toNat / 2 ^ 64

/-- Word 7 of slot `i`. -/
def State.icvWord (s : State) (i : Nat) (k : KeySlot) : Nat := k.icv.getD (icvOf (s.key.root.getD 0) i k)

/-- Slot `i` fails its integrity check. -/
def State.slotBad (s : State) (i : Nat) (k : KeySlot) : Bool := k.icv.any (fun w => w != icvOf (s.key.root.getD 0) i k)

/-- CRC-32C of a journal entry: over its index, little-endian, and the 64 bytes of its image (DESIGN CHOICE, log 119). -/
def State.entryCrc (s : State) (slot : Option Nat) (k : KeySlot) : Nat :=
  let i := slot.getD 0x3FF
  crc32c (leBytes 2 i ++ leBytes 32 k.key ++ slotWords k ++ leBytes 8 (s.icvWord i k))

/-- Store the contents of slot `i`; an unlisted slot is FREE, under the mask in use. -/
def State.putSlot (s : State) (i : Nat) (k : KeySlot) : State :=
  { s with key := { s.key with slots := sput (fun _ => { maskSel := s.key.maskNow }) s.key.slots i k } }

/-- Step 1 of Table 10.5: the images with index and CRC-32C. -/
def State.jWrite (s : State) (l : List (Option Nat × KeySlot)) : State :=
  { s with key := { s.key with journal := ⟨l.map (fun e => ⟨e.1, e.2, s.entryCrc e.1 e.2⟩), 0⟩ } }

/-- Step 2: COMMIT with the group size. -/
def State.jCommit (s : State) : State :=
  { s with key := { s.key with journal := { s.key.journal with commit := s.key.journal.entries.length } } }

/-- Store one image of a group. -/
def State.jImage (s : State) (slot : Option Nat) (k : KeySlot) : State :=
  match slot with
  | some i => s.putSlot i k
  | none => s.setF F.KEY_ARC_ARC k.key

/-- Step 3: each image goes to its slot. -/
def State.jStore (s : State) : State := s.key.journal.entries.foldl (fun s e => s.jImage e.slot e.image) s

/-- Step 4: both entries EMPTY. -/
def State.jEmpty (s : State) : State := { s with key := { s.key with journal := {} } }

/-- The journal holds a committed group whose entries pass their CRC-32C (R270). -/
def State.jValid (s : State) : Bool :=
  let j := s.key.journal
  decide (1 ≤ j.commit) && decide (j.commit ≤ 2) && j.commit == j.entries.length
    && j.entries.all (fun e => e.crc == s.entryCrc e.slot e.image)

/-- The journal at a start: a committed group is replayed from step 3, any other discarded (R270). -/
def State.examineJournal (s : State) : State := (if s.jValid then s.jStore else s).jEmpty

/-! ### Slots (R257, R259, R262) -/

/-- Slot `i`; an unwritten slot is FREE. -/
def State.slot (s : State) (i : Nat) : KeySlot := sget (fun _ => { maskSel := s.key.maskNow }) s.key.slots i

/-- FREE slots, as KEY_STORE_STAT shows them. -/
def State.countFree (s : State) : State :=
  let n := s.getF F.GLB_KEY_SLOTS_COUNT
  s.setF F.KEY_STORE_STAT_FREE (n - (s.key.slots.filter (fun e =>
    decide (e.1 < n) && e.2.state != 0)).length)

/-- A change of the VBATK contents commits as one journal group (R269, Table 10.5). -/
def State.commitGroup (s : State) (l : List (Option Nat × KeySlot)) : State :=
  (((s.jWrite l).jCommit).jStore).jEmpty.countFree

/-- Store slot `i`, one journal group (R269). -/
def State.setSlot (s : State) (i : Nat) (k : KeySlot) : State := s.commitGroup [(some i, k)]

/-- Set the anti-rollback counter, one journal group (R254, R269). -/
def State.setArc (s : State) (v : Nat) : State := s.commitGroup [(none, { key := v })]

/-- The index names the root, or the lowest FREE slot. -/
abbrev rootIx : Nat := 0x3FF

/-- Slot `i` is below the present count. -/
def State.slotThere (s : State) (i : Nat) : Bool := decide (i < s.getF F.GLB_KEY_SLOTS_COUNT)

/-- The link from slot `k` to its parent holds (R259). -/
def State.linkHolds (s : State) (k : KeySlot) : Bool :=
  if k.parent = rootIx then s.key.root.isSome && k.pgen == 0
  else
    let p := s.slot k.parent
    p.state != 0 && p.gen == k.pgen

/-- Slot `i` and its ancestors up to the root, nearest first, at most four links (R259). -/
def State.path (s : State) : Nat → Nat → List Nat
  | 0, _ => []
  | fuel + 1, i => if i = rootIx then [] else i :: s.path fuel (s.slot i).parent

/-- Slot `i` is orphaned: a link on its path fails (R259). -/
def State.orphan (s : State) (i : Nat) : Bool := (s.path 5 i).any (fun j => !s.linkHolds (s.slot j))

/-- A slot on the path of `i` fails its integrity check. -/
def State.badPath (s : State) (i : Nat) : Bool := (s.path 5 i).any (fun j => s.slotBad j (s.slot j))

/-- USAGE bits that a TYPE permits (R262). -/
def usageMask (ty : Nat) : Nat := if ty = 0 then 0b1011110 else if ty = 1 then 0b1111111 else 0b0001101

/-- Key length of a TYPE in bits. -/
def keyBits (ty : Nat) : Nat := if ty = 0 then 128 else 256

/-- Naming the root where it cannot serve: only the pairs may name it (step 3), and nothing but the parent of a new slot is
among its uses (step 6) (DESIGN CHOICE, log 119). -/
def rootRefused (r : Nat) : Nat := if r = 2 then stLocked else stReject

/-- Steps 1 to 7 of R264 for a source slot; `usage` is the USAGE bit asked for. The root serves as the
parent of GENERATE and DERIVE only (`asRoot`). -/
def State.source (s : State) (r i : Nat) (usage : Option Nat) (asRoot : Bool) : Option Nat :=
  if i = rootIx then
    if asRoot && r != 2 then none else some (rootRefused r)
  else
    let k := s.slot i
    if !s.slotThere i || k.state == 0 then some stNotFound
    else if k.state = 2 then some stReject
    else if !bit k.perm r then some stLocked
    else if s.badPath i then some stIntegrity
    else if s.orphan i then some stOrphaned
    else if usage.any (fun u => !bit k.usage u) then some stReject
    else if k.uses = 0 then some stExhausted
    else none

/-- Step 8 of R264: the target slot, or the status that refuses it. -/
def State.target (s : State) (i : Nat) : Nat × Option Nat :=
  if i = rootIx then
    match (List.range (s.getF F.GLB_KEY_SLOTS_COUNT)).find? (fun j => (s.slot j).state == 0) with
    | some j => (j, none)
    | none => (0, some stNoRoom)
  else if !s.slotThere i then (i, some stNotFound)
  else if (s.slot i).state ≠ 0 then (i, some stReject)
  else (i, none)

/-- One use of slot `i` (R261). -/
def State.useSlot (s : State) (i : Nat) : State :=
  if i = rootIx then s
  else
    let k := s.slot i
    if k.uses = 0xFFFFFF then s else s.setSlot i { k with uses := k.uses - 1 }

/-- Level, generation, usage, permissions and expiry that a parent gives its children. -/
def State.parentOf (s : State) (i : Nat) : KeySlot :=
  if i = rootIx then { key := s.key.root.getD 0, ty := 2, level := 0, gen := 0, usage := 0x7F, perm := 7 }
  else s.slot i

/-- The first failing check of a list. -/
def firstSome : List (Option Nat) → Option Nat
  | [] => none
  | none :: l => firstSome l
  | some a :: _ => some a

/-! ### Requesters' registers -/

/-- Bytes of KEY_IN up to KEY_LEN (R265). -/
def State.keyIn (s : State) (r : Nat) : List Byte :=
  let n := min 1024 (s.getF (reqF r F.KEY_LEN_LEN))
  ((List.range (ceilDiv n 4)).flatMap (fun k => leBytes 4 (s.getF (reqF r (F.KEY_IN_DATA k))))).take n

/-- Write KEY_OUT and OUT_LEN (DESIGN CHOICE, log 90). -/
def State.keyOut (s : State) (r : Nat) (bs : List Byte) : State :=
  let s := s.forN (ceilDiv bs.length 4) (fun k s =>
    s.setF (reqF r (F.KEY_OUT_DATA k)) (leAt bs (4 * k) 4))
  s.setF (reqF r F.KEY_RESULT_OUT_LEN) bs.length

/-- Name the slot created or used (R264). -/
def State.keyResult (s : State) (r i : Nat) : State := s.setF (reqF r F.KEY_RESULT_SLOT) i

/-- SLOT and AUX of a requester. -/
def State.keyArgs (s : State) (r : Nat) : Nat × Nat :=
  (s.getF (reqF r F.KEY_SLOT_SLOT), s.getF (reqF r F.KEY_SLOT_AUX))

/-- A KEY_CMD command (R263, R17): refused until READY; `run` answers its status (DEDUCED, log 91). -/
def State.keyCmd (s : State) (r op : Nat) (run : State → Nat × State) : State :=
  let go (s : State) : State :=
    if s.isF (reqF r F.KEY_STAT_BUSY) then
      (s.setB (reqF r F.KEY_STAT_BUSY_HIT) true).tally (T.key r stBusy)
    else
      let s := s.setF (reqF r F.KEY_STAT_LAST_OP) op
      let (st, s) := if s.isF F.KEY_STORE_STAT_READY then run s else (stReject, s)
      (s.setF (reqF r F.KEY_STAT_STATUS) st).tally (T.key r st)
  if !s.requesterUp r then s
  else if r = 2 then s.busGate go else go s

/-- Run a command after its checks. -/
def guard (checks : List (Option Nat)) (s : State) (act : State → Nat × State) : Nat × State :=
  match firstSome checks with
  | some st => (st, s)
  | none => act s

/-- Next DRBG output (DESIGN CHOICE, log 90). -/
def State.draw (s : State) : Nat × State :=
  ((Config.drbg s.key.drawn).toNat, { s with key := { s.key with drawn := s.key.drawn + 1 } })

/-! ### Creation (R264, R267, R268) -/

/-- Make slot `t` under parent `aux` with key `k` (R262, R264); `derived` also takes the parent's USAGE and
PERM. -/
def State.makeSlot (s : State) (r t aux k : Nat) (derived : Bool) : State :=
  let p := s.parentOf aux
  let ty := min 2 (s.getF (reqF r F.KEY_ATTR_TYPE))
  let usage := s.getF (reqF r F.KEY_ATTR_USAGE) &&& usageMask ty
  let perm := s.getF (reqF r F.KEY_ATTR_PERM)
  (s.setSlot t {
    key := k % 2 ^ keyBits ty, state := 1, ty := ty, level := p.level + 1, parent := aux, pgen := p.gen
    gen := (s.slot t).gen, expire := s.isF (reqF r F.KEY_ATTR_EXPIRE_RESET) || p.expire
    usage := if derived then usage &&& p.usage else usage
    perm := if derived then perm &&& p.perm else perm
    uses := s.getF (reqF r F.KEY_USES_USES), maskSel := (s.slot t).maskSel }).keyResult r t

/-- Level 5 would be needed (Table 10.3). -/
def State.tooDeep (s : State) (aux : Nat) : Option Nat :=
  if 4 ≤ (s.parentOf aux).level then some stReject else none

/-- A named target at or above the count is refused first (step 1 of R264). -/
def State.named (s : State) (i : Nat) : Option Nat :=
  if i = rootIx || s.slotThere i then none else some stNotFound

/-- GENERATE (DESIGN CHOICE, log 90). -/
def State.keyGenerate (s : State) (r : Nat) : Nat × State :=
  let (slot, aux) := s.keyArgs r
  let (t, full) := s.target slot
  guard [s.named slot, s.source r aux none true, full,
      if s.isF F.KEY_STORE_STAT_DRBG_FAIL then some stReject else none, s.tooDeep aux] s (fun s =>
    let (k, s) := s.draw
    (stOk, (s.makeSlot r t aux k false).setF (reqF r F.KEY_RESULT_OUT_LEN) 0))

/-- DERIVE. -/
def State.keyDerive (s : State) (r : Nat) : Nat × State :=
  let (slot, aux) := s.keyArgs r
  let (t, full) := s.target slot
  guard [s.named slot, s.source r aux (some 0) true, full, s.tooDeep aux] s (fun s =>
    let inp := s.keyIn r
    let n := min (byteAt inp 0) (inp.length - 1)
    let p := s.parentOf aux
    let k := kdf (p.ty == 2) p.key (keyBits (s.getF (reqF r F.KEY_ATTR_TYPE))) ((inp.drop 1).take n)
      (inp.drop (1 + n))
    (stOk, ((s.useSlot aux).makeSlot r t aux k true).setF (reqF r F.KEY_RESULT_OUT_LEN) 0))

/-! ### AES key wrap (R268, RFC 3394) -/

/-- The default initial value. -/
abbrev wrapIv : BitVec 64 := 0xA6A6A6A6A6A6A6A6

/-- Step `t` of the wrap: the integrity register and the first of the blocks, which goes to the end. -/
def wrapStep (c : Cipher) (t : Nat) (a : BitVec 64) : List (BitVec 64) → BitVec 64 × List (BitVec 64)
  | [] => (a, [])
  | r :: rs =>
    let b := c.enc (a ++ r)
    (b.extractLsb' 64 64 ^^^ BitVec.ofNat 64 t, rs ++ [b.extractLsb' 0 64])

/-- It undone: the last block comes back to the front. -/
def unwrapStep (c : Cipher) (t : Nat) (a : BitVec 64) (rs : List (BitVec 64)) : BitVec 64 × List (BitVec 64) :=
  match rs.getLast? with
  | none => (a, [])
  | some r =>
    let b := c.dec ((a ^^^ BitVec.ofNat 64 t) ++ r)
    (b.extractLsb' 64 64, b.extractLsb' 0 64 :: rs.dropLast)

/-- Steps 1 to `n`, and the same undone from step `n` down. -/
def wrapSteps (c : Cipher) : Nat → BitVec 64 × List (BitVec 64) → BitVec 64 × List (BitVec 64)
  | 0, x => x
  | n + 1, x => let y := wrapSteps c n x; wrapStep c (n + 1) y.1 y.2
def unwrapSteps (c : Cipher) : Nat → BitVec 64 × List (BitVec 64) → BitVec 64 × List (BitVec 64)
  | 0, x => x
  | n + 1, x => unwrapSteps c n (unwrapStep c (n + 1) x.1 x.2)

/-- Bytes as 64-bit blocks, most significant byte first, and back. -/
def blocksOf (n : Nat) (bs : List Byte) : List (BitVec 64) :=
  (List.range n).map (fun k => BitVec.ofNat 64 (beAt bs (8 * k) 8))
def bytesOf (l : List (BitVec 64)) : List Byte := l.flatMap (fun b => beBytes 8 b.toNat)

/-- Wrap the `n` blocks of a key under the key-encryption key `kek` of `len` bits: 8 n + 8 bytes. -/
def keyWrap (kek len n : Nat) (key : List Byte) : List Byte :=
  let x := wrapSteps (Config.aes kek len) (6 * n) (wrapIv, blocksOf n key)
  bytesOf (x.1 :: x.2)

/-- Unwrap: none when the integrity check against the default initial value fails. -/
def keyUnwrap (kek len n : Nat) (bs : List Byte) : Option (List Byte) :=
  let x := unwrapSteps (Config.aes kek len) (6 * n) (BitVec.ofNat 64 (beAt bs 0 8), blocksOf n (bs.drop 8))
  if x.1 = wrapIv then some (bytesOf x.2) else none

/-- IMPORT_WRAPPED. -/
def State.keyImport (s : State) (r : Nat) : Nat × State :=
  let (slot, aux) := s.keyArgs r
  let (t, full) := s.target slot
  let inp := s.keyIn r
  let w := s.slot aux
  let klen := keyBits (s.getF (reqF r F.KEY_ATTR_TYPE)) / 8
  let plain := if inp.length = klen + 8 then keyUnwrap w.key (keyBits w.ty) (klen / 8) inp else none
  guard [s.named slot, s.source r aux (some 1) false, full,
      if plain.isNone then some stAuth else none, s.tooDeep aux] s (fun s =>
    (stOk, ((s.useSlot aux).makeSlot r t aux (beNat (plain.getD [])) true).setF
      (reqF r F.KEY_RESULT_OUT_LEN) 0))

/-! ### Use (R261, R264) -/

/-- EXPORT_WRAPPED: SLOT and then AUX are checked, and both are used. -/
def State.keyExport (s : State) (r : Nat) : Nat × State :=
  let (slot, aux) := s.keyArgs r
  guard [s.named slot, s.named aux, s.source r slot (some 2) false, s.source r aux (some 1) false] s (fun s =>
    let k := s.slot slot
    let w := s.slot aux
    let klen := keyBits k.ty / 8
    let out := keyWrap w.key (keyBits w.ty) (klen / 8) (beBytes klen k.key)
    (stOk, (((s.useSlot slot).useSlot aux).keyResult r slot).keyOut r out))

/-- MAC: SUB 0 CMAC under an AES key, SUB 1 HMAC-SHA-256 under a SECRET-256. -/
def State.keyMac (s : State) (r sub : Nat) : Nat × State :=
  let (slot, _) := s.keyArgs r
  let k := s.slot slot
  let hmac := sub != 0
  guard [s.source r slot (some 3) false, if hmac != (k.ty == 2) then some stReject else none] s (fun s =>
    let inp := s.keyIn r
    let out := if hmac then beBytes 32 (Config.hmac k.key inp).toNat
      else beBytes 16 (Config.cmac k.key (keyBits k.ty) inp).toNat
    (stOk, ((s.useSlot slot).keyResult r slot).keyOut r out))

/-- BIND SUB 0: the slot's key goes into SA entry AUX in one commit (R273). -/
def State.keyBindSa (s : State) (r : Nat) : Nat × State :=
  let (slot, sa) := s.keyArgs r
  let e := s.entry tSa sa
  let k := s.slot slot
  let fits := k.ty != 2 && (keyBits k.ty == (if ew e 0 2 1 = 0 then 128 else 256))
  guard [s.source r slot (some 4) false, if s.entryThere tSa sa then none else some stNotFound,
      if !bit e 0 || bit e 1 || !fits then some stReject else none] s (fun s =>
    let s := (s.useSlot slot).setEntry tSa sa (setEw (setEw e 0 1 1 1) 0 4 10 slot)
    let s := { s with dp := { s.dp with saKey := sput (fun _ => 0) s.dp.saKey sa k.key } }
    (stOk, (s.keyResult r slot).setF (reqF r F.KEY_RESULT_OUT_LEN) 0))

/-- BIND SUB 1: the slot becomes the image decryption key (R338). -/
def State.keyBindImage (s : State) (r : Nat) : Nat × State :=
  let (slot, _) := s.keyArgs r
  guard [s.source r slot (some 5) false] s (fun s =>
    let s := s.useSlot slot
    let s := { s with key := { s.key with imageSlot := some slot } }
    (stOk, (s.keyResult r slot).setF (reqF r F.KEY_RESULT_OUT_LEN) 0))

/-- A FREE slot that keeps its generation. -/
def freed (k : KeySlot) (gen : Nat) : KeySlot := { gen := gen % 2 ^ 16, maskSel := k.maskSel }

/-- INVALIDATE (R260): a slot that fails its integrity check is freed. -/
def State.keyInvalidate (s : State) (r : Nat) : Nat × State :=
  let (slot, _) := s.keyArgs r
  let k := s.slot slot
  let bad := s.slotBad slot k
  guard [if slot = rootIx then some (rootRefused r) else if s.slotThere slot then none else some stNotFound,
      if k.state = 1 then none else some stReject,
      if bit k.perm r then none else some stLocked,
      if bad || !s.badPath slot then none else some stIntegrity,
      if bad || !s.orphan slot then none else some stOrphaned] s (fun s =>
    let s := if bad then s.setSlot slot (freed k (k.gen + 1))
      else
        let s := s.setSlot slot { k with state := 2, gen := (k.gen + 1) % 2 ^ 16 }
        ({ s with key := { s.key with sweeps := s.key.sweeps ++ [slot] } }).setB F.KEY_STORE_STAT_SWEEP true
    (stOk, (s.keyResult r slot).setF (reqF r F.KEY_RESULT_OUT_LEN) 0))

/-- INFO: works on FREE slots and consumes no use. -/
def State.keyInfo (s : State) (r : Nat) : Nat × State :=
  let (slot, _) := s.keyArgs r
  let k := s.slot slot
  guard [if slot = rootIx then some (rootRefused r) else if s.slotThere slot then none else some stNotFound,
      if k.state = 0 then (if s.slotBad slot k then some stIntegrity else none)
      else if k.state = 2 then some stReject
      else if !bit k.perm r then some stLocked
      else if s.badPath slot then some stIntegrity
      else if s.orphan slot then some stOrphaned else none] s (fun s =>
    (stOk, (s.keyResult r slot).keyOut r (slotWords k)))

/-! ### Tokens and attestation (R277 to R280) -/

/-- Unique ID bytes of the device (Table 19.4). -/
def State.uid (s : State) : List Byte :=
  (List.range 4).flatMap (fun k => leBytes 4 (s.getF (F.GLB_UID_UID k)))

/-- AUTHORIZE SUB 0. -/
def State.keyChallenge (s : State) (r : Nat) : Nat × State :=
  if s.isF F.KEY_STORE_STAT_DRBG_FAIL then (stReject, s)
  else
    let (k, s) := s.draw
    let c := k % 2 ^ 128
    let s := { s with key := { s.key with
      challenge := sput (fun _ => none) s.key.challenge r (some (c, s.tb.fab)) } }
    (stOk, s.keyOut r (beBytes 16 c))

/-- A core pair enters debug split (R250). -/
def State.debugSplit (s : State) (i : Nat) : State :=
  let s := (s.setF (F.SAF_PAIR_STAT_STATE i) 4).orF F.SAF_STAT_DEBUG_SPLIT i
  s.setB F.SAF_STAT_SAFE_STATE false

/-- The effect of a token that verifies (R278): none is STATE_REJECT, also for a debug token while the debug enable shadow
is locked (R317) (DESIGN CHOICE, log 119). -/
def State.tokenEffect (s : State) (tok : List Byte) : Option State :=
  match byteAt tok 0 with
  | 1 => if s.boot.debugEn && s.pairUp 0 then some (s.debugSplit 0) else none
  | 2 => if s.boot.debugEn && s.pairUp 1 then some (s.debugSplit 1) else none
  | _ =>
    if !s.pairUp 1 then none
    else s.openSlot (min 15 (byteAt tok 1)) (beAt tok 20 16) (max 1 (min 32767 (beAt tok 2 2)))

/-- AUTHORIZE SUB 1: the challenge is consumed whatever the outcome (R278). -/
def State.keyToken (s : State) (r : Nat) : Nat × State :=
  let (slot, _) := s.keyArgs r
  let held := sget (fun _ => none) s.key.challenge r
  let s := { s with key := { s.key with challenge := sput (fun _ => none) s.key.challenge r none } }
  let tok := s.keyIn r
  let k := s.slot slot
  let fresh := held.any (fun c => decide (s.tb.fab - c.2 ≤ 60 * cycS) && beAt tok 36 16 == c.1)
  let tag := (Config.cmac k.key (keyBits k.ty) (tok.take 52)).toNat
  let ok := fresh && tok.length == 68 && (tok.drop 4).take 16 == s.uid
    && decide (1 ≤ byteAt tok 0 ∧ byteAt tok 0 ≤ 3) && beAt tok 52 16 == tag
  guard [s.source r slot (some 6) false, if ok then none else some stAuth] s (fun s =>
    match s.tokenEffect tok with
    | none => (stReject, s)
    | some s => (stOk, ((s.useSlot slot).keyResult r slot).setF (reqF r F.KEY_RESULT_OUT_LEN) 0))

/-- ROOT_ID (R255). -/
def State.rootId (s : State) : List Byte :=
  (beBytes 32 (Config.hmac (s.key.root.getD 0) (ascii "ROOT-ID")).toNat).take 8

/-- An identity secret: the KDF of R267 with HMAC-SHA-256 on the device seed under a label (R279), with an empty context
(DESIGN CHOICE, log 119). -/
def identitySecret (label : String) : Nat := kdf true Config.deviceSeed.toNat 256 (ascii label) []

/-- The ECDSA P-256 private key and the ML-DSA-65 seed (R279). -/
abbrev ecdsaKey : Nat := identitySecret "ATT-ECDSA"
abbrev mldsaSeed : Nat := identitySecret "ATT-MLDSA"

/-- Public identity keys, 2,017 bytes (R279). -/
def identityKeys : List Byte := padTo 65 (Config.ecdsaPublic ecdsaKey) ++ padTo 1952 (Config.mldsaPublic mldsaSeed)

/-- Body of the attestation statement (Table 10.10). -/
def State.attestBody (s : State) (nonce : List Byte) : List Byte :=
  beBytes 4 0x4F5A4154 ++ beBytes 2 1 ++ beBytes 2 3605 ++ s.uid ++ beBytes 2 (s.getF F.GLB_ID_PART)
    ++ beBytes 1 (s.getF F.GLB_ID_DIE_REV)
    ++ beBytes 1 (s.getF F.GLB_BOOT_STAT_SOURCE + 4 * s.getF F.BKP_BOOT_ACTIVE_SLOT)
    ++ (List.range 4).flatMap (fun k => beBytes 4 (s.getF (F.GLB_FUSE_FUSE k)))
    ++ beBytes 4 (s.getF F.KEY_ARC_ARC) ++ beBytes 2 (s.regWord 0x10004 % 2 ^ 16)
    ++ beBytes 2 (s.getF F.TIM_STAT_SYNCED + 2 * s.getF F.TIM_STAT_HOLDOVER) ++ s.rootId
    ++ beBytes 48 s.meas.fw ++ beBytes 48 s.meas.cfg ++ padTo 32 nonce
    ++ beBytes 8 (tSec s.tb.clk % 2 ^ 48) ++ beBytes 4 (tNs s.tb.clk)
    ++ beBytes 32 (Config.sha256 identityKeys).toNat

/-- ATTEST SUB 0. -/
def State.keyAttest (s : State) (r : Nat) : Nat × State :=
  if !s.pairUp 1 then (stReject, s)
  else
    let body := s.attestBody ((s.keyIn r).take 32)
    (stOk, s.keyOut r (body ++ padTo 64 (Config.ecdsa ecdsaKey (Config.sha256 body).toNat)
      ++ padTo 3309 (Config.mldsa mldsaSeed (ascii "OZAT") body)))

/-- ATTEST SUB 1. -/
def State.keyPublic (s : State) (r : Nat) : Nat × State :=
  if !s.pairUp 1 then (stReject, s) else (stOk, s.keyOut r identityKeys)

/-! ### The commands -/

/-- KEY_CMD NOP. -/
def doKeyNop (r : Nat) (s : State) : State := s.keyCmd (min r 2) 0 (fun s => (stOk, s))

/-- KEY_CMD GENERATE. -/
def doGenerate (r : Nat) (s : State) : State := s.keyCmd (min r 2) 1 (fun s => s.keyGenerate (min r 2))

/-- KEY_CMD DERIVE. -/
def doDerive (r : Nat) (s : State) : State := s.keyCmd (min r 2) 2 (fun s => s.keyDerive (min r 2))

/-- KEY_CMD IMPORT_WRAPPED. -/
def doImportWrapped (r : Nat) (s : State) : State := s.keyCmd (min r 2) 3 (fun s => s.keyImport (min r 2))

/-- KEY_CMD EXPORT_WRAPPED. -/
def doExportWrapped (r : Nat) (s : State) : State := s.keyCmd (min r 2) 4 (fun s => s.keyExport (min r 2))

/-- KEY_CMD MAC. -/
def doKeyMac (r sub : Nat) (s : State) : State := s.keyCmd (min r 2) 5 (fun s => s.keyMac (min r 2) sub)

/-- KEY_CMD BIND SUB 0. -/
def doBindSa (r : Nat) (s : State) : State := s.keyCmd (min r 2) 6 (fun s => s.keyBindSa (min r 2))

/-- KEY_CMD BIND SUB 1. -/
def doBindImage (r : Nat) (s : State) : State := s.keyCmd (min r 2) 6 (fun s => s.keyBindImage (min r 2))

/-- KEY_CMD INVALIDATE. -/
def doInvalidate (r : Nat) (s : State) : State := s.keyCmd (min r 2) 7 (fun s => s.keyInvalidate (min r 2))

/-- KEY_CMD INFO. -/
def doInfo (r : Nat) (s : State) : State := s.keyCmd (min r 2) 8 (fun s => s.keyInfo (min r 2))

/-- KEY_CMD AUTHORIZE SUB 0. -/
def doAuthorizeChallenge (r : Nat) (s : State) : State :=
  s.keyCmd (min r 2) 9 (fun s => s.keyChallenge (min r 2))

/-- KEY_CMD AUTHORIZE SUB 1. -/
def doAuthorizeToken (r : Nat) (s : State) : State := s.keyCmd (min r 2) 9 (fun s => s.keyToken (min r 2))

/-- KEY_CMD ATTEST SUB 0. -/
def doAttestStatement (r : Nat) (s : State) : State :=
  s.keyCmd (min r 2) 0xA (fun s => s.keyAttest (min r 2))

/-- KEY_CMD ATTEST SUB 1. -/
def doAttestPublicKeys (r : Nat) (s : State) : State :=
  s.keyCmd (min r 2) 0xA (fun s => s.keyPublic (min r 2))

/-! ### The reclaim sweep (R260, R274) -/

/-- Clear every SA bound to slot `i`, as a WRITE with VALID = 0 does (R274). -/
def State.clearSas (s : State) (i : Nat) : State :=
  (s.entriesOf tSa).foldl (fun s e =>
    if bit e.2 1 && ew e.2 0 4 10 == i then s.writeEntry tSa e.1 0 else s) s

/-- One pass: every orphaned slot is freed, in ascending order; answers the slots freed. -/
def State.sweepPass (s : State) : List Nat × State :=
  (s.key.slots.map (·.1)).foldl (fun (a : List Nat × State) i =>
    let k := a.2.slot i
    if k.state = 1 ∧ a.2.orphan i then (i :: a.1, a.2.setSlot i (freed k (k.gen + 1))) else a) ([], s)

/-- Passes until one frees nothing; `fuel` bounds their number. -/
def State.sweepAll : Nat → List Nat × State → List Nat × State
  | 0, a => a
  | fuel + 1, (l, s) =>
    match s.sweepPass with
    | ([], s) => (l, s)
    | (m, s) => sweepAll fuel (m ++ l, s)

/-- The whole sweep of invalidated slot `i`. -/
def State.reclaim (s : State) (i : Nat) : State :=
  let (l, s) := State.sweepAll (s.key.slots.length + 1) ([], s)
  let s := (l ++ [i]).foldl State.clearSas s
  s.setSlot i (freed (s.slot i) (s.slot i).gen)

/-- RECLAIM_SWEEP_DONE: the sweep of the oldest invalidated slot ends (DEDUCED, log 91). -/
def doReclaimSweepDone (s : State) : State :=
  match s.key.sweeps with
  | [] => s
  | i :: rest =>
    let s := ({ s with key := { s.key with sweeps := rest } }).reclaim i
    (s.setB F.KEY_STORE_STAT_SWEEP (!rest.isEmpty)).postFree 0x24 2

/-! ### Start, health and tamper (R255, R256, R261, R266, R270, R271) -/

/-- Free the EXPIRE_RESET slots as though invalidated (R261): an active one is invalidated, and the sweep of one that is
INVALIDATING already completes. -/
def State.expireSlots (s : State) : State :=
  (s.key.slots.filter (fun e => e.2.expire && e.2.state != 0)).foldl (fun s e =>
    let k := s.slot e.1
    let s := if k.state = 1 then s.setSlot e.1 { k with state := 2, gen := (k.gen + 1) % 2 ^ 16 } else s
    if k.state = 0 then s
    else ({ s with key := { s.key with sweeps := s.key.sweeps.filter (· != e.1) } }).reclaim e.1) s

/-- Every slot under the other mask, one journal group per slot (R271). -/
def State.otherMask (s : State) : State :=
  let sel := 1 - min 1 s.key.maskNow
  { s with key := { s.key with
    maskNow := sel
    slots := (s.key.slots.map (fun e => (e.1, { e.2 with maskSel := sel }))).filter (fun e => e.2 != { maskSel := sel }) } }

/-- Put every slot under a new mask from the DRBG (R271); without DRBG output every slot keeps its mask (R266). -/
def State.remask (s : State) : State :=
  if !s.isF F.GLB_KEY_SLOTS_SCRAMBLE || s.isF F.KEY_STORE_STAT_DRBG_FAIL then s
  else
    let n := s.key.drawn
    let s := s.draw.2.otherMask
    { s with key := { s.key with
      maskA := if s.key.maskNow = 0 then n else s.key.maskA
      maskB := if s.key.maskNow = 0 then s.key.maskB else n } }

/-- The key store takes over what it finds in VBATK (R270, R271): slots, journal, and a pass that was cut short, which it
finishes with the masks held there. -/
def State.takeFound (s : State) (f : KeyFound) : State :=
  let s := (f.slots.filter (fun e => s.slotThere e.1)).foldl (fun s e => s.putSlot e.1 e.2) s
  let s := match f.journal with
    | some j => { s with key := { s.key with journal := j } }
    | none => s
  let s := s.examineJournal
  if f.pass && s.isF F.GLB_KEY_SLOTS_SCRAMBLE then s.otherMask else s

/-- Sweeps that go on: the ones known, then any other slot that is INVALIDATING, in ascending order (R260). -/
def State.resumeSweeps (s : State) : State :=
  let open_ := s.key.sweeps.filter (fun i => (s.slot i).state == 2)
  let more := (s.key.slots.filter (fun e => e.2.state == 2 && !open_.contains e.1)).map (·.1)
  { s with key := { s.key with sweeps := open_ ++ more } }

/-- KEY_STORE_READY: the start of the key store ends (R255, R261, R270, R271); `found` is what it finds in VBATK after an
interrupted command. Without DRBG output an empty VBATK keeps READY at 0 (R266). -/
def doKeyStoreReady (found : KeyFound) (s : State) : State :=
  if s.isF F.KEY_STORE_STAT_READY || s.key.tamperHold || decide (s.getF F.GLB_RST_STAT_STAGE < 5) then s
  else if s.key.root.isNone && s.isF F.KEY_STORE_STAT_DRBG_FAIL then s
  else
    let s := match s.key.root with
      | some _ => s.takeFound found
      | none =>
        let (k, s) := s.draw
        { s.setF F.KEY_ARC_ARC 0 with key := { s.key with root := some k, slots := [], journal := {}, sweeps := [] } }
    let s := (s.resumeSweeps.expireSlots.remask).countFree
    (s.setB F.KEY_STORE_STAT_SWEEP (!s.key.sweeps.isEmpty)).setB F.KEY_STORE_STAT_READY true

/-- DRBG_HEALTH_FAIL (R266). -/
def doDrbgHealthFail (s : State) : State := s.setB F.KEY_STORE_STAT_DRBG_FAIL true

/-- Empty the VBATK domain: its contents (R254) and every field that it holds (R11), with no sweep left to run; the choice of
the always-on clock is the always-on domain's own (R443). -/
def State.zeroVbatk (s : State) : State :=
  let s := { s with regs := s.regs.filter (fun e =>
    fieldReach e.1 != Reach.battery || e.1 == F.GLB_CLK_STAT_AON_XTAL.key) }
  (({ s with key := { s.key with
    root := none, slots := [], journal := {}, maskNow := 0, maskA := 0, maskB := 0, sweeps := [] } }).setB
      F.KEY_STORE_STAT_SWEEP false).countFree

/-- A tamper detection (R256): source 0 TAMPER_N, 1 VBATK voltage, 2 temperature, 3 always-on clock, 4 shield
mesh (on a die that has one). TAMPER_N counts only while enabled. BKP_TAMPER lies in the VBATK domain, so the zeroing clears
its older causes before the new one is written (R11, R323). -/
def State.tamper (s : State) (src : Nat) : State :=
  if (src = 0 ∧ !s.isF F.KEY_STORE_STAT_TAMPER_N_EN) ∨ (src = 4 ∧ !s.key.mesh) then s
  else
    let s := s.zeroVbatk.orF F.BKP_TAMPER_CAUSE src
    if s.getF F.GLB_RST_STAT_STAGE < 2 then s
    else
      let s := (s.entriesOf tSa).foldl (fun s e =>
        s.putEntry tSa e.1 (setEw (setEw e.2 0 1 1 0) 0 4 10 0)) s
      let s := { s with key := { s.key with tamperHold := true } }
      (s.setB F.KEY_STORE_STAT_READY false).postFree 0x24 1

/-! ### Meanings of the commands -/

/-- Meaning of KEY_NOP (R264). -/
def execKeyNop (req : Nat) (s : State) : Host.Outcome State Fault Refusal := .next (doKeyNop req s)

/-- Meaning of GENERATE (R264). -/
def execGenerate (req : Nat) (s : State) : Host.Outcome State Fault Refusal := .next (doGenerate req s)

/-- Meaning of DERIVE (R267). -/
def execDerive (req : Nat) (s : State) : Host.Outcome State Fault Refusal := .next (doDerive req s)

/-- Meaning of IMPORT_WRAPPED (R268). -/
def execImportWrapped (req : Nat) (s : State) : Host.Outcome State Fault Refusal :=
  .next (doImportWrapped req s)

/-- Meaning of EXPORT_WRAPPED (R268). -/
def execExportWrapped (req : Nat) (s : State) : Host.Outcome State Fault Refusal :=
  .next (doExportWrapped req s)

/-- Meaning of KEY_MAC (R264). -/
def execKeyMac (req sub : Nat) (s : State) : Host.Outcome State Fault Refusal := .next (doKeyMac req sub s)

/-- Meaning of BIND_SA (R273). -/
def execBindSa (req : Nat) (s : State) : Host.Outcome State Fault Refusal := .next (doBindSa req s)

/-- Meaning of BIND_IMAGE (R338). -/
def execBindImage (req : Nat) (s : State) : Host.Outcome State Fault Refusal := .next (doBindImage req s)

/-- Meaning of INVALIDATE (R260). -/
def execInvalidate (req : Nat) (s : State) : Host.Outcome State Fault Refusal := .next (doInvalidate req s)

/-- Meaning of INFO (R264). -/
def execInfo (req : Nat) (s : State) : Host.Outcome State Fault Refusal := .next (doInfo req s)

/-- Meaning of AUTHORIZE_CHALLENGE (R278). -/
def execAuthorizeChallenge (req : Nat) (s : State) : Host.Outcome State Fault Refusal :=
  .next (doAuthorizeChallenge req s)

/-- Meaning of AUTHORIZE_TOKEN (R278). -/
def execAuthorizeToken (req : Nat) (s : State) : Host.Outcome State Fault Refusal :=
  .next (doAuthorizeToken req s)

/-- Meaning of ATTEST_STATEMENT (R280). -/
def execAttestStatement (req : Nat) (s : State) : Host.Outcome State Fault Refusal :=
  .next (doAttestStatement req s)

/-- Meaning of ATTEST_PUBLIC_KEYS (R279). -/
def execAttestPublicKeys (req : Nat) (s : State) : Host.Outcome State Fault Refusal :=
  .next (doAttestPublicKeys req s)

/-- Meaning of RECLAIM_SWEEP_DONE (R260). -/
def execReclaimSweepDone (s : State) : Host.Outcome State Fault Refusal := .next (doReclaimSweepDone s)

/-- Meaning of KEY_STORE_READY (R271). -/
def execKeyStoreReady (found : KeyFound) (s : State) : Host.Outcome State Fault Refusal :=
  .next (doKeyStoreReady found s)

/-- Meaning of DRBG_HEALTH_FAIL (R266). -/
def execDrbgHealthFail (s : State) : Host.Outcome State Fault Refusal := .next (doDrbgHealthFail s)

end Sys2Proof.Machine
end

