-- ==== Sys2Proof/Machine/Test.lean ====
section
/-! DEFINITION. Test, pattern checking and the trace recorder (R402 to R427): lane checkers, rod test counters,
the TAP, LPDDR5 training and memory test, tally snapshots, and the trace recorder. -/

namespace Sys2Proof.Machine

/-! ### LPDDR5 (R33, R334, R412, R413) -/

/-- The LPDDR5 device is trained, in service and not in self-refresh (R7, R384). -/
def State.ddrUp (s : State) : Bool :=
  s.isF F.MEM_STAT_PRESENT && s.isF F.MEM_STAT_TRAINED && !s.isF F.MEM_STAT_FAILED && !s.pwr.ddrSelf

/-- Bytes of the LPDDR5 device present. -/
def State.ddrBytes (s : State) : Nat :=
  if s.isF F.MEM_STAT_PRESENT then s.getF F.MEM_STAT_SIZE * 2 ^ 30 else 0

/-- Lengths in bytes of the staging area, the identifier overflow area and the carry table extension, in
the order in which they are placed (R334); an unavailable area takes no room (DEDUCED, log 53). -/
def State.ddrAreas (s : State) : Nat × Nat × Nat :=
  let on := b2n (s.isF F.CRY_CFG_EXT_OK)
  (s.boot.stageMib * 2 ^ 20, on * (s.dp.ovfSize * entryBytes tRodOverflow),
    on * (s.getF F.CRY_CFG_EXT_SIZE * entryBytes tCarry))

/-- Offset of the trace region: what remains after the areas, from a whole MiB on (DEDUCED, log 53). -/
def State.traceBase (s : State) : Nat :=
  let (a, b, c) := s.ddrAreas
  s.ddrBytes - s.getF F.TRC_REGION_SIZE * 2 ^ 20 |> max (a + b + c)

/-- What a byte of the LPDDR5 device reads as that nothing has written (DESIGN CHOICE, log 50). -/
def Memory.unwritten (_a : Nat) : Byte := 0

/-- The canonical form of memory: addresses strictly rising, and no entry equal to an unwritten byte
(DESIGN CHOICE, log 50). -/
def Memory.wf (m : List Host.Cell) : Bool := swf Memory.unwritten m

/-- A byte of the LPDDR5 device (DESIGN CHOICE, log 50). -/
def State.ddrByte (s : State) (a : Nat) : Nat := (sget Memory.unwritten s.ddr a).toNat

/-- Write one byte of the LPDDR5 device. -/
def State.setDdr (s : State) (a v : Nat) : State :=
  { s with ddr := sput Memory.unwritten s.ddr a (BitVec.ofNat 8 v) }

/-- Write bytes from address `a` on. -/
def State.writeDdr (s : State) : Nat → List Byte → State
  | _, [] => s
  | a, b :: bs => (s.setDdr a b.toNat).writeDdr (a + 1) bs

/-! ### The trace recorder (R419 to R425) -/

/-- Items that wait for the recorder are released: they are not recorded (log 52). -/
def State.dropTrace (s : State) : State :=
  s.forN 8 (fun c s => ((s.queue 35 c).foldl (fun s r => s.release r.item) s).setQueue 35 c [])

/-- Capture stops: STATE IDLE with its cause (R424, R425) (DEDUCED, log 52). -/
def State.stopTrace (s : State) (cause : Nat) : State :=
  if s.getF F.TRC_STAT_STATE = 0 then s
  else ((s.setF F.TRC_STAT_STATE 0).setF F.TRC_STAT_STOP_CAUSE cause).dropTrace

/-- Setting EN: IDLE becomes CAPTURING where there is a region to write to (R424, R7). -/
def State.startTrace (s : State) : State :=
  let s := s.setB F.TRC_CTL_EN true
  if s.getF F.TRC_STAT_STATE = 0 ∧ s.ddrUp ∧ s.getF F.TRC_REGION_SIZE ≠ 0 then
    (s.setF F.TRC_STAT_STATE 1).setF F.TRC_STAT_STOP_CAUSE 0
  else s

/-- The recorder freezes (R424). -/
def State.freezeTrace (s : State) : State :=
  ((s.setF F.TRC_STAT_STATE 3).setF F.TRC_STAT_STOP_CAUSE 2).dropTrace.postFree 0x30 4

/-- Offset of the next record, and storing it. -/
def State.wrPtr (s : State) : Nat := s.getF F.TRC_WR_PTR_LO_PTR + s.getF F.TRC_WR_PTR_HI_PTR * 2 ^ 32
def State.setWrPtr (s : State) (p : Nat) : State :=
  (s.setF F.TRC_WR_PTR_LO_PTR (p % 2 ^ 32)).setF F.TRC_WR_PTR_HI_PTR (p / 2 ^ 32)
def State.trigPtr (s : State) : Nat := s.getF F.TRC_TRIG_PTR_LO_PTR + s.getF F.TRC_TRIG_PTR_HI_PTR * 2 ^ 32

/-- Kind of a trace record (Table 16.7). -/
def traceKind (it : Item) : Nat := if !it.isRod then 0 else if it.lctx.isSome then 2 else 1

/-- Header of a trace record (Table 16.7) (DESIGN CHOICE, log 51). -/
def traceHeader (it : Item) (r : QRef) (cap : Nat) : List Byte :=
  let w2 := it.ingress % 256 + traceKind it * 2 ^ 8 + r.op % 16 * 2 ^ 12 + r.rank % 256 * 2 ^ 16
    + r.reason % 256 * 2 ^ 24
  let ix (o : Option Nat) : Nat := match o with
    | some i => i % 2 ^ 13 + 2 ^ 13
    | none => 0
  let route := match r.carry with
    | some (c, _, _) => c % 2 ^ 16
    | none => 0
  leBytes 4 r.traceSeq ++ leBytes 2 cap ++ leBytes 2 it.len ++ leBytes 4 w2
    ++ leBytes 4 (ix r.rule + ix r.stream * 2 ^ 16) ++ leBytes 4 (tNs it.t) ++ leBytes 4 (tSec it.t % 2 ^ 32)
    ++ leBytes 2 (tSec it.t / 2 ^ 32) ++ leBytes 2 (tFrac it.t) ++ leBytes 4 route

/-- Triggers of KIND 2 that a record fires, lowest first (R423). -/
def State.recordTriggers (s : State) (r : QRef) : List Nat :=
  (List.range 4).filter (fun k => s.getF (F.TRC_TRIG_W0_KIND k) == 2
    && (r.reason &&& s.getF (F.TRC_TRIG_W0_BLOCK k)) != 0
    && (!s.isF (F.TRC_TRIG_W1_RULE_EN k) || r.rule == some (s.getF (F.TRC_TRIG_W1_RULE k))))

/-- The POST amount has been written (R424). -/
def State.postDone (s : State) : Bool :=
  s.getF F.TRC_STAT_STATE == 2 && decide (s.getF F.TRC_POST_POST * 2 ^ 20 ≤ s.trcPost)

/-- The offsets `[lo, hi)` hold the record at TRIG_PTR, and records have been written since (R424). -/
def State.overTrig (s : State) (lo hi : Nat) : Bool :=
  s.getF F.TRC_STAT_STATE == 2 && decide (0 < s.trcPost) && decide (lo ≤ s.trigPtr) && decide (s.trigPtr < hi)

/-- Write a pad record of KIND 3 up to the end of the region and wrap (R421); beside KIND its header and its
body are free values (log 51). -/
def State.padTrace (s : State) (size : Nat) : State :=
  let p := s.wrPtr
  let (n, s) := s.fresh
  let (m, s) := s.fresh
  let head := leBytes 8 (Config.free n).toNat ++ [BitVec.ofNat 8 0, BitVec.ofNat 8 3]
    ++ leBytes 8 (Config.free m).toNat
  let s := s.writeDdr (s.traceBase + p) head
  (({ s with trcPost := s.trcPost + (size - p) }).setWrPtr 0).setB F.TRC_STAT_WRAPPED true

/-- TRACE_RECORD_WRITE (R181, R420 to R424): the oldest item of the highest class of port 35 that holds one becomes a
record; `full` says that it
exceeds TRACE_LEAN while governor level 1 or higher caps the rate. -/
def doTraceRecordWrite (full : Bool) (s : State) : State :=
  let st := s.getF F.TRC_STAT_STATE
  if !(st == 1 || st == 2) || !s.ddrUp then s
  else if s.postDone then s.freezeTrace
  else match s.traceHead with
  | none => s
  | some (c, r) =>
    let rest := (s.queue 35 c).drop 1
    match s.item r.item with
    | none => s.setQueue 35 c rest
    | some it =>
      let level := s.getF F.PWR_THERM_STAT_LEVEL
      if !it.complete then s
      else if it.bad then ((s.setQueue 35 c rest).release r.item).tally (T.buf 35 5)
      else if level = 4 ∨ (1 ≤ level ∧ full) then
        ((s.setQueue 35 c rest).release r.item).tally (T.trc 2)
      else
        let cap := min it.len (s.getF F.TRC_SNAPLEN_SNAPLEN)
        let total := 32 + ceilDiv cap 32 * 32
        let size := s.getF F.TRC_REGION_SIZE * 2 ^ 20
        let p := s.wrPtr
        let wrap := decide (size < p + total)
        if (if wrap then s.overTrig p size || s.overTrig 0 total else s.overTrig p (p + total)) then
          s.freezeTrace
        else
          let s := if wrap then s.padTrace size else s
          let p := s.wrPtr
          let s := s.writeDdr (s.traceBase + p) (padTo total (traceHeader it r cap ++ it.bytes.take cap))
          let s := { (s.setWrPtr ((p + total) % size)).tally (T.trc 0) with trcPost := s.trcPost + total }
          let s := if p + total = size then s.setB F.TRC_STAT_WRAPPED true else s
          let s := (s.setQueue 35 c rest).release r.item
          let s := (s.recordTriggers r).foldl State.fireTrigger s
          if s.postDone then s.freezeTrace else s

/-- FREEZE_NOW (R423). -/
def State.freezeNow (s : State) : State := s.fireTrigger 4

/-- FREEZE_NOW: a write of 1 to TRC_CTL.FREEZE_NOW. -/
def doFreezeNow (s : State) : State := s.busGate State.freezeNow

/-- ARM: FROZEN becomes CAPTURING (R424). -/
def State.armTrace (s : State) : State :=
  if s.getF F.TRC_STAT_STATE = 3 then (s.setF F.TRC_STAT_STATE 1).setF F.TRC_STAT_STOP_CAUSE 0 else s

/-- TRC_ARM: a write of 1 to TRC_CTL.ARM. -/
def doTrcArm (s : State) : State := s.busGate State.armTrace

/-- Writing TRC_CTL.EN (R424). -/
def State.trcEn (s : State) (on : Bool) : State :=
  if on then s.startTrace else (s.setB F.TRC_CTL_EN false).stopTrace 1

/-- A write of TRC_CTL (R423, R424): EN is stored, then ARM and FREEZE_NOW act. -/
def State.storeTrcCtl (s : State) (v : Nat) : State :=
  let s := s.trcEn (bit v 0)
  let s := if bit v 1 then s.armTrace else s
  if bit v 2 then s.freezeNow else s

/-- TRC_ENABLE: a write that sets or clears TRC_CTL.EN. -/
def doTrcEnable (on : Bool) (s : State) : State := s.busGate (fun s => s.trcEn on)

/-! ### LPDDR5 training (R412, R413) -/

/-- The LPDDR5 device is lost: trace capture stops, the overflow tables are unavailable and MEM_FAIL is
posted. -/
def State.ddrFail (s : State) (cause : Nat) : State :=
  let s := s.setF F.MEM_STAT_CAUSE cause
  ((s.stopTrace 4).setB F.CRY_CFG_EXT_OK false).postFree 0x30 1

/-- LPDDR5_TRAINED (R412): result 0 trained, 1 no answer, 2 failed on three attempts; the size in GiB that
the mode registers name. It ends a training that stage 5 after a reset of chip reach, or the leaving of
STANDBY, has begun. -/
def doLpddr5Trained (result size : Nat) (s : State) : State :=
  let stage := s.getF F.GLB_RST_STAT_STAGE
  if stage < 5 ∨ s.isF F.MEM_STAT_TRAINED ∨ s.getF F.MEM_STAT_CAUSE ≠ 0 then s
  else if result = 0 then
    ((s.setB F.MEM_STAT_PRESENT true).setB F.MEM_STAT_TRAINED true).setF F.MEM_STAT_SIZE (min 8 size)
  else if result = 1 then (s.setB F.MEM_STAT_PRESENT false).ddrFail 1
  else (((s.setB F.MEM_STAT_PRESENT true).setF F.MEM_STAT_SIZE (min 8 size)).setB F.MEM_STAT_FAILED true).ddrFail 2

/-- LPDDR5_RETRAIN (R413): a retrain ends; the third failure in a row marks LPDDR5 failed. -/
def doLpddr5Retrain (ok : Bool) (s : State) : State :=
  if !s.ddrUp then s
  else if ok then { s with ddrFails := 0 }
  else if s.ddrFails < 2 then { s with ddrFails := s.ddrFails + 1 }
  else ({ s with ddrFails := 0 }.setB F.MEM_STAT_FAILED true).ddrFail 3

/-! ### Memory test (R414) -/

/-- Two byte ranges `[a, a + n)` and `[b, b + m)` overlap. -/
def overlap (a n b m : Nat) : Bool := decide (a < b + m) && decide (b < a + n) && n != 0 && m != 0

/-- The range of a test meets an area that is in use (DEDUCED, log 56). -/
def State.testMeets (s : State) (lo n : Nat) : Bool :=
  let (a, b, c) := s.ddrAreas
  let st := s.getF F.TRC_STAT_STATE
  let upd := s.getF F.UPD_STAT_STATE
  ((st == 1 || st == 2) && overlap lo n s.traceBase (s.getF F.TRC_REGION_SIZE * 2 ^ 20))
    || (decide (1 ≤ upd) && decide (upd ≤ 4) && overlap lo n 0 a)
    || (s.isF F.CRY_CFG_EXT_OK && overlap lo n a (b + c))

/-- The contents of a range while and after a test destroys them, where the test has not ended: free
values (DESIGN CHOICE, log 55). -/
def State.destroy (s : State) (lo n : Nat) : State :=
  let c := s.freeCtr
  let s := s.forN n (fun i s => s.setDdr (lo + i) (Config.free (c + i)).toNat)
  { s with freeCtr := c + n }

/-- A MEM_TEST_CMD write: BUSY discards it, STATUS keeps describing the running test (R473)
(DESIGN CHOICE, log 55). -/
def State.memTestRun (s : State) (alg : Nat) : State :=
  let start := s.getF F.MEM_TEST_START_START
  let len := s.getF F.MEM_TEST_LEN_LEN
  let alg := min alg 2
  if s.isF F.MEM_TEST_STAT_BUSY then s
  else if !s.isF F.MEM_STAT_PRESENT || s.isF F.MEM_STAT_FAILED
      || decide (s.ddrBytes < (start + len) * 65536) then s.setF F.MEM_TEST_STAT_STATUS stNotFound
  else if s.testMeets (start * 65536) (len * 65536) then s.setF F.MEM_TEST_STAT_STATUS stReject
  else
    let s := (s.setB F.MEM_TEST_STAT_BUSY true).setF F.MEM_TEST_STAT_FAILS 0
    let s := (s.setF F.MEM_TEST_FAIL_LO_ADDR 0).setF F.MEM_TEST_FAIL_HI_ADDR 0
    { s.destroy (start * 65536) (len * 65536) with
      memTest := some (alg, start, len, s.getF F.MEM_TEST_PAT_PAT) }

/-- ABORT: a running test stops at the next word and returns OK. -/
def State.memTestAbort (s : State) : State :=
  { (s.setB F.MEM_TEST_STAT_BUSY false).setF F.MEM_TEST_STAT_STATUS stOk with memTest := none }

/-- MEM_TEST_NOP. -/
def doMemTestNop (s : State) : State := s.busGate id

/-- MEM_TEST_RUN with algorithm `alg`; 3 acts as 2 (R14). -/
def doMemTestRun (alg : Nat) (s : State) : State := s.busGate (fun s => s.memTestRun alg)

/-- MEM_TEST_ABORT. -/
def doMemTestAbort (s : State) : State := s.busGate State.memTestAbort

/-- What a completed test leaves in 32-bit word `w` of the device: March C− ends on zeros, address in
address leaves the byte address, fill leaves the pattern. -/
def testWord (alg pat w : Nat) : Nat := if alg = 0 then 0 else if alg = 1 then w * 4 % 2 ^ 32 else pat

/-- MEM_TEST_DONE (R414): `fails` names the byte addresses of the failing words, first one first; what such a word holds
is a free value
(DESIGN CHOICE, log 55) (DEDUCED, log 56). -/
def doMemTestDone (fails : List Nat) (s : State) : State :=
  match s.memTest with
  | none => s
  | some (alg, start, len, pat) =>
    let s := s.forN (len * 16384) (fun i s =>
      let w := start * 16384 + i
      s.writeDdr (w * 4) (leBytes 4 (testWord alg pat w)))
    let s := fails.foldl (fun s a => s.destroy (a / 4 * 4) 4) s
    let s := (s.setB F.MEM_TEST_STAT_BUSY false).setF F.MEM_TEST_STAT_FAILS (min 0xFFFF fails.length)
    let s := match fails with
      | [] => s.setF F.MEM_TEST_STAT_STATUS stOk
      | a :: _ => ((s.setF F.MEM_TEST_STAT_STATUS stIntegrity).setF F.MEM_TEST_FAIL_LO_ADDR a).setF
          F.MEM_TEST_FAIL_HI_ADDR (a / 2 ^ 32)
    ({ s with memTest := none }).postFree 0x30 2

/-! ### Lane and rod tests (R402 to R407) -/

/-- Lane `l` runs its checker: the port is there and held down neither by RUN-LEAN nor by its PHY. -/
def State.laneChecks (s : State) (l : Nat) : Bool :=
  decide (l < 16) && s.ethPresent l && s.getF (F.TST_LANE_CFG_CHK_PAT l) != 0 && !bit s.pwr.leanPorts l

/-- Taps of the PRBS patterns (Table 16.1). -/
def prbsTaps (pat : Nat) : Nat × Nat :=
  match pat with
  | 1 => (7, 6)
  | 2 => (9, 5)
  | 3 => (15, 14)
  | 4 => (23, 18)
  | _ => (31, 28)

/-- Bit `i` of the square wave, and of the user pattern, from its start (Table 16.1). -/
def squareBit (sq i : Nat) : Bool := decide (i % (2 * sq) < sq)
def userBit (user i : Nat) : Bool := bit user (i % 64)

/-- `bits` are consecutive bits of a pattern (Table 16.1), from any place of it on: of a PRBS each one follows from the
bits before, which seed it, and its all-zero run is no part of it. -/
def isPattern (pat sq user : Nat) (bits : List Bool) : Bool :=
  let at_ (i : Nat) := bits.getD i false
  let idx := List.range bits.length
  if pat = 6 then (List.range (2 * sq)).any (fun k => idx.all (fun i => at_ i == squareBit sq (k + i)))
  else if pat = 7 then (List.range 64).any (fun k => idx.all (fun i => at_ i == userBit user (k + i)))
  else
    let (a, b) := prbsTaps pat
    (bits.take a).any id && idx.all (fun i => decide (i < a) || at_ i == xor (at_ (i - a)) (at_ (i - b)))

/-- The next `n` bits of a PRBS after `w`, newest first. -/
def prbsRun (a b : Nat) : Nat → List Bool → List Bool
  | 0, w => w
  | n + 1, w => prbsRun a b n (xor (w.getD (a - 1) false) (w.getD (b - 1) false) :: w)

/-- `n` bits of a pattern as a generator sends them, a PRBS from a seed of ones (Table 16.1). -/
def patternBits (pat sq user n : Nat) : List Bool :=
  if pat = 6 then (List.range n).map (squareBit sq)
  else if pat = 7 then (List.range n).map (userBit user)
  else
    let (a, b) := prbsTaps pat
    ((prbsRun a b (n - a) (List.replicate a true)).reverse).take n

/-- SQ_HALF and the user pattern of a lane. -/
def State.laneShape (s : State) (l : Nat) : Nat × Nat :=
  (s.getF (F.TST_LANE_CFG_SQ_HALF l),
    s.getF (F.TST_LANE_USER_LO_USER l) + s.getF (F.TST_LANE_USER_HI_USER l) * 2 ^ 32)

/-- What the checker of a lane receives (Table 16.2): with a near-end loopback what the lane's own generator sends, if it
is on, otherwise what arrives; INV inverts what is sent and what is expected (R402). -/
def State.laneReceives (s : State) (l : Nat) (bits : List Bool) : List Bool :=
  let loop := s.getF (F.TST_LANE_CFG_LOOP l)
  let gen := s.getF (F.TST_LANE_CFG_GEN_PAT l)
  if (loop = 1 ∨ loop = 2) ∧ gen ≠ 0 then patternBits gen (s.laneShape l).1 (s.laneShape l).2 64
  else if s.isF (F.TST_LANE_CFG_INV l) then bits.map not else bits

/-- CHECKER_LOCK (R403): the checker locks when the latest 64 bits that it has received match its pattern. -/
def doCheckerLock (l : Nat) (bits : List Bool) (s : State) : State :=
  let got := s.laneReceives l bits
  if s.laneChecks l && !s.isF (F.TST_LANE_STAT_LOCK l) && decide (64 ≤ got.length)
      && isPattern (s.getF (F.TST_LANE_CFG_CHK_PAT l)) (s.laneShape l).1 (s.laneShape l).2 (got.drop (got.length - 64)) then
    { s.setB (F.TST_LANE_STAT_LOCK l) true with laneMiss := sput (fun _ => []) s.laneMiss l [] }
  else s

/-- 16 of the mismatches, newest first, lie among 1,024 consecutive bits (R403). -/
def lockLost (miss : List Nat) : Bool := miss.length == 16 && decide (miss.getD 0 0 < miss.getD 15 0 + 1024)

/-- A locked checker sees a mismatched bit, `at_` bits after its lock began: ERR counts it, and the lock ends with 16 in
1,024 (R403). -/
def State.laneMismatch (l : Nat) (s : State) (at_ : Nat) : State :=
  if !s.isF (F.TST_LANE_STAT_LOCK l) then s
  else
    let miss := (at_ :: sget (fun _ => []) s.laneMiss l).take 16
    let s := s.satF (F.TST_LANE_ERR_ERR l) 1
    if lockLost miss then
      { (s.satF (F.TST_LANE_STAT_LOSS l) 1).setB (F.TST_LANE_STAT_LOCK l) false with
        laneMiss := sput (fun _ => []) s.laneMiss l [] }
    else { s with laneMiss := sput (fun _ => []) s.laneMiss l miss }

/-- CHECKER_LOCK_LOSS (R403): the mismatched bits of a locked checker, in order, each by its distance from the beginning
of the lock, which they end when 16 lie in 1,024 bits (DESIGN CHOICE, log 123). -/
def doCheckerLockLoss (l : Nat) (errs : List Nat) (s : State) : State :=
  if s.laneChecks l then errs.foldl (State.laneMismatch l) s else s

/-- The counters of a lane return to 0. -/
def State.clearLane (s : State) (l : Nat) : State :=
  let s := ((s.setF (F.TST_LANE_ERR_ERR l) 0).setF (F.TST_LANE_BITS_LO_BITS l) 0).setF (F.TST_LANE_BITS_HI_BITS l) 0
  { s.setF (F.TST_LANE_STAT_LOSS l) 0 with laneFrac := sput (fun _ => 0) s.laneFrac l 0 }

/-- TST_LANE_CLR: a write of CLR to TST_LANE_CFG[l]. -/
def doTstLaneClr (l : Nat) (s : State) : State :=
  s.busGate (fun s => if l < 16 ∧ s.ethPresent l then s.clearLane l else s)

/-- The test counters of a rod return to 0. -/
def State.clearRodTest (s : State) (n : Nat) : State :=
  ((s.setF (F.TST_ROD_CNT_GOOD n) 0).setF (F.TST_ROD_CNT_BAD n) 0).setF (F.TST_ROD_MISS_MISSED n) 0

/-- TST_ROD_CLR: a write of CLR to TST_ROD_MISS[n]. -/
def doTstRodClr (n : Nat) (s : State) : State :=
  s.busGate (fun s => if s.rodPresent n then s.clearRodTest n else s)

/-! ### JTAG (R409 to R411) -/

/-- Instructions of Table 16.4; every other code is BYPASS. -/
def tapCodes : List Nat := [0, 1, 2, 3, 4, 5, 6, 0x20, 0x21]

/-- Instructions that are available only while PORST_N is low. -/
def tapResetOnly : List Nat := [0, 3, 4, 5, 6]

/-- Load an instruction: one that is available in reset only is refused while PORST_N is high. -/
def State.tapLoad (s : State) (code : Nat) : State :=
  let code := if tapCodes.contains code then code else 0xFF
  if tapResetOnly.contains code && !s.boot.porst then
    { s with boot := { s.boot with tapIr := 0xFF, scanRefused := true } }
  else { s with boot := { s.boot with tapIr := code } }

/-- IDCODE (R410): die revision, part number, manufacturer code and 1. -/
def State.idcode (s : State) : Nat :=
  (if s.isF F.GLB_LOAD_STAT_LOAD_DONE then
    s.getF F.GLB_ID_DIE_REV % 16 * 2 ^ 28 + s.getF F.GLB_ID_PART % 2 ^ 16 * 2 ^ 12 else 0) + 0x2B9 * 2 + 1

/-- The KLM_STATUS register (Table 16.4): its fields in the table's order from bit 0 on (DESIGN CHOICE, log 124). -/
def State.klmStatus (s : State) : Nat :=
  s.regWord 0x110 % 2 ^ 5 + s.getF F.GLB_RST_STAT_STAGE * 2 ^ 5 + s.regWord 0x400000 * 2 ^ 9
    + s.getF F.GLB_BOOT_STAT_STEP * 2 ^ 41 + s.getF F.GLB_BOOT_STAT_RESULT * 2 ^ 45 + b2n s.boot.scanRefused * 2 ^ 49

/-- Cells of the boundary register (Table 16.4). -/
def bsrCells : Nat := 1688

/-- The instructions that place the boundary register between TDI and TDO, and those under which its cells drive the
balls (Table 16.4, R411). -/
def tapBoundary : List Nat := [0, 1, 5, 6]
def tapDrives : List Nat := [0, 3, 5, 6]

/-- The ball of boundary cell `j` belongs to a unit that is not fused off (R411). -/
def State.cellThere (s : State) (j : Nat) : Bool :=
  let b := Config.bsrBall j
  if b < 32 then bit (s.getF F.GLB_PRESENT_PORT_PORTS) b
  else if 64 ≤ b ∧ b < 192 then bit (s.getF (F.GLB_PRESENT_ROD_RODS ((b - 64) / 32))) ((b - 64) % 32)
  else true

/-- The bits of `v` at the cells that are there: those of fused-off units capture 0, and their update has no effect
(R411). -/
def State.cellsOf (s : State) (v : Nat) : Nat :=
  (List.range bsrCells).foldl (fun n j => if s.cellThere j && bit v j then n + 2 ^ j else n) 0

/-- What boundary cell `j` drives its ball at, where the instruction makes it drive (R411). -/
def State.cellDrives (s : State) (j : Nat) : Option Bool :=
  if tapDrives.contains s.boot.tapIr && decide (j < bsrCells) && s.cellThere j then some (bit s.boot.bsr j) else none

/-- Level of the ball BYP_CTL `k`: under EXTEST that of its boundary cell (R364, R411). -/
def State.bypBall (s : State) (k : Nat) : Bool :=
  let own := bit (s.getF F.RNG_BYP_LEVEL) k
  if tapDrives.contains s.boot.tapIr then
    (((List.range bsrCells).find? (fun j => Config.bsrBall j == 320 + k)).bind s.cellDrives).getD own
  else own

/-- Length and captured contents of the data register that the instruction selects; `balls` are the levels of the balls,
cell by cell. The debug module's contents are a free value (Table 16.4) (DESIGN CHOICE, log 124). -/
def State.tapCapture (s : State) (balls : Nat) : Nat × Nat :=
  if tapBoundary.contains s.boot.tapIr then (bsrCells, s.cellsOf balls)
  else if s.boot.tapIr = 2 then (32, s.idcode)
  else if s.boot.tapIr = 0x20 then (64, s.klmStatus)
  else if s.boot.tapIr = 0x21 then
    (64, if s.getF F.SAF_STAT_DEBUG_SPLIT = 0 then 0 else (Config.free s.freeCtr).toNat)
  else (1, 0)

/-- A data register scan: capture, a shift of `len` bits with `tdi` shifted in, and the update of the boundary register
(R409, R411). -/
def State.tapScan (s : State) (len tdi balls : Nat) : State :=
  let (n, v) := s.tapCapture balls
  let all := v % 2 ^ n + tdi % 2 ^ len * 2 ^ n
  let s := { s with freeCtr := s.freeCtr + 1 }
  let s := if tapBoundary.contains s.boot.tapIr then
      { s with boot := { s.boot with bsr := s.cellsOf (all / 2 ^ len) } } else s
  s.emit (.tdo len (all % 2 ^ len))

/-- JTAG_INSTRUCTION_LOAD (R409): the instruction, and the data register scan that follows it, if one does: its length, the
bits shifted in and the levels of the balls (DESIGN CHOICE, log 124). -/
def doJtagInstructionLoad (code : Nat) (scan : Option (Nat × Nat × Nat)) (s : State) : State :=
  let s := s.tapLoad code
  match scan with
  | none => s
  | some (len, tdi, balls) => s.tapScan len tdi balls

/-- The TAP is reset: IDCODE is loaded, and SCAN_REFUSED with it (DEDUCED, log 54). -/
def State.tapReset (s : State) : State := { s with boot := { s.boot with tapIr := 2, scanRefused := false } }

/-- TAP_RESET. -/
def doTapReset (s : State) : State := s.tapReset

/-! ### Tally snapshots (R418) -/

/-- Freeze every tally, and restart the live ones at 0 with CLEAR (DESIGN CHOICE, log 10)
(DESIGN CHOICE, log 57). -/
def State.snapshot (s : State) (clear : Bool) : State :=
  let s := { s with tlyFrozen := s.tly, tly := if clear then [] else s.tly }
  ((s.incF F.TLY_SNAP_SEQ_SEQ).setF F.TLY_SNAP_N32_N32 s.now32).postFree 0x34 1

/-- A write of GO: ignored with BUSY_HIT while a snapshot runs (DESIGN CHOICE, log 57). -/
def State.snapGo (s : State) (clear : Bool) : State :=
  if s.isF F.TLY_SNAP_STAT_BUSY then s.setB F.TLY_SNAP_STAT_BUSY_HIT true else s.snapshot clear

/-- TLY_SNAPSHOT. -/
def doTlySnapshot (clear : Bool) (s : State) : State := s.busGate (fun s => s.snapGo clear)

/-- TLY_AUTO_SNAPSHOT (R418): the service pair's own snapshot, every TLY_AUTO_MS. -/
def doTlyAutoSnapshot (s : State) : State :=
  if s.pairUp 1 && s.param 0x63 0 != 0 then s.snapGo false else s

/-! ### Meanings of the commands -/

/-- Meaning of LPDDR5_TRAINED (R412). -/
def execLpddr5Trained (result size : Nat) (s : State) : Host.Outcome State Fault Refusal :=
  .next (doLpddr5Trained result size s)

/-- Meaning of LPDDR5_RETRAIN (R413). -/
def execLpddr5Retrain (ok : Bool) (s : State) : Host.Outcome State Fault Refusal := .next (doLpddr5Retrain ok s)

/-- Meaning of MEM_TEST_NOP (R414). -/
def execMemTestNop (s : State) : Host.Outcome State Fault Refusal := .next (doMemTestNop s)

/-- Meaning of MEM_TEST_RUN (R414). -/
def execMemTestRun (alg : Nat) (s : State) : Host.Outcome State Fault Refusal := .next (doMemTestRun alg s)

/-- Meaning of MEM_TEST_ABORT (R414). -/
def execMemTestAbort (s : State) : Host.Outcome State Fault Refusal := .next (doMemTestAbort s)

/-- Meaning of MEM_TEST_DONE (R414). -/
def execMemTestDone (fails : List Nat) (s : State) : Host.Outcome State Fault Refusal :=
  .next (doMemTestDone fails s)

/-- Meaning of TST_LANE_CLR (R403). -/
def execTstLaneClr (lane : Nat) (s : State) : Host.Outcome State Fault Refusal := .next (doTstLaneClr lane s)

/-- Meaning of TST_ROD_CLR (R407). -/
def execTstRodClr (rod : Nat) (s : State) : Host.Outcome State Fault Refusal := .next (doTstRodClr rod s)

/-- Meaning of JTAG_INSTRUCTION_LOAD (R409). -/
def execJtagInstructionLoad (code : Nat) (s : State) (scan : Option (Nat × Nat × Nat) := none) :
    Host.Outcome State Fault Refusal :=
  .next (doJtagInstructionLoad code scan s)

/-- Meaning of TAP_RESET (R409). -/
def execTapReset (s : State) : Host.Outcome State Fault Refusal := .next (doTapReset s)

/-- Meaning of TLY_SNAPSHOT (R418). -/
def execTlySnapshot (clear : Bool) (s : State) : Host.Outcome State Fault Refusal :=
  .next (doTlySnapshot clear s)

/-- Meaning of TLY_AUTO_SNAPSHOT (R418). -/
def execTlyAutoSnapshot (s : State) : Host.Outcome State Fault Refusal := .next (doTlyAutoSnapshot s)

/-- Meaning of TRACE_RECORD_WRITE (R421). -/
def execTraceRecordWrite (full : Bool) (s : State) : Host.Outcome State Fault Refusal :=
  .next (doTraceRecordWrite full s)

/-- Meaning of FREEZE_NOW (R423). -/
def execFreezeNow (s : State) : Host.Outcome State Fault Refusal := .next (doFreezeNow s)

/-- Meaning of TRC_ARM (R424). -/
def execTrcArm (s : State) : Host.Outcome State Fault Refusal := .next (doTrcArm s)

/-- Meaning of TRC_ENABLE (R424). -/
def execTrcEnable (on : Bool) (s : State) : Host.Outcome State Fault Refusal := .next (doTrcEnable on s)

/-- Meaning of CHECKER_LOCK (R403). -/
def execCheckerLock (lane : Nat) (s : State) (bits : List Bool := []) :
    Host.Outcome State Fault Refusal :=
  .next (doCheckerLock lane bits s)

/-- Meaning of CHECKER_LOCK_LOSS (R403). -/
def execCheckerLockLoss (lane : Nat) (errs : List Nat) (s : State) : Host.Outcome State Fault Refusal :=
  .next (doCheckerLockLoss lane errs s)

end Sys2Proof.Machine
end

