-- ==== Sys2Proof/Machine/Reset.lean ====
section
/-! DEFINITION. Reset sources and the release sequence (R308 to R321): what each reach clears (Table 12.2), the
stages of Table 12.3 up to the self-tests, overlapping sources, the option load and the strap. -/

namespace Sys2Proof.Machine

/-! ### What each reach clears (R9, R10, R312) -/

/-- Order of the reaches from the narrowest; battery fields lie above every reset. -/
def Reach.level : Reach → Nat
  | .none => 0
  | .rd => 1
  | .pl => 2
  | .wm => 3
  | .ch => 4
  | .po => 5
  | .battery => 6

/-- Restore every field whose reach is `lvl` or narrower (R10). -/
def State.restore (s : State) (lvl : Nat) : State :=
  { s with regs := s.regs.filter (fun e => decide (lvl < (fieldReach e.1).level)) }

/-- Table entries that lie in LPDDR5, which keeps its contents through a reset of chip reach (R312). -/
def keptEntry (k : Nat) : Bool := inDdr (k / 2 ^ 20) (k % 2 ^ 20)

/-- Frames being sent end with an inverted FCS (Table 12.10, R39). -/
def State.cutOff (s : State) : State :=
  s.forN 32 (fun p s => ([s.endingOf p, s.preemptedOf p, s.txOf p].filterMap id).foldl (fun s _ =>
    s.emit (.frameEnd p false)) s)

/-- Everything that a reset of warm reach clears (Table 12.2). GPIO balls and TIME_OUT keep their
levels (Table 12.10, R224); BYP_CTL is released with cause 1 (R364) (DEDUCED, log 79). -/
def State.warmClear (s : State) : State :=
  let byp := s.getF F.RNG_BYP_LEVEL
  let hold := s.holdPads
  let s := (s.cutOff.stopTrace 3).restore 3
  let s := if byp = 0 then s else s.setF F.RNG_BYP_CAUSE 1
  { s with
    tables := s.tables.filter (fun e => keptEntry e.1)
    tly := []
    tlyFrozen := []
    evCtl := []
    evSvc := []
    dp := { atsBase := s.shape40 }
    rods := (s.rods.map (fun e => (e.1, { stb := e.2.stb, en := e.2.en : Rod }))).filter
      (fun e => e.2 != {})
    saf := {}
    tb := { s.tb with pending := none, lastStep := 0, ts2 := [], tsIn := [], inSeq := 0,
                      outEnd := 0, outFrom := 0, outGuard := 0, outUse := (0, 1000000000, 10000000), outNew := [],
                      locked := [] }
    key := { s.key with challenge := [], imageSlot := none }
    meas := {}
    host := { link := s.host.link, cfg := s.host.cfg }
    ring := {}
    boot := { po := s.boot.po, porst := s.boot.porst, wrst := s.boot.wrst, snap := s.boot.snap
              debugEn := s.boot.debugEn, copy := s.boot.copy, scanRefused := s.boot.scanRefused, tapIr := s.boot.tapIr
              bsr := s.boot.bsr
              gpioHold := hold }
    upd := {}
    pwr := { energy := s.pwr.energy, phySlp := s.pwr.phySlp }
    memTest := none
    ddrFails := 0
    laneFrac := []
    laneMiss := [] }

/-- Everything that a reset of chip reach clears: clock and shaping time (R205), the snapshot, the PCIe
endpoint, and the pins' levels (Table 17.10) (DEDUCED, log 79). -/
def State.chipClear (s : State) : State :=
  let s := s.warmClear.restore 4
  { s with
    tb := {}
    dp := {}
    rods := []
    host := {}
    key := { s.key with tamperHold := false }
    boot := { s.boot with snap := none, debugEn := false, gpioHold := some [] }
    pwr := { energy := s.pwr.energy } }

/-- Everything that a power-on reset clears: the backup registers, LPDDR5, the energy bucket (R395) and the
TAP (R409) (DEDUCED, log 79). -/
def State.powerClear (s : State) : State :=
  let s := s.chipClear.restore 5
  ({ s with ddr := [], tables := [], pwr := {}, boot := { s.boot with copy := none } }).tapReset

/-- Record a reset cause (R324); a power-on reset leaves the reset values of BKP_RST_CAUSE. -/
def State.cause (s : State) (c : Nat) : State :=
  if c = 0 then s
  else ((s.orF F.BKP_RST_CAUSE_STICKY c).setF F.BKP_RST_CAUSE_LAST c).satF F.BKP_RST_CAUSE_COUNT 1

/-! ### The release sequence (R313 to R319) -/

/-- The stage entered last (Table 12.3). -/
def State.stage (s : State) : Nat := s.getF F.GLB_RST_STAT_STAGE
def State.setStageNo (s : State) (n : Nat) : State := s.setF F.GLB_RST_STAT_STAGE n

/-- Start of the option load: every shadow at its safe default, LOAD_DONE cleared (R317). -/
def State.enterOptions (s : State) : State :=
  let s := ([F.GLB_ID_PART, F.GLB_ID_DIE_REV, F.GLB_PRESENT_PORT_PORTS, F.GLB_KEY_SLOTS_COUNT,
    F.GLB_KEY_SLOTS_SCRAMBLE, F.GLB_LOAD_STAT_LOAD_DONE, F.GLB_LOAD_STAT_LOAD_FAIL, F.GLB_LOAD_STAT_ATTEMPTS,
    F.GLB_LOAD_STAT_ECC_CORR, F.GLB_BOOT_STAT_KEY_REVOKED, F.RNG_SELF_TAG_LO_TAG, F.RNG_SELF_TAG_HI_TAG]
    ++ (List.range 4).flatMap (fun i => [F.GLB_UID_UID i, F.GLB_PRESENT_ROD_RODS i, F.GLB_FUSE_FUSE i])).foldl
    (fun s f => s.setF f 0) s
  ({ s.setF F.GLB_KEY_SLOTS_COUNT 128 with boot := { s.boot with debugEn := false } }).setStageNo 2

/-- A source has been released, or a stage has ended: the sequence goes on unless a source whose reach holds
the next stage is asserted (R314, R315). -/
def State.proceed (s : State) : State :=
  if s.boot.po || s.boot.porst then s
  else if s.stage = 1 then s.enterOptions
  else if s.stage = 4 ∧ s.isF F.GLB_CLK_STAT_ROOT_LOCK ∧ !s.boot.wrst then s.setStageNo 5
  else s

/-- A reset of chip reach or wider is asserted: the sequence stands before its first stage
(DEDUCED, log 60). -/
def State.toStart (s : State) : State := s.setStageNo 1

/-- POWER_ON_RESET (R308, R379): a main supply leaves its window. -/
def doPowerOnReset (s : State) : State :=
  let s := s.powerClear.toStart
  { s with boot := { s.boot with po := true } }

/-- SUPPLY_MONITOR_RELEASE (R313). -/
def doSupplyMonitorRelease (s : State) : State :=
  if s.boot.po then { s with boot := { s.boot with po := false } }.proceed else s

/-- PORST_N_ASSERT (R309): PORST_N low past the filter. In a low-power mode it ends the mode (R392). -/
def doPorstNAssert (s : State) : State :=
  if s.boot.porst then s
  else
    let s := (s.chipClear.cause 1).toStart
    { s with boot := { s.boot with porst := true } }

/-- PORST_N_RELEASE (R314). -/
def doPorstNRelease (s : State) : State :=
  if s.boot.porst then { s with boot := { s.boot with porst := false } }.proceed else s

/-- A warm reset takes effect: from stage 5 on it clears and restarts from stage 5; in a low-power mode it
ends the mode through the CLOCKS stage (R391, R392); before stage 5 the sequence goes on and only holds
(R315) (DESIGN CHOICE, log 70). -/
def State.warmReset (s : State) (c : Nat) : State :=
  let s := s.cause c
  let mode := s.getF F.PWR_MODE_MODE
  if mode = 3 then (s.chipClear.toStart).proceed
  else if mode = 2 then s.warmClear.setStageNo 4
  else if 5 ≤ s.stage then s.warmClear
  else s

/-- WRST_N_ASSERT (R309). -/
def doWrstNAssert (s : State) : State :=
  if s.boot.wrst then s
  else
    let s := s.warmReset 3
    { s with boot := { s.boot with wrst := true } }

/-- WRST_N_RELEASE (R314). -/
def doWrstNRelease (s : State) : State :=
  if s.boot.wrst then { s with boot := { s.boot with wrst := false } }.proceed else s

/-- CLOCK_MONITOR_FAULT (R35): the cause is recorded, then a reset of chip reach is asserted for 2 µs
(DESIGN CHOICE, log 70). -/
def doClockMonitorFault (pll : Bool) (s : State) : State :=
  let s := s.setB (if pll then F.BKP_CLK_FAIL_PLL_UNLOCK else F.BKP_CLK_FAIL_REFCLK_RANGE) true
  ((s.chipClear.cause 2).toStart).proceed

/-- SOFTWARE_WARM_RESET (R310): a write to GLB_SW_RST, which works during reset too (R316). -/
def doSoftwareWarmReset (key : Nat) (go : Bool) (s : State) : State :=
  if go && key == 0xC7 then s.warmReset 4 else s.satF F.GLB_RST_STAT_SW_BAD 1

/-- A watchdog reset while a trial is pending; the third one marks the slot bad (R343). -/
def State.failedTrial (s : State) : State :=
  if !s.isF F.BKP_BOOT_PENDING then s
  else
    let n := s.getF F.BKP_BOOT_TRIES + 1
    if n < 3 then s.setF F.BKP_BOOT_TRIES n
    else
      let s := (s.setF F.BKP_BOOT_TRIES 0).setB F.BKP_BOOT_FALLBACK true
      let s := s.setF F.BKP_BOOT_BAD_SLOT (s.getF F.BKP_BOOT_ACTIVE_SLOT)
      (s.setF F.BKP_BOOT_BADSEQ_SEQ (s.getF F.BKP_BOOT_SEQ_SEQ)).postFree 0x00 2

/-- The watchdog of pair `i` runs (R311): not while the pair is held in reset, from its first instruction on, which
follows its injection test in stage 6 (R313). -/
def State.watched (s : State) (i : Nat) : Bool :=
  let st := s.getF (F.SAF_PAIR_STAT_STATE i)
  (st == 1 || st == 4) && !s.boot.noFw.contains i
    && (s.serving || (decide (6 ≤ s.stage) && (sget (fun _ => none) s.saf.pairPass i).isSome))

/-- WATCHDOG_EXPIRY (R311): of the control pair (0) or the service pair (1); `halted` says that a debugger halts the
pair, which stops the watchdog in debug split (DESIGN CHOICE, log 70). -/
def doWatchdogExpiry (i : Nat) (halted : Bool) (s : State) : State :=
  let i := i % 2
  if !s.watched i || (halted && s.getF (F.SAF_PAIR_STAT_STATE i) == 4) then s
  else
    let old := s.isF F.BKP_BOOT_FALLBACK
    let s := s.failedTrial
    let fell := s.isF F.BKP_BOOT_FALLBACK && !old
    let s := s.warmReset (5 + i)
    { s with boot := { s.boot with fellBack := fell } }

/-- What the option load writes into the shadows (Table 12.5). -/
def State.loadShadows (s : State) (part rev uid : Nat) (v : Variant) (fuse revoked : Nat) (debug : Bool) : State :=
  let s := { s with boot := { s.boot with debugEn := debug }, key := { s.key with mesh := v.scramble } }
  let s := (s.setF F.GLB_ID_PART part).setF F.GLB_ID_DIE_REV rev
  let s := s.forN 4 (fun i s => ((s.setF (F.GLB_UID_UID i) (uid / 2 ^ (32 * i))).setF
    (F.GLB_PRESENT_ROD_RODS i) (v.rods / 2 ^ (32 * i))).setF (F.GLB_FUSE_FUSE i) (fuse / 2 ^ (32 * i)))
  let s := (s.setF F.GLB_PRESENT_PORT_PORTS v.ports).setF F.GLB_KEY_SLOTS_COUNT v.slots
  let s := (s.setB F.GLB_KEY_SLOTS_SCRAMBLE v.scramble).setF F.GLB_BOOT_STAT_KEY_REVOKED revoked
  let tag := (Config.sha256 s.uid).toNat / 2 ^ 192
  (s.setF F.RNG_SELF_TAG_HI_TAG (tag / 2 ^ 32)).setF F.RNG_SELF_TAG_LO_TAG tag

/-- OPTION_LOAD_DONE (R317 to R319): the load ends after 1 to 3 attempts. Part, die revision, unique ID, units `v`,
fuse words, revoked keys and debug enable come from the fuse array; units that are not the part's (R1) are an array that
no device of the family has, and leave the state as it is. -/
def doOptionLoadDone (ok : Bool) (attempts : Nat) (corr : Bool) (part rev uid : Nat) (v : Variant) (fuse revoked : Nat)
    (debug : Bool) (s : State) : State :=
  if s.stage ≠ 2 ∨ s.isF F.GLB_LOAD_STAT_LOAD_FAIL ∨ (ok ∧ variantOf part ≠ some v) then s
  else
    let s := s.setB F.GLB_LOAD_STAT_ECC_CORR corr
    if !ok then (s.setF F.GLB_LOAD_STAT_ATTEMPTS 3).setB F.GLB_LOAD_STAT_LOAD_FAIL true
    else
      let s := (s.setF F.GLB_LOAD_STAT_ATTEMPTS (nearest [(1, 3)] attempts)).setB F.GLB_LOAD_STAT_LOAD_DONE true
      (s.loadShadows part rev uid v fuse revoked debug).setStageNo 3

/-- Converter value of a voltage in mV: 8 mV a step, saturating at 255 (R320). -/
def conversion (mv : Nat) : Nat := min 255 (mv / 8)

/-- Insert a value into a rising list. -/
def insertUp (x : Nat) : List Nat → List Nat
  | [] => [x]
  | y :: ys => if x ≤ y then x :: y :: ys else y :: insertUp x ys

/-- The median of the conversions (R320): of an even number the lower of the middle two (DESIGN CHOICE, log 100). -/
def medianOf (vs : List Nat) : Nat := (vs.foldr insertUp []).getD ((vs.length - 1) / 2) 0

/-- Strap code of the median converter value (R320, R321). -/
def strapCode (v : Nat) : Nat := if v = 255 then 1 else v / 16

/-- STRAP_MEASURED (R320, R321): `mvs` are the voltages at CFGSEL, in mV, of the 16 conversions. -/
def doStrapMeasured (mvs : List Nat) (s : State) : State :=
  let v := medianOf (mvs.map conversion)
  if s.stage ≠ 3 then s
  else
    let s := (s.setF F.GLB_STRAP_CODE (strapCode v)).setF F.GLB_STRAP_RAW v
    let s := (s.setB F.GLB_STRAP_OPEN (v == 255)).setF F.GLB_BOOT_STAT_SOURCE (strapCode v / 4)
    s.setStageNo 4

/-- CLOCKS_LOCKED (R313): the root PLL locks, and with it the PLLs that the operands name; the sequence enters
the MEMORY stage, or holds before it while WRST_N is low (R314). -/
def doClocksLocked (pcie ddr : Bool) (serdes : Nat) (s : State) : State :=
  if s.stage ≠ 4 ∨ s.isF F.GLB_CLK_STAT_ROOT_LOCK then s
  else
    let s := (s.setB F.GLB_CLK_STAT_ROOT_LOCK true).setB F.GLB_CLK_STAT_PCIE_LOCK pcie
    let s := (s.setB F.GLB_CLK_STAT_DDR_LOCK ddr).setF F.GLB_CLK_STAT_SERDES_LOCK serdes
    s.proceed

/-! ### Self-tests of stage 8 (R4, R85, R240, R244, R313) -/

/-- Stages 6 to 8 run: stage 5 has been entered, no source holds it, and stage 9 has not been reached. -/
def State.releasing (s : State) : Bool :=
  decide (5 ≤ s.stage) && decide (s.stage < 9) && !s.boot.wrst

/-- A port or rod is retired (R4, R5). -/
def State.retirePort (s : State) (p : Nat) : State :=
  if s.ethPresent p then s.orF F.GLB_RETIRED_PORT_PORTS p else s
def State.retireRod (s : State) (n cause : Nat) : State :=
  if s.rodPresent n then
    ((s.setF (F.ROD_STAT_RETIRE_CAUSE n) (nearest [(1, 3)] cause)).orF (F.GLB_RETIRED_ROD_RODS (n / 32))
      (n % 32)).ownPins s.pinClaims
  else s

/-- A plane whose self-test fails is retired; after SLEEP-RETAIN a plane that failed the test of R385 is
withdrawn with cause 5 instead. -/
def State.startPlane (s : State) (b pass : Bool) : State :=
  if s.boot.waking then
    if if b then s.pwr.failB else s.pwr.failA then s.withdraw b 5 (s.isF F.SAF_CFG_AUTO_RESTART) else s
  else if pass then s
  else ((s.setPlane b 6).setF (safCause b) 7).postFree 0x01 10

/-- A comparator instance that fails its injection is retired (R244). -/
def State.startCmp (s : State) (k : Nat) (pass : Bool) : State :=
  if pass then s else (s.clrF F.SAF_STAT_CMP_OK k).postFree 0x01 10

/-- START_SELF_TESTS_DONE (R313): the ports and rods that fail (a rod with its cause) and the results of
planes and comparator instances. On leaving SLEEP-RETAIN, ports are not tested (R391). -/
def doStartSelfTestsDone (ports : List Nat) (rods : List (Nat × Nat)) (planeA planeB cmp0 cmp1 : Bool)
    (s : State) : State :=
  if !s.releasing || s.boot.tested then s
  else
    let s := if s.boot.waking then s else ports.foldl State.retirePort s
    let s := rods.foldl (fun s r => s.retireRod r.1 r.2) s
    let s := ((s.startPlane false planeA).startPlane true planeB).startCmp 0 cmp0
    let s := ((s.startCmp 1 cmp1).degrade).claims
    { s with boot := { s.boot with tested := true } }

/-! ### VBATK (R443) -/

/-- VBATK_RISE: VBATK rises first, with no main supply: an empty VBATK domain, and the choice of the always-on
clock. -/
def doVbatkRise (xtal : Bool) (s : State) : State :=
  if s.boot.po then s.zeroVbatk.setB F.GLB_CLK_STAT_AON_XTAL xtal else s

/-! ### Meanings of the commands -/

/-- Meaning of POWER_ON_RESET (R308). -/
def execPowerOnReset (s : State) : Host.Outcome State Fault Refusal := .next (doPowerOnReset s)

/-- Meaning of SUPPLY_MONITOR_RELEASE (R313). -/
def execSupplyMonitorRelease (s : State) : Host.Outcome State Fault Refusal := .next (doSupplyMonitorRelease s)

/-- Meaning of PORST_N_ASSERT (R309). -/
def execPorstNAssert (s : State) : Host.Outcome State Fault Refusal := .next (doPorstNAssert s)

/-- Meaning of PORST_N_RELEASE (R314). -/
def execPorstNRelease (s : State) : Host.Outcome State Fault Refusal := .next (doPorstNRelease s)

/-- Meaning of WRST_N_ASSERT (R309). -/
def execWrstNAssert (s : State) : Host.Outcome State Fault Refusal := .next (doWrstNAssert s)

/-- Meaning of WRST_N_RELEASE (R314). -/
def execWrstNRelease (s : State) : Host.Outcome State Fault Refusal := .next (doWrstNRelease s)

/-- Meaning of CLOCK_MONITOR_FAULT (R35). -/
def execClockMonitorFault (pll : Bool) (s : State) : Host.Outcome State Fault Refusal :=
  .next (doClockMonitorFault pll s)

/-- Meaning of SOFTWARE_WARM_RESET (R310). -/
def execSoftwareWarmReset (key : Nat) (go : Bool) (s : State) : Host.Outcome State Fault Refusal :=
  .next (doSoftwareWarmReset key go s)

/-- Meaning of WATCHDOG_EXPIRY (R311). -/
def execWatchdogExpiry (pair : Nat) (s : State) (halted : Bool := false) : Host.Outcome State Fault Refusal :=
  .next (doWatchdogExpiry pair halted s)

/-- Meaning of OPTION_LOAD_DONE (R317). -/
def execOptionLoadDone (ok : Bool) (attempts : Nat) (corr : Bool) (part rev uid ports rods slots fuse revoked : Nat)
    (scramble : Bool) (s : State) (debug : Bool := false) : Host.Outcome State Fault Refusal :=
  .next (doOptionLoadDone ok attempts corr part rev uid ⟨ports, rods, slots, scramble⟩ fuse revoked debug s)

/-- Meaning of STRAP_MEASURED (R320). -/
def execStrapMeasured (mvs : List Nat) (s : State) : Host.Outcome State Fault Refusal :=
  .next (doStrapMeasured mvs s)

/-- Meaning of CLOCKS_LOCKED (R313). -/
def execClocksLocked (pcie ddr : Bool) (serdes : Nat) (s : State) : Host.Outcome State Fault Refusal :=
  .next (doClocksLocked pcie ddr serdes s)

/-- Meaning of START_SELF_TESTS_DONE (R313). -/
def execStartSelfTestsDone (ports : List Nat) (rods : List (Nat × Nat)) (planeA planeB cmp0 cmp1 : Bool)
    (s : State) : Host.Outcome State Fault Refusal :=
  .next (doStartSelfTestsDone ports rods planeA planeB cmp0 cmp1 s)

/-- Meaning of VBATK_RISE (R443). -/
def execVbatkRise (xtal : Bool) (s : State) : Host.Outcome State Fault Refusal := .next (doVbatkRise xtal s)

end Sys2Proof.Machine
end

