-- ==== Sys2Proof/Machine/Store.lean ====
section
/-! DEFINITION. A register write with no command behind it (R27, R471): each field by its access type, with the
effects that a chapter gives the stored value. Command registers are dispatched in Bus.lean. -/

namespace Sys2Proof.Machine

/-- Lower a field to at most `top` after its own clamping (R471). -/
def State.capF (s : State) (f : Fld) (top : Nat) : State := if top < s.getF f then s.setF f top else s

/-- Word 0 of a stream gate (R170): with CHANGE 1 ADMIN_LEN keeps its value and the write is tallied when it
would change it or writes CHANGE again. -/
def State.storeGate (s : State) (g v : Nat) : State :=
  let lock := s.isF (F.STR_GATE_W0_CHANGE g)
  let len := s.getF (F.STR_GATE_W0_ADMIN_LEN g)
  let off := (F.STR_GATE_W0_CHANGE g).off
  let s := s.storeReg off (setBits v (F.STR_GATE_W0_CHANGE g).lo 1 0)
  let go := bit v (F.STR_GATE_W0_CHANGE g).lo
  let s := if lock then
      let s' := s.setF (F.STR_GATE_W0_ADMIN_LEN g) len
      if go || s.getF (F.STR_GATE_W0_ADMIN_LEN g) != len then s'.tally (T.strGate g 1) else s'
    else if go then s.streamChange g else s
  s.openNow g

/-- SCH_PORT_CFG (R188, R191). -/
def State.storePortCfg (s : State) (p v : Nat) : State :=
  let lock := s.isF (F.SCH_PORT_CFG_CHANGE p)
  let len := s.getF (F.SCH_PORT_CFG_ADMIN_LEN p)
  let off := (F.SCH_PORT_CFG_CHANGE p).off
  let s := s.storeReg off (setBits v (F.SCH_PORT_CFG_CHANGE p).lo 1 0)
  let go := bit v (F.SCH_PORT_CFG_CHANGE p).lo
  let s := if lock then
      let s' := s.setF (F.SCH_PORT_CFG_ADMIN_LEN p) len
      if go || s.getF (F.SCH_PORT_CFG_ADMIN_LEN p) != len then s'.tally (T.sch p 0) else s'
    else if go then s.schChange p else s
  s.gatesNow p

/-- SCH_FP_CFG (R197, R198): FP_EN set, VERIFY_DIS changed or a write after a failed verification starts the
verification anew while the link is up. -/
def State.storeFpCfg (s : State) (p v : Nat) : State :=
  let was := (s.isF (F.SCH_FP_CFG_FP_EN p), s.isF (F.SCH_FP_CFG_VERIFY_DIS p))
  let s := s.storeReg (F.SCH_FP_CFG_FP_EN p).off v
  let now := (s.isF (F.SCH_FP_CFG_FP_EN p), s.isF (F.SCH_FP_CFG_VERIFY_DIS p))
  let failed := s.getF (F.SCH_FP_STAT_VERIFY_STATUS p) == 4
  if s.linkUp p && now.1 && (was != now || failed) then s.startVerify p else s.fpUpdate p

/-- PRT_MAC_CFG (R476): a changed MODE or RS_FEC drops the link. -/
def State.storeMacCfg (s : State) (p v : Nat) : State :=
  let was := (s.getF (F.PRT_MAC_CFG_MODE p), s.getF (F.PRT_MAC_CFG_RS_FEC p))
  let s := s.storeReg (F.PRT_MAC_CFG_MODE p).off v
  if was = (s.getF (F.PRT_MAC_CFG_MODE p), s.getF (F.PRT_MAC_CFG_RS_FEC p)) then s else s.dropLink p

/-- TST_LANE_CFG (R403, R404): CLR acts after the other fields; a changed checker setting ends the lock; a test
takes the port out of service. -/
def State.storeLane (s : State) (l v : Nat) : State :=
  let was := (s.getF (F.TST_LANE_CFG_CHK_PAT l), s.getF (F.TST_LANE_CFG_INV l))
  let s := s.storeReg (F.TST_LANE_CFG_GEN_PAT l).off v
  let s := if bit v 31 then s.clearLane l else s
  let s := if was = (s.getF (F.TST_LANE_CFG_CHK_PAT l), s.getF (F.TST_LANE_CFG_INV l)) then s
    else s.setB (F.TST_LANE_STAT_LOCK l) false
  if s.portHeld l && s.linkUp l then s.dropLink l else s

/-- TST_T1S (R406). -/
def State.storeT1s (s : State) (i v : Nat) : State :=
  let s := s.storeReg (F.TST_T1S_MODE i).off v
  let p := 16 + i
  if s.portHeld p && s.linkUp p then (s.dropLink p).setB (F.T1S_STAT_PLCA_STATUS i) false else s

/-- TST_ROD_CFG (R407): the frame counter k starts at 0 when GEN_EN is set. -/
def State.storeRodTest (s : State) (n v : Nat) : State :=
  let was := s.isF (F.TST_ROD_CFG_GEN_EN n)
  let s := s.storeReg (F.TST_ROD_CFG_GEN_EN n).off v
  if s.isF (F.TST_ROD_CFG_GEN_EN n) && !was then s.setRod n { s.rod n with testSeq := 0 } else s

/-- A bit-timing register (R58): SJW is at most TSEG2 of the same write. -/
def State.storeTiming (s : State) (off v : Nat) (sjw tseg2 : Fld) : State :=
  let s := s.storeReg off v
  s.capF sjw (s.getF tseg2)

/-- ROD_CTL (R51): ERRSIG_EN stores 0 whenever PWM_EN is 1. -/
def State.storeRodCtl (s : State) (n v : Nat) : State :=
  let s := s.storeReg (F.ROD_CTL_PWM_EN n).off v
  if s.isF (F.ROD_CTL_PWM_EN n) then s.setB (F.ROD_CTL_ERRSIG_EN n) false else s

/-- TBL_ADDR of a requester's set at `at_` (R130): PART is at most the last part of the table. -/
def State.storeTblAddr (s : State) (at_ v : Nat) : State :=
  match findReg 0x40004 with
  | none => s
  | some (r, _, _) =>
    let s := s.storeFields r.fields at_ v
    let part : Fld := { F.TBL_ADDR_PART with off := at_ }
    s.capF part (lastPart (s.getF { F.TBL_ADDR_TABLE with off := at_ }))

/-- A write to a locked administrative list register is ignored and tallied (R170, R191). -/
def State.lockedStore (s : State) (lock : Bool) (tally off v : Nat) : State :=
  if lock then s.tally tally else s.storeReg off v

/-- Registers of which each requester of the table commands and of the key store has its own set (R25, R263). -/
def ownSet (off : Nat) : Bool :=
  (decide (0x40000 ≤ off) && decide (off < 0x40040)) || (decide (0x240000 ≤ off) && decide (off < 0x24001C))
    || (decide (0x240400 ≤ off) && decide (off < 0x242000))

/-- Where requester `r` finds the register that BAR0 shows at `off`. -/
def regAt (r off : Nat) : Nat := if r < 2 ∧ ownSet off then off + ownStep * (r + 1) else off

/-- A register write without a command: `r` is the requester (2 host). -/
def State.storeWord (s : State) (r off v : Nat) : State :=
  match findReg off with
  | none => s
  | some (d, i, j) =>
    if !s.unitThere d.unit i then s
    else match d.base with
    -- ROD_CTL
    | 0x180000 => s.storeRodCtl i v
    -- ROD_NBT
    | 0x180014 => s.storeTiming off v (F.ROD_NBT_SJW i) (F.ROD_NBT_TSEG2 i)
    -- ROD_DBT
    | 0x180018 => s.storeTiming off v (F.ROD_DBT_SJW i) (F.ROD_DBT_TSEG2 i)
    -- ROD_XCVR
    | 0x180024 => s.xcvrStore i v
    -- TBL_ADDR
    | 0x40004 => s.storeTblAddr (regAt r off) v
    -- FWL_METER_W0
    | 0x82000 => s.fwlMeterStore i 0 v
    -- FWL_METER_W1
    | 0x82004 => s.fwlMeterStore i 1 v
    -- STR_METER_W0
    | 0xA4000 => s.strMeterStore i 0 v
    -- STR_METER_W1
    | 0xA4004 => s.strMeterStore i 1 v
    -- STR_METER_W2
    | 0xA4008 => s.strMeterStore i 2 v
    -- STR_METER_W3
    | 0xA400C => s.strMeterStore i 3 v
    -- STR_GATE_W0
    | 0xA1000 => s.storeGate i v
    -- STR_GATE_CYCLE, STR_GATE_BASE_NS, STR_GATE_BASE_SL, STR_GATE_BASE_SH, STR_GCL_ADMIN_W0, STR_GCL_ADMIN_W1
    | 0xA1004 | 0xA1008 | 0xA100C | 0xA1010
    | 0xB0000 | 0xB0004 =>
      s.lockedStore (s.isF (F.STR_GATE_W0_CHANGE i)) (T.strGate i 1) off v
    -- SCH_PORT_CFG_B
    | 0xC0000 => s.storePortCfg i v
    -- SCH_PORT_CFG_GS
    | 0xC0400 => s.storePortCfg (8 + i) v
    -- SCH_ADMIN_CYCLE, SCH_ADMIN_BASE_NS, SCH_ADMIN_BASE_SL, SCH_ADMIN_BASE_SH, SCH_GCL_ADMIN_B_W0, SCH_GCL_ADMIN_B_W1
    | 0xC0008 | 0xC000C | 0xC0010 | 0xC0014
    | 0xC8000 | 0xC8004 =>
      s.lockedStore (s.isF (F.SCH_PORT_CFG_CHANGE i)) (T.sch i 0) off v
    -- SCH_GCL_ADMIN_GS_W0, SCH_GCL_ADMIN_GS_W1
    | 0xE8000 | 0xE8004 =>
      s.lockedStore (s.isF (F.SCH_PORT_CFG_CHANGE (8 + i))) (T.sch (8 + i) 0) off v
    -- SCH_FP_CFG
    | 0xC0024 => s.storeFpCfg i v
    -- SCH_CLASS_W0
    | 0xC1000 => s.schParam i j 0 v
    -- SCH_CLASS_IDLE
    | 0xC1004 => s.schParam i j 1 v
    -- SCH_CLASS_CIR
    | 0xC1008 => s.schParam i j 2 v
    -- SCH_CLASS_CBS
    | 0xC100C => s.schParam i j 3 v
    -- SCH_CLASS_MAXRES
    | 0xC1010 => s.schParam i j 4 v
    -- SCH_RODQ_W0
    | 0xC4000 => s.schParam (64 + i) j 0 v
    -- SCH_RODQ_RATE
    | 0xC4004 => s.schParam (64 + i) j 1 v
    -- SCH_RODQ_BURST
    | 0xC4008 => s.schParam (64 + i) j 2 v
    -- PRT_MAC_CFG_B
    | 0x100000 => s.storeMacCfg i v
    -- PRT_MAC_CFG_G
    | 0x108000 => s.storeMacCfg (8 + i) v
    -- PRT_MAC_CFG_S
    | 0x110000 => s.storeMacCfg (16 + i) v
    -- TIM_OUT_CFG, TIM_OUT_START_NS, TIM_OUT_START_SL, TIM_OUT_START_SH, TIM_OUT_PERIOD, TIM_OUT_WIDTH
    | 0x20400 | 0x20404 | 0x20408 | 0x2040C | 0x20410
    | 0x20414 => (s.storeReg off v).outWritten (s.isF F.TIM_OUT_CFG_MODE)
    -- BKP_FW: the host's writes are ignored (R323)
    | 0x401000 => if r < 2 then s.storeReg off v else s
    -- TRC_CTL
    | 0x300100 => s.storeTrcCtl v
    -- TST_LANE_CFG
    | 0x380000 => s.storeLane i v
    -- TST_T1S
    | 0x380400 => s.storeT1s i v
    -- TST_ROD_CFG
    | 0x381000 => s.storeRodTest i v
    | _ => s.storeFields d.fields (regAt r off) v

end Sys2Proof.Machine
end

