-- ==== Sys2Proof/Machine/Image.lean ====
section
/-! DEFINITION. The Ndozil image and boot (R329 to R351) and the entry of stage 9 (R313, R322): the
acceptance steps of Table 13.7, what each section type sets, slot choice, host load, neighbour boot, the
retained snapshot and the trial. An image is the byte list that its source delivers. -/

namespace Sys2Proof.Machine

/-! ### Header checks, steps 1 to 6 (Tables 13.1 to 13.3, 13.7) -/

/-- Bit of VARIANT_MASK for a part number. -/
def partBit (part : Nat) : Nat := if part = 0x7680 then 0 else if part = 0x7648 then 1 else if part = 0x7624 then 2 else 8

/-- Byte `k` of section table entry `i` starts at this offset. -/
def secAt (i k : Nat) : Nat := 256 + 32 * i + k

/-- Fields of the header (Table 13.2). -/
def hdrSeq (img : List Byte) : Nat := leAt img 12 4
def hdrArv (img : List Byte) : Nat := leAt img 16 4
def hdrNsec (img : List Byte) : Nat := leAt img 30 2
def hdrBodyOff (img : List Byte) : Nat := leAt img 36 4
def hdrBodyLen (img : List Byte) : Nat := leAt img 40 4
def hdrSigOff (img : List Byte) : Nat := leAt img 44 4

/-- Offset and length of section `i`. -/
def secSpan (img : List Byte) (i : Nat) : Nat × Nat := (leAt img (secAt i 4) 4, leAt img (secAt i 8) 4)

/-- TYPE of section `i`. -/
def secType (img : List Byte) (i : Nat) : Nat := leAt img (secAt i 0) 2

/-- TYPE is listed in Table 13.5. -/
def typeListed (ty : Nat) : Bool := [1, 2, 0x10, 0x11, 0x12, 0x13].contains ty || decide (0x8000 ≤ ty)

/-- The section table is well formed (R332). -/
def sectionsOk (img : List Byte) : Bool :=
  let n := hdrNsec img
  let l := List.range n
  let top := hdrBodyOff img + hdrBodyLen img
  let count (ty : Nat) := (l.filter (fun i => secType img i == ty)).length
  decide (1 ≤ n) && decide (n ≤ 64)
    && l.all (fun i =>
      let (o, k) := secSpan img i
      o % 4096 == 0 && decide (hdrBodyOff img ≤ o) && decide (o + k ≤ top) && decide (1 ≤ k)
        && typeListed (secType img i))
    && l.all (fun i => l.all (fun j => i == j ||
      (let (o, k) := secSpan img i
       let (p, m) := secSpan img j
       decide (o + k ≤ p) || decide (p + m ≤ o))))
    && count 1 == 1 && count 2 == 1 && count 0x10 == 1 && decide (count 0x13 ≤ 1)

/-- Offsets and lengths agree with Table 13.1, and the source delivers IMAGE_LEN bytes (R329)
(DESIGN CHOICE, log 73). -/
def layoutOk (img : List Byte) : Bool :=
  let blen := hdrBodyLen img
  let nblk := blen / 4096
  blen % 4096 == 0 && leAt img 32 4 == 4096
    && hdrBodyOff img == 4096 + ceilDiv (4 * nblk) 4096 * 4096
    && hdrSigOff img == hdrBodyOff img + blen
    && leAt img 8 4 == hdrSigOff img + 5390 && decide (leAt img 8 4 ≤ 16777216)
    && decide (leAt img 8 4 ≤ img.length)

/-- The first of steps 1 to 6 that fails, with its RESULT. -/
def State.headerStep (s : State) (img : List Byte) : Option (Nat × Nat) :=
  if !(beAt img 0 4 == 0x4E445A4C && leAt img 4 2 == 1 && leAt img 6 2 == 256
      && crc32c (img.take 252) == leAt img 252 4) then some (1, stIntegrity)
  else if !(leAt img 20 2 == 0x7680 && bit (byteAt img 22) (partBit (s.getF F.GLB_ID_PART))
      && decide (byteAt img 23 ≤ s.getF F.GLB_ID_DIE_REV)) then some (2, stBinding)
  else if bit (leAt img 24 2) 0 && beAt img 68 32 != (Config.sha256 s.uid).toNat then some (3, stBinding)
  else if hdrArv img < s.getF F.KEY_ARC_ARC then some (4, stReject)
  else if 3 < byteAt img 26 || bit (s.getF F.GLB_BOOT_STAT_KEY_REVOKED) (byteAt img 26) then some (5, stAuth)
  else if !(layoutOk img && sectionsOk img) then some (6, stIntegrity)
  else none

/-! ### Integrity and signatures, steps 7 to 11 (R330, R331) -/

/-- The first of steps 7 to 11 that fails, with its RESULT. -/
def bodyStep (img : List Byte) : Option (Nat × Nat) :=
  let off := hdrBodyOff img
  let crcOk (k : Nat) := crc32c ((img.drop (off + 4096 * k)).take 4096) == leAt img (4096 + 4 * k) 4
  let sig := img.drop (hdrSigOff img)
  let head := img.take 256
  let text := ("NDZL".toList).map (fun c => BitVec.ofNat 8 c.toNat)
  if !(List.range (hdrBodyLen img / 4096)).all crcOk then some (7, stIntegrity)
  else if beAt img 100 48 != (Config.sha384 ((img.take (hdrSigOff img)).drop 256)).toNat then
    some (8, stIntegrity)
  else if Config.sha384 (sig.take 2017) != Config.ownerDigest (byteAt img 26) then some (9, stAuth)
  else if !Config.ecdsaVerify (sig.take 65) (Config.sha256 head).toNat ((sig.drop 2017).take 64) then
    some (10, stAuth)
  else if !Config.mldsaVerify ((sig.drop 65).take 1952) text head ((sig.drop 2081).take 3309) then
    some (11, stAuth)
  else none

/-! ### Sections in plaintext (R332, R338, R339) -/

/-- Section `i` is encrypted. -/
def secEnc (img : List Byte) (i : Nat) : Bool := bit (byteAt img (secAt i 2)) 0

/-- Some section is encrypted. -/
def anyEnc (img : List Byte) : Bool := (List.range (hdrNsec img)).any (secEnc img)

/-- Section `i` of the image in plaintext. -/
def State.section (s : State) (img : List Byte) (i : Nat) : Section :=
  let (o, k) := secSpan img i
  let data := (img.drop o).take k
  let block := beAt img 60 8 * 2 ^ 64 + i * 2 ^ 32
  let plain := if secEnc img i then padTo k (Config.aesCtr (s.slot (leAt img 28 2)).key block data) else data
  ⟨secType img i, leAt img (secAt i 12) 4 % 16, leAt img (secAt i 16) 4, plain⟩

/-- All sections, in section-table order. -/
def State.sectionsOf (s : State) (img : List Byte) : List Section :=
  (List.range (hdrNsec img)).map (s.section img)

/-- Firmware or configuration class (Table 13.5). -/
def Section.firmware (x : Section) : Bool := decide (x.ty ≤ 2)

/-- The programs of the control and the service pair (R333). -/
def firmwareOf (l : List Section) : List (List Byte) :=
  [1, 2].map (fun ty => ((l.find? (fun x => x.ty == ty)).map (·.data)).getD [])

/-- FW_MEAS or CFG_MEAS over sections (R339). -/
def measure (l : List Section) : Nat := (Config.sha384 (l.flatMap (·.data))).toNat

/-! ### Section contents (R333 to R337) -/

/-- A REGS pair may name this offset (R335). -/
def pairAllowed (off : Nat) : Bool :=
  let inBlock (lo hi : Nat) := decide (lo ≤ off) && decide (off < hi)
  !(inBlock 0 0x10000 || inBlock 0x240000 0x300000 || inBlock 0x380000 0x3C0000
      || inBlock 0x400000 0x410000)
    && (match findReg off with
      | some (r, _, _) => !r.fields.all (fun f => f.acc == .wo)
      | none => true)

/-- Pair `k` of a REGS section: offset and value. -/
def Section.pair (x : Section) (k : Nat) : Nat × Nat := (leAt x.data (8 * k) 4, leAt x.data (8 * k + 4) 4)

/-- Contents that step 12 checks (R333 to R336). -/
def Section.wellFormed (x : Section) : Bool :=
  let n := x.data.length
  match x.ty with
  | 1 | 2 => decide (n ≤ 2097152)
  | 0x10 => n == 1568
  | 0x11 => n == 8 * x.count && (List.range x.count).all (fun k => pairAllowed (x.pair k).1)
  | 0x12 => x.dest != tFlow && x.dest != tSa && x.dest != tTime
      && n == x.count * (4 + entryBytes x.dest)
  | _ => true

/-- Clamp a bead reserve of port index `p` (Table 1.10). -/
def clampReserve (p v : Nat) : Nat :=
  nearest (if p < 32 then [(40, 4096)] else if p < 36 then [(0, 4096)] else [(9, 256)]) v

/-- Legal values of OVF_ENTRIES. -/
def ovfLegal : List (Nat × Nat) :=
  [(0, 0), (1024, 1024), (2048, 2048), (4096, 4096), (8192, 8192), (16384, 16384), (32768, 32768)]

/-- Lengths of the three areas placed in `room` bytes, in order: none from the first that does not fit
(R334). -/
def placeAreas (room : Nat) : List Nat → List (Option Nat)
  | [] => []
  | a :: l =>
    if a ≤ room then some a :: placeAreas (room - a) l else (a :: l).map (fun _ => none)

/-- Lay out the LPDDR5 device (R334, R426) (DEDUCED, log 53) (DEDUCED, log 74). -/
def State.layDdr (s : State) (stage ovf ext : Nat) : State :=
  let total := if s.ddrUp then s.ddrBytes else 0
  let areas := placeAreas total [stage * 2 ^ 20, ovf * entryBytes tRodOverflow, ext * entryBytes tCarry]
  let used := (areas.filterMap id).foldl (· + ·) 0
  let ok := s.ddrUp && areas.all Option.isSome
  let s := { s with
    boot := { s.boot with stageMib := if (areas.head?.getD none).isSome && s.ddrUp then stage else 0 }
    dp := { s.dp with ovfSize := if ok then ovf else 0 } }
  let s := ((s.setF F.CRY_CFG_EXT_SIZE ext).setB F.CRY_CFG_EXT_OK ok).setF F.TRC_REGION_SIZE
    (min (2 ^ 14 - 1) ((total - used) / 2 ^ 20))
  if areas.all Option.isSome then s else s.postFree 0x00 4

/-- Apply the DEVICE record (Table 13.6): illegal values clamp, VERSION among them (R14, R334). -/
def State.applyDevice (s : State) (d : List Byte) : State :=
  let s := s.forN 192 (fun p s =>
    if 36 ≤ p ∧ p < 64 then s
    else { s with dp := { s.dp with
      beadCfg := sput beadDefault s.dp.beadCfg p (clampReserve p (leAt d (32 + 2 * p) 2)) } })
  let s := s.forN 288 (fun k s => { s with dp := { s.dp with
      beadCfg := sput beadDefault s.dp.beadCfg (1000 + 16 * (k / 8) + k % 8)
        (nearest [(64, 65536)] (leAt d (416 + 4 * k) 4)) } })
  let s := { s with boot := { s.boot with
    wdt := (nearest [(10, 1000)] (leAt d 4 2), nearest [(10, 1000)] (leAt d 6 2)) } }
  s.layDdr (nearest [(0, 0), (16, 16)] (leAt d 8 4)) (nearest ovfLegal (leAt d 12 4))
    (nearest [(0, 49152)] (leAt d 16 4))

/-- Apply the pairs of a REGS section in order (R335). -/
def State.applyRegs (s : State) (x : Section) : State :=
  s.forN x.count (fun k s => s.storeWord 2 (x.pair k).1 (x.pair k).2)

/-- Place a hashed entry as INSERT with EVICT = 0 does (R134, R336). -/
def State.placeEntry (s : State) (code e : Nat) : Nat × State :=
  let e := s.storedEntry code 0 0 e
  let key := keyOf code e
  if s.tableSize code = 0 then (stNotFound, s)
  else if (ways (s.bucketOf code key)).any (s.poisoned code) then (stIntegrity, s)
  else match s.findKey code key with
  | some i => (stOk, s.putEntry code i e)
  | none => match s.freeWay code key with
    | some i => (stOk, s.putEntry code i e)
    | none => (stNoRoom, s)

/-- Apply a TABLE record. -/
def State.applyRecord (s : State) (code i e : Nat) : Nat × State :=
  if keyedTable code then s.placeEntry code e
  else if s.entryThere code i then (stOk, s.writeEntry code i e) else (stNotFound, s)

/-- A record that returns NOT_FOUND is skipped: its rod is absent or its LPDDR5 table unavailable. -/
def State.skipRecord (s : State) (code i : Nat) : Bool :=
  (code == tRodDirect && decide (i < 262144)) || (code == tRodOverflow && s.tableSize code == 0)
    || (code == tCarry && !s.isF F.CRY_CFG_EXT_OK && decide (16384 ≤ i)
      && decide (i < 16384 + s.getF F.CRY_CFG_EXT_SIZE))

/-- Apply the records of a TABLE section from record `k` on: the state, or the status that fails step 13. -/
def State.applyTable (x : Section) : Nat → Nat → State → Except Nat State
  | 0, _, s => .ok s
  | n + 1, k, s =>
    let size := 4 + entryBytes x.dest
    let i := leAt x.data (size * k) 4
    let (st, s') := s.applyRecord x.dest i (leAt x.data (size * k + 4) (entryBytes x.dest))
    if st = stOk then applyTable x n (k + 1) s'
    else if st = stNotFound ∧ s.skipRecord x.dest i then applyTable x n (k + 1) (s.tally (T.img 0))
    else .error st

/-! ### FW_PARAM (R337, Table 13.8, Tables 14.1 and 15.9) -/

/-- Items of FW_PARAM, in order; a last item that does not fit its section is not taken. -/
def paramItems : Nat → List Byte → List (Nat × List Byte)
  | 0, _ => []
  | fuel + 1, bs =>
    let n := leAt bs 2 2
    if bs.length < 4 ∨ bs.length < 4 + n then []
    else (leAt bs 0 2, (bs.drop 4).take n) :: paramItems fuel (bs.drop (4 + ceilDiv n 4 * 4))

/-- A little-endian value of `n` bytes, clamped. -/
def scalar (n : Nat) (legal : List (Nat × Nat)) (bs : List Byte) : List Byte :=
  let v := leNat (padTo n bs)
  leBytes n (if legal.isEmpty then v else nearest legal v)

/-- A signed byte clamped to `[lo, hi]` (two's complement). -/
def clampSigned (lo hi : Int) (b : Byte) : Byte := BitVec.ofInt 8 (max lo (min hi b.toInt))

/-- The value that an item stores; none for an unknown ID. -/
def paramValue (id : Nat) (bs : List Byte) : Option (List Byte) :=
  match id with
  | 0x01 => some ((padTo 4 bs).map (clampSigned (-7) 0))
  | 0x02 => some ((padTo 1 bs).map (clampSigned (-3) 3))
  | 0x03 => some ((padTo 4 bs).map (fun b => BitVec.ofNat 8 (min 3 b.toNat)))
  | 0x04 => some (scalar 4 [(10, 60000)] bs)
  | 0x05 => some (padTo 4 bs)
  | 0x06 => some (padTo 32 bs)
  | 0x10 => some ((List.range 16).flatMap (fun p =>
      let b := padTo 4 (bs.drop (4 * p))
      b.take 3 ++ [BitVec.ofNat 8 (min 3 (byteAt b 3))]))
  | 0x20 | 0x21 => some (padTo 1 bs)
  | 0x22 | 0x23 => some (padTo 4 bs)
  | 0x24 => some (scalar 2 [(10, 1000)] bs)
  | 0x25 => some (scalar 4 [(500, 60000)] bs)
  | 0x26 => some (scalar 4 [(100, 30000)] bs)
  | 0x27 => some (scalar 2 [(10, 3600)] bs)
  | 0x28 => some (scalar 1 [(0, 1)] bs)
  | 0x29 => some (scalar 2 [(200, 65535)] bs)
  | 0x40 => some (padTo 4 bs)
  | 0x41 => some (padTo 16 bs)
  | 0x42 => some (scalar 1 [(0, 1)] bs)
  | 0x43 => some (padTo 2 bs)
  | 0x44 => some (scalar 2 [(0, 10000)] bs)
  | 0x45 => some (padTo 4 bs)
  | 0x60 => some (padTo 16 bs)
  | 0x61 => some (scalar 1 [(0, 1)] bs)
  | 0x62 => some (scalar 2 [(64, 16384)] bs)
  | 0x63 => some (scalar 4 [(0, 0), (100, 3600000)] bs)
  | 0x80 => some (padTo 256 bs)
  | 0x90 => some ((List.range 16).flatMap (fun l =>
      let b := padTo 4 (bs.drop (4 * l))
      [min 15 (byteAt b 0), min 15 (byteAt b 1), min 31 (byteAt b 2), byteAt b 3 % 2].map (BitVec.ofNat 8)))
  | _ => none

/-- Take the items of a FW_PARAM section into force; the later of two items with one ID is used. -/
def State.applyParams (s : State) (bs : List Byte) : State :=
  (paramItems bs.length bs).foldl (fun s it =>
    match paramValue it.1 it.2 with
    | none => s.tally (T.img 1)
    | some v => { s with boot := { s.boot with params := sput (fun _ => []) s.boot.params it.1 v } }) s

/-- Fields that show FW_PARAM items: ring, remote access, thermal and trace parameters (R352, R398, R426). -/
def State.showParams (s : State) : State :=
  let pairs := s.param 0x20 0 &&& s.pairsThere
  let ep := s.param 0x21 0xFF
  let en := decide (ep < 4) && bit pairs ep
  let s := (s.setF F.RNG_BYP_PAIRS pairs).setB F.RNG_STAT_EPLEN_EN en
  let s := s.setF F.RNG_STAT_EPLEN_PAIR (if en then ep else 0)
  let s := (s.setF F.RNG_RA_RD_SEG (s.param 0x22 0)).setF F.RNG_RA_WR_SEG (s.param 0x23 0)
  let s := match s.paramBytes 0x45 with
    | some b => s.storeReg 0x3C0020 (leNat b)
    | none => s
  let s := match s.paramBytes 0x60 with
    | some b => s.forN 4 (fun w s => s.setF (F.TRC_ROD_MASK_MASK w) (leAt b (4 * w) 4))
    | none => s
  match s.paramBytes 0x62 with
  | some b => s.storeReg 0x300134 (leNat b)
  | none => s

/-- Apply one section after DEVICE. -/
def State.applySection (s : State) (x : Section) : Except Nat State :=
  match x.ty with
  | 0x11 => .ok (s.applyRegs x)
  | 0x12 => State.applyTable x x.count 0 s
  | 0x13 => .ok (s.applyParams x.data)
  | _ => .ok s

/-- Apply the configuration sections (R333): DEVICE first, the others in section-table order, and the fields
that the firmware sets from FW_PARAM when it starts. -/
def State.applySections (s : State) (l : List Section) : Except Nat State :=
  let s := match l.find? (fun x => x.ty == 0x10) with
    | some d => s.applyDevice d.data
    | none => s
  match l.foldl (fun (r : Except Nat State) x => match r with
    | .ok s => s.applySection x
    | .error e => .error e) (.ok s) with
  | .ok s => .ok s.showParams
  | .error e => .error e

/-! ### Acceptance (R340) -/

/-- Steps 7 to 13 on an image whose header has passed. -/
def State.acceptBody (s : State) (img : List Byte) : Except (Nat × Nat) State :=
  match bodyStep img with
  | some f => .error f
  | none =>
    match if !anyEnc img then none else if !s.isF F.KEY_STORE_STAT_READY then some stReject
      else s.source 0 (leAt img 28 2) (some 5) false with
    | some st => .error (12, st)
    | none =>
      let secs := s.sectionsOf img
      if !secs.all Section.wellFormed then .error (12, stIntegrity)
      else
        let cfg := secs.filter (fun x => !x.firmware)
        match s.applySections cfg with
        | .error st => .error (13, st)
        | .ok s => .ok { s with
            meas := ⟨measure (secs.filter Section.firmware), measure cfg⟩
            boot := { s.boot with
              seq := hdrSeq img, arv := hdrArv img, snapOk := bit (leAt img 24 2) 1, sections := cfg
              full := true, fw := firmwareOf secs } }

/-- All of steps 1 to 13 (DESIGN CHOICE, log 73). -/
def State.acceptImage (s : State) (img : List Byte) : Except (Nat × Nat) State :=
  match s.headerStep img with
  | some f => .error f
  | none => s.acceptBody img

/-- An image has been abandoned, and no other is at hand (R344): STEP, RESULT, BOOT_FAIL and its event
(DEDUCED, log 74). -/
def State.bootFail (s : State) (step result : Nat) : State :=
  let was := s.isF F.GLB_BOOT_STAT_BOOT_FAIL
  let s := ((s.setF F.GLB_BOOT_STAT_STEP step).setF F.GLB_BOOT_STAT_RESULT result).setB
    F.GLB_BOOT_STAT_BOOT_FAIL true
  let s := { s.setB F.GLB_HL_CTL_BUSY false with
    boot := { s.boot with asking := false, failedAt := some s.tb.fab }, ring := { s.ring with bypBoot := false } }
  let s := s.bypass (s.getF F.RNG_BYP_CAUSE)
  if was then s else s.postFree 0x00 1

/-- Stage 7 is complete: source, slot and, when slot or SEQ differ from the last boot, TRIES (R342)
(DEDUCED, log 74). -/
def State.bootDone (s : State) (src slot : Nat) (active : List Byte) : State :=
  let s := ((s.setF F.GLB_BOOT_STAT_STEP 0).setF F.GLB_BOOT_STAT_RESULT stOk).setF F.GLB_BOOT_STAT_SLOT slot
  let s := if slot = s.getF F.BKP_BOOT_ACTIVE_SLOT ∧ s.boot.seq = s.getF F.BKP_BOOT_SEQ_SEQ then s
    else s.setF F.BKP_BOOT_TRIES 0
  let s := { s.setB F.GLB_HL_CTL_BUSY false with
    boot := { s.boot with loaded := true, src := src, asking := false }
    ring := { s.ring with bypBoot := false }
    upd := { s.upd with active := active } }
  (s.bypass (s.getF F.RNG_BYP_CAUSE)).setStageNo 8

/-- The boot source in use (R321): a host load that runs, or the strap's. -/
def State.source7 (s : State) : Nat := if s.isF F.GLB_HL_CTL_BUSY then 2 else s.getF F.GLB_BOOT_STAT_SOURCE

/-! ### Slot choice (R342) -/

/-- FALLBACK clears when the header of BAD_SLOT passes with another SEQ. -/
def State.checkFallback (s : State) (img0 img1 : List Byte) : State :=
  let img := if s.isF F.BKP_BOOT_BAD_SLOT then img1 else img0
  if s.isF F.BKP_BOOT_FALLBACK && (s.headerStep img).isNone
      && hdrSeq img != s.getF F.BKP_BOOT_BADSEQ_SEQ then s.setB F.BKP_BOOT_FALLBACK false
  else s

/-- The slot to try first; `ok0` and `ok1` say that the headers pass. -/
def State.preferSlot (s : State) (img0 img1 : List Byte) (ok0 ok1 : Bool) : Nat :=
  let pref := if ok0 && ok1 then (if hdrSeq img0 < hdrSeq img1 then 1 else 0) else if ok1 then 1 else 0
  let img := if pref = 1 then img1 else img0
  let other := if pref = 1 then ok0 else ok1
  if s.isF F.BKP_BOOT_FALLBACK && s.getF F.BKP_BOOT_BAD_SLOT == pref
      && hdrSeq img == s.getF F.BKP_BOOT_BADSEQ_SEQ && other then 1 - pref
  else pref

/-- Boot from NOR: the preferred slot, then the other one if its header passes. -/
def State.bootNor (s : State) (src : Nat) (img0 img1 : List Byte) : State :=
  let ok0 := (s.headerStep img0).isNone
  let ok1 := (s.headerStep img1).isNone
  let s := s.checkFallback img0 img1
  let pref := s.preferSlot img0 img1 ok0 ok1
  let img (k : Nat) := if k = 1 then img1 else img0
  match s.acceptImage (img pref) with
  | .ok t => t.bootDone src pref (img pref)
  | .error f =>
    if !(if pref = 1 then ok0 else ok1) then s.bootFail f.1 f.2
    else match s.acceptImage (img (1 - pref)) with
    | .ok t => t.bootDone src (1 - pref) (img (1 - pref))
    | .error f => s.bootFail f.1 f.2

/-! ### The retained snapshot (R347 to R349) -/

/-- The snapshot that stage 7 uses, if every condition of R349 holds. -/
def State.usableSnap (s : State) (img0 img1 : List Byte) : Option Snap :=
  match s.boot.snap with
  | none => none
  | some p =>
    let img := if p.slot = 1 then img1 else img0
    if s.isF F.GLB_BOOT_STAT_SNAP_VALID && decide (s.getF F.KEY_ARC_ARC ≤ p.arv) && !s.boot.fellBack
        && (decide (2 ≤ p.source) || ((s.headerStep img).isNone && hdrSeq img == p.seq))
      then some p else none

/-- Stage 7 is complete on a snapshot that has been reapplied; the firmware that the source delivers must match
FW_MEAS, or both pairs stay in reset (R347). -/
def State.bootSnap (s : State) (p : Snap) (img0 img1 : List Byte) : State :=
  let img := if p.slot = 1 then img1 else img0
  let secs := s.sectionsOf img
  let s := { s.setB F.GLB_RST_STAT_SNAPSHOT_USED true with
    meas := ⟨p.fw, p.cfg⟩
    boot := { s.boot with
      seq := p.seq, arv := p.arv, snapOk := true, sections := p.sections, full := false, fw := firmwareOf secs } }
  let s := s.bootDone p.source p.slot (if p.source = 3 then s.boot.copy.getD [] else if p.source = 2 then []
    else img)
  if measure (secs.filter Section.firmware) = p.fw then s
  else (({ s with boot := { s.boot with noFw := [0, 1], fw := [] } }).degrade).postFree 0x00 5

/-- The state in which the sections of the usable snapshot, if there is one, have been reapplied; one that cannot be
reapplied counts as none (R349). -/
def State.snapState (s : State) (img0 img1 : List Byte) : Option (Snap × State) :=
  match s.usableSnap img0 img1 with
  | none => none
  | some p => match s.applySections p.sections with
    | .ok t => some (p, t)
    | .error _ => none

/-- The training of LPDDR5 has ended (R412) (DEDUCED, log 61). -/
def State.ddrSettled (s : State) : Bool := s.isF F.MEM_STAT_TRAINED || s.getF F.MEM_STAT_CAUSE != 0

/-- READY stays 0 until a later reset: an empty VBATK without DRBG output, or a tamper (R256, R266). -/
def State.keyNever (s : State) : Bool :=
  s.key.tamperHold || (s.key.root.isNone && s.isF F.KEY_STORE_STAT_DRBG_FAIL)

/-- IMAGE_ACCEPT (R340): stage 7 reads its source and accepts or abandons what it reads. `img0` and `img1` are
NOR slots 0 and 1; `img0` is the image that the host or a neighbour delivers, the host's only once it has enabled
Bus Master (R345). The layout of R334 waits for the
end of LPDDR5 training (DEDUCED, log 61), encrypted sections wait for READY (R338), where it can still come
(R266) (DESIGN CHOICE, log 73). -/
def doImageAccept (img0 img1 : List Byte) (s : State) : State :=
  if s.stage ≠ 7 || s.boot.loaded || !s.releasing || !s.ddrSettled then s
  else if (anyEnc img0 || anyEnc img1) && !s.isF F.KEY_STORE_STAT_READY && !s.keyNever then s
  else match s.snapState img0 img1 with
  | some (p, t) => t.bootSnap p img0 img1
  | none =>
    if s.isF F.GLB_HL_CTL_BUSY then
      if !s.memReads then s else
      let img := img0.take (s.getF F.GLB_HL_LEN_LEN)
      match s.acceptImage img with
      | .ok t => t.bootDone 2 0 []
      | .error f => s.bootFail f.1 f.2
    else if s.getF F.GLB_BOOT_STAT_SOURCE ≤ 1 then
      if s.isF F.GLB_BOOT_STAT_BOOT_FAIL then s else s.bootNor (s.getF F.GLB_BOOT_STAT_SOURCE) img0 img1
    else if s.boot.asking then
      match s.acceptImage img0 with
      | .ok t =>
        let keep := t.ddrUp
        let t := { t with boot := { t.boot with copy := if keep then some img0 else none } }
        t.bootDone 3 0 (if keep then img0 else [])
      | .error f => s.bootFail f.1 f.2
    else s

/-- IMAGE_BLOCK_TIMEOUT (Table 13.7, step 14): a block from the host or a neighbour is late. -/
def doImageBlockTimeout (s : State) : State :=
  if s.stage = 7 ∧ (s.isF F.GLB_HL_CTL_BUSY ∨ s.boot.asking) then s.bootFail 14 stTimeout else s

/-- HOST_LOAD_GO (R345): ignored while BUSY or outside stage 7, and where neither the strap nor BOOT_FAIL calls
for a host load. -/
def doHostLoadGo (s : State) : State :=
  if s.stage = 7 ∧ !s.isF F.GLB_HL_CTL_BUSY
      ∧ (s.getF F.GLB_BOOT_STAT_SOURCE = 2 ∨ s.isF F.GLB_BOOT_STAT_BOOT_FAIL) then
    s.setB F.GLB_HL_CTL_BUSY true
  else s

/-- The second that follows a failure has passed (R346). -/
def State.askAgain (s : State) : Bool :=
  match s.boot.failedAt with
  | none => true
  | some t => decide (t + cycS ≤ s.tb.fab)

/-- NEIGHBOUR_BOOT_REQUEST (R346, R365): an IMG_REQ leaves every B port with link up, with BYP_CTL asserted; after a
failure 1 s later. -/
def doNeighbourBootRequest (s : State) : State :=
  if s.stage ≠ 7 || s.boot.loaded || s.boot.asking || s.getF F.GLB_BOOT_STAT_SOURCE != 3
      || s.isF F.GLB_HL_CTL_BUSY || !s.askAgain then s
  else
    let s := { s with boot := { s.boot with asking := true }, ring := { s.ring with bypBoot := true } }
    let s := s.bypass (s.getF F.RNG_BYP_CAUSE)
    s.forN 8 (fun p s =>
      if s.ethPresent p && s.linkUp p then
        s.emit (.eplen p (s.eplenHdr 0x30 (p % 2) 0) [])
      else s)

/-! ### Stage 9 (R313, R322, R343, R441) -/

/-- Each pair has passed or failed its injection test (R247). -/
def State.coresDone (s : State) : Bool :=
  [0, 1].all (fun i => (sget (fun _ => none) s.saf.pairPass i).isSome
    || s.getF (F.SAF_PAIR_STAT_STATE i) == 5)

/-- GPIO_INIT goes into every GLB_GPIO_CFG (R441); OWNER is ignored. -/
def State.gpioInit (s : State) : State :=
  s.forN 64 (fun g s =>
    let v := match s.paramBytes 0x80 with
      | some b => leAt b (4 * g) 4
      | none => 0x10
    s.storeReg (0x400 + 4 * g) v)

/-- Rods start themselves, unless safe start holds them (R322). -/
def State.startRods (s : State) : State :=
  s.forN 128 (fun n s =>
    if s.rodPresent n && !(s.rod n).resetting && s.getF (F.ROD_STAT_STATE n) == 1
        && s.isF (F.ROD_CTL_AUTOSTART n) then (s.rodStart n).getD s else s)

/-- The snapshot of this load is to be written (R348). -/
def State.snapDue (s : State) : Bool :=
  s.boot.full && s.boot.snapOk && decide ((s.boot.sections.map (fun x => x.data.length)).foldl (· + ·) 0 ≤ 1044480)

/-- SERVICE_ENTRY (R313): stages 6, 7 and 8 are complete, and stage 9 is entered. -/
def doServiceEntry (s : State) : State :=
  if !s.releasing || !s.boot.loaded || !s.boot.tested || !s.coresDone then s
  else
    let s := s.setStageNo 9
    let s := s.setB F.GLB_RST_STAT_FWD_HELD (bit (s.getF F.GLB_STRAP_CODE) 0 && !s.isF F.GLB_START_FWD_GO)
    let s := s.gpioInit
    let s := s.forN 128 (fun n s => if s.rodPresent n && !(s.rod n).resetting then s.rodGo n 1 else s)
    let s := if s.isF F.GLB_RST_STAT_FWD_HELD then s else s.startRods
    let s := s.bypass (s.getF F.RNG_BYP_CAUSE)
    let s := (s.setB F.BKP_BOOT_PENDING true).setF F.BKP_BOOT_ACTIVE_SLOT (s.getF F.GLB_BOOT_STAT_SLOT)
    let s := s.setF F.BKP_BOOT_SEQ_SEQ s.boot.seq
    let s := if s.boot.full then
        let s := s.setB F.GLB_BOOT_STAT_SNAP_VALID false
        if s.snapDue then s else { s with boot := { s.boot with snap := none } }
      else s
    let s := if s.param 0x61 1 = 1 then s.startTrace else s
    let late := s.pwr.noAck
    let s := { s with
      tb := { s.tb with outHigh := false }
      boot := { s.boot with waking := false, gpioHold := none, since := some s.tb.fab }
      pwr := { s.pwr with noAck := [] } }
    (late.foldl (fun s _ => s.postFree 0x3C 6) s).announce 130

/-- FWD_GO (R322): a write of 1 to GLB_START.FWD_GO; before stage 9 it is kept. -/
def doFwdGo (s : State) : State :=
  let s := s.setB F.GLB_START_FWD_GO true
  if s.serving && s.isF F.GLB_RST_STAT_FWD_HELD then
    let s := s.setB F.GLB_RST_STAT_FWD_HELD false
    (s.bypass (s.getF F.RNG_BYP_CAUSE)).startRods
  else s

/-- CLK_FAB cycles that the image has spent in RUN and RUN-LEAN with no reset: those since stage 9 was entered, which
SLEEP-RETAIN and STANDBY end, and those before SLEEP-RETAIN (R343, R391). -/
def State.ranFor (s : State) : Nat :=
  s.boot.ran + match s.boot.since with
  | none => 0
  | some t => s.tb.fab - t

/-- IMAGE_CONFIRMED (R343): 60 s in RUN or RUN-LEAN have passed with no reset. -/
def doImageConfirmed (s : State) : State :=
  if !s.serving || !s.isF F.BKP_BOOT_PENDING || 2 ≤ s.getF F.PWR_MODE_MODE || decide (s.ranFor < 60 * cycS) then s
  else
    let s := ((s.setB F.BKP_BOOT_PENDING false).setF F.BKP_BOOT_TRIES 0).setB F.GLB_BOOT_STAT_CONFIRMED true
    if s.getF F.KEY_ARC_ARC < s.boot.arv then (s.setArc s.boot.arv).postFree 0x00 3 else s

/-- SNAPSHOT_WRITTEN (R348). -/
def doSnapshotWritten (s : State) : State :=
  if s.serving && s.snapDue then
    let p : Snap := ⟨s.boot.src, s.getF F.GLB_BOOT_STAT_SLOT, s.boot.seq, s.boot.arv, s.meas.fw, s.meas.cfg,
      s.boot.sections⟩
    ({ s with boot := { s.boot with snap := some p, full := false } }).setB F.GLB_BOOT_STAT_SNAP_VALID true
  else s

/-! ### Meanings of the commands -/

/-- Meaning of SERVICE_ENTRY (R313). -/
def execServiceEntry (s : State) : Host.Outcome State Fault Refusal := .next (doServiceEntry s)

/-- Meaning of FWD_GO (R322). -/
def execFwdGo (s : State) : Host.Outcome State Fault Refusal := .next (doFwdGo s)

/-- Meaning of IMAGE_ACCEPT (R340). -/
def execImageAccept (img0 img1 : List Byte) (s : State) : Host.Outcome State Fault Refusal :=
  .next (doImageAccept img0 img1 s)

/-- Meaning of IMAGE_BLOCK_TIMEOUT (R340). -/
def execImageBlockTimeout (s : State) : Host.Outcome State Fault Refusal := .next (doImageBlockTimeout s)

/-- Meaning of IMAGE_CONFIRMED (R343). -/
def execImageConfirmed (s : State) : Host.Outcome State Fault Refusal := .next (doImageConfirmed s)

/-- Meaning of HOST_LOAD_GO (R345). -/
def execHostLoadGo (s : State) : Host.Outcome State Fault Refusal := .next (doHostLoadGo s)

/-- Meaning of NEIGHBOUR_BOOT_REQUEST (R346). -/
def execNeighbourBootRequest (s : State) : Host.Outcome State Fault Refusal := .next (doNeighbourBootRequest s)

/-- Meaning of SNAPSHOT_WRITTEN (R348). -/
def execSnapshotWritten (s : State) : Host.Outcome State Fault Refusal := .next (doSnapshotWritten s)

end Sys2Proof.Machine
end

