-- ==== Sys2Proof/Machine/Ring.lean ====
section
/-! DEFINITION. The Eplen ring (R352 to R358, R362, R363) and the initiator side of the remote windows (R290
to R296). A received Eplen frame is an operand: `d` is the direction of the Eplen port that received it, and
`frame` its bytes from DA to FCS. -/

namespace Sys2Proof.Machine

/-! ### Frames (R356) -/

/-- Messages of Table 14.3. -/
def eplenMsgs : List Nat :=
  [1, 2, 3, 0x10, 0x11, 0x12, 0x20, 0x30, 0x31, 0x32, 0x33, 0x34, 0x38, 0x39, 0x3A, 0x3B, 0x3C, 0x3D]

/-- Messages that travel more than one hop. -/
def eplenRelayed : List Nat := [2, 3, 0x10, 0x11, 0x12, 0x20, 0x38, 0x39, 0x3A, 0x3B, 0x3C, 0x3D]

/-- Header and body of a received frame; none where R356 drops it. -/
def eplenParse (frame : List Byte) : Option (EplenHdr × List Byte) :=
  let len := beAt frame 20 2
  if byteAt frame 14 ≠ 0x4B ∨ byteAt frame 15 ≠ 0x10 ∨ frame.length < 34 + len
      ∨ !eplenMsgs.contains (byteAt frame 16) then none
  else some ({ msg := byteAt frame 16, dir := byteAt frame 17 % 2, head := bit (byteAt frame 17) 1
               hopsLeft := byteAt frame 18, hopsDone := byteAt frame 19, origin := beAt frame 22 8 },
             (frame.drop 30).take len)

/-- The control pair runs Eplen on a declared pair, in RUN or RUN-LEAN (R249, R352). -/
def State.eplenUp (s : State) : Bool :=
  s.pairUp 0 && s.isF F.RNG_STAT_EPLEN_EN && decide (s.getF F.PWR_MODE_MODE ≤ 1)

/-- The Eplen port of direction `d` has a neighbour (R354). -/
def State.hasNbr (s : State) (d : Nat) : Bool := s.isF (F.RNG_NBR_INFO_VALID (d % 2))

/-- Receive a frame with message `msg`; a malformed one is tallied. -/
def State.eplenIn (s : State) (frame : List Byte) (msg : Nat) (act : EplenHdr → List Byte → State → State) :
    State :=
  if !s.eplenUp then s
  else match eplenParse frame with
  | none => s.tally (T.rng 1)
  | some (h, body) => if h.msg = msg then act h body s else s

/-- A frame with HOPS_LEFT above 0 leaves through the other Eplen port (R357). -/
def State.relay (s : State) (d : Nat) (h : EplenHdr) (body : List Byte) : State :=
  if h.hopsLeft = 0 then s
  else if h.origin = s.selfTag then s.tally (T.rng 3)
  else if !s.hasNbr (1 - d) then s.tally (T.rng 2)
  else s.emit (.eplen (s.eplenPort (1 - d))
    { h with hopsLeft := h.hopsLeft - 1, hopsDone := (h.hopsDone + 1) % 256 } body)

/-- Answer a request that arrived on the port of direction `d` (R357); ANS and ERR leave by the queue of the port
(R363). -/
def State.answer (s : State) (d : Nat) (h : EplenHdr) (msg : Nat) (body : List Byte) : State :=
  let hdr := s.eplenHdr msg (1 - h.dir) h.hopsDone
  if msg = 0x11 ∨ msg = 0x12 then s.sendEplen (s.eplenPort d) hdr body
  else s.emit (.eplen (s.eplenPort d) hdr body)

/-- Hop of the originating device, counted from this one. -/
def hopOf (h : EplenHdr) : Nat := h.hopsDone + 1

/-- EPLEN_RELAY (R357). -/
def doEplenRelay (d : Nat) (frame : List Byte) (s : State) : State :=
  if !s.eplenUp then s
  else match eplenParse frame with
  | none => s.tally (T.rng 1)
  | some (h, body) => if eplenRelayed.contains h.msg then s.relay (d % 2) h body else s

/-! ### Neighbours and reach (R354, R355) -/

/-- HELLO_TIMER (R354). -/
def doHelloTimer (s : State) : State :=
  if !s.eplenUp then s
  else s.forN 2 (fun d s =>
    let p := s.eplenPort d
    if s.linkUp p then
      s.emit (.eplen p (s.eplenHdr 1 d 0)
        (beBytes 2 (s.getF F.GLB_ID_PART) ++ beBytes 1 p ++ beBytes 1 (b2n s.isHead)))
    else s)

/-- HELLO (R354): a neighbour that appears or changes tag is a topology change. -/
def doHello (d : Nat) (frame : List Byte) (s : State) : State :=
  let d := d % 2
  s.eplenIn frame 1 (fun h body s =>
    let old := (s.hasNbr d, s.getF (F.RNG_NBR_LO_TAG d) + s.getF (F.RNG_NBR_HI_TAG d) * 2 ^ 32)
    let s := (s.setF (F.RNG_NBR_LO_TAG d) h.origin).setF (F.RNG_NBR_HI_TAG d) (h.origin / 2 ^ 32)
    let s := (s.setF (F.RNG_NBR_INFO_PORT d) (byteAt body 2)).setB (F.RNG_NBR_INFO_VALID d) true
    if old = (true, h.origin) then s else s.topoChange)

/-- NEIGHBOUR_LOST (R354): no HELLO for 3 × HELLO_MS. -/
def doNeighbourLost (d : Nat) (s : State) : State := if s.eplenUp then s.clearNbr (d % 2) else s

/-- PROBE (R355). -/
def doProbe (s : State) : State :=
  if !s.eplenUp then s
  else
    let s := { s with ring := { s.ring with probing := true, ans := [], heads := [], back := none } }
    s.forN 2 (fun d s =>
      if s.hasNbr d then
        s.emit (.eplen (s.eplenPort d) (s.eplenHdr 2 d Config.probeHops.toNat) (beBytes 1 (b2n s.isHead)))
      else s)

/-- PROBE_RECEIVED (R355): answered and relayed; the own PROBE closes the ring (DEDUCED, log 66). -/
def doProbeReceived (d : Nat) (frame : List Byte) (s : State) : State :=
  let d := d % 2
  s.eplenIn frame 2 (fun h body s =>
    if h.origin = s.selfTag then
      if s.ring.probing then { s with ring := { s.ring with back := some (hopOf h) } } else s
    else (s.answer d h 3 (beBytes 1 (b2n s.isHead))).relay d h body)

/-- PROBE_ANS (R355): the answer of a hop arrives; one that is still to travel is relayed. -/
def doProbeAns (d : Nat) (frame : List Byte) (s : State) : State :=
  s.eplenIn frame 3 (fun h body s =>
    if 0 < h.hopsLeft then s.relay (d % 2) h body
    else if !s.ring.probing then s
    else
      let dir := 1 - h.dir
      let heads := if byteAt body 0 = 1 then s.ring.heads ++ [(dir, (hopOf h), h.origin)] else s.ring.heads
      { s with ring := { s.ring with ans := (dir, (hopOf h)) :: s.ring.ans, heads := heads } })

/-- Largest `h`, at most `fuel`, for which answers have arrived from hops `n + 1` to `h`. -/
def reachOf (ans : List (Nat × Nat)) (d : Nat) : Nat → Nat → Nat
  | 0, n => n
  | fuel + 1, n => if ans.contains (d, n + 1) then reachOf ans d fuel (n + 1) else n

/-- The nearest ring head among the answers (direction, hop). -/
def nearestHead : List (Nat × Nat × Nat) → Option (Nat × Nat)
  | [] => none
  | (d, h, _) :: l =>
    match nearestHead l with
    | none => some (d, h)
    | some (d', h') => if h < h' ∨ (h = h' ∧ d ≤ d') then some (d, h) else some (d', h')

/-- Answers of two different heads have arrived. -/
def manyHeads (l : List (Nat × Nat × Nat)) : Bool := l.any (fun a => l.any (fun b => a.2.2 != b.2.2))

/-- PROBE_WINDOW_END (R355): after 1 ms reach, ring size and nearest head are fixed (DEDUCED, log 66). -/
def doProbeWindowEnd (s : State) : State :=
  if !s.eplenUp || !s.ring.probing then s
  else
    let r := s.ring
    let r0 := reachOf r.ans 0 15 0
    let r1 := reachOf r.ans 1 15 0
    let s := (s.setF F.RNG_REACH_REACH0 r0).setF F.RNG_REACH_REACH1 r1
    let s := (s.setB F.RNG_STAT_CLOSED r.back.isSome).setF F.RNG_REACH_RING_SIZE (r.back.getD 0)
    let s := s.setB F.RNG_STAT_MULTI_HEAD (manyHeads r.heads)
    let s := if s.isHead ∨ (r0 = 0 ∧ r1 = 0) then (s.setF F.RNG_REACH_HEAD_DIR 0).setF F.RNG_REACH_HEAD_HOP 0
      else match nearestHead r.heads with
      | some (d, h) => (s.setF F.RNG_REACH_HEAD_DIR d).setF F.RNG_REACH_HEAD_HOP h
      | none => s
    { s with ring := { s.ring with probing := false, ans := [], heads := [], back := none } }

/-! ### The remote-error log (R295, R296) -/

/-- A remote window beside its registers. -/
def State.win (s : State) (h : Nat) : Win := sget (fun _ => {}) s.host.wins h
def State.setWin (s : State) (h : Nat) (w : Win) : State :=
  { s with host := { s.host with wins := sput (fun _ => {}) s.host.wins h w } }

/-- A remote failure: its record, or the loss of it, then interrupt source 129. -/
structure RelRec where
  h : Nat
  rseq : Nat
  cause : Nat
  kind : Nat
  addr : Nat
  data : Nat
  sec : Nat := 0
  ns : Nat := 0

/-- Record a remote failure (Table 11.3). -/
def State.relRecord (s : State) (r : RelRec) : State :=
  let s := s.setWin r.h { s.win r.h with errs := (s.win r.h).errs + 1 }
  if s.getF F.RNG_REL_STAT_UNREAD = 32 then (s.satF F.RNG_REL_STAT_LOST 1).tally (T.rng 0)
  else
    let i := s.getF F.RNG_REL_STAT_WRITTEN % 32
    let ws := [r.addr % 2 ^ 26 + r.h * 2 ^ 26, r.rseq, r.cause % 16 + r.kind % 8 * 16 + 2 ^ 31, r.data,
      r.ns % 2 ^ 30, r.sec, r.sec / 2 ^ 32 % 2 ^ 16, s.now32]
    let s := s.forN 8 (fun k s => s.setF (F.RNG_REL_REC_WORD i k) (ws.getD k 0))
    let s := (s.incF F.RNG_REL_STAT_WRITTEN).satF F.RNG_REL_STAT_UNREAD 1
    (s.tally (T.rngWin r.h 0)).announce 129

/-- A write of `n` to RNG_REL_ACK (R296). -/
def State.relAck (s : State) (n : Nat) : State :=
  let u := s.getF F.RNG_REL_STAT_UNREAD
  s.setF F.RNG_REL_STAT_UNREAD (u - min (n % 64) u)

/-- RNG_REL_ACK. -/
def doRngRelAck (n : Nat) (s : State) : State := s.busGate (fun s => s.relAck n)

/-! ### Remote windows (R290 to R294) -/

/-- Fields of window `h`, 1 to 15. -/
def State.winDir (s : State) (h : Nat) : Nat := s.getF (F.RNG_WIN_CFG_DIR (h - 1))

/-- Window `h` is in use and reaches its device (R290). -/
def State.winReaches (s : State) (h : Nat) : Bool :=
  s.isF (F.RNG_WIN_CFG_EN (h - 1))
    && decide (h ≤ s.getF (if s.winDir h = 0 then F.RNG_REACH_REACH0 else F.RNG_REACH_REACH1))

/-- The remote-error record of an access of window `h` for a cause found locally. -/
def Acc.report (a : Acc) (h cause : Nat) : RelRec :=
  ⟨h, a.rseq, cause, a.kind, a.off, if a.kind = 2 ∨ a.kind = 4 then 0 else a.data.getD 0 0, 0, 0⟩

/-- The record of a failed access of window `h`; for a failure that the far device reports in its answer, which carries no
time (Table 14.3), the far device's clock is a free value (DESIGN CHOICE, log 122). -/
def State.reportAcc (s : State) (h : Nat) (a : Acc) (st : Nat) (far : Bool) : State :=
  if far then
    let (m, s) := s.fresh
    let (n, s) := s.fresh
    s.relRecord { a.report h st with
      sec := (Config.free m).toNat % 2 ^ 48, ns := (Config.free n).toNat % 1000000000 }
  else s.relRecord (a.report h st)

/-- REQ body of an access (Table 14.3) (PRESUMED, log 68). -/
def State.reqBody (s : State) (h : Nat) (a : Acc) : List Byte :=
  let tag := s.getF (F.RNG_WIN_TAG_LO_TAG (h - 1)) + s.getF (F.RNG_WIN_TAG_HI_TAG (h - 1)) * 2 ^ 32
  beBytes 4 a.rseq ++ beBytes 1 h ++ beBytes 1 a.kind ++ beBytes 1 a.atomic ++ beBytes 1 a.count
    ++ beBytes 4 a.off ++ beBytes 8 tag ++ a.data.flatMap (beBytes 4)

/-- The REQ frame of an access leaves, if the control pair runs Eplen. -/
def State.sendReq (s : State) (h : Nat) (a : Acc) : State :=
  if s.eplenUp then
    s.emit (.eplen (s.eplenPort (s.winDir h)) (s.eplenHdr 0x10 (s.winDir h) (h - 1)) (s.reqBody h a))
  else s

/-- Issue what an earlier acknowledged write does not hold back (R292): posted writes leave the queue, every
other access stays in it until it is answered. -/
def State.issueAll (s : State) (h : Nat) : List Acc → List Acc × State
  | [] => ([], s)
  | a :: l =>
    let s := if a.sent then s else s.sendReq h a
    if a.kind = 1 then ({ a with sent := true } :: l, s)
    else
      let (l, s) := s.issueAll h l
      (if a.kind = 0 then l else { a with sent := true } :: l, s)

/-- Issue the waiting accesses of window `h`; ACK_PENDING counts acknowledged writes (DEDUCED, log 67). -/
def State.issue (s : State) (h : Nat) : State :=
  let (q, s) := s.issueAll h (s.win h).q
  let s := s.setWin h { s.win h with q := q }
  s.setF (F.RNG_WIN_STAT_ACK_PENDING (h - 1)) (min 32 (q.filter (fun a => a.kind == 1)).length)

/-- All ones for each dword. -/
def allOnes (count : Nat) : Nat := 2 ^ (32 * count) - 1

/-- ANS to a REQ that arrived on the port of direction `d` (Table 14.3). -/
def State.ansReq (s : State) (d : Nat) (hdr : EplenHdr) (rseq st : Nat) (data : List Nat) : State :=
  if s.eplenUp then
    s.answer d hdr 0x11 (beBytes 4 rseq ++ beBytes 1 st ++ beBytes 1 data.length ++ data.flatMap (beBytes 4))
  else s

/-- The fence of window `h` completes (R294): the value goes to the host, or to the far-side request that read
RNG_WIN_FENCE[h] here, with RNG_WIN_STAT[h] as a second dword (DEDUCED, log 67). -/
def State.fenceDone (s : State) (h : Nat) (a : Acc) (late : Bool) : State :=
  let n := min 255 (s.win h).errs
  let s := (s.setF (F.RNG_WIN_FENCE_ERRORS (h - 1)) n).setB (F.RNG_WIN_FENCE_TIMEOUT (h - 1)) late
  let s := s.setWin h { s.win h with errs := 0 }
  let v := n + 256 * b2n late
  match a.rep with
  | none =>
    let stat := if a.wide then s.regWord (F.RNG_WIN_STAT_LAST_STATUS (h - 1)).off * 2 ^ 32 else 0
    s.emit (.completion (v + stat))
  | some r => s.ansReq r.d r.hdr r.rseq stOk
      ([v, s.regWord (F.RNG_WIN_STAT_LAST_STATUS (h - 1)).off].take r.count)

/-- An access of window `h` ends with a status and, for a read or atomic, the far value (R292 to R294); `far` says that the
status came in an answer (DEDUCED, log 67). -/
def State.accEnd (s : State) (h : Nat) (a : Acc) (st v : Nat) (far : Bool := false) : State :=
  let s := if st = stOk ∨ a.kind = 5 then s else s.reportAcc h a st far
  match a.kind with
  | 0 | 5 => s
  | 4 => s.fenceDone h a (st == stTimeout)
  | 1 => s.setF (F.RNG_WIN_STAT_LAST_STATUS (h - 1)) st
  | _ => (s.setF (F.RNG_WIN_STAT_LAST_STATUS (h - 1)) st).emit
      (.completion (if st = stOk then v else allOnes (if a.kind = 2 then a.count else 1)))

/-- An access through window `h` (R290, R291): it takes the next RSEQ and is issued in order, or recorded as
NOT_FOUND and not sent. -/
def State.access (s : State) (h kind atomic off count : Nat) (data : List Nat) (rep : Option Reply := none)
    (wide : Bool := false) : State :=
  let f := F.RNG_WIN_SEQ_NEXT (h - 1)
  let a : Acc :=
    { rseq := s.getF f, kind := kind, atomic := atomic, off := off, count := count, data := data, rep := rep, wide := wide }
  let s := s.incF f
  if !s.winReaches h then s.accEnd h a stNotFound 0
  else (s.setWin h { s.win h with q := (s.win h).q ++ [a] }).issue h

/-- Remote BAR0 offset of offset `x` in a sub-range of window `h` (R290). -/
def State.remoteOff (s : State) (h x : Nat) : Nat := s.getF (F.RNG_WIN_CFG_BASE (h - 1)) * 2 ^ 19 + x % 2 ^ 19

/-- The runs of complete dwords in a write: offset of the first, and the values (PRESUMED, log 68). -/
def dwordRuns (off : Nat) : List (Nat × Bool) → List (Nat × List Nat)
  | [] => []
  | (v, whole) :: l =>
    let rest := dwordRuns (off + 4) l
    if !whole then rest
    else match l, rest with
    | (_, true) :: _, (_, vs) :: rs => (off, v :: vs) :: rs
    | _, _ => (off, [v]) :: rest

/-- Check a write TLP by R287 and hand its complete dwords to `act`; a long one is logged through AER. -/
def State.writeTlp (s : State) (off : Nat) (dwords : List (Nat × Bool)) (act : Nat → List Nat → State → State) :
    State :=
  if 32 < dwords.length then s.aerPosted.tally (T.dma 1)
  else
    let part := (dwords.filter (fun w => !w.2)).length
    let s := if part = 0 then s else s.tallyN (T.dma 0) part
    (dwordRuns off dwords).foldl (fun s r => act r.1 r.2 s) s

/-- A write through window `h`, posted or acknowledged; window 0 ignores it. -/
def State.remoteWrite (s : State) (h x kind : Nat) (dwords : List (Nat × Bool)) : State :=
  let h := h % 16
  s.writeTlp (x % 2 ^ 19 / 4 * 4) dwords (fun o vs s =>
    if h = 0 then s else s.access h kind 0 (s.remoteOff h o) vs.length (vs.map (· % 2 ^ 32)))

/-- Acknowledged writes that window `h` has queued. -/
def State.ackQueued (s : State) (h : Nat) : Nat := ((s.win h).q.filter (fun a => a.kind == 1)).length

/-- The queue of 32 acknowledged writes has no room for a write of the host (R292). -/
def State.noCredit (s : State) : HeldWrite → Bool
  | .window h x 1 dwords => h % 16 != 0 && decide (dwords.length ≤ 32)
      && decide (32 < s.ackQueued (h % 16) + (dwordRuns (x % 2 ^ 19 / 4 * 4) dwords).length)
  | _ => false

/-- Put a posted write behind those that wait. -/
def State.hold (s : State) (w : HeldWrite) : State := { s with host := { s.host with held := s.host.held ++ [w] } }

/-- A posted write arrives: it waits behind others that wait, and for room in its own queue; otherwise it is taken. -/
def State.posted (s : State) (w : HeldWrite) (take_ : State → State) : State :=
  s.onWrite (fun s => if !s.host.held.isEmpty || s.noCredit w then s.hold w else take_ s)

/-- REMOTE_POSTED_WRITE (R291): dwords with their byte enables. -/
def doRemotePostedWrite (h x : Nat) (dwords : List (Nat × Bool)) (s : State) : State :=
  s.posted (.window h x 0 dwords) (fun s => s.remoteWrite h x 0 dwords)

/-- REMOTE_ACK_WRITE (R292). While the queue of 32 is full, posted credits are withheld: the write and every later posted
write wait on the link. -/
def doRemoteAckWrite (h x : Nat) (dwords : List (Nat × Bool)) (s : State) : State :=
  s.posted (.window h x 1 dwords) (fun s => s.remoteWrite h x 1 dwords)

/-- A read names one dword, or two aligned to 8 bytes (R287). -/
def readSizeOk (off count : Nat) : Bool := count == 1 || (count == 2 && off % 8 == 0)

/-- REMOTE_READ (R293). -/
def doRemoteRead (h x count : Nat) (s : State) : State :=
  let h := h % 16
  let x := x % 2 ^ 19 / 4 * 4
  s.onRead (fun s =>
    if !readSizeOk x count then s.emit .unsupported
    else if h = 0 then s.emit (.completion 0)
    else s.access h 2 0 (s.remoteOff h x) count [])

/-- REMOTE_ATOMIC (R289, R293): op 0 FetchAdd, 1 Swap, 2 CAS with compare `a` and swap `b`. -/
def doRemoteAtomic (h x op size a b : Nat) (s : State) : State :=
  let h := h % 16
  s.onRead (fun s =>
    if size ≠ 32 then s.emit .unsupported
    else if h = 0 then s.emit (.completion 0)
    else
      let op := min op 2
      let data := if op = 2 then [a % 2 ^ 32, b % 2 ^ 32] else [a % 2 ^ 32]
      s.access h 3 op (s.remoteOff h (x / 4 * 4)) data.length data)

/-- A read of RNG_WIN_FENCE[h] (R294), by the host or for a far-side request (DEDUCED, log 87). -/
def State.fence (s : State) (h : Nat) (rep : Option Reply) (wide : Bool := false) : State :=
  s.access h 4 0 0 0 [] rep wide

/-- RNG_WIN_FENCE; before stage 9 it reads its reset value (R316). -/
def doRngWinFence (h : Nat) (s : State) : State :=
  let h := h % 16
  s.onRead (fun s => if h = 0 ∨ !s.serving then s.emit (.completion 0) else s.fence h none)

/-- Take the first access of a list that `p` holds of. -/
def takeAcc (p : Acc → Bool) : List Acc → Option (Acc × List Acc)
  | [] => none
  | a :: l => if p a then some (a, l) else match takeAcc p l with
    | some (x, l) => some (x, a :: l)
    | none => none

/-- A sent access of window `h` ends; later ones are issued. -/
def State.settleAcc (s : State) (h : Nat) (a : Acc) (rest : List Acc) (st v : Nat) (far : Bool := false) : State :=
  ((s.setWin h { s.win h with q := rest }).accEnd h a st v far).issue h

/-- An ANS completes the matching access of the window that reaches its hop, or is late (R293). -/
def State.ansIn (d : Nat) (frame : List Byte) (s : State) : State :=
  s.eplenIn frame 0x11 (fun h body s =>
    if 0 < h.hopsLeft then s.relay (d % 2) h body
    else
      let w := (hopOf h)
      if 15 < w then s
      else
        let count := byteAt body 5
        let v := (List.range count).foldl (fun n k => n + beAt body (6 + 4 * k) 4 * 2 ^ (32 * k)) 0
        let fits (a : Acc) := a.sent && a.rseq == beAt body 0 4 && a.kind != 0 && s.winDir w + h.dir == 1
        match takeAcc fits (s.win w).q with
        | none => s.tally (T.rngWin w 1)
        | some (a, rest) => s.settleAcc w a rest (byteAt body 4 % 16) v true)

/-- TMO has passed for the oldest access sent through window `h` (R292 to R294). -/
def State.tmoIn (h : Nat) (s : State) : State :=
  let h := h % 16
  match takeAcc (fun a => a.sent) (s.win h).q with
  | none => s
  | some (a, rest) => s.settleAcc h a rest stTimeout 0

/-- ERR (R295): a failed posted write is recorded. -/
def doErr (d : Nat) (frame : List Byte) (s : State) : State :=
  s.eplenIn frame 0x12 (fun h body s =>
    if 0 < h.hopsLeft then s.relay (d % 2) h body
    else
      let w := byteAt body 4 % 16
      if w = 0 then s
      else s.relRecord ⟨w, beAt body 0 4, byteAt body 5, byteAt body 6, beAt body 7 4, beAt body 11 4,
        beAt body 15 6, beAt body 21 4⟩)

/-! ### Far-side contexts and events (R359, R362, R363) -/

/-- REMOTE_CONTEXT_IDLE (R359): contexts idle for 10 s are discarded. -/
def doRemoteContextIdle (s : State) : State :=
  { s with ring := { s.ring with
    ctxs := s.ring.ctxs.filter (fun c => decide (s.tb.fab - c.at_ < 10 * cycS)) } }

/-- SUBSCRIBE_REFRESH (R362): a subscribe REQ through each subscribed window that reaches its device. -/
def doSubscribeRefresh (s : State) : State :=
  if !s.eplenUp then s
  else s.forN 15 (fun i s =>
    if bit (s.getF F.RNG_EVT_SUB_WIN) i && s.winReaches (i + 1) then s.access (i + 1) 5 0 0 0 [] else s)

/-- SUBSCRIBER_EXPIRY (R362): subscribers not refreshed for 3 s are dropped. -/
def doSubscriberExpiry (s : State) : State :=
  { s with ring := { s.ring with
    subs := s.ring.subs.filter (fun c => decide (s.tb.fab - c.at_ < 3 * cycS)) } }

/-- EVENT (R363, R305): the event of a far device is entered with its hop. -/
def doEvent (d : Nat) (frame : List Byte) (s : State) : State :=
  s.eplenIn frame 0x20 (fun h body s =>
    if 0 < h.hopsLeft then s.relay (d % 2) h body
    else s.hostEvent ⟨byteAt body 2, beAt body 0 2, (hopOf h) % 16, beAt body 3 4, beAt body 7 8⟩)

/-! ### Meanings of the commands -/

/-- Meaning of REMOTE_POSTED_WRITE (R291). -/
def execRemotePostedWrite (win off : Nat) (dwords : List (Nat × Bool))
    (s : State) : Host.Outcome State Fault Refusal :=
  .next (doRemotePostedWrite win off dwords s)

/-- Meaning of REMOTE_ACK_WRITE (R292). -/
def execRemoteAckWrite (win off : Nat) (dwords : List (Nat × Bool))
    (s : State) : Host.Outcome State Fault Refusal :=
  .next (doRemoteAckWrite win off dwords s)

/-- Meaning of REMOTE_READ (R293). -/
def execRemoteRead (win off count : Nat) (s : State) : Host.Outcome State Fault Refusal :=
  .next (doRemoteRead win off count s)

/-- Meaning of REMOTE_ATOMIC (R293). -/
def execRemoteAtomic (win off op size a b : Nat) (s : State) : Host.Outcome State Fault Refusal :=
  .next (doRemoteAtomic win off op size a b s)

/-- Meaning of RNG_WIN_FENCE (R294). -/
def execRngWinFence (win : Nat) (s : State) : Host.Outcome State Fault Refusal := .next (doRngWinFence win s)

/-- Meaning of ERR (R295). -/
def execErr (dir : Nat) (frame : List Byte) (s : State) : Host.Outcome State Fault Refusal :=
  .next (doErr dir frame s)

/-- Meaning of RNG_REL_ACK (R296). -/
def execRngRelAck (count : Nat) (s : State) : Host.Outcome State Fault Refusal := .next (doRngRelAck count s)

/-- Meaning of HELLO_TIMER (R354). -/
def execHelloTimer (s : State) : Host.Outcome State Fault Refusal := .next (doHelloTimer s)

/-- Meaning of HELLO (R354). -/
def execHello (dir : Nat) (frame : List Byte) (s : State) : Host.Outcome State Fault Refusal :=
  .next (doHello dir frame s)

/-- Meaning of NEIGHBOUR_LOST (R354). -/
def execNeighbourLost (dir : Nat) (s : State) : Host.Outcome State Fault Refusal :=
  .next (doNeighbourLost dir s)

/-- Meaning of PROBE (R355). -/
def execProbe (s : State) : Host.Outcome State Fault Refusal := .next (doProbe s)

/-- Meaning of PROBE_RECEIVED (R355). -/
def execProbeReceived (dir : Nat) (frame : List Byte) (s : State) : Host.Outcome State Fault Refusal :=
  .next (doProbeReceived dir frame s)

/-- Meaning of PROBE_ANS (R355). -/
def execProbeAns (dir : Nat) (frame : List Byte) (s : State) : Host.Outcome State Fault Refusal :=
  .next (doProbeAns dir frame s)

/-- Meaning of PROBE_WINDOW_END (R355). -/
def execProbeWindowEnd (s : State) : Host.Outcome State Fault Refusal := .next (doProbeWindowEnd s)

/-- Meaning of EPLEN_RELAY (R357). -/
def execEplenRelay (dir : Nat) (frame : List Byte) (s : State) : Host.Outcome State Fault Refusal :=
  .next (doEplenRelay dir frame s)

/-- Meaning of REMOTE_CONTEXT_IDLE (R359). -/
def execRemoteContextIdle (s : State) : Host.Outcome State Fault Refusal := .next (doRemoteContextIdle s)

/-- Meaning of SUBSCRIBE_REFRESH (R362). -/
def execSubscribeRefresh (s : State) : Host.Outcome State Fault Refusal := .next (doSubscribeRefresh s)

/-- Meaning of SUBSCRIBER_EXPIRY (R362). -/
def execSubscriberExpiry (s : State) : Host.Outcome State Fault Refusal := .next (doSubscriberExpiry s)

/-- Meaning of EVENT (R363). -/
def execEvent (dir : Nat) (frame : List Byte) (s : State) : Host.Outcome State Fault Refusal :=
  .next (doEvent dir frame s)

end Sys2Proof.Machine
end

