-- ==== Sys2Proof/Machine/Update.lean ====
section
/-! DEFINITION. Field update over the ring (R367 to R376): sessions, the block transfer of each hop, polls and
votes, and the activation. `d` is the direction of the Eplen port that received a frame. -/

namespace Sys2Proof.Machine

/-- UPD_STAT.STATE (Table 14.5). -/
def State.updState (s : State) : Nat := s.getF F.UPD_STAT_STATE

/-- The session in hand: RECEIVING, CHECKING, STAGED or ARMED. -/
def State.inSession (s : State) : Bool := decide (1 ≤ s.updState) && decide (s.updState ≤ 4)

/-- Current session number. -/
def State.session (s : State) : Nat := s.getF F.UPD_SESSION_SESSION

/-- Both pairs run: the update engine on the service pair, Eplen on the control pair. -/
def State.updUp (s : State) : Bool := s.eplenUp && s.pairUp 1

/-! ### Staging (R368, R371) -/

/-- The image is staged in LPDDR5. -/
def State.ddrStage (s : State) : Bool := decide (s.boot.stageMib = 16) && s.ddrUp

/-- The device can stage: not when it booted from the host, nor without LPDDR5 when from a neighbour
(DEDUCED, log 72). -/
def State.canStage (s : State) : Bool := decide (s.boot.src ≤ 1) || (s.boot.src == 3 && s.ddrStage)

/-- The inactive NOR slot. -/
def State.spare (s : State) : Nat := 1 - s.getF F.GLB_BOOT_STAT_SLOT

/-- Bytes of block `k` of the session's image. -/
def State.blockData (s : State) (k : Nat) : List Byte :=
  if s.isF F.UPD_STAT_NOR_STAGE then sget (fun _ => []) s.upd.blocks k
  else (List.range (min 4096 (s.upd.len - 4096 * k))).map (fun i => BitVec.ofNat 8 (s.ddrByte (4096 * k + i)))

/-- The session's image. -/
def State.stagedImage (s : State) : List Byte :=
  (List.range (s.getF F.UPD_PROGRESS_NBLK)).flatMap s.blockData

/-- A session begins: its staging place, and the erased inactive slot of a device that boots from NOR. -/
def State.beginSession (s : State) (session len hash : Nat) (here : Bool) (rx : Option Nat) : State :=
  let s := ((s.setF F.UPD_STAT_STATE 1).setF F.UPD_SESSION_SESSION session).setB F.UPD_STAT_NOR_STAGE (!s.ddrStage)
  let s := (s.setF F.UPD_PROGRESS_NBLK (ceilDiv len 4096)).setF F.UPD_PROGRESS_HELD 0
  let s := { s with upd := { active := s.upd.active, len := len, hash := hash, here := here, rxDir := rx } }
  if s.boot.src ≤ 1 then s.emit (.norErase s.spare) else s

/-- Hold block `k`; staging in NOR, every block but 0 is programmed at once. -/
def State.holdBlock (s : State) (k : Nat) (data : List Byte) : State :=
  if s.upd.held.contains k then s
  else
    let s := { s with upd := { s.upd with held := k :: s.upd.held } }
    let s := if s.isF F.UPD_STAT_NOR_STAGE then
        let s := { s with upd := { s.upd with blocks := sput (fun _ => []) s.upd.blocks k data } }
        if k = 0 then s else s.emit (.nor s.spare (4096 * k) data)
      else s.writeDdr (4096 * k) data
    s.setF F.UPD_PROGRESS_HELD s.upd.held.length

/-- The session has ended: the staged copy and block 0 are discarded (R375). -/
def State.dropSession (s : State) : State :=
  { s with upd := { active := s.upd.active, flows := s.upd.flows.filter (fun e => e.2.serve) } }

/-- The session ends as FAILED with its cause (Table 14.5). -/
def State.failUpd (s : State) (st : Nat) : State :=
  (((s.setF F.UPD_STAT_STATE 6).setF F.UPD_STAT_STATUS st).dropSession).postFree 0x28 2

/-! ### Flows of blocks to a neighbour (R369, R370) -/

/-- The flow toward the neighbour of direction `d`. -/
def State.flow (s : State) (d : Nat) : Flow := sget (fun _ => {}) s.upd.flows d
def State.setFlow (s : State) (d : Nat) (f : Flow) : State :=
  { s with upd := { s.upd with flows := sput (fun _ => {}) s.upd.flows d f } }

/-- Blocks of a flow's image, and block `k` if the device holds it. -/
def State.flowBlocks (s : State) (f : Flow) : Nat :=
  if f.serve then ceilDiv s.upd.active.length 4096 else s.getF F.UPD_PROGRESS_NBLK
def State.flowBlock (s : State) (f : Flow) (k : Nat) : Option (List Byte) :=
  if f.serve then some ((s.upd.active.drop (4096 * k)).take 4096)
  else if s.upd.held.contains k then some (s.blockData k) else none

/-- Send a frame of the update engine out of the Eplen port of direction `d`, one hop. -/
def State.sendHop (s : State) (d msg : Nat) (body : List Byte) : State :=
  s.emit (.eplen (s.eplenPort d) (s.eplenHdr msg (d % 2) 0) body)

/-- Send block `k` (Table 14.3) (DEDUCED, log 72). -/
def State.sendBlock (s : State) (d : Nat) (f : Flow) (k : Nat) (data : List Byte) : State :=
  (s.sendHop d 0x33 (beBytes 4 f.session ++ beBytes 2 k ++ beBytes 2 data.length
    ++ beBytes 4 (crc32c data) ++ data)).tally (T.rngPort (s.eplenPort d) 0)

/-- Send what the window of 16 blocks admits; a flow with every block acknowledged ends. -/
def State.pumpFlow (s : State) (d : Nat) : State :=
  let f := s.flow d
  if f.state ≠ 2 then s
  else
    let n := s.flowBlocks f
    let s := s.forN n (fun k s =>
      let f := s.flow d
      if 16 ≤ f.open_.length || f.sent.contains k then s
      else match s.flowBlock f k with
      | none => s
      | some data =>
        (s.sendBlock d f k data).setFlow d { f with sent := k :: f.sent, open_ := f.open_ ++ [(k, 0)] })
    let f := s.flow d
    if f.sent.length = n ∧ f.open_ = [] then s.setFlow d {} else s

/-- Offer an image to the neighbour of direction `d`, if there is one. -/
def State.offer (s : State) (d session len hash : Nat) (serve : Bool) : State :=
  if !s.hasNbr d then s
  else (s.sendHop d 0x31 (beBytes 4 session ++ beBytes 4 len ++ beBytes 2 (ceilDiv len 4096)
    ++ beBytes 48 hash)).setFlow d { state := 1, serve := serve, session := session }

/-- Offer the session's image onward. -/
def State.offerOn (s : State) (d : Nat) : State := s.offer d s.session s.upd.len s.upd.hash false

/-- The neighbour of a flow has failed: recorded, unless the flow serves a boot; the flow ends
(DEDUCED, log 72). -/
def State.flowFails (s : State) (d st : Nat) : State :=
  let s := if (s.flow d).serve || s.upd.nbrFail.isSome then s
    else { s with upd := { s.upd with nbrFail := some st } }
  s.setFlow d {}

/-! ### Commands (Table 14.6) -/

/-- A UPD_CMD of the host (R367): `run` answers its status. -/
def State.updCmd (s : State) (op : Nat) (run : State → Nat × State) : State :=
  s.busGate (fun s =>
    if s.isF F.UPD_STAT_BUSY then (s.setB F.UPD_STAT_BUSY_HIT true).tally (T.upd stBusy)
    else
      let s := s.setF F.UPD_STAT_LAST_OP op
      let (st, s) := if s.pairUp 1 then run s else (stReject, s)
      (s.setF F.UPD_STAT_STATUS st).tally (T.upd st))

/-- UPD_CMD NOP. -/
def doUpdNop (s : State) : State := s.updCmd 0 (fun s => (stOk, s))

/-- Start a session from host memory: `img` is what the PCIe reads return, none while nothing has arrived, as while the
host has not enabled Bus Master
(DESIGN CHOICE, log 62) (DESIGN CHOICE, log 65). -/
def State.updLoad (s : State) (img : Option (List Byte)) : Nat × State :=
  if s.updState ≠ 0 || !s.canStage then (stReject, s)
  else
    let (n, s) := s.fresh
    let len := s.getF F.UPD_HOST_LEN_LEN
    let bytes := padTo len (img.getD [])
    let s := s.beginSession ((Config.free n).toNat % 2 ^ 32) len (beAt bytes 100 48) true none
    match (if s.memReads then img else none) with
    | none => (stOk, s)
    | some _ =>
      let s := s.forN (ceilDiv len 4096) (fun k s => s.holdBlock k ((bytes.drop (4096 * k)).take 4096))
      (stOk, s.setF F.UPD_STAT_STATE 2)

/-- LOAD: the image has been fetched whole when the command ends (log 62). -/
def doLoad (img : List Byte) (s : State) : State := s.updCmd 1 (fun s => s.updLoad (some img))

/-- RELAY (R369). -/
def State.updRelay (s : State) : Nat × State :=
  if s.updState ≠ 3 || !s.upd.here || !s.eplenUp then (stReject, s)
  else (stOk, (s.offerOn 0).offerOn 1)

/-- RELAY. -/
def doRelay (s : State) : State := s.updCmd 2 State.updRelay

/-! ### The head (R355, R372, R373) -/

/-- The device is the ring's head, or a ring of one. -/
def State.actsHead (s : State) : Bool :=
  s.isHead || (s.getF F.RNG_REACH_REACH0 == 0 && s.getF F.RNG_REACH_REACH1 == 0)

/-- Devices of the ring, this one included (DEDUCED, log 63). -/
def State.ringDevices (s : State) : Nat :=
  if s.isF F.RNG_STAT_CLOSED then s.getF F.RNG_REACH_RING_SIZE
  else s.getF F.RNG_REACH_REACH0 + s.getF F.RNG_REACH_REACH1 + 1

/-- Send a message about the session to every device, in both directions. -/
def State.toRing (s : State) (msg : Nat) (body : List Byte) : State :=
  s.forN 2 (fun d s =>
    let r := s.getF (if d = 0 then F.RNG_REACH_REACH0 else F.RNG_REACH_REACH1)
    if r = 0 then s
    else s.emit (.eplen (s.eplenPort d) (s.eplenHdr msg d (r - 1)) (beBytes 4 s.session ++ body)))

/-- This device's vote on a session: STATE and STATUS (R368, R372, R373). -/
def State.vote (s : State) (session : Nat) : Nat × Nat :=
  if s.boot.src = 2 then (0, stReject)
  else if s.updState = 0 ∨ s.session ≠ session then (0, stOk)
  else match s.upd.nbrFail with
  | some st => (6, st)
  | none =>
    if s.upd.rejected then (s.updState, stReject)
    else (s.updState, if s.updState = 6 then s.getF F.UPD_STAT_STATUS else stOk)

/-- The head ends the session at every device (R372, R375). -/
def State.abortRing (s : State) : State :=
  let s := s.toRing 0x3D []
  if s.inSession then s.failUpd stReject else s

/-- Devices that have voted STAGED. -/
def State.stagedVotes (s : State) : Nat := (s.upd.votes.filter (fun v => v.2 == (3, stOk))).length

/-- SYNCED and not in holdover (R373). -/
def State.mayArm (s : State) : Bool :=
  s.updState == 3 && !s.upd.rejected && s.isF F.TIM_STAT_SYNCED && !s.isF F.TIM_STAT_HOLDOVER

/-- The device becomes ARMED for the instant `sec`, `ns`. -/
def State.arm (s : State) (sec ns : Nat) : State :=
  let s := ((s.setF F.UPD_ACT_NS_T_ACT ns).setF F.UPD_ACT_SL_T_ACT sec).setF F.UPD_ACT_SH_T_ACT (sec / 2 ^ 32)
  (s.setF F.UPD_STAT_STATE 4).postFree 0x28 3

/-- Every device has answered ARMED: COMMIT goes out for the first time. -/
def State.tryCommit (s : State) : State :=
  if s.upd.arming && s.upd.commits == 0 && decide (s.ringDevices ≤ s.upd.armed.length) then
    let s := s.toRing 0x3C []
    { s with upd := { s.upd with commits := 1, commit := true } }
  else s

/-- The head starts the activation: ARM with T_ACT = working clock + ACT_LEAD_MS (R373). -/
def State.startArm (s : State) : State :=
  if !s.mayArm then s.abortRing
  else
    let t := s.tb.clk + ns40 (s.param 0x25 2000 * 1000000)
    let s := (s.arm (tSec t) (tNs t)).toRing 0x3A (beBytes 6 (tSec t) ++ beBytes 4 (tNs t))
    let s := { s with upd := { s.upd with arming := true, commits := 0, armed := [s.selfTag] } }
    s.tryCommit

/-- The head takes in a vote and concludes (R372). -/
def State.takeVote (s : State) (tag dir hop st status : Nat) : State :=
  let votes := (tag, st, status) :: s.upd.votes.filter (fun v => v.1 != tag)
  let s := { s with upd := { s.upd with votes := votes } }
  let s := (s.setF F.UPD_VOTES_STAGED s.stagedVotes).setF F.UPD_VOTES_EXPECTED s.ringDevices
  let bad := st = 6 ∨ status = stReject
  let s := if bad ∧ s.getF F.UPD_VOTES_FAIL_STATUS = 0 then
      ((s.setF F.UPD_VOTES_FAIL_HOP hop).setF F.UPD_VOTES_FAIL_DIR dir).setF F.UPD_VOTES_FAIL_STATUS status
    else s
  if bad ∨ s.isF F.RNG_STAT_MULTI_HEAD then s.abortRing
  else if s.ringDevices ≤ s.stagedVotes ∧ s.param 0x28 1 = 1 ∧ !s.upd.arming then s.startArm
  else s

/-- ACTIVATE: at a head with AUTO_ACT = 0 and every vote STAGED (R373). -/
def State.updActivate (s : State) : Nat × State :=
  if s.actsHead && s.param 0x28 1 == 0 && s.updState == 3 && !s.upd.arming
      && decide (s.ringDevices ≤ s.stagedVotes) then (stOk, s.startArm)
  else (stReject, s)

/-- ACTIVATE. -/
def doActivate (s : State) : State := s.updCmd 3 State.updActivate

/-- ABORT by the host (R375): the cause of FAILED is the command's own status; a head aborts the ring. -/
def State.updAbort (s : State) : Nat × State :=
  if !s.inSession then (stReject, s)
  else
    let s := if s.actsHead && s.eplenUp then s.toRing 0x3D [] else s
    (stOk, s.failUpd stOk)

/-- ABORT. -/
def doUpdAbort (s : State) : State := s.updCmd 4 State.updAbort

/-- CLEAR: FAILED to IDLE. -/
def State.updClear (s : State) : Nat × State :=
  if s.updState ≠ 6 then (stReject, s)
  else
    let s := (s.setF F.UPD_STAT_STATE 0).setF F.UPD_SESSION_SESSION 0
    let s := (s.setF F.UPD_PROGRESS_HELD 0).setF F.UPD_PROGRESS_NBLK 0
    let s := [F.UPD_VOTES_STAGED, F.UPD_VOTES_EXPECTED, F.UPD_VOTES_FAIL_HOP, F.UPD_VOTES_FAIL_DIR,
      F.UPD_VOTES_FAIL_STATUS, F.UPD_STAT_NOR_STAGE].foldl (fun s f => s.setF f 0) s
    (stOk, s.dropSession)

/-- CLEAR; every opcode from 6 on acts as it. -/
def doClear (s : State) : State := s.updCmd 5 State.updClear

/-! ### Offers (R369) -/

/-- Receive a frame of the update engine. -/
def State.updIn (s : State) (frame : List Byte) (msg : Nat) (act : EplenHdr → List Byte → State → State) :
    State := if s.updUp then s.eplenIn frame msg act else s

/-- OFFER: OK starts a session, BUSY ends the flow of a session already here, STATE_REJECT otherwise. -/
def doOffer (d : Nat) (frame : List Byte) (s : State) : State :=
  let d := d % 2
  s.updIn frame 0x31 (fun h body s =>
    let session := beAt body 0 4
    let len := beAt body 4 4
    let ans (s : State) (st : Nat) := s.answer d h 0x32 (beBytes 4 session ++ beBytes 1 st)
    if s.updState = 0 ∧ s.canStage ∧ len ≤ 16777216 ∧ beAt body 8 2 = ceilDiv len 4096 ∧ len ≠ 0 then
      ans (s.beginSession session len (beAt body 10 48) false (some d)) stOk
    else if s.inSession ∧ s.session = session then ans s stBusy
    else ans s stReject)

/-- OFFER_ANS. -/
def doOfferAns (d : Nat) (frame : List Byte) (s : State) : State :=
  let d := d % 2
  s.updIn frame 0x32 (fun _ body s =>
    let f := s.flow d
    if f.state ≠ 1 ∨ f.session ≠ beAt body 0 4 then s
    else
      let st := byteAt body 4
      if st = stOk then (s.setFlow d { f with state := 2 }).pumpFlow d
      else if st = stBusy then s.setFlow d {}
      else s.flowFails d st)

/-- OFFER_TIMEOUT: no answer within 100 ms. -/
def doOfferTimeout (d : Nat) (s : State) : State :=
  let d := d % 2
  if (s.flow d).state = 1 then s.flowFails d stTimeout else s

/-! ### Blocks (R370) -/

/-- Lowest block not yet held, searched from `k` on. -/
def nextBlock (held : List Nat) : Nat → Nat → Nat
  | 0, k => k
  | fuel + 1, k => if held.contains k then nextBlock held fuel (k + 1) else k

/-- Body of a BLOCK_ACK: NEXT, and SACK for the 16 blocks behind it. -/
def State.ackBody (s : State) : List Byte :=
  let next := nextBlock s.upd.held s.upd.held.length 0
  let sack := (List.range 16).foldl (fun n j =>
    if s.upd.held.contains (next + 1 + j) then n + 2 ^ j else n) 0
  beBytes 4 s.session ++ beBytes 2 next ++ beBytes 2 sack

/-- BLOCK: checked, held, acknowledged and forwarded; with the first block the session is offered onward, with
the last one CHECKING begins. -/
def doBlock (d : Nat) (frame : List Byte) (s : State) : State :=
  let d := d % 2
  s.updIn frame 0x33 (fun h body s =>
    let k := beAt body 4 2
    let len := beAt body 6 2
    let data := (body.drop 12).take len
    if beAt body 0 4 ≠ s.session ∨ !s.inSession ∨ s.upd.rxDir ≠ some d then s
    else if data.length ≠ len ∨ crc32c data ≠ beAt body 8 4 then s.tally (T.rng 6)
    else if s.getF F.UPD_PROGRESS_NBLK ≤ k ∨ len ≠ min 4096 (s.upd.len - 4096 * k) then s
    else
      let first := s.upd.held.isEmpty
      let s := s.holdBlock k data
      let s := s.answer d h 0x34 s.ackBody
      let s := if first then s.offerOn (1 - d) else s.pumpFlow (1 - d)
      if s.updState = 1 ∧ s.upd.held.length = s.getF F.UPD_PROGRESS_NBLK then s.setF F.UPD_STAT_STATE 2 else s)

/-- BLOCK_ACK: acknowledged blocks leave the window. -/
def doBlockAck (d : Nat) (frame : List Byte) (s : State) : State :=
  let d := d % 2
  s.updIn frame 0x34 (fun _ body s =>
    let f := s.flow d
    let next := beAt body 4 2
    let acked (k : Nat) := decide (k < next) || (decide (next < k) && bit (beAt body 6 2) (k - next - 1))
    if f.state ≠ 2 ∨ f.session ≠ beAt body 0 4 then s
    else (s.setFlow d { f with open_ := f.open_.filter (fun e => !acked e.1) }).pumpFlow d)

/-- BLOCK_RESEND: block `k` is not acknowledged within BLOCK_RTO_US; after the eighth resend the hop has
failed. -/
def doBlockResend (d k : Nat) (s : State) : State :=
  let d := d % 2
  let f := s.flow d
  if !s.updUp || f.state != 2 then s
  else match f.open_.find? (fun e => e.1 == k) with
  | none => s
  | some (_, n) =>
    if 8 ≤ n then s.flowFails d stTimeout
    else match s.flowBlock f k with
    | none => s
    | some data =>
      let s := s.setFlow d { f with open_ := f.open_.map (fun e => if e.1 = k then (k, n + 1) else e) }
      (s.sendBlock d f k data).tally (T.rngPort (s.eplenPort d) 1)

/-- BLOCK_RECEIVE_TIMEOUT: 100 ms without a block. -/
def doBlockReceiveTimeout (s : State) : State :=
  if s.updState = 1 ∧ s.upd.rxDir.isSome then s.failUpd stTimeout else s

/-! ### Checking (R371) -/

/-- The first of steps 1 to 12 that fails, and the SEQ check after them: its status. -/
def State.checkStaged (s : State) (img : List Byte) : Option Nat :=
  match s.headerStep img with
  | some f => some f.2
  | none => match bodyStep img with
    | some f => some f.2
    | none =>
      match if !anyEnc img then none else if !s.isF F.KEY_STORE_STAT_READY then some stReject
        else s.source 0 (leAt img 28 2) (some 5) false with
      | some st => some st
      | none =>
        if !(s.sectionsOf img).all Section.wellFormed then some stIntegrity
        else if hdrSeq img ≤ s.getF F.BKP_BOOT_SEQ_SEQ then some stReject
        else none

/-- UPD_STAGED: the checks end, and the inactive slot holds blocks 1 onward; `readOk` says that they read back
right. -/
def doUpdStaged (readOk : Bool) (s : State) : State :=
  if s.updState ≠ 2 || !s.pairUp 1 then s
  else match s.checkStaged s.stagedImage with
  | some st => s.failUpd st
  | none =>
    let nor := decide (s.boot.src ≤ 1)
    let s := if nor && !s.isF F.UPD_STAT_NOR_STAGE then
        s.forN (s.getF F.UPD_PROGRESS_NBLK) (fun k s =>
          if k = 0 then s else s.emit (.nor s.spare (4096 * k) (s.blockData k)))
      else s
    if nor && !readOk then s.failUpd stIntegrity
    else (s.setF F.UPD_STAT_STATE 3).postFree 0x28 1

/-! ### Polls and votes (R372) -/

/-- POLL: with no frame, the head's own timer, which also takes the head's vote; with one, a received POLL,
which is answered with VOTE and relayed. -/
def doPoll (rx : Option (Nat × List Byte)) (s : State) : State :=
  match rx with
  | none =>
    if !s.updUp || !s.actsHead || !s.inSession then s
    else
      let s := s.toRing 0x38 []
      let (st, status) := s.vote s.session
      s.takeVote s.selfTag 0 0 st status
  | some (d, frame) =>
    let d := d % 2
    s.updIn frame 0x38 (fun h body s =>
      let (st, status) := s.vote (beAt body 0 4)
      (s.answer d h 0x39 (body.take 4 ++ beBytes 1 st ++ beBytes 1 status)).relay d h body)

/-- VOTE. -/
def doVote (d : Nat) (frame : List Byte) (s : State) : State :=
  s.updIn frame 0x39 (fun h body s =>
    if 0 < h.hopsLeft then s.relay (d % 2) h body
    else if !s.actsHead || !s.inSession || beAt body 0 4 != s.session then s
    else s.takeVote h.origin (1 - h.dir) (hopOf h) (byteAt body 4) (byteAt body 5))

/-- UPD_RING_TIMEOUT: UPD_RING_TMO_S after the first vote, not every device has voted STAGED. -/
def doUpdRingTimeout (s : State) : State :=
  if s.updUp && s.actsHead && s.inSession && !s.upd.arming && !s.upd.votes.isEmpty
      && decide (s.stagedVotes < s.ringDevices) then s.abortRing else s

/-! ### Activation (R373, R374) -/

/-- ARM: answered with ARMED, or with a vote FAILED. -/
def doArm (d : Nat) (frame : List Byte) (s : State) : State :=
  let d := d % 2
  s.updIn frame 0x3A (fun h body s =>
    let known := beAt body 0 4 == s.session && s.inSession
    let s := if known && s.updState == 4 then s.answer d h 0x3B (body.take 4)
      else if known && s.mayArm then
        (s.arm (beAt body 4 6) (beAt body 10 4)).answer d h 0x3B (body.take 4)
      else s.answer d h 0x39 (body.take 4 ++ beBytes 1 6 ++ beBytes 1 stReject)
    s.relay d h body)

/-- T_ACT, in time-base units, and ACT_GUARD_MS, which is at most half of ACT_LEAD_MS (Table 14.1). -/
def State.tAct (s : State) : Nat :=
  ns40 ((s.getF F.UPD_ACT_SL_T_ACT + s.getF F.UPD_ACT_SH_T_ACT * 2 ^ 32) * 1000000000 + s.getF F.UPD_ACT_NS_T_ACT)
def State.actGuard (s : State) : Nat := ns40 (min (s.param 0x26 500) (s.param 0x25 2000 / 2) * 1000000)

/-- The working clock has not reached T_ACT − ACT_GUARD_MS (R373). -/
def State.beforeGuard (s : State) : Bool := decide (s.tb.clk + s.actGuard < s.tAct)

/-- ARMED: once every device has answered in time, COMMIT goes out. -/
def doArmed (d : Nat) (frame : List Byte) (s : State) : State :=
  s.updIn frame 0x3B (fun h body s =>
    if 0 < h.hopsLeft then s.relay (d % 2) h body
    else if !s.upd.arming || beAt body 0 4 != s.session || !s.beforeGuard then s
    else
      let armed := h.origin :: s.upd.armed.filter (· != h.origin)
      ({ s with upd := { s.upd with armed := armed } }).tryCommit)

/-- ARM_GUARD_DEADLINE: T_ACT − ACT_GUARD_MS is reached. -/
def doArmGuardDeadline (s : State) : State :=
  if !s.updUp || !s.upd.arming || s.upd.commits != 0 || s.beforeGuard then s
  else if s.ringDevices ≤ s.upd.armed.length then s.tryCommit else s.abortRing

/-- COMMIT_RESEND: 10 ms after a COMMIT, up to three in all. -/
def doCommitResend (s : State) : State :=
  if s.updUp && s.upd.arming && decide (1 ≤ s.upd.commits) && decide (s.upd.commits < 3) then
    let s := s.toRing 0x3C []
    { s with upd := { s.upd with commits := s.upd.commits + 1 } }
  else s

/-- COMMIT. -/
def doCommit (d : Nat) (frame : List Byte) (s : State) : State :=
  s.updIn frame 0x3C (fun h body s =>
    let s := if beAt body 0 4 = s.session ∧ s.updState = 4 then { s with upd := { s.upd with commit := true } }
      else s
    s.relay (d % 2) h body)

/-- ACTIVATION_INSTANT (R373, R374): T_ACT is reached on the own working clock. -/
def doActivationInstant (s : State) : State :=
  if s.updState ≠ 4 || !s.pairUp 1 || decide (s.tb.clk < s.tAct) then s
  else if s.upd.commit then
    let s := if s.boot.src = 3 then s else s.emit (.nor s.spare 0 (s.blockData 0))
    let s := (s.setB F.GLB_BOOT_STAT_SNAP_VALID false).setF F.UPD_STAT_STATE 5
    s.warmReset 4
  else
    let s := s.setF F.UPD_STAT_STATE 3
    ({ s with upd := { s.upd with rejected := true, arming := false } }).postFree 0x28 4

/-- ABORT received (R375). -/
def doAbort (d : Nat) (frame : List Byte) (s : State) : State :=
  s.updIn frame 0x3D (fun h body s =>
    let s := s.relay (d % 2) h body
    if beAt body 0 4 = s.session ∧ s.inSession then s.failUpd stReject else s)

/-- IMG_REQ (R376): a neighbour that boots is served with the active image, or refused
(DESIGN CHOICE, log 65). -/
def doImgReq (d : Nat) (frame : List Byte) (s : State) : State :=
  let d := d % 2
  s.updIn frame 0x30 (fun h _ s =>
    let img := s.upd.active
    let (n, s) := s.fresh
    let session := (Config.free n).toNat % 2 ^ 32
    if img.isEmpty then s.answer d h 0x32 (beBytes 4 session ++ beBytes 1 stReject)
    else
      (s.sendHop d 0x31 (beBytes 4 session ++ beBytes 4 img.length ++ beBytes 2 (ceilDiv img.length 4096)
        ++ beBytes 48 (beAt img 100 48))).setFlow d { state := 1, serve := true, session := session })

/-! ### Meanings of the commands -/

/-- Meaning of UPD_NOP (R367). -/
def execUpdNop (s : State) : Host.Outcome State Fault Refusal := .next (doUpdNop s)

/-- Meaning of LOAD (R367). -/
def execLoad (img : List Byte) (s : State) : Host.Outcome State Fault Refusal := .next (doLoad img s)

/-- Meaning of RELAY (R369). -/
def execRelay (s : State) : Host.Outcome State Fault Refusal := .next (doRelay s)

/-- Meaning of ACTIVATE (R373). -/
def execActivate (s : State) : Host.Outcome State Fault Refusal := .next (doActivate s)

/-- Meaning of UPD_ABORT (R375). -/
def execUpdAbort (s : State) : Host.Outcome State Fault Refusal := .next (doUpdAbort s)

/-- Meaning of CLEAR (R367). -/
def execClear (s : State) : Host.Outcome State Fault Refusal := .next (doClear s)

/-- Meaning of OFFER (R369). -/
def execOffer (dir : Nat) (frame : List Byte) (s : State) : Host.Outcome State Fault Refusal :=
  .next (doOffer dir frame s)

/-- Meaning of OFFER_ANS (R369). -/
def execOfferAns (dir : Nat) (frame : List Byte) (s : State) : Host.Outcome State Fault Refusal :=
  .next (doOfferAns dir frame s)

/-- Meaning of OFFER_TIMEOUT (R369). -/
def execOfferTimeout (dir : Nat) (s : State) : Host.Outcome State Fault Refusal := .next (doOfferTimeout dir s)

/-- Meaning of BLOCK (R370). -/
def execBlock (dir : Nat) (frame : List Byte) (s : State) : Host.Outcome State Fault Refusal :=
  .next (doBlock dir frame s)

/-- Meaning of BLOCK_ACK (R370). -/
def execBlockAck (dir : Nat) (frame : List Byte) (s : State) : Host.Outcome State Fault Refusal :=
  .next (doBlockAck dir frame s)

/-- Meaning of BLOCK_RESEND (R370). -/
def execBlockResend (dir blk : Nat) (s : State) : Host.Outcome State Fault Refusal :=
  .next (doBlockResend dir blk s)

/-- Meaning of BLOCK_RECEIVE_TIMEOUT (R370). -/
def execBlockReceiveTimeout (s : State) : Host.Outcome State Fault Refusal := .next (doBlockReceiveTimeout s)

/-- Meaning of UPD_STAGED (R371). -/
def execUpdStaged (readOk : Bool) (s : State) : Host.Outcome State Fault Refusal := .next (doUpdStaged readOk s)

/-- Meaning of POLL (R372). -/
def execPoll (rx : Option (Nat × List Byte)) (s : State) : Host.Outcome State Fault Refusal :=
  .next (doPoll rx s)

/-- Meaning of VOTE (R372). -/
def execVote (dir : Nat) (frame : List Byte) (s : State) : Host.Outcome State Fault Refusal :=
  .next (doVote dir frame s)

/-- Meaning of UPD_RING_TIMEOUT (R372). -/
def execUpdRingTimeout (s : State) : Host.Outcome State Fault Refusal := .next (doUpdRingTimeout s)

/-- Meaning of ARM (R373). -/
def execArm (dir : Nat) (frame : List Byte) (s : State) : Host.Outcome State Fault Refusal :=
  .next (doArm dir frame s)

/-- Meaning of ARMED (R373). -/
def execArmed (dir : Nat) (frame : List Byte) (s : State) : Host.Outcome State Fault Refusal :=
  .next (doArmed dir frame s)

/-- Meaning of ARM_GUARD_DEADLINE (R373). -/
def execArmGuardDeadline (s : State) : Host.Outcome State Fault Refusal := .next (doArmGuardDeadline s)

/-- Meaning of COMMIT (R373). -/
def execCommit (dir : Nat) (frame : List Byte) (s : State) : Host.Outcome State Fault Refusal :=
  .next (doCommit dir frame s)

/-- Meaning of ACTIVATION_INSTANT (R374). -/
def execActivationInstant (s : State) : Host.Outcome State Fault Refusal := .next (doActivationInstant s)

/-- Meaning of ABORT (R375). -/
def execAbort (dir : Nat) (frame : List Byte) (s : State) : Host.Outcome State Fault Refusal :=
  .next (doAbort dir frame s)

/-- Meaning of IMG_REQ (R376). -/
def execImgReq (dir : Nat) (frame : List Byte) (s : State) : Host.Outcome State Fault Refusal :=
  .next (doImgReq dir frame s)

/-- Meaning of COMMIT_RESEND (R373). -/
def execCommitResend (s : State) : Host.Outcome State Fault Refusal := .next (doCommitResend s)

end Sys2Proof.Machine
end

