-- ==== Sys2Proof/Machine/Power.lean ====
section
/-! DEFINITION. Power modes, wake and the thermal governor (R379 to R400): the mode commands, entry and exit of
SLEEP-RETAIN and STANDBY, RUN-LEAN, the PHY sleep handshake and the governor's levels. Temperatures are given
as reading + 64, as the registers show them. -/

namespace Sys2Proof.Machine

/-- PWR_MODE (Table 15.2): 0 RUN, 1 RUN-LEAN, 2 SLEEP-RETAIN, 3 STANDBY. -/
def State.powerMode (s : State) : Nat := s.getF F.PWR_MODE_MODE

/-- A PWR_CMD of requester `r` (R383): `run` answers its status. -/
def State.pwrCmd (s : State) (r op : Nat) (run : State → Nat × State) : State :=
  let go (s : State) : State :=
    if s.isF F.PWR_CMD_STAT_BUSY then (s.setB F.PWR_CMD_STAT_BUSY_HIT true).tally (T.pwr (3 + stBusy))
    else
      let s := s.setF F.PWR_CMD_STAT_LAST_OP op
      let (st, s) := run s
      if s.powerMode ≤ 1 then (s.setF F.PWR_CMD_STAT_STATUS st).tally (T.pwr (3 + st)) else s
  if !s.requesterUp r then s
  else if r = 2 then s.busGate go else go s

/-- PWR_CMD NOP. -/
def doPwrNop (r : Nat) (s : State) : State := s.pwrCmd (min r 2) 0 (fun s => (stOk, s))

/-! ### Entry of SLEEP-RETAIN and STANDBY (R385 to R388) -/

/-- Ports whose PHYs are asked to sleep (Table 15.10). -/
def State.sleepPorts (s : State) : Nat :=
  (List.range 16).foldl (fun n p => if bit (s.param 0x43 0) p && s.ethPresent p then n + 2 ^ p else n) 0

/-- Rod control pins of Table 15.5: standby asserted, enable released. -/
def State.sleepRods (s : State) : Sparse Rod :=
  ((List.range 128).filter s.rodPresent).map (fun n => (n, { stb := true, en := false : Rod }))

/-- The retirement fields, which SLEEP-RETAIN keeps (Table 15.3). -/
def retireFields : List Fld :=
  [F.GLB_RETIRED_PORT_PORTS] ++ (List.range 4).map F.GLB_RETIRED_ROD_RODS
    ++ (List.range 128).map F.ROD_STAT_RETIRE_CAUSE

/-- Copy fields of `o`. -/
def State.keepFields (s o : State) (l : List Fld) : State := l.foldl (fun s f => s.setF f (o.getF f)) s

/-- Retired planes, comparator instances and pairs stay retired. -/
def State.keepRetired (s o : State) : State :=
  let s := s.keepFields o retireFields
  let s := if o.planeSt false = 6 then s.keepFields o [safState false, safCause false] else s
  let s := if o.planeSt true = 6 then s.keepFields o [safState true, safCause true] else s
  let s := s.setF F.SAF_STAT_CMP_OK (o.getF F.SAF_STAT_CMP_OK)
  s.forN 2 (fun i s => if o.getF (F.SAF_PAIR_STAT_STATE i) = 5 then
    s.keepFields o [F.SAF_PAIR_STAT_STATE i, F.SAF_PAIR_STAT_CAUSE i] else s)

/-- The time base is lost: every field of chip reach in the TIM block returns to its reset value (R205). -/
def State.loseTime (s : State) : State :=
  { s with
    tb := {}
    dp := { s.dp with atsBase := 0 }
    regs := s.regs.filter (fun e => !(decide (0x20000 ≤ e.1 / 32) && decide (e.1 / 32 < 0x40000)
      && fieldReach e.1 == .ch)) }

/-- Clocks stop (R385). -/
def State.stopClocks (s : State) : State :=
  [F.GLB_CLK_STAT_ROOT_LOCK, F.GLB_CLK_STAT_PCIE_LOCK, F.GLB_CLK_STAT_DDR_LOCK,
    F.GLB_CLK_STAT_SERDES_LOCK].foldl (fun s f => s.setF f 0) s

/-- SLEEP-RETAIN is entered: what a reset of warm reach clears is lost but for retirement (Table 15.3), the PCIe link goes
down (Table 15.5), and the trial goes on (R391). -/
def State.toSleep (s : State) (failA failB : Bool) : State :=
  let ports := s.sleepPorts
  let pins := s.sleepRods
  let hold := ({ s with rods := pins, tb := { s.tb with outHigh := false } }).holdPads
  let t := ((s.stopTrace 5).warmClear.keepRetired s).loseTime.stopClocks
  let t := (t.setStageNo 4).setF F.PWR_MODE_MODE 2
  { t with
    rods := pins
    host := { t.host with link := false }
    boot := { t.boot with gpioHold := hold, ran := s.ranFor }
    pwr := { energy := s.pwr.energy, phySlp := ports, failA := failA, failB := failB } }

/-- STANDBY is entered (R387): what a reset of chip reach clears is lost (DEDUCED, log 77). -/
def State.toStandby (s : State) : State :=
  let ports := s.sleepPorts
  let pins := s.sleepRods
  let hold := ({ s with rods := pins, tb := { s.tb with outHigh := false } }).holdPads
  let t := ((s.stopTrace 5).chipClear.toStart).setF F.PWR_MODE_MODE 3
  { t with
    rods := pins
    boot := { t.boot with gpioHold := hold }
    pwr := { energy := s.pwr.energy, phySlp := ports } }

/-- KEY of SLEEP and STANDBY (R383). -/
def keyOk (key : Nat) : Bool := key % 256 == 0x5A

/-- PWR_CMD STANDBY. -/
def State.pwrStandby (s : State) (key : Nat) : Nat × State :=
  if !keyOk key || s.pwr.drain then (stReject, s) else (stOk, s.toStandby)

/-- PWR_STANDBY (R387). -/
def doPwrStandby (r key : Nat) (s : State) : State := s.pwrCmd (min r 2) 1 (fun s => s.pwrStandby key)

/-- PWR_CMD SLEEP (R385): the checks of Table 15.4, then steps 1 and 2. -/
def State.pwrSleep (s : State) (key : Nat) : Nat × State :=
  let upd := s.getF F.UPD_STAT_STATE
  if !keyOk key || !s.isF F.GLB_BOOT_STAT_SNAP_VALID || (decide (1 ≤ upd) && decide (upd ≤ 4))
      || s.isF F.SAF_CMD_STAT_BUSY then (stReject, s)
  else
    let s := { s with pwr := { s.pwr with drain := true } }
    (stOk, (s.bypass 3).setB F.PWR_CMD_STAT_BUSY true)

/-- PWR_SLEEP. -/
def doPwrSleep (r key : Nat) (s : State) : State := s.pwrCmd (min r 2) 2 (fun s => s.pwrSleep key)

/-! ### Wake (R386, R389 to R391) -/

/-- A wake is refused until the always-on sensor reads 130 °C or less (R399); `aon` is its reading + 64
(DESIGN CHOICE, log 78). -/
def State.tooHot (s : State) (aon : Nat) : Bool := s.pwr.hot && decide (194 < aon)

/-- Leave the mode: SLEEP-RETAIN through the CLOCKS stage, STANDBY from stage 2 (R391). PHYs that have not
woken are waited for (R390) (DEDUCED, log 75). -/
def State.leaveMode (s : State) (woken : Nat) : State :=
  let wait := s.pwr.phySlp - (s.pwr.phySlp &&& woken)
  let sleep := decide (s.powerMode = 2)
  let s := s.setF F.PWR_MODE_MODE 0
  let s := { s with
    pwr := { s.pwr with phySlp := 0, phyWait := wait, hot := false, early := false }
    boot := { s.boot with waking := sleep } }
  let s := if sleep then s.setStageNo 4 else s.proceed
  (s.postFree 0x3C 2).postFree 0x3C 1

/-- A wake event whose cause `rec` records: it wakes the device, is held during an entry, or is refused
(DEDUCED, log 75). -/
def State.wake (s : State) (aon woken : Nat) (rec : State → State) : State :=
  if s.pwr.drain then
    let s := rec s
    { s with pwr := { s.pwr with early := true } }
  else if s.powerMode < 2 then s
  else if s.tooHot aon then s.setB F.BKP_WAKE_THERM_HELD true
  else (rec s).leaveMode woken

/-- Set the bits of `v` in a field. -/
def State.orBits (s : State) (f : Fld) (v : Nat) : State := s.setF f (s.getF f ||| v)

/-- WAKE_PIN: `levels` are the levels of WAKE0 to WAKE7, which they have held for `held` always-on cycles; the filter asks
for FILT of them (DESIGN CHOICE, log 78). -/
def doWakePin (levels held aon : Nat) (s : State) : State :=
  let pol := s.getF F.PWR_WAKE_CFG_PIN_POL
  let hit := (List.range 8).foldl (fun n k =>
    if bit (s.getF F.PWR_WAKE_CFG_PIN_EN) k && bit levels k == bit pol k then n + 2 ^ k else n) 0
  if hit = 0 ∨ held < s.getF F.PWR_WAKE_CFG_FILT then s else s.wake aon 0 (fun s => s.orBits F.BKP_WAKE_PIN hit)

/-- PHY_WAKE: PHYWK rises on the ports of the bitmap while their PHYSLP is asserted
(DESIGN CHOICE, log 78). -/
def doPhyWake (ports aon : Nat) (s : State) : State :=
  let hit := ports &&& s.pwr.phySlp &&& s.getF F.PWR_WAKE_SRC_PHYWK_EN
  if hit = 0 then s else s.wake aon hit (fun s => s.orBits F.BKP_WAKE_PHY hit)

/-- T1S_ACTIVITY_WAKE: energy has been on the media of the S ports of the bitmap for `us` µs, 50 of which wake; those of
absent ports count for nothing while the presence shadows are kept, and read zero (R389). -/
def doT1sActivityWake (ports us aon : Nat) (s : State) : State :=
  let en := s.getF F.PWR_WAKE_SRC_T1S_EN
  let hit := (List.range 16).foldl (fun n k =>
    if bit ports k && bit en k && (s.powerMode == 3 || s.ethPresent (16 + k)) then n + 2 ^ k else n) 0
  if hit = 0 ∨ us < 50 then s else s.wake aon 0 (fun s => s.orBits F.BKP_WAKE_T1S_T1S hit)

/-- WAKE_TIMER: PWR_WAKE_TIMER seconds after the mode was entered. -/
def doWakeTimer (aon : Nat) (s : State) : State :=
  if s.getF F.PWR_WAKE_TIMER_SEC = 0 then s else s.wake aon 0 (fun s => s.setB F.BKP_WAKE_TIMER true)

/-- TAMPER_DETECTION (R256, R389): source 0 TAMPER_N, 1 VBATK voltage, 2 temperature, 3 always-on clock, 4
shield mesh; TAMPER_N counts only while enabled, the mesh on a die that has one. Zeroing completes before the
wake begins. -/
def doTamperDetection (src aon : Nat) (s : State) : State :=
  let src := min src 4
  if (src = 0 ∧ !s.isF F.KEY_STORE_STAT_TAMPER_N_EN) ∨ (src = 4 ∧ !s.key.mesh) then s
  else (s.tamper src).wake aon 0 (fun s => s.setB F.BKP_WAKE_TAMPER true)

/-- PHYWK_RISE (R390): after a wake, the MACs of the ports in the bitmap may start their PCS. -/
def doPhywkRise (ports : Nat) (s : State) : State :=
  { s with pwr := { s.pwr with phyWait := s.pwr.phyWait - (s.pwr.phyWait &&& ports) } }

/-- PHY_SLEEP_NOACK (R390): tallied now, posted after the wake. -/
def doPhySleepNoack (p : Nat) (s : State) : State :=
  if 2 ≤ s.powerMode ∧ p < 16 ∧ bit s.pwr.phySlp p ∧ !s.pwr.noAck.contains p then
    { s.tally (T.pwr 1) with pwr := { s.pwr with noAck := s.pwr.noAck ++ [p] } }
  else s

/-- SLEEP_DRAIN_END (R385): what is still held is dropped, and the mode is entered; `passA` and `passB` are the
self-tests of step 5. A wake held during the entry takes effect at once (R386). -/
def doSleepDrainEnd (passA passB : Bool) (aon : Nat) (s : State) : State :=
  if !s.pwr.drain then s
  else
    let early := s.pwr.early
    let held := (s.dp.items.filter (fun e => e.2.isSome)).length
    let s := if held = 0 then s else s.tallyN (T.pwr 0) held
    let t := s.toSleep (s.planeSt false == 1 && !passA) (s.planeSt true == 1 && !passB)
    if early then t.wake aon 0 (fun s => s.setB F.BKP_WAKE_EARLY true) else t

/-! ### RUN-LEAN (R384) -/

/-- A rod receives STOP and then STANDBY; one with a frame on its bus goes there when the frame ends. -/
def State.leanRod (s : State) (n : Nat) : State :=
  let st := s.rodState n
  if st = 1 then s.rodGo n 7
  else if st = 6 ∨ st = 7 then s
  else
    let s := s.flushRod n
    if (s.rod n).tx.isSome ∨ (s.rod n).linWait.isSome then s.rodGo n 6 else s.rodGo n 7

/-- Rods and ports of the lean masks that are present. -/
def State.leanSet (s : State) : Nat × List Nat :=
  let rods := match s.paramBytes 0x41 with
    | some b => (List.range 128).filter (fun n => bit (byteAt b (n / 8)) (n % 8) && s.rodPresent n)
    | none => []
  ((List.range 32).foldl (fun n p => if bit (s.param 0x40 0) p && s.ethPresent p then n + 2 ^ p else n) 0, rods)

/-- PWR_CMD LEAN (DEDUCED, log 75). -/
def State.pwrLean (s : State) : Nat × State :=
  if s.powerMode ≠ 0 then (stReject, s)
  else
    let (ports, rods) := s.leanSet
    let s := { s with pwr := { s.pwr with leanRods := rods } }
    let s := rods.foldl State.leanRod s
    let s := { s with pwr := { s.pwr with leanPorts := ports } }
    let s := (bitList ports 32).foldl State.dropLink s
    let s := if s.param 0x42 0 = 1 then
        let s := { s with pwr := { s.pwr with ddrSelf := true, extWas := s.isF F.CRY_CFG_EXT_OK } }
        (s.stopTrace 5).setB F.CRY_CFG_EXT_OK false
      else s
    (stOk, (s.setF F.PWR_MODE_MODE 1).postFree 0x3C 1)

/-- PWR_LEAN. -/
def doPwrLean (r : Nat) (s : State) : State := s.pwrCmd (min r 2) 3 State.pwrLean

/-- A rod receives WAKE, and START with AUTOSTART. -/
def State.unleanRod (s : State) (n : Nat) : State :=
  if s.rodState n ≠ 7 then s
  else
    let s := s.rodGo n 1
    if s.isF (F.ROD_CTL_AUTOSTART n) then (s.rodStart n).getD s else s

/-- PWR_CMD RUN: the lean steps in the opposite order. -/
def State.pwrRun (s : State) : Nat × State :=
  if s.powerMode = 0 then (stOk, s)
  else
    let rods := s.pwr.leanRods
    let s := if s.pwr.ddrSelf && s.isF F.MEM_STAT_TRAINED && !s.isF F.MEM_STAT_FAILED then
        s.setB F.CRY_CFG_EXT_OK s.pwr.extWas else s
    let s := { s with pwr := { s.pwr with ddrSelf := false, extWas := false, leanPorts := 0, leanRods := [] } }
    let s := rods.foldl State.unleanRod s
    (stOk, (s.setF F.PWR_MODE_MODE 0).postFree 0x3C 1)

/-- PWR_RUN; every opcode from 5 on acts as it. -/
def doPwrRun (r : Nat) (s : State) : State := s.pwrCmd (min r 2) 4 State.pwrRun

/-! ### The governor (R394 to R398) -/

/-- Enter a governor level: SHED follows level 3, and the change is posted (R159, R397)
(DEDUCED, log 76). -/
def State.setLevel (s : State) (l : Nat) : State :=
  let was := s.isF F.FWL_STAT_SHED
  let s := s.setF F.PWR_THERM_STAT_LEVEL l
  let on := decide (3 ≤ l)
  let s := if on = was then s else (s.setB F.FWL_STAT_SHED on).postFree 0x08 (if on then 7 else 8)
  s.postFree 0x3C 3

/-- The step of level `l` has no effect (R396). -/
def State.emptyStep (s : State) (l : Nat) : Bool :=
  if l = 1 then !(s.getF F.TRC_STAT_STATE == 1 || s.getF F.TRC_STAT_STATE == 2)
  else if l = 2 then !s.ddrUp
  else s.getF F.FWL_CFG_BE_MASK == 0

/-- Raise the level by one, and on through steps without effect (DEDUCED, log 76). -/
def State.raiseLevel : Nat → State → State
  | 0, s => s
  | fuel + 1, s =>
    let l := s.getF F.PWR_THERM_STAT_LEVEL + 1
    if 3 < l then s
    else
      let s := s.setLevel l
      if s.emptyStep l then raiseLevel fuel s else s

/-- The energy bucket takes one millisecond at `p` mW (R395) (DEDUCED, log 76). -/
def State.bucketMs (s : State) (p : Nat) : State :=
  let e := s.pwr.energy + 16000
  let s := if e < p then s.tally (T.pwr 2) else s
  let s := { s with pwr := { s.pwr with energy := min 180000000 (e - p) } }
  s.setF F.PWR_BUCKET_B (s.pwr.energy / 10000)

/-- Index of the largest reading, the lowest among equal ones. -/
def hottest (ts : List Nat) : Nat := ts.findIdx (· == ts.foldl max 0)

/-- GOVERNOR_TICK: the readings of TS0 to TS3 (+ 64) and the power in mW. STEP_MS passes after a raise before the next one
(R396), and after any change before a lowering (R397). -/
def doGovernorTick (ts : List Nat) (p : Nat) (s : State) : State :=
  if 2 ≤ s.powerMode || !s.isF F.GLB_CLK_STAT_ROOT_LOCK then s
  else
    let ts := ts.map (min 255)
    let tmax := ts.foldl max 0
    let s := s.forN 4 (fun k s => s.setF (F.PWR_TS_TEMP k) (ts.getD k 0))
    let s := ((s.setF F.PWR_THERM_STAT_TMAX tmax).setF F.PWR_THERM_STAT_SENSOR (hottest ts)).setF
      F.PWR_POWER_P (min 65535 p)
    let s := s.bucketMs p
    let since := s.pwr.since.map (· + 1)
    let raised := s.pwr.raised.map (· + 1)
    let s := { s with pwr := { s.pwr with since := since, raised := raised } }
    let l := s.getF F.PWR_THERM_STAT_LEVEL
    let tj := s.getF F.PWR_THERM_CFG_TJ_LIMIT + 64
    let past (o : Option Nat) := o.all (fun n => decide (10 * s.getF F.PWR_THERM_CFG_STEP_MS ≤ n))
    let mark (s : State) : State := { s with pwr := { s.pwr with since := some 0 } }
    let markUp (s : State) : State := { s with pwr := { s.pwr with since := some 0, raised := some 0 } }
    let up : Bool := (s.pwr.energy == 0 && decide (16000 < p)) || decide (tj ≤ tmax)
    let down : Bool := decide (s.getF F.PWR_RESTORE_RESTORE * 10000 ≤ s.pwr.energy)
      && decide (tmax + s.getF F.PWR_THERM_CFG_HYST ≤ tj)
    if l < 4 ∧ 214 ≤ tmax then markUp ((s.setLevel 4).postFree 0x3C 4)
    else if l = 4 then (if tmax ≤ 209 then mark ((s.setLevel 3).postFree 0x3C 5) else s)
    else if up then (if past raised ∧ l < 3 then markUp (State.raiseLevel 3 s) else s)
    else if down ∧ past since ∧ 0 < l then mark (s.setLevel (l - 1))
    else s

/-- THERMAL_SHUTDOWN (R399): `sensor` reads 160 °C or more, `tmax` is its reading + 64
(DEDUCED, log 77). -/
def doThermalShutdown (sensor tmax : Nat) (s : State) : State :=
  if 2 ≤ s.powerMode ∨ tmax < 224 then s
  else
    let s := ((s.setB F.BKP_THERM_SHUTDOWN true).setF F.BKP_THERM_SENSOR sensor).setF F.BKP_THERM_TMAX
      (min 255 tmax)
    let s := s.satF F.BKP_THERM_COUNT 1
    let s := s.toStandby
    { s with pwr := { s.pwr with hot := true } }

/-! ### Meanings of the commands -/

/-- Meaning of TAMPER_DETECTION (R256). -/
def execTamperDetection (src aon : Nat) (s : State) : Host.Outcome State Fault Refusal :=
  .next (doTamperDetection src aon s)

/-- Meaning of PWR_NOP (R383). -/
def execPwrNop (req : Nat) (s : State) : Host.Outcome State Fault Refusal := .next (doPwrNop req s)

/-- Meaning of PWR_STANDBY (R387). -/
def execPwrStandby (req key : Nat) (s : State) : Host.Outcome State Fault Refusal :=
  .next (doPwrStandby req key s)

/-- Meaning of PWR_SLEEP (R385). -/
def execPwrSleep (req key : Nat) (s : State) : Host.Outcome State Fault Refusal := .next (doPwrSleep req key s)

/-- Meaning of SLEEP_DRAIN_END (R385). -/
def execSleepDrainEnd (passA passB : Bool) (aon : Nat) (s : State) : Host.Outcome State Fault Refusal :=
  .next (doSleepDrainEnd passA passB aon s)

/-- Meaning of PWR_LEAN (R384). -/
def execPwrLean (req : Nat) (s : State) : Host.Outcome State Fault Refusal := .next (doPwrLean req s)

/-- Meaning of PWR_RUN (R384). -/
def execPwrRun (req : Nat) (s : State) : Host.Outcome State Fault Refusal := .next (doPwrRun req s)

/-- Meaning of PHY_SLEEP_NOACK (R390). -/
def execPhySleepNoack (port : Nat) (s : State) : Host.Outcome State Fault Refusal :=
  .next (doPhySleepNoack port s)

/-- Meaning of WAKE_PIN (R389). -/
def execWakePin (levels aon : Nat) (s : State) (held : Nat := 0) : Host.Outcome State Fault Refusal :=
  .next (doWakePin levels held aon s)

/-- Meaning of PHY_WAKE (R389). -/
def execPhyWake (ports aon : Nat) (s : State) : Host.Outcome State Fault Refusal :=
  .next (doPhyWake ports aon s)

/-- Meaning of T1S_ACTIVITY_WAKE (R389). -/
def execT1sActivityWake (ports aon : Nat) (s : State) (us : Nat := 50) :
    Host.Outcome State Fault Refusal :=
  .next (doT1sActivityWake ports us aon s)

/-- Meaning of WAKE_TIMER (R389). -/
def execWakeTimer (aon : Nat) (s : State) : Host.Outcome State Fault Refusal := .next (doWakeTimer aon s)

/-- Meaning of GOVERNOR_TICK (R396). -/
def execGovernorTick (temps : List Nat) (power : Nat) (s : State) : Host.Outcome State Fault Refusal :=
  .next (doGovernorTick temps power s)

/-- Meaning of THERMAL_SHUTDOWN (R399). -/
def execThermalShutdown (sensor tmax : Nat) (s : State) : Host.Outcome State Fault Refusal :=
  .next (doThermalShutdown sensor tmax s)

/-- Meaning of PHYWK_RISE (R390). -/
def execPhywkRise (ports : Nat) (s : State) : Host.Outcome State Fault Refusal := .next (doPhywkRise ports s)

end Sys2Proof.Machine
end

