-- ==== Sys2Proof/Machine/HostDma.lean ====
section
/-! DEFINITION. The host bridge (R285 to R289, R297 to R305): PERST, BAR2, the DMA rings with transmit and receive,
and MSI-X. Queues are numbered as the registers lie: 0 to 63 TX, 64 to 127 RX. What host memory holds (descriptors,
buffers) arrives as an operand, what the device writes leaves as an outward effect. -/

namespace Sys2Proof.Machine

/-! ### MSI-X (R304) -/

/-- Vector `v` is masked in the table or under Function Mask. -/
def State.msixMasked (s : State) (v : Nat) : Bool := s.funcMask || s.isF (F.MSIX_CTL_MASK v)

/-- The message of vector `v`. -/
def State.msixEmit (s : State) (v : Nat) : State :=
  s.emit (.msix v (s.getF (F.MSIX_ADDR_LO_ADDR v) * 4 + s.getF (F.MSIX_ADDR_HI_ADDR v) * 2 ^ 32)
    (s.getF (F.MSIX_DATA_DATA v)))

/-- Vector `v` sends its message, or sets its PBA bit while masked. -/
def State.msixSend (s : State) (v : Nat) : State :=
  if s.msixMasked v then s.orF (F.MSIX_PBA_PENDING (v / 32)) (v % 32) else s.msixEmit v

/-- Every unmasked vector whose PBA bit is set sends its message. -/
def State.msixFlush (s : State) : State :=
  s.forN 256 (fun v s =>
    let f := F.MSIX_PBA_PENDING (v / 32)
    if bit (s.getF f) (v % 32) && !s.msixMasked v then (s.clrF f (v % 32)).msixEmit v else s)

/-- MSIX_MESSAGE: source `src` has reached MOD_COUNT announcements, or its oldest one MOD_TIME µs
(DEDUCED, log 87). -/
def doMsixMessage (src : Nat) (s : State) : State :=
  let src := src % 131
  let p := sget (fun _ => (0, 0)) s.host.irq src
  let time := s.getF (F.DMA_IRQ_MAP_MOD_TIME src)
  if p.1 = 0 || !s.isF (F.DMA_IRQ_MAP_EN src) then s
  else if s.getF (F.DMA_IRQ_MAP_MOD_COUNT src) ≤ p.1 || (time != 0 && decide (p.2 + 800 * time ≤ s.tb.fab)) then
    let s := { s with host := { s.host with irq := sput (fun _ => (0, 0)) s.host.irq src (0, 0) } }
    s.msixSend (s.getF (F.DMA_IRQ_MAP_VEC src))
  else s

/-- A configuration write of the host (R284, R286); clearing Function Mask lets pending vectors send (R304). -/
def State.configWrite (s : State) (off v : Nat) : State := (s.cfgWrite off v).msixFlush

/-- MSIX_UNMASK: the host clears the mask of vector `v`, or Function Mask (256 and above). -/
def doMsixUnmask (v : Nat) (s : State) : State :=
  let s := if v < 256 then s.setB (F.MSIX_CTL_MASK v) false
    else if s.funcMask then s.setCfg 0x50 (s.cfgWord 0x50 - 2 ^ 30) else s
  s.msixFlush

/-! ### PERST (R285) -/

/-- Registers that PCIE_PERST_N returns to their reset values: the queues, BAR2's base, MSI-X table and PBA. -/
def perstReg (off : Nat) : Bool :=
  off == 0x2C0010 || (decide (0x2C1000 ≤ off) && decide (off < 0x2C3000))
    || (decide (0x2C8000 ≤ off) && decide (off < 0x2C9020))

/-- Reads and atomics of the host in flight are discarded without a completion; a fence that the host reads is such
a read (DEDUCED, log 83). -/
def Win.dropReads (w : Win) : Win := { w with q := w.q.filter (fun a => decide (a.kind ≤ 1) || a.kind == 5 || a.rep.isSome) }

/-- PCIE_PERST: link and configuration space too; posted writes that wait on the link are lost with it
(DEDUCED, log 83). -/
def doPciePerst (s : State) : State :=
  let s := { s with
    regs := s.regs.filter (fun e => !perstReg (e.1 / 32))
    host := { s.host with link := false, cfg := [], held := [], txNext := 0 } }
  s.forN 16 (fun h s => s.setWin h (s.win h).dropReads)

/-! ### BAR2 (R288) -/

/-- A byte of the device's LPDDR5 as a read of the window returns it: all ones while it is absent or failed, a free
value beyond its end (DESIGN CHOICE, log 82). -/
def State.b2Byte (s : State) (a free : Nat) : Nat :=
  if !s.ddrUp then 0xFF else if a < s.ddrBytes then s.ddrByte a else free % 256

/-- A write to LPDDR5 address `a` is dropped: it lies in the trace region while the recorder captures, or beyond
the device. -/
def State.b2Forbidden (s : State) (a : Nat) : Bool :=
  let st := s.getF F.TRC_STAT_STATE
  let base := s.traceBase
  decide (s.ddrBytes ≤ a) || ((st == 1 || st == 2) && decide (base ≤ a)
    && decide (a < base + s.getF F.TRC_REGION_SIZE * 2 ^ 20))

/-- LPDDR5 address of BAR2 offset `x`. -/
def State.b2Addr (s : State) (x : Nat) : Nat := s.getF F.DMA_B2_BASE_BASE * 2 ^ 24 + x

/-- Byte `x` of the table memory image: the entry that lies there, wherever that is (R288) (DESIGN CHOICE, log 82). -/
def State.imageByte (s : State) (x : Nat) : Nat :=
  let (code, i, w) := Config.tablePlace (x / 8)
  bits (ew (s.entry (code % 16) i) (w % 16) 0 64) (8 * (x % 8)) 8

/-- A BAR2 read of `n` bytes: the window, the table image, or the reserved part. -/
def State.b2Read (s : State) (x n : Nat) : State :=
  let c := s.freeCtr
  let byte (i : Nat) : Byte :=
    let y := x + i
    let v := (Config.free (c + i)).toNat % 256
    if y < 0xF000000 then BitVec.ofNat 8 (s.b2Byte (s.b2Addr y) v)
    else if y < 0xF800000 then BitVec.ofNat 8 (s.imageByte (y - 0xF000000))
    else 0
  ({ s with freeCtr := c + n }).emit (.completion (leNat ((List.range n).map byte)))

/-- A BAR2 write; one that touches a forbidden byte is discarded whole and tallied
(DESIGN CHOICE, log 82). -/
def State.b2Write (s : State) (x : Nat) (data : List Byte) : State :=
  if 0xF800000 ≤ x then s
  else if 0xF000000 ≤ x then s.tally (T.dma 2)
  else if !s.ddrUp then s.tally (T.dma 2)
  else
    let a := s.b2Addr x
    if (List.range data.length).any (fun i => s.b2Forbidden (a + i)) then s.tally (T.dma 2)
    else s.writeDdr a data

/-- BAR2_ACCESS: a write of `data`, or a read of `n` bytes. -/
def doBar2Access (x n : Nat) (data : Option (List Byte)) (s : State) : State :=
  let x := x % 0x10000000
  match data with
  | some bs => s.posted (.mem x bs) (fun s => s.b2Write x bs)
  | none => s.onRead (fun s => s.b2Read x n)

/-! ### Queues (R297) -/

/-- Tally of a queue: member `t` of the TX family, `r` of the RX family. -/
def qTally (q t r : Nat) : Nat := if q < 64 then T.dmaTx q t else T.dmaRx (q - 64) r

/-- Descriptors that the device has still to complete; none while the queue is disabled. -/
def State.qPending (s : State) (q : Nat) : Nat :=
  if s.isF (F.DMA_Q_CFG_EN q) then
    (s.getF (F.DMA_Q_STAT_TAIL q) + 2 ^ 16 - s.getF (F.DMA_Q_STAT_HEAD q)) % 2 ^ 16
  else 0

/-- A write of TAIL (R297), clamped to the ring size. -/
def State.doorbell (s : State) (q t : Nat) : State :=
  let head := s.getF (F.DMA_Q_STAT_HEAD q)
  let size := 2 ^ s.getF (F.DMA_Q_CFG_SIZE_LOG2 q)
  if size < (t % 2 ^ 16 + 2 ^ 16 - head) % 2 ^ 16 then
    (s.setF (F.DMA_Q_STAT_TAIL q) (head + size)).tally (qTally q 5 4)
  else s.setF (F.DMA_Q_STAT_TAIL q) t

/-- DOORBELL. -/
def doDoorbell (q t : Nat) (s : State) : State := s.busGate (fun s => s.doorbell (q % 128) t)

/-- A write of DMA_Q_CFG (R297). With EN = 1 only EN is taken, and the locked fields are tallied; setting EN
starts the ring at 0, clearing it stops the queue with its positions kept (DEDUCED, log 80). -/
def State.queueCfg (s : State) (q v : Nat) : State :=
  let en := F.DMA_Q_CFG_EN q
  if s.isF en then
    let s := s.tally (qTally q 6 5)
    if bit v 0 then s else (s.setB en false).setB (F.DMA_Q_ERR_STOPPED q) true
  else
    let s := s.storeReg en.off v
    if bit v 0 then
      ((s.setF (F.DMA_Q_STAT_HEAD q) 0).setF (F.DMA_Q_STAT_TAIL q) 0).setB (F.DMA_Q_ERR_STOPPED q) false
    else s

/-- QUEUE_ENABLE: a write of `v` to DMA_Q_CFG of queue `q`. -/
def doQueueEnable (q v : Nat) (s : State) : State := s.busGate (fun s => s.queueCfg (q % 128) v)

/-- A write to DMA_Q_BASE or DMA_Q_WB of queue `q` (DEDUCED, log 80). -/
def State.queueAddr (s : State) (q off v : Nat) : State :=
  s.lockedStore (s.isF (F.DMA_Q_CFG_EN q)) (qTally q 6 5) off v

/-- Host address of the descriptor at HEAD. -/
def State.descAddr (s : State) (q : Nat) : Nat :=
  s.getF (F.DMA_Q_BASE_LO_BASE q) * 64 + s.getF (F.DMA_Q_BASE_HI_BASE q) * 2 ^ 32
    + s.getF (F.DMA_Q_STAT_HEAD q) % 2 ^ s.getF (F.DMA_Q_CFG_SIZE_LOG2 q) * 32

/-- The descriptor at HEAD completes (R303): words from `w` on are written back, HEAD advances and is written, and
the completion is announced. -/
def State.descDone (s : State) (q w : Nat) (words : List Nat) : State :=
  let s := s.emit (.hostWrite (s.descAddr q + 4 * w) (words.flatMap (leBytes 4)) false)
  let s := s.incF (F.DMA_Q_STAT_HEAD q)
  let wb := s.getF (F.DMA_Q_WB_LO_WB q) * 8 + s.getF (F.DMA_Q_WB_HI_WB q) * 2 ^ 32
  let s := s.emit (.hostWrite wb (leBytes 8 (s.getF (F.DMA_Q_STAT_HEAD q))) false)
  s.announce (if q < 64 then 64 + q else q - 64)

/-- QUEUE_STOP (R302): a read or write-back of queue `q` meets completion error `cause`. -/
def doQueueStop (q cause : Nat) (s : State) : State :=
  let q := q % 128
  if !s.isF (F.DMA_Q_CFG_EN q) then s
  else
    let s := (s.setF (F.DMA_Q_ERR_CAUSE q) (nearest [(1, 5)] cause)).setB (F.DMA_Q_ERR_STOPPED q) true
    ((s.setB (F.DMA_Q_CFG_EN q) false).tally (qTally q 7 6)).announce 130

/-! ### Transmit (R298, R299) -/

/-- The TX queue that the round-robin service takes next. -/
def State.txQueue (s : State) : Option Nat :=
  ((List.range 64).map (fun k => (s.host.txNext + k) % 64)).find? (fun q => s.qPending q != 0)

/-- Write-back word 5: DONE, CLAMPED, SKIPPED, REJECTED. -/
def txWord (clamped skipped rejected : Bool) : Nat := 1 + 2 * b2n clamped + 4 * b2n skipped + 8 * b2n rejected

/-- The item that a descriptor injects. -/
def State.txItem (s : State) (w : Nat → Nat) (bytes : List Byte) : Item :=
  let rod := bits (w 3) 0 2 != 0
  { bytes := if rod then bytes else bytes ++ fcsOf bytes
    isRod := rod, ingress := 34, injected := true, t := s.tb.clk
    ts := { mode := min 2 (bits (w 3) 12 2), domain := bits (w 3) 14 2, refT := w 6 + w 7 * 2 ^ 32
            twoStep := bit (w 3) 11, tag := bits (w 4) 0 16 }
    destOv := if bit (w 3) 2 then some (min 35 (bits (w 3) 3 8)) else none }

/-- TX_DESCRIPTOR_SERVE (R299): `desc` is the descriptor read for the queue in turn, `buf` what a read of its
buffer returns (DEDUCED, log 81). -/
def doTxDescriptorServe (desc buf : List Byte) (s : State) : State :=
  if !s.receives then s
  else match s.txQueue with
  | none => s
  | some q =>
    let s := { s with host := { s.host with txNext := (q + 1) % 64 } }
    let w (k : Nat) : Nat := leAt desc (4 * k) 4
    let len := bits (w 2) 0 15
    let l := min len (min (bits (w 2) 16 15) 16384)
    let rod := bits (w 3) 0 2 != 0
    let clamped := decide (l < len)
    let s := if clamped then s.tally (T.dmaTx q 1) else s
    if l = 0 then (s.tally (T.dmaTx q 2)).descDone q 5 [txWord clamped true false]
    else if l < (if rod then 16 else 14) then
      (s.tally (T.dmaTx q 3)).descDone q 5 [txWord clamped false true]
    else if !rod && decide (10236 < l) then (s.tally (T.dmaTx q 4)).descDone q 5 [txWord clamped false true]
    else
      let n := s.dp.stream.length
      let s := s.injectItem (s.txItem w (padTo l buf))
      let s := if n < s.dp.stream.length then s.tally (T.dmaTx q 0) else s
      s.descDone q 5 [txWord clamped false false]

/-! ### Receive (R300, R301) -/

/-- RX queue, numbered from 64, of an item of class `c` (R300). -/
def State.rxQueue (s : State) (c : Nat) (it : Item) : Nat :=
  64 + (s.getF (F.DMA_RXMAP_BASE c) + it.ingress % 2 ^ s.getF (F.DMA_RXMAP_SPREAD c)) % 64

/-- The head item of class `c` of port 34 can be handled: it is whole, and its queue has a free descriptor or drops
without one (DEDUCED, log 81). -/
def State.rxReady (s : State) (c : Nat) : Option (Nat × QRef × List QRef × Item) :=
  match s.queue 34 c with
  | [] => none
  | r :: rs =>
    match s.item r.item with
    | none => none
    | some it =>
      let q := s.rxQueue c it
      if it.complete && (s.qPending q != 0 || s.isF (F.DMA_Q_CFG_EMPTY_ACT q)) then some (q, r, rs, it) else none

/-- Skip descriptors with BUF_LEN 0 (R301); answers address and size of the first other one. -/
def State.rxDesc (s : State) (q : Nat) : List (Nat × Nat) → Option (Nat × Nat) × State
  | [] => (none, s)
  | (a, n) :: l =>
    if s.qPending q = 0 then (none, s)
    else if n % 2 ^ 15 = 0 then
      ((s.tally (T.dmaRx (q - 64) 1)).descDone q 3 [2 ^ 15 + 2 ^ 31, 0, 0, 0, 0]).rxDesc q l
    else (some (a, min (n % 2 ^ 15) 16384), s)

/-- Words 3 to 7 of a delivered descriptor (Table 11.8); SEQ is the number of the R-tag that the parser found. -/
def rxWords (c len : Nat) (r : QRef) (it : Item) : List Nat :=
  [len % 2 ^ 14 + 2 ^ 15 + it.ingress % 256 * 2 ^ 16 + c % 8 * 2 ^ 24 + r.pcp % 8 * 2 ^ 27, t32 it.t,
    r.vid % 2 ^ 12 + r.why % 4 * 2 ^ 12,
    r.stream.getD 0 % 2 ^ 13 + b2n r.stream.isSome * 2 ^ 13
      + (if it.isRod then 0 else (parseFrame it.bytes).rtag.getD 0 % 2 ^ 16) * 2 ^ 16, 0]

/-- RX_DELIVERY: port 34 handles the head item of its highest class that can be handled; `descs` are the buffer
addresses and sizes in the chosen queue's descriptors from HEAD on (DEDUCED, log 81). -/
def doRxDelivery (descs : List (Nat × Nat)) (s : State) : State :=
  if !s.serving || decide (2 ≤ s.getF F.PWR_MODE_MODE) then s
  else match ((List.range 8).reverse).find? (fun c => (s.rxReady c).isSome) with
  | none => s
  | some c =>
    match s.rxReady c with
    | none => s
    | some (q, r, rs, it) =>
      let drop (s : State) (m : Nat) : State :=
        ((s.setQueue 34 c rs).tally (T.dmaRx (q - 64) m)).release r.item
      match s.rxDesc q descs with
      | (none, s) => if s.qPending q = 0 && s.isF (F.DMA_Q_CFG_EMPTY_ACT q) then drop s 3 else s
      | (some (a, n), s) =>
        let bs := if it.isRod then it.bytes else it.bytes.take (it.len - 4)
        if n < bs.length then drop s 2
        else
          let s := s.emit (.hostWrite a bs (s.isF F.DMA_CFG_RO_EN && s.relaxOn))
          let s := s.descDone q 3 (rxWords c bs.length r it)
          drop s 0

/-! ### Meanings of the commands -/

/-- Meaning of PCIE_PERST (R285). -/
def execPciePerst (s : State) : Host.Outcome State Fault Refusal := .next (doPciePerst s)

/-- Meaning of BAR2_ACCESS (R288). -/
def execBar2Access (off len : Nat) (data : Option (List Byte)) (s : State) : Host.Outcome State Fault Refusal :=
  .next (doBar2Access off len data s)

/-- Meaning of DOORBELL (R297). -/
def execDoorbell (queue tail : Nat) (s : State) : Host.Outcome State Fault Refusal :=
  .next (doDoorbell queue tail s)

/-- Meaning of QUEUE_ENABLE (R297). -/
def execQueueEnable (queue value : Nat) (s : State) : Host.Outcome State Fault Refusal :=
  .next (doQueueEnable queue value s)

/-- Meaning of TX_DESCRIPTOR_SERVE (R299). -/
def execTxDescriptorServe (desc buf : List Byte) (s : State) : Host.Outcome State Fault Refusal :=
  .next (doTxDescriptorServe desc buf s)

/-- Meaning of RX_DELIVERY (R301). -/
def execRxDelivery (descs : List (Nat × Nat)) (s : State) : Host.Outcome State Fault Refusal :=
  .next (doRxDelivery descs s)

/-- Meaning of QUEUE_STOP (R302). -/
def execQueueStop (queue cause : Nat) (s : State) : Host.Outcome State Fault Refusal :=
  .next (doQueueStop queue cause s)

/-- Meaning of MSIX_MESSAGE (R304). -/
def execMsixMessage (src : Nat) (s : State) : Host.Outcome State Fault Refusal := .next (doMsixMessage src s)

/-- Meaning of MSIX_UNMASK (R304). -/
def execMsixUnmask (vec : Nat) (s : State) : Host.Outcome State Fault Refusal := .next (doMsixUnmask vec s)

end Sys2Proof.Machine
end

