-- ==== Sys2Proof/Machine/Bus.lean ====
section
/-! DEFINITION. The register bus (R12 to R15, R27, R287, R289, R316, R471, R472): which write starts which command,
what each register reads as, REGISTER_WRITE and BAR0_ATOMIC. Requesters: 0 control pair, 1 service pair, 2 host
(a remote access acts as the host, R361). -/

namespace Sys2Proof.Machine

/-- GLB and BKP operate in every stage (R316). -/
def alwaysOpen (off : Nat) : Bool := decide (off < 0x10000) || (decide (0x400000 ≤ off) && decide (off < 0x410000))

/-! ### Writes that start a command (R473) -/

/-- TBL_CMD (Table 4.14) (DEDUCED, log 85). -/
def State.writeTblCmd (s : State) (r v : Nat) (env : BusEnv) : State :=
  match min 7 (bits v 0 4) with
  | 0 => doTblNop r s
  | 1 => doTblRead r env.slow env.ce s
  | 2 => doTblWrite r env.slow s
  | 3 => doInsert r (bit v 4) env.slow s
  | 4 => doDelete r env.slow s
  | 5 => doSearch r env.slow s
  | 6 => doFlushMasked r s
  | _ => doAgeSweep r s

/-- KEY_CMD (Table 10.3): opcodes above 0xA act as 0xA; SUB above 1 acts as 1 where the command has two
(DEDUCED, log 85). -/
def State.writeKeyCmd (s : State) (r v : Nat) : State :=
  let sub := bits v 4 4
  match min 10 (bits v 0 4) with
  | 0 => doKeyNop r s
  | 1 => doGenerate r s
  | 2 => doDerive r s
  | 3 => doImportWrapped r s
  | 4 => doExportWrapped r s
  | 5 => doKeyMac r sub s
  | 6 => if sub = 0 then doBindSa r s else doBindImage r s
  | 7 => doInvalidate r s
  | 8 => doInfo r s
  | 9 => if sub = 0 then doAuthorizeChallenge r s else doAuthorizeToken r s
  | _ => if sub = 0 then doAttestStatement r s else doAttestPublicKeys r s

/-- ROD_CMD[n] (Table 2.5). -/
def State.writeRodCmd (s : State) (n v : Nat) (env : BusEnv) : State :=
  let arg := bits v 4 4
  match min 7 (bits v 0 4) with
  | 0 => doRodNop n s
  | 1 => doSetMode n arg s
  | 2 => doStart n s
  | 3 => doStop n env.rx s
  | 4 => doRecover n s
  | 5 => doFlush n arg s
  | 6 => doRodStandby n s
  | _ => doRodWake n s

/-- SAF_PLANE_CMD (Table 9.12). -/
def State.writeSafCmd (s : State) (v : Nat) : State :=
  let b := bit v 4
  match min 4 (bits v 0 4) with
  | 0 => doSafNop s
  | 1 => doWithdraw b s
  | 2 => doRestart b s
  | 3 => doDrill s
  | _ => doClearLatent b s

/-- UPD_CMD (Table 14.6) (DEDUCED, log 85). -/
def State.writeUpdCmd (s : State) (v : Nat) (env : BusEnv) : State :=
  match min 5 (bits v 0 4) with
  | 0 => doUpdNop s
  | 1 => doLoad env.img s
  | 2 => doRelay s
  | 3 => doActivate s
  | 4 => doUpdAbort s
  | _ => doClear s

/-- PWR_CMD (Table 15.4). -/
def State.writePwrCmd (s : State) (r v : Nat) : State :=
  let key := bits v 8 8
  match min 4 (bits v 0 4) with
  | 0 => doPwrNop r s
  | 1 => doPwrStandby r key s
  | 2 => doPwrSleep r key s
  | 3 => doPwrLean r s
  | _ => doPwrRun r s

/-- MEM_TEST_CMD (Table 16.7). -/
def State.writeMemCmd (s : State) (v : Nat) : State :=
  match bits v 0 2 with
  | 0 => doMemTestNop s
  | 1 => doMemTestRun (bits v 4 2) s
  | _ => doMemTestAbort s

/-- A register of the DMA block (R297, R304). -/
def State.writeDma (s : State) (base i off v : Nat) : State :=
  match base with
  -- DMA_Q_BASE_LO, DMA_Q_BASE_HI, DMA_Q_WB_LO, DMA_Q_WB_HI
  | 0x2C1000 | 0x2C1004 | 0x2C100C | 0x2C1010 => s.queueAddr i off v
  -- DMA_Q_CFG
  | 0x2C1008 => s.queueCfg i v
  -- DMA_Q_DB
  | 0x2C1014 => s.doorbell i v
  -- MSIX_CTL
  | 0x2C800C => (s.storeReg off v).msixFlush
  | _ => s.storeReg off v

/-- A write of dword `v` to a register outside GLB, from stage 9 on. -/
def State.writeServing (s : State) (r off v : Nat) (env : BusEnv) : State :=
  match findReg off with
  | none => s
  | some (d, i, _) =>
    if !s.unitThere d.unit i then s
    else match d.base with
    -- SAF_CFG: AUTO_RESTART acts on planes withdrawn before (R239)
    | 0x10000 => (s.storeReg off v).autoRestart
    -- SAF_PLANE_CMD
    | 0x10008 => s.writeSafCmd v
    -- TIM_TS2_ACK
    | 0x20230 => doTimTs2Ack v s
    -- TIM_IN_ACK
    | 0x20320 => doTimInAck v s
    -- TBL_CMD
    | 0x40000 => s.writeTblCmd r v env
    -- ROD_CMD
    | 0x180004 => s.writeRodCmd i v env
    -- ROD_RESET
    | 0x180010 => if bit v 0 then doRodReset i s else s
    -- CRY_EMIT
    | 0x200004 => doCryEmit (bits v 0 8) s
    -- KEY_CMD
    | 0x240000 => s.writeKeyCmd r v
    -- UPD_CMD
    | 0x280000 => s.writeUpdCmd v env
    -- MEM_TEST_CMD
    | 0x300010 => s.writeMemCmd v
    -- TLY_SNAP_CTL
    | 0x340004 => if bit v 0 then doTlySnapshot (bit v 1) s else s
    -- TST_ROD_MISS
    | 0x38100C => if bit v 31 then doTstRodClr i s else s
    -- PWR_CMD
    | 0x3C0004 => s.writePwrCmd r v
    -- RNG_REL_ACK
    | 0x442004 => doRngRelAck v s
    | b => if 0x2C0000 ≤ b ∧ b < 0x300000 then s.writeDma b i off v else s.storeWord r off v

/-- A write of dword `v` to BAR0 offset `off` by requester `r`. -/
def State.busWrite (s : State) (r off v : Nat) (env : BusEnv) : State :=
  let off := off % 2 ^ 26 / 4 * 4
  -- GLB_SW_RST
  if off = 0x104 then doSoftwareWarmReset (bits v 0 8) (bit v 8) s
  -- GLB_START
  else if off = 0x108 then (if bit v 0 then doFwdGo s else s)
  -- GLB_HL_CTL
  else if off = 0x190 then (if bit v 0 then doHostLoadGo s else s)
  else if alwaysOpen off then s.storeWord r off v
  else s.busGate (fun s => s.writeServing r off v env)

/-- Dwords from offset `off` on, in ascending order (R287). -/
def State.busWrites (s : State) (r : Nat) (env : BusEnv) : Nat → List Nat → State
  | _, [] => s
  | off, v :: vs => (s.busWrite r off v env).busWrites r env (off + 4) vs

/-- A write of the host to BAR0 (R287). -/
def State.hostWrites (s : State) (off : Nat) (dwords : List (Nat × Bool)) (env : BusEnv) : State :=
  s.writeTlp off dwords (fun off vs s => s.busWrites 2 env off vs)

/-- Posted writes that wait are taken in order, as far as there is room for them (R292). -/
def State.drainHeld : Nat → State → State
  | 0, s => s
  | n + 1, s =>
    match s.host.held with
    | [] => s
    | w :: ws =>
      if s.noCredit w then s
      else
        let s := { s with host := { s.host with held := ws } }
        drainHeld n (match w with
          | .reg off dwords env => s.hostWrites off dwords env
          | .window h x kind dwords => s.remoteWrite h x kind dwords
          | .mem x data => s.b2Write x data)

/-- ANS (R293): it may free an entry that a posted write waits for. -/
def doAns (d : Nat) (frame : List Byte) (s : State) : State :=
  let s := State.ansIn d frame s
  s.drainHeld s.host.held.length

/-- REMOTE_TIMEOUT (R292 to R294), which may free an entry too. -/
def doRemoteTimeout (h : Nat) (s : State) : State :=
  let s := State.tmoIn h s
  s.drainHeld s.host.held.length

/-- REGISTER_WRITE (R27, R287): dwords with whether all their byte enables are set. The limits on a write TLP are the
host bridge's. Requester 3 is the host in configuration space (R284, R286), one dword at a time (DESIGN CHOICE, log 121). -/
def doRegisterWrite (r off : Nat) (dwords : List (Nat × Bool)) (env : BusEnv) (s : State) : State :=
  if r = 2 then s.posted (.reg off dwords env) (fun s => s.hostWrites off dwords env)
  else if 3 ≤ r then
    match dwords with
    | (v, true) :: _ => s.configWrite (off % 4096 / 4 * 4) (v % 2 ^ 32)
    | _ => s
  else if !s.requesterUp r then s
  else (dwordRuns off dwords).foldl (fun s e => s.busWrites r env e.1 e.2) s

/-! ### Reads (R27, R222, R316, R472) -/

/-- Levels of the balls GPIO0 to GPIO63 (R440): what drives the ball, and from outside, a free value, where nothing
does (DESIGN CHOICE, log 86). -/
def State.gpioLevel (s : State) (g : Nat) (outside : Bool) : Bool :=
  match s.gpioDrive g with
  | 0 => outside
  | 1 => false
  | _ => true

/-- GLB_GPIO_IN0 (`k` 0) or GLB_GPIO_IN1. -/
def State.gpioIn (s : State) (k : Nat) : Nat × State :=
  let (c, s) := s.fresh
  let ext := (Config.free c).toNat
  ((List.range 32).foldl (fun n j => n + b2n (s.gpioLevel (32 * k + j) (bit ext j)) * 2 ^ j) 0, s)

/-- Word `k` of the head of the two-step queue, and of the TIME_IN queue. -/
def State.ts2Head (s : State) (k : Nat) : Nat :=
  match s.tb.ts2 with
  | [] => 0
  | e :: _ => e.words.getD k 0
def State.inHead (s : State) (k : Nat) : Nat :=
  match s.tb.tsIn with
  | [] => 0
  | e :: _ => e.words.getD k 0

/-- Low or high dword of a tally on the page that TLY_PAGE selects (R417): dword `i` of a bank. -/
def State.tallyWord (s : State) (bank : Sparse Nat) (i : Nat) : Nat :=
  bits (sget (fun _ => 0) bank (s.getF F.TLY_PAGE_PAGE * 8192 + i / 2)) (32 * (i % 2)) 32

/-- The present ones of 16 Ethernet ports from `p` on. -/
def State.ethMask (s : State) (p : Nat) : Nat :=
  (List.range 16).foldl (fun n k => if s.ethPresent (p + k) then n + 2 ^ k else n) 0

/-- What a register shows from stage 9 on where reading it has no side effect; `r` is the requester. -/
def State.readWord (s : State) (r off : Nat) : Nat :=
  match findReg off with
  | none => 0
  | some (d, i, j) =>
    if !s.unitThere d.unit i then s.absentWord d.base i
    else match d.base with
    -- TIM_NOW_SL, TIM_NOW_SH, TIM_NOW_N32
    | 0x20014 => tSec (sget (fun _ => 0) s.tb.nowLatch r) % 2 ^ 32
    | 0x20018 =>
      let t := sget (fun _ => 0) s.tb.nowLatch r
      tSec t / 2 ^ 32 % 2 ^ 16 + tFrac t * 2 ^ 16
    | 0x2001C => t32 (sget (fun _ => 0) s.tb.nowLatch r)
    -- BKP_WAKE, BKP_WAKE_T1S: the bits of absent units read zero (R389)
    | 0x400024 => s.regWord off - (bits (s.regWord off) 8 16 - (bits (s.regWord off) 8 16 &&& s.ethMask 0)) * 2 ^ 8
    | 0x400028 => s.regWord off &&& s.ethMask 16
    -- BKP_FW: the host reads 0 (R323)
    | 0x401000 => if r < 2 then s.regWord off else 0
    -- TIM_TS2_STAT, TIM_TS2_HEAD0 to TIM_TS2_HEAD4
    | 0x20200 => setBits (s.regWord off) 0 7 s.tb.ts2.length
    | 0x20210 => s.ts2Head 0
    | 0x20214 => s.ts2Head 1
    | 0x20218 => s.ts2Head 2
    | 0x2021C => s.ts2Head 3
    | 0x20220 => s.ts2Head 4
    -- TIM_IN_STAT, TIM_IN_HEAD0 to TIM_IN_HEAD3
    | 0x20304 => setBits (s.regWord off) 0 3 s.tb.tsIn.length
    | 0x20310 => s.inHead 0
    | 0x20314 => s.inHead 1
    | 0x20318 => s.inHead 2
    | 0x2031C => s.inHead 3
    -- ROD_STAT
    | 0x18000C => setBits (s.regWord off) 10 1 (b2n (s.pwmActive i))
    -- STR_GATE_W0
    | 0xA1000 => (s.openNow i).regWord off
    -- SCH_PORT_STAT
    | 0xC0004 => (s.setF (F.SCH_PORT_STAT_GATES_NOW i) (s.gatesAt i s.tb.clk)).regWord off
    -- SCH_SHAPE_NOW
    | 0xC3000 => s.shapeNs % 2 ^ 32
    -- SCH_CLASS_CREDIT, SCH_RODQ_CREDIT
    | 0xC1014 => creditWord (s.classSt i j).credit
    | 0xC400C => creditWord (s.classSt (64 + i) j).credit
    -- TLY_LIVE, TLY_FROZEN
    | 0x350000 => s.tallyWord s.tly i
    | 0x360000 => s.tallyWord s.tlyFrozen i
    | _ => s.regWord (regAt r off)

/-- The reset value of a register (R316); a field loaded by the option load or sampled holds what it was given. -/
def State.resetWord (s : State) (off : Nat) : Nat :=
  match findReg off with
  | none => 0
  | some (d, i, j) =>
    if s.unitThere d.unit i then
      d.fields.foldl (fun n f =>
        if f.acc = .wo then n
        else n + (if f.rst = .loaded ∨ f.rst = .sampled then s.getF ⟨off, f.lo, f.w⟩ else f.resetAt i j) * 2 ^ f.lo) 0
    else 0

/-- A read of one register by requester `r`, with its side effect; RNG_WIN_FENCE is read by its own operation. -/
def State.busRead (s : State) (r off : Nat) (env : BusEnv) : Nat × State :=
  let off := off % 2 ^ 26 / 4 * 4
  -- GLB_GPIO_IN0, GLB_GPIO_IN1
  if off = 0x500 then s.gpioIn 0
  else if off = 0x504 then s.gpioIn 1
  else if !s.serving && !alwaysOpen off then (s.resetWord off, s)
  -- TIM_NOW_NS
  else if off = 0x20010 then s.nowRead r env.age
  -- TIM_TS2_POP
  else if off = 0x20240 then s.ts2Read
  else (s.readWord r off, s)

/-- Window whose RNG_WIN_FENCE lies at an offset, where reading it sends a fence (R294). -/
def State.fenceAt (s : State) (off : Nat) : Option Nat :=
  let off := off % 2 ^ 26 / 4 * 4
  if s.serving ∧ 0x441028 ≤ off ∧ off < 0x441028 + 15 * 32 ∧ off % 32 = 8 then some ((off - 0x441028) / 32 + 1)
  else none

/-- Registers read in ascending order. -/
def State.busReads (s : State) (r : Nat) (env : BusEnv) : Nat → Nat → List Nat × State
  | _, 0 => ([], s)
  | off, n + 1 =>
    let (v, s) := s.busRead r off env
    let (vs, s) := s.busReads r env (off + 4) n
    (v :: vs, s)

/-- A BAR0 read of the host: one dword, or two aligned to 8 bytes, each register once and in ascending order; any other
size is an Unsupported Request that reads nothing (R287). -/
def State.hostRead (s : State) (off count : Nat) (env : BusEnv) : State :=
  let off := off / 4 * 4
  if !readSizeOk off count then s.emit .unsupported
  else match s.fenceAt off with
  | some h => s.fence h none (count == 2)
  | none =>
    let (vs, s) := s.busReads 2 env off count
    s.emit (.completion (vs.getD 0 0 + vs.getD 1 0 * 2 ^ 32))

/-- TIM_NOW_READ (R222): a read of `count` dwords at `off`, which is 0x20010 for TIM_NOW itself; `age` is that of the
mirror, in ns. It is the one command by which a register read that has no row of its own arrives; requester 3 is the host in
configuration space (DESIGN CHOICE, log 121). -/
def doTimNowRead (r off count age : Nat) (s : State) : State :=
  let env : BusEnv := { age := age }
  if r = 2 then s.onRead (fun s => s.hostRead off count env)
  else if 3 ≤ r then
    let s := { s with host := { s.host with link := true } }
    s.emit (.completion (s.cfgWord (off % 4096 / 4 * 4)))
  else if !s.requesterUp r then s
  else
    let (vs, s) := s.busReads r env off (min count 2)
    s.emit (.pairRead r (vs.getD 0 0 + vs.getD 1 0 * 2 ^ 32))

/-! ### Atomics (R289) -/

/-- The value that an atomic writes: 0 FetchAdd, 1 Swap, 2 CAS with compare `a` and swap `b`; a CAS that does not
match writes nothing (DEDUCED, log 84). -/
def atomicValue (op a b old : Nat) : Option Nat :=
  match op with
  | 0 => some ((old + a) % 2 ^ 32)
  | 1 => some (a % 2 ^ 32)
  | _ => if old = a % 2 ^ 32 then some (b % 2 ^ 32) else none

/-- One read-modify-write of a register; answers the value read (DEDUCED, log 84). -/
def State.busAtomic (s : State) (r off op a b : Nat) (env : BusEnv) : Nat × State :=
  let (v, s) := s.busRead r off env
  match atomicValue op a b v with
  | some w => (v, s.busWrite r off w env)
  | none => (v, s)

/-- BAR0_ATOMIC; one that names BAR2, or 64-bit or 128-bit operands, is an Unsupported Request. -/
def doBar0Atomic (bar off op size a b : Nat) (env : BusEnv) (s : State) : State :=
  s.onRead (fun s =>
    if bar ≠ 0 ∨ size ≠ 32 then s.emit .unsupported
    else match s.fenceAt off with
    | some h => s.fence h none
    | none =>
      let (v, s) := s.busAtomic 2 off op a b env
      s.emit (.completion v))

/-! ### Meanings of the commands -/

/-- Meaning of REGISTER_WRITE (R27). -/
def execRegisterWrite (req off : Nat) (dwords : List (Nat × Bool)) (env : BusEnv)
    (s : State) : Host.Outcome State Fault Refusal :=
  .next (doRegisterWrite req off dwords env s)

/-- Meaning of BAR0_ATOMIC (R289). -/
def execBar0Atomic (off op size a b : Nat) (env : BusEnv) (s : State) (bar : Nat := 0) :
    Host.Outcome State Fault Refusal :=
  .next (doBar0Atomic bar off op size a b env s)

/-- Meaning of TIM_NOW_READ (R222). -/
def execTimNowRead (req age : Nat) (s : State) (off : Nat := 0x20010) (count : Nat := 1) :
    Host.Outcome State Fault Refusal :=
  .next (doTimNowRead req off count age s)

/-- Meaning of ANS (R293). -/
def execAns (dir : Nat) (frame : List Byte) (s : State) : Host.Outcome State Fault Refusal :=
  .next (doAns dir frame s)

/-- Meaning of REMOTE_TIMEOUT (R293). -/
def execRemoteTimeout (win : Nat) (s : State) : Host.Outcome State Fault Refusal :=
  .next (doRemoteTimeout win s)

end Sys2Proof.Machine
end

