-- ==== Sys2Proof/Machine/Far.lean ====
section
/-! DEFINITION. Remote access at the far device (R359 to R362): contexts and their RSEQ order, the checks of R360 in
their order, and the access itself, which acts as the host's (R361). -/

namespace Sys2Proof.Machine

/-- The blocks of Table 19.1: first offset, last byte. -/
def blockMap : List (Nat × Nat) :=
  [(0x000000, 0x00FFFF), (0x010000, 0x01FFFF), (0x020000, 0x03FFFF), (0x040000, 0x07FFFF), (0x080000, 0x09FFFF),
   (0x0A0000, 0x0BFFFF), (0x0C0000, 0x0FFFFF), (0x100000, 0x13FFFF), (0x140000, 0x17FFFF), (0x180000, 0x1FFFFF),
   (0x200000, 0x23FFFF), (0x240000, 0x27FFFF), (0x280000, 0x2BFFFF), (0x2C0000, 0x2FFFFF), (0x300000, 0x33FFFF),
   (0x340000, 0x37FFFF), (0x380000, 0x3BFFFF), (0x3C0000, 0x3FFFFF), (0x400000, 0x40FFFF), (0x440000, 0x47FFFF)]

/-- The offset lies in a block. -/
def inBlock (off : Nat) : Bool := blockMap.any (fun b => decide (b.1 ≤ off) && decide (off ≤ b.2))

/-- KEY, UPD and BKP are always closed to remote access. -/
def closedBlock (off : Nat) : Bool :=
  (decide (0x240000 ≤ off) && decide (off < 0x2C0000)) || (decide (0x400000 ≤ off) && decide (off < 0x410000))

/-- The segment of the offset is closed by RA_READ or RA_WRITE; segments 0 to 17 have a bit (Table 19.1)
(DESIGN CHOICE, log 69). -/
def State.segClosed (s : State) (write : Bool) (off : Nat) : Bool :=
  decide (off / 0x40000 ≤ 17)
    && !bit (s.getF (if write then F.RNG_RA_WR_SEG else F.RNG_RA_RD_SEG)) (off / 0x40000)

/-- The block of the offset is held in a reset: the registers of a rod whose reset runs (R83). -/
def State.blockInReset (s : State) (off : Nat) : Bool :=
  decide (0x180000 ≤ off) && decide (off < 0x1A0000) && (s.rod ((off - 0x180000) / 0x400)).resetting

/-- A REQ of Table 14.3. -/
structure Req where
  rseq : Nat
  win : Nat
  kind : Nat
  atomic : Nat
  count : Nat
  off : Nat
  target : Nat
  data : List Nat
  deriving DecidableEq, Repr

/-- Read a REQ body (PRESUMED, log 68). -/
def reqOf (body : List Byte) : Req :=
  { rseq := beAt body 0 4, win := byteAt body 4, kind := byteAt body 5, atomic := byteAt body 6
    count := byteAt body 7, off := beAt body 8 4 / 4 * 4, target := beAt body 12 8
    data := (List.range ((body.length - 20) / 4)).map (fun k => beAt body (20 + 4 * k) 4) }

/-- The dwords that a REQ must carry. -/
def Req.needs (q : Req) : Nat :=
  match q.kind with
  | 0 | 1 => q.count
  | 3 => if q.atomic = 2 then 2 else 1
  | _ => 0

/-- The request is whole and names an access that the far device can make (R287, R289, Table 14.3)
(DESIGN CHOICE, log 69). -/
def Req.sound (q : Req) : Bool :=
  decide (q.needs ≤ q.data.length) && decide (q.kind ≤ 5) && match q.kind with
  | 0 | 1 => decide (1 ≤ q.count) && decide (q.count ≤ 32)
  | 2 => readSizeOk q.off q.count
  | 3 => decide (q.atomic ≤ 2)
  | _ => true

/-- Offsets of the dwords that an access touches. -/
def Req.offsets (q : Req) : List Nat :=
  match q.kind with
  | 0 | 1 | 2 => (List.range q.count).map (fun k => q.off + 4 * k)
  | 3 => [q.off]
  | _ => []

/-- The status of a request's checks (R360): the first that fails. `locked` says that the register bus was not
granted within 20 µs (DESIGN CHOICE, log 69). -/
def State.reqStatus (s : State) (q : Req) (locked : Bool) : Nat :=
  let any (p : Nat → Bool) := q.offsets.any p
  let write := decide (q.kind ≠ 2)
  if !q.sound then stIntegrity
  else if q.target ≠ 0 ∧ q.target ≠ s.selfTag then stNotFound
  else if any closedBlock then stLocked
  else if any (s.segClosed write) then stLocked
  else if any (fun o => !inBlock o) then stNotFound
  else if any s.blockInReset then stReject
  else if locked && !q.offsets.isEmpty then stLocked
  else stOk

/-- An ERR frame toward the initiator (R295). -/
def State.sendErr (s : State) (d : Nat) (h : EplenHdr) (rseq win cause kind off data : Nat) : State :=
  s.answer d h 0x12 (beBytes 4 rseq ++ beBytes 1 win ++ beBytes 1 cause ++ beBytes 1 kind ++ beBytes 4 off
    ++ beBytes 4 data ++ beBytes 6 (tSec s.tb.clk) ++ beBytes 4 (tNs s.tb.clk))

/-! ### Contexts (R359) -/

/-- The context belongs to an initiator window. -/
def Ctx.isOf (c : Ctx) (origin win dir : Nat) : Bool := c.origin == origin && c.win == win && c.dir == dir

/-- Take the RSEQ of a request: none for one already passed; otherwise each missing number is reported, and the
context expects the next. -/
def State.takeRseq (s : State) (d : Nat) (h : EplenHdr) (q : Req) : Option State :=
  let fresh : Ctx := ⟨h.origin, q.win, h.dir, (q.rseq + 1) % 2 ^ 32, s.tb.fab⟩
  match s.ring.ctxs.find? (fun c => c.isOf h.origin q.win h.dir) with
  | none =>
    let l := s.ring.ctxs
    let l := if 32 ≤ l.length then l.tail else l
    some { s with ring := { s.ring with ctxs := l ++ [fresh] } }
  | some c =>
    let n := (q.rseq + 2 ^ 32 - c.next) % 2 ^ 32
    if 2 ^ 31 ≤ n then none
    else
      let s := s.forN n (fun k s => s.sendErr d h ((c.next + k) % 2 ^ 32) q.win stIntegrity 0 0 0)
      some { s with ring := { s.ring with
        ctxs := s.ring.ctxs.map (fun x => if x.isOf h.origin q.win h.dir then fresh else x) } }

/-! ### The access (R361, R362) -/

/-- A subscribe request (R362, R363): refreshed, added, kept to the earlier subscription of the same device, or
refused. -/
def State.subscribe (s : State) (d : Nat) (h : EplenHdr) (q : Req) : Nat × State :=
  let new : Sub := ⟨h.origin, q.win, h.dir, d, h.hopsDone, s.tb.fab⟩
  match s.ring.subs.find? (fun x => x.origin == h.origin) with
  | some x =>
    if x.win = q.win ∧ x.dir = h.dir then
      (stOk, { s with ring := { s.ring with
        subs := s.ring.subs.map (fun y => if y.origin = h.origin then new else y) } })
    else (stOk, s)
  | none =>
    if 4 ≤ s.ring.subs.length then (stNoRoom, s)
    else (stOk, { s with ring := { s.ring with subs := s.ring.subs ++ [new] } })

/-- Apply a request that has passed its checks, and answer it. -/
def State.applyReq (s : State) (d : Nat) (h : EplenHdr) (q : Req) (env : BusEnv) : State :=
  match q.kind with
  | 0 => s.busWrites 2 env q.off (q.data.take q.count)
  | 1 => (s.busWrites 2 env q.off (q.data.take q.count)).ansReq d h q.rseq stOk []
  | 2 =>
    match s.fenceAt q.off with
    | some w => s.fence w (some ⟨d, h, q.rseq, q.count⟩)
    | none =>
      let (vs, s) := s.busReads 2 env q.off q.count
      s.ansReq d h q.rseq stOk vs
  | 3 =>
    match s.fenceAt q.off with
    | some w => s.fence w (some ⟨d, h, q.rseq, 1⟩)
    | none =>
      let (v, s) := s.busAtomic 2 q.off q.atomic (q.data.getD 0 0) (q.data.getD 1 0) env
      s.ansReq d h q.rseq stOk [v]
  | 5 =>
    let (st, s) := s.subscribe d h q
    s.ansReq d h q.rseq st []
  | _ => s.ansReq d h q.rseq stOk []

/-- A request that fails its checks applies nothing: a posted write is reported, every other one answered. -/
def State.refuseReq (s : State) (d : Nat) (h : EplenHdr) (q : Req) (st : Nat) : State :=
  if q.kind = 0 then s.sendErr d h q.rseq q.win st 0 q.off (q.data.getD 0 0) else s.ansReq d h q.rseq st []

/-- REQ (R359, R360): `locked` says that the register bus was not granted within 20 µs. -/
def doReq (d : Nat) (frame : List Byte) (locked : Bool) (env : BusEnv) (s : State) : State :=
  let d := d % 2
  s.eplenIn frame 0x10 (fun h body s =>
    if 0 < h.hopsLeft then s.relay d h body
    else if body.length < 20 then s.tally (T.rng 1)
    else
      let q := reqOf body
      match s.takeRseq d h q with
      | none => s.tally (T.rng 4)
      | some s =>
        let st := s.reqStatus q locked
        if st = stOk then s.applyReq d h q env else s.refuseReq d h q st)

/-! ### Meanings of the commands -/

/-- Meaning of REQ (R360). -/
def execReq (dir : Nat) (frame : List Byte) (locked : Bool) (env : BusEnv)
    (s : State) : Host.Outcome State Fault Refusal :=
  .next (doReq dir frame locked env s)

end Sys2Proof.Machine
end

