-- ==== Sys2Proof/Machine/Dispatch.lean ====
section
/-! DEFINITION. One arm per command: the meaning that runs it. -/

namespace Sys2Proof.Machine

/-- The effect of a command on everything but the queue. -/
def exec (i : Instr) (s : State) : Host.Outcome State Fault Refusal :=
  match i with
  | .powerOnReset => Sys2Proof.Machine.execPowerOnReset s
  | .supplyMonitorRelease => Sys2Proof.Machine.execSupplyMonitorRelease s
  | .porstNAssert => Sys2Proof.Machine.execPorstNAssert s
  | .porstNRelease => Sys2Proof.Machine.execPorstNRelease s
  | .wrstNAssert => Sys2Proof.Machine.execWrstNAssert s
  | .wrstNRelease => Sys2Proof.Machine.execWrstNRelease s
  | .clockMonitorFault pll => Sys2Proof.Machine.execClockMonitorFault pll s
  | .softwareWarmReset key go => Sys2Proof.Machine.execSoftwareWarmReset key go s
  | .watchdogExpiry pair halted => Sys2Proof.Machine.execWatchdogExpiry pair s halted
  | .optionLoadDone ok attempts corr part rev uid ports rods slots fuse revoked scramble debug => Sys2Proof.Machine.execOptionLoadDone ok attempts corr part rev uid ports rods slots fuse revoked scramble s debug
  | .strapMeasured mvs => Sys2Proof.Machine.execStrapMeasured mvs s
  | .clocksLocked pcie ddr serdes => Sys2Proof.Machine.execClocksLocked pcie ddr serdes s
  | .pairInjectionTestDone pair pass => Sys2Proof.Machine.execPairInjectionTestDone pair pass s
  | .startSelfTestsDone ports rods planeA planeB cmp0 cmp1 => Sys2Proof.Machine.execStartSelfTestsDone ports rods planeA planeB cmp0 cmp1 s
  | .serviceEntry => Sys2Proof.Machine.execServiceEntry s
  | .fwdGo => Sys2Proof.Machine.execFwdGo s
  | .registerWrite req off dwords env => Sys2Proof.Machine.execRegisterWrite req off dwords env s
  | .parseWindowComplete port bytes fcsOk ago => Sys2Proof.Machine.execParseWindowComplete port bytes fcsOk ago s
  | .frameRxEnd port frags mm => Sys2Proof.Machine.execFrameRxEnd port frags mm s
  | .cpuInjection pair isRod bytes mode domain refT twoStep tag => Sys2Proof.Machine.execCpuInjection pair isRod bytes mode domain refT twoStep tag s
  | .planeDecision plane ue diff op ce => Sys2Proof.Machine.execPlaneDecision plane ue diff s op ce
  | .decisionCompare split minority => Sys2Proof.Machine.execDecisionCompare split minority s
  | .missingDecision => Sys2Proof.Machine.execMissingDecision s
  | .selfCheckComplete passA passB cmpA cmpB => Sys2Proof.Machine.execSelfCheckComplete passA passB cmpA cmpB s
  | .planeParityError plane => Sys2Proof.Machine.execPlaneParityError plane s
  | .claimChange => Sys2Proof.Machine.execClaimChange s
  | .planeLogicTestDone plane pass => Sys2Proof.Machine.execPlaneLogicTestDone plane pass s
  | .rejoinEnd plane => Sys2Proof.Machine.execRejoinEnd plane s
  | .safNop => Sys2Proof.Machine.execSafNop s
  | .withdraw plane => Sys2Proof.Machine.execWithdraw plane s
  | .restart plane => Sys2Proof.Machine.execRestart plane s
  | .drill => Sys2Proof.Machine.execDrill s
  | .drillDeadline accepted => Sys2Proof.Machine.execDrillDeadline accepted s
  | .clearLatent plane => Sys2Proof.Machine.execClearLatent plane s
  | .lockstepMismatch pair cause => Sys2Proof.Machine.execLockstepMismatch pair cause s
  | .pairRestartDone pair fw => Sys2Proof.Machine.execPairRestartDone pair fw s
  | .orphanBeadReclaim => Sys2Proof.Machine.execOrphanBeadReclaim s
  | .setMode rod arg => Sys2Proof.Machine.execSetMode rod arg s
  | .rodNop rod => Sys2Proof.Machine.execRodNop rod s
  | .start rod => Sys2Proof.Machine.execStart rod s
  | .stop rod rx => Sys2Proof.Machine.execStop rod rx s
  | .stoppingEnd rod => Sys2Proof.Machine.execStoppingEnd rod s
  | .recover rod => Sys2Proof.Machine.execRecover rod s
  | .flush rod arg => Sys2Proof.Machine.execFlush rod arg s
  | .rodStandby rod => Sys2Proof.Machine.execRodStandby rod s
  | .rodWake rod => Sys2Proof.Machine.execRodWake rod s
  | .rodReset rod => Sys2Proof.Machine.execRodReset rod s
  | .rodResetComplete rod => Sys2Proof.Machine.execRodResetComplete rod s
  | .rodXcvrWrite rod value => Sys2Proof.Machine.execRodXcvrWrite rod value s
  | .integrationComplete rod => Sys2Proof.Machine.execIntegrationComplete rod s
  | .rodFrameRx rod frame ago => Sys2Proof.Machine.execRodFrameRx rod frame ago s
  | .rodBusError rod code dataPhase heavy tdc => Sys2Proof.Machine.execRodBusError rod code dataPhase heavy s tdc
  | .recoveryComplete rod => Sys2Proof.Machine.execRecoveryComplete rod s
  | .rodTxSelect rod => Sys2Proof.Machine.execRodTxSelect rod s
  | .launchInstant rod idle => Sys2Proof.Machine.execLaunchInstant rod idle s
  | .arbitrationLoss rod winId winIde bitpos => Sys2Proof.Machine.execArbitrationLoss rod winId winIde bitpos s
  | .rodTxComplete rod tdc => Sys2Proof.Machine.execRodTxComplete rod tdc s
  | .launchLate rod => Sys2Proof.Machine.execLaunchLate rod s
  | .linSleepEntry rod => Sys2Proof.Machine.execLinSleepEntry rod s
  | .linWake rod => Sys2Proof.Machine.execLinWake rod s
  | .linScheduleRestart rod => Sys2Proof.Machine.execLinScheduleRestart rod s
  | .linWakeRetry rod => Sys2Proof.Machine.execLinWakeRetry rod s
  | .linSlotStart rod => Sys2Proof.Machine.execLinSlotStart rod s
  | .linNoResp rod => Sys2Proof.Machine.execLinNoResp rod s
  | .linHeaderReceived rod fid err sync => Sys2Proof.Machine.execLinHeaderReceived rod fid err s sync
  | .rodTestFrame rod => Sys2Proof.Machine.execRodTestFrame rod s
  | .acfAppend => Sys2Proof.Machine.execAcfAppend s
  | .acfHoldExpiry ctx => Sys2Proof.Machine.execAcfHoldExpiry ctx s
  | .cryEmit ctx => Sys2Proof.Machine.execCryEmit ctx s
  | .acfSplit => Sys2Proof.Machine.execAcfSplit s
  | .tblNop req => Sys2Proof.Machine.execTblNop req s
  | .tblRead req slow ce => Sys2Proof.Machine.execTblRead req slow s ce
  | .tblWrite req slow => Sys2Proof.Machine.execTblWrite req slow s
  | .insert req evict slow => Sys2Proof.Machine.execInsert req evict slow s
  | .delete req slow => Sys2Proof.Machine.execDelete req slow s
  | .search req slow => Sys2Proof.Machine.execSearch req slow s
  | .flushMasked req => Sys2Proof.Machine.execFlushMasked req s
  | .ageSweep req => Sys2Proof.Machine.execAgeSweep req s
  | .sweepSlot slow => Sys2Proof.Machine.execSweepSlot slow s
  | .learnApply => Sys2Proof.Machine.execLearnApply s
  | .agingPass => Sys2Proof.Machine.execAgingPass s
  | .ageNowTick => Sys2Proof.Machine.execAgeNowTick s
  | .stateUpdateApply => Sys2Proof.Machine.execStateUpdateApply s
  | .flowSweep => Sys2Proof.Machine.execFlowSweep s
  | .fwlNowTick => Sys2Proof.Machine.execFwlNowTick s
  | .diagSlotExpiry slot => Sys2Proof.Machine.execDiagSlotExpiry slot s
  | .diagClose slot => Sys2Proof.Machine.execDiagClose slot s
  | .cadenceScan key => Sys2Proof.Machine.execCadenceScan key s
  | .fwlMeterWrite meter word value => Sys2Proof.Machine.execFwlMeterWrite meter word value s
  | .strMeterWrite meter word value => Sys2Proof.Machine.execStrMeterWrite meter word value s
  | .streamGateChange gate => Sys2Proof.Machine.execStreamGateChange gate s
  | .streamGateSwap gate => Sys2Proof.Machine.execStreamGateSwap gate s
  | .recoveryReset stream => Sys2Proof.Machine.execRecoveryReset stream s
  | .txOpportunity port sfd sent => Sys2Proof.Machine.execTxOpportunity port sfd s sent
  | .egressFrameEnd port => Sys2Proof.Machine.execEgressFrameEnd port s
  | .gateEntryBoundary port => Sys2Proof.Machine.execGateEntryBoundary port s
  | .schChange port => Sys2Proof.Machine.execSchChange port s
  | .schSwap port => Sys2Proof.Machine.execSchSwap port s
  | .shaperParamWrite port cls word value => Sys2Proof.Machine.execShaperParamWrite port cls word value s
  | .linkDown port => Sys2Proof.Machine.execLinkDown port s
  | .linkUp port => Sys2Proof.Machine.execLinkUp port s
  | .verifyResponse port => Sys2Proof.Machine.execVerifyResponse port s
  | .verifyTimeout port => Sys2Proof.Machine.execVerifyTimeout port s
  | .verifyMpacketReceived port => Sys2Proof.Machine.execVerifyMpacketReceived port s
  | .macMergeHold port entry => Sys2Proof.Machine.execMacMergeHold port entry s
  | .timeBaseRead req entry => Sys2Proof.Machine.execTimeBaseRead req entry s
  | .clockSet req sec ns frac => Sys2Proof.Machine.execClockSet req sec ns frac s
  | .rateWrite req rate => Sys2Proof.Machine.execRateWrite req rate s
  | .slew req adj dur => Sys2Proof.Machine.execSlew req adj dur s
  | .slewEnd => Sys2Proof.Machine.execSlewEnd s
  | .step req ns frac => Sys2Proof.Machine.execStep req ns frac s
  | .select req domain => Sys2Proof.Machine.execSelect req domain s
  | .acceptStep req => Sys2Proof.Machine.execAccept req s
  | .viewWrite req domain ofs frac vrate ref => Sys2Proof.Machine.execViewWrite req domain ofs frac vrate ref s
  | .timHoldoverOn => Sys2Proof.Machine.execTimHoldoverOn s
  | .domainFailover lost => Sys2Proof.Machine.execDomainFailover lost s
  | .ptpFrameTrapped port number kind value locked => Sys2Proof.Machine.execPtpFrameTrapped port number kind s value locked
  | .syncInterval domain kind value locked => Sys2Proof.Machine.execSyncInterval domain kind value s locked
  | .timNowRead req age off count => Sys2Proof.Machine.execTimNowRead req age s off count
  | .timTs2Ack qseq => Sys2Proof.Machine.execTimTs2Ack qseq s
  | .timTs2Pop => Sys2Proof.Machine.execTimTs2Pop s
  | .timInCapture rising ago => Sys2Proof.Machine.execTimInCapture rising ago s
  | .timInAck qseq => Sys2Proof.Machine.execTimInAck qseq s
  | .timeOutAssert => Sys2Proof.Machine.execTimeOutAssert s
  | .timeOutDeassert => Sys2Proof.Machine.execTimeOutDeassert s
  | .keyNop req => Sys2Proof.Machine.execKeyNop req s
  | .generate req => Sys2Proof.Machine.execGenerate req s
  | .deriveKey req => Sys2Proof.Machine.execDerive req s
  | .importWrapped req => Sys2Proof.Machine.execImportWrapped req s
  | .exportWrapped req => Sys2Proof.Machine.execExportWrapped req s
  | .keyMac req sub => Sys2Proof.Machine.execKeyMac req sub s
  | .bindSa req => Sys2Proof.Machine.execBindSa req s
  | .bindImage req => Sys2Proof.Machine.execBindImage req s
  | .invalidate req => Sys2Proof.Machine.execInvalidate req s
  | .info req => Sys2Proof.Machine.execInfo req s
  | .authorizeChallenge req => Sys2Proof.Machine.execAuthorizeChallenge req s
  | .authorizeToken req => Sys2Proof.Machine.execAuthorizeToken req s
  | .attestStatement req => Sys2Proof.Machine.execAttestStatement req s
  | .attestPublicKeys req => Sys2Proof.Machine.execAttestPublicKeys req s
  | .reclaimSweepDone => Sys2Proof.Machine.execReclaimSweepDone s
  | .keyStoreReady found => Sys2Proof.Machine.execKeyStoreReady found s
  | .drbgHealthFail => Sys2Proof.Machine.execDrbgHealthFail s
  | .tamperDetection src aon => Sys2Proof.Machine.execTamperDetection src aon s
  | .pciePerst => Sys2Proof.Machine.execPciePerst s
  | .bar2Access off len data => Sys2Proof.Machine.execBar2Access off len data s
  | .bar0Atomic off op size a b env bar => Sys2Proof.Machine.execBar0Atomic off op size a b env s bar
  | .remotePostedWrite win off dwords => Sys2Proof.Machine.execRemotePostedWrite win off dwords s
  | .remoteAckWrite win off dwords => Sys2Proof.Machine.execRemoteAckWrite win off dwords s
  | .remoteRead win off count => Sys2Proof.Machine.execRemoteRead win off count s
  | .remoteAtomic win off op size a b => Sys2Proof.Machine.execRemoteAtomic win off op size a b s
  | .rngWinFence win => Sys2Proof.Machine.execRngWinFence win s
  | .ans dir frame => Sys2Proof.Machine.execAns dir frame s
  | .remoteTimeout win => Sys2Proof.Machine.execRemoteTimeout win s
  | .err dir frame => Sys2Proof.Machine.execErr dir frame s
  | .rngRelAck count => Sys2Proof.Machine.execRngRelAck count s
  | .doorbell queue tail => Sys2Proof.Machine.execDoorbell queue tail s
  | .queueEnable queue value => Sys2Proof.Machine.execQueueEnable queue value s
  | .txDescriptorServe desc buf => Sys2Proof.Machine.execTxDescriptorServe desc buf s
  | .rxDelivery descs => Sys2Proof.Machine.execRxDelivery descs s
  | .queueStop queue cause => Sys2Proof.Machine.execQueueStop queue cause s
  | .msixMessage src => Sys2Proof.Machine.execMsixMessage src s
  | .imageAccept img0 img1 => Sys2Proof.Machine.execImageAccept img0 img1 s
  | .imageBlockTimeout => Sys2Proof.Machine.execImageBlockTimeout s
  | .imageConfirmed => Sys2Proof.Machine.execImageConfirmed s
  | .hostLoadGo => Sys2Proof.Machine.execHostLoadGo s
  | .neighbourBootRequest => Sys2Proof.Machine.execNeighbourBootRequest s
  | .snapshotWritten => Sys2Proof.Machine.execSnapshotWritten s
  | .helloTimer => Sys2Proof.Machine.execHelloTimer s
  | .hello dir frame => Sys2Proof.Machine.execHello dir frame s
  | .neighbourLost dir => Sys2Proof.Machine.execNeighbourLost dir s
  | .probe => Sys2Proof.Machine.execProbe s
  | .probeReceived dir frame => Sys2Proof.Machine.execProbeReceived dir frame s
  | .probeAns dir frame => Sys2Proof.Machine.execProbeAns dir frame s
  | .probeWindowEnd => Sys2Proof.Machine.execProbeWindowEnd s
  | .eplenRelay dir frame => Sys2Proof.Machine.execEplenRelay dir frame s
  | .req dir frame locked env => Sys2Proof.Machine.execReq dir frame locked env s
  | .remoteContextIdle => Sys2Proof.Machine.execRemoteContextIdle s
  | .subscribeRefresh => Sys2Proof.Machine.execSubscribeRefresh s
  | .subscriberExpiry => Sys2Proof.Machine.execSubscriberExpiry s
  | .event dir frame => Sys2Proof.Machine.execEvent dir frame s
  | .updNop => Sys2Proof.Machine.execUpdNop s
  | .load img => Sys2Proof.Machine.execLoad img s
  | .relay => Sys2Proof.Machine.execRelay s
  | .activate => Sys2Proof.Machine.execActivate s
  | .updAbort => Sys2Proof.Machine.execUpdAbort s
  | .clear => Sys2Proof.Machine.execClear s
  | .offer dir frame => Sys2Proof.Machine.execOffer dir frame s
  | .offerAns dir frame => Sys2Proof.Machine.execOfferAns dir frame s
  | .offerTimeout dir => Sys2Proof.Machine.execOfferTimeout dir s
  | .block dir frame => Sys2Proof.Machine.execBlock dir frame s
  | .blockAck dir frame => Sys2Proof.Machine.execBlockAck dir frame s
  | .blockResend dir blk => Sys2Proof.Machine.execBlockResend dir blk s
  | .blockReceiveTimeout => Sys2Proof.Machine.execBlockReceiveTimeout s
  | .updStaged readOk => Sys2Proof.Machine.execUpdStaged readOk s
  | .poll rx => Sys2Proof.Machine.execPoll rx s
  | .vote dir frame => Sys2Proof.Machine.execVote dir frame s
  | .updRingTimeout => Sys2Proof.Machine.execUpdRingTimeout s
  | .arm dir frame => Sys2Proof.Machine.execArm dir frame s
  | .armed dir frame => Sys2Proof.Machine.execArmed dir frame s
  | .armGuardDeadline => Sys2Proof.Machine.execArmGuardDeadline s
  | .commit dir frame => Sys2Proof.Machine.execCommit dir frame s
  | .activationInstant => Sys2Proof.Machine.execActivationInstant s
  | .abort dir frame => Sys2Proof.Machine.execAbort dir frame s
  | .imgReq dir frame => Sys2Proof.Machine.execImgReq dir frame s
  | .pwrNop req => Sys2Proof.Machine.execPwrNop req s
  | .pwrStandby req key => Sys2Proof.Machine.execPwrStandby req key s
  | .pwrSleep req key => Sys2Proof.Machine.execPwrSleep req key s
  | .sleepDrainEnd passA passB aon => Sys2Proof.Machine.execSleepDrainEnd passA passB aon s
  | .pwrLean req => Sys2Proof.Machine.execPwrLean req s
  | .pwrRun req => Sys2Proof.Machine.execPwrRun req s
  | .phySleepNoack port => Sys2Proof.Machine.execPhySleepNoack port s
  | .wakePin levels aon held => Sys2Proof.Machine.execWakePin levels aon s held
  | .phyWake ports aon => Sys2Proof.Machine.execPhyWake ports aon s
  | .t1sActivityWake ports aon us => Sys2Proof.Machine.execT1sActivityWake ports aon s us
  | .wakeTimer aon => Sys2Proof.Machine.execWakeTimer aon s
  | .governorTick temps power => Sys2Proof.Machine.execGovernorTick temps power s
  | .thermalShutdown sensor tmax => Sys2Proof.Machine.execThermalShutdown sensor tmax s
  | .lpddr5Trained result size => Sys2Proof.Machine.execLpddr5Trained result size s
  | .lpddr5Retrain ok => Sys2Proof.Machine.execLpddr5Retrain ok s
  | .memTestNop => Sys2Proof.Machine.execMemTestNop s
  | .memTestRun alg => Sys2Proof.Machine.execMemTestRun alg s
  | .memTestAbort => Sys2Proof.Machine.execMemTestAbort s
  | .memTestDone fails => Sys2Proof.Machine.execMemTestDone fails s
  | .tstLaneClr lane => Sys2Proof.Machine.execTstLaneClr lane s
  | .tstRodClr rod => Sys2Proof.Machine.execTstRodClr rod s
  | .jtagInstructionLoad code scan => Sys2Proof.Machine.execJtagInstructionLoad code s scan
  | .tapReset => Sys2Proof.Machine.execTapReset s
  | .tlySnapshot clear => Sys2Proof.Machine.execTlySnapshot clear s
  | .tlyAutoSnapshot => Sys2Proof.Machine.execTlyAutoSnapshot s
  | .traceRecordWrite full => Sys2Proof.Machine.execTraceRecordWrite full s
  | .freezeNow => Sys2Proof.Machine.execFreezeNow s
  | .trcArm => Sys2Proof.Machine.execTrcArm s
  | .trcEnable on => Sys2Proof.Machine.execTrcEnable on s
  | .checkerLock lane bits => Sys2Proof.Machine.execCheckerLock lane s bits
  | .checkerLockLoss lane errs => Sys2Proof.Machine.execCheckerLockLoss lane errs s
  | .msixUnmask vec => Sys2Proof.Machine.execMsixUnmask vec s
  | .phywkRise ports => Sys2Proof.Machine.execPhywkRise ports s
  | .commitResend => Sys2Proof.Machine.execCommitResend s
  | .vbatkRise xtal => Sys2Proof.Machine.execVbatkRise xtal s

end Sys2Proof.Machine
end

