-- ==== Sys2Proof/WellFormed.lean ====
section
/-! DEFINITION. Operands that name a unit, register or value of the block. A meaning cuts an operand outside these
ranges to one inside, or leaves the state as it is; the checks say which commands name what the spec has. -/

namespace Sys2Proof

/-- Requesters of Table 1.2: 0 control pair, 1 service pair, 2 host (R25). -/
def isReq (n : Nat) : Bool := decide (n ≤ 2)
/-- Rods 0 to 127 (R19). -/
def isRod (n : Nat) : Bool := decide (n < 128)
/-- Ethernet ports 0 to 31 and CPU ports 32, 33 (Table 0.5). -/
def isPort (n : Nat) : Bool := decide (n < 34)
/-- Port indices with a shaper: Ethernet ports and rods (Table 0.5, R200). -/
def isShaped (n : Nat) : Bool := decide (n < 32) || (decide (64 ≤ n) && decide (n < 192))
/-- Directions of the ring (R353). -/
def isDir (n : Nat) : Bool := decide (n < 2)
/-- Remote windows 1 to 15 (R290). -/
def isWin (n : Nat) : Bool := decide (1 ≤ n) && decide (n < 16)
/-- Core pairs: 0 control, 1 service (R246). -/
def isPair (n : Nat) : Bool := decide (n < 2)
/-- DMA queues, as their registers lie (R297). -/
def isQueue (n : Nat) : Bool := decide (n < 128)
/-- Diagnostic slots (R153). -/
def isSlot (n : Nat) : Bool := decide (n < 16)
/-- Stream gates (R168). -/
def isGate (n : Nat) : Bool := decide (n < 64)
/-- Meters (R146, R171). -/
def isMeter (n : Nat) : Bool := decide (n < 1024)
/-- Streams (R165). -/
def isStream (n : Nat) : Bool := decide (n < 8192)
/-- Lanes of B and G ports (R402). -/
def isLane (n : Nat) : Bool := decide (n < 16)
/-- Talker contexts (R97). -/
def isCtx (n : Nat) : Bool := decide (n < 256)
/-- gPTP domains (R212). -/
def isDomain (n : Nat) : Bool := decide (n < 4)
/-- Classes of a queue set (R21). -/
def isClass (n : Nat) : Bool := decide (n < 8)
/-- Table codes (Table 4.7). -/
def isTable (n : Nat) : Bool := decide (n < 16)
/-- MSI-X vectors, and 256 for Function Mask (R304). -/
def isVec (n : Nat) : Bool := decide (n ≤ 256)
/-- A 32-bit register value (R12). -/
def isWord (n : Nat) : Bool := decide (n < 2 ^ 32)
/-- A 64-bit value in two words (Table 8.2). -/
def isQuad (n : Nat) : Bool := decide (n < 2 ^ 64)
/-- Dwords of a write with whether all their byte enables are set. -/
def isDwords (l : List (Nat × Bool)) : Bool := l.all (fun w => isWord w.1)
/-- A dword offset of BAR0's 64 MiB, or of a window (R286). -/
def isOff (n : Nat) : Bool := decide (n < 2 ^ 26) && n % 4 == 0
/-- A byte offset of BAR2's 256 MiB (R286). -/
def isB2 (n : Nat) : Bool := decide (n < 2 ^ 28)

/-- The command's operands name what the spec has. -/
def wellFormed (i : Instr) : Bool :=
  match i with
  | .powerOnReset => true
  | .supplyMonitorRelease => true
  | .porstNAssert => true
  | .porstNRelease => true
  | .wrstNAssert => true
  | .wrstNRelease => true
  | .clockMonitorFault _ => true
  | .softwareWarmReset _ _ => true
  | .watchdogExpiry pair _ => isPair pair
  | .optionLoadDone _ attempts _ part _ _ ports rods slots _ _ scramble _ =>
    decide (1 ≤ attempts ∧ attempts ≤ 3) && Machine.variantOf part == some ⟨ports, rods, slots, scramble⟩
  | .strapMeasured mvs => mvs.length == 16
  | .clocksLocked _ _ _ => true
  | .pairInjectionTestDone pair _ => isPair pair
  | .startSelfTestsDone _ _ _ _ _ _ => true
  | .serviceEntry => true
  | .fwdGo => true
  | .registerWrite req off dwords _ => decide (req ≤ 3) && isOff off && isDwords dwords
  | .parseWindowComplete port _ _ _ => isPort port
  | .frameRxEnd port _ _ => isPort port
  | .cpuInjection pair _ _ _ domain _ _ _ => isPair pair && isDomain domain
  | .planeDecision _ _ _ _ _ => true
  | .decisionCompare _ _ => true
  | .missingDecision => true
  | .selfCheckComplete _ _ _ _ => true
  | .planeParityError _ => true
  | .claimChange => true
  | .planeLogicTestDone _ _ => true
  | .rejoinEnd _ => true
  | .safNop => true
  | .withdraw _ => true
  | .restart _ => true
  | .drill => true
  | .drillDeadline _ => true
  | .clearLatent _ => true
  | .lockstepMismatch pair _ => isPair pair
  | .pairRestartDone pair _ => isPair pair
  | .orphanBeadReclaim => true
  | .setMode rod _ => isRod rod
  | .rodNop rod => isRod rod
  | .start rod => isRod rod
  | .stop rod _ => isRod rod
  | .stoppingEnd rod => isRod rod
  | .recover rod => isRod rod
  | .flush rod _ => isRod rod
  | .rodStandby rod => isRod rod
  | .rodWake rod => isRod rod
  | .rodReset rod => isRod rod
  | .rodResetComplete rod => isRod rod
  | .rodXcvrWrite rod value => isRod rod && isWord value
  | .integrationComplete rod => isRod rod
  | .rodFrameRx rod _ _ => isRod rod
  | .rodBusError rod _ _ _ _ => isRod rod
  | .recoveryComplete rod => isRod rod
  | .rodTxSelect rod => isRod rod
  | .launchInstant rod _ => isRod rod
  | .arbitrationLoss rod _ _ _ => isRod rod
  | .rodTxComplete rod _ => isRod rod
  | .launchLate rod => isRod rod
  | .linSleepEntry rod => isRod rod
  | .linWake rod => isRod rod
  | .linScheduleRestart rod => isRod rod
  | .linWakeRetry rod => isRod rod
  | .linSlotStart rod => isRod rod
  | .linNoResp rod => isRod rod
  | .linHeaderReceived rod _ _ _ => isRod rod
  | .rodTestFrame rod => isRod rod
  | .acfAppend => true
  | .acfHoldExpiry ctx => isCtx ctx
  | .cryEmit ctx => isCtx ctx
  | .acfSplit => true
  | .tblNop req => isReq req
  | .tblRead req _ _ => isReq req
  | .tblWrite req _ => isReq req
  | .insert req _ _ => isReq req
  | .delete req _ => isReq req
  | .search req _ => isReq req
  | .flushMasked req => isReq req
  | .ageSweep req => isReq req
  | .sweepSlot _ => true
  | .learnApply => true
  | .agingPass => true
  | .ageNowTick => true
  | .stateUpdateApply => true
  | .flowSweep => true
  | .fwlNowTick => true
  | .diagSlotExpiry slot => isSlot slot
  | .diagClose slot => isSlot slot
  | .cadenceScan _ => true
  | .fwlMeterWrite meter _ value => isMeter meter && isWord value
  | .strMeterWrite meter _ value => isMeter meter && isWord value
  | .streamGateChange gate => isGate gate
  | .streamGateSwap gate => isGate gate
  | .recoveryReset stream => isStream stream
  | .txOpportunity port _ _ => isPort port
  | .egressFrameEnd port => isPort port
  | .gateEntryBoundary port => isPort port
  | .schChange port => isPort port
  | .schSwap port => isPort port
  | .shaperParamWrite port cls _ value => isShaped port && isClass cls && isWord value
  | .linkDown port => isPort port
  | .linkUp port => isPort port
  | .verifyResponse port => isPort port
  | .verifyTimeout port => isPort port
  | .verifyMpacketReceived port => isPort port
  | .macMergeHold port _ => isPort port
  | .timeBaseRead req _ => isReq req
  | .clockSet req _ _ _ => isReq req
  | .rateWrite req rate => isReq req && isWord rate
  | .slew req adj dur => isReq req && isWord adj && isWord dur
  | .slewEnd => true
  | .step req _ _ => isReq req
  | .select req domain => isReq req && isDomain domain
  | .acceptStep req => isReq req
  | .viewWrite req domain ofs _ vrate _ => isReq req && isDomain domain && isQuad ofs && isWord vrate
  | .timHoldoverOn => true
  | .domainFailover _ => true
  | .ptpFrameTrapped port number kind _ _ => decide (port < 32) && decide (number < 256) && decide (kind < 4)
  | .syncInterval domain kind _ _ => isDomain domain && decide (kind < 4)
  | .timNowRead req _ off _ => decide (req ≤ 3) && isOff off
  | .timTs2Ack qseq => isWord qseq
  | .timTs2Pop => true
  | .timInCapture _ _ => true
  | .timInAck qseq => isWord qseq
  | .timeOutAssert => true
  | .timeOutDeassert => true
  | .keyNop req => isReq req
  | .generate req => isReq req
  | .deriveKey req => isReq req
  | .importWrapped req => isReq req
  | .exportWrapped req => isReq req
  | .keyMac req _ => isReq req
  | .bindSa req => isReq req
  | .bindImage req => isReq req
  | .invalidate req => isReq req
  | .info req => isReq req
  | .authorizeChallenge req => isReq req
  | .authorizeToken req => isReq req
  | .attestStatement req => isReq req
  | .attestPublicKeys req => isReq req
  | .reclaimSweepDone => true
  | .keyStoreReady _ => true
  | .drbgHealthFail => true
  | .tamperDetection _ _ => true
  | .pciePerst => true
  | .bar2Access off _ _ => isB2 off
  | .bar0Atomic off _ _ a b _ _ => isOff off && isWord a && isWord b
  | .remotePostedWrite win off dwords => isWin win && isOff off && isDwords dwords
  | .remoteAckWrite win off dwords => isWin win && isOff off && isDwords dwords
  | .remoteRead win off _ => isWin win && isOff off
  | .remoteAtomic win off _ _ a b => isWin win && isOff off && isWord a && isWord b
  | .rngWinFence win => isWin win
  | .ans dir _ => isDir dir
  | .remoteTimeout win => isWin win
  | .err dir _ => isDir dir
  | .rngRelAck _ => true
  | .doorbell queue tail => isQueue queue && isWord tail
  | .queueEnable queue value => isQueue queue && isWord value
  | .txDescriptorServe _ _ => true
  | .rxDelivery _ => true
  | .queueStop queue _ => isQueue queue
  | .msixMessage _ => true
  | .imageAccept _ _ => true
  | .imageBlockTimeout => true
  | .imageConfirmed => true
  | .hostLoadGo => true
  | .neighbourBootRequest => true
  | .snapshotWritten => true
  | .helloTimer => true
  | .hello dir _ => isDir dir
  | .neighbourLost dir => isDir dir
  | .probe => true
  | .probeReceived dir _ => isDir dir
  | .probeAns dir _ => isDir dir
  | .probeWindowEnd => true
  | .eplenRelay dir _ => isDir dir
  | .req dir _ _ _ => isDir dir
  | .remoteContextIdle => true
  | .subscribeRefresh => true
  | .subscriberExpiry => true
  | .event dir _ => isDir dir
  | .updNop => true
  | .load _ => true
  | .relay => true
  | .activate => true
  | .updAbort => true
  | .clear => true
  | .offer dir _ => isDir dir
  | .offerAns dir _ => isDir dir
  | .offerTimeout dir => isDir dir
  | .block dir _ => isDir dir
  | .blockAck dir _ => isDir dir
  | .blockResend dir _ => isDir dir
  | .blockReceiveTimeout => true
  | .updStaged _ => true
  | .poll _ => true
  | .vote dir _ => isDir dir
  | .updRingTimeout => true
  | .arm dir _ => isDir dir
  | .armed dir _ => isDir dir
  | .armGuardDeadline => true
  | .commit dir _ => isDir dir
  | .activationInstant => true
  | .abort dir _ => isDir dir
  | .imgReq dir _ => isDir dir
  | .pwrNop req => isReq req
  | .pwrStandby req _ => isReq req
  | .pwrSleep req _ => isReq req
  | .sleepDrainEnd _ _ _ => true
  | .pwrLean req => isReq req
  | .pwrRun req => isReq req
  | .phySleepNoack port => isPort port
  | .wakePin _ _ _ => true
  | .phyWake _ _ => true
  | .t1sActivityWake _ _ _ => true
  | .wakeTimer _ => true
  | .governorTick _ _ => true
  | .thermalShutdown _ _ => true
  | .lpddr5Trained _ _ => true
  | .lpddr5Retrain _ => true
  | .memTestNop => true
  | .memTestRun _ => true
  | .memTestAbort => true
  | .memTestDone _ => true
  | .tstLaneClr lane => isLane lane
  | .tstRodClr rod => isRod rod
  | .jtagInstructionLoad _ _ => true
  | .tapReset => true
  | .tlySnapshot _ => true
  | .tlyAutoSnapshot => true
  | .traceRecordWrite _ => true
  | .freezeNow => true
  | .trcArm => true
  | .trcEnable _ => true
  | .checkerLock lane _ => isLane lane
  | .checkerLockLoss lane _ => isLane lane
  | .msixUnmask vec => isVec vec
  | .phywkRise _ => true
  | .commitResend => true
  | .vbatkRise _ => true

/-- A well-formed command. -/
abbrev WellFormed (i : Instr) : Prop := wellFormed i = true

end Sys2Proof
end

