-- ==== Sys2Proof/Safety.lean ====
section
/-! DEFINITION. What the claims call safe: the forms that every run keeps, and the words in which a claim says what a
command leaves alone. -/

namespace Sys2Proof.Machine

/-- The event rings of the two core pairs hold at most 1,024 entries each (R30). -/
def State.RingsFit (s : State) : Prop := s.evCtl.length ≤ 1024 ∧ s.evSvc.length ≤ 1024

/-- Registers, table memory, tallies and the LPDDR5 device are in their canonical form: keys strictly rising and no
entry listed that reads as an unlisted one does. -/
def State.Canonical (s : State) : Prop :=
  swf fieldReset s.regs = true ∧ swf (fun _ => 0) s.tables = true ∧ swf (fun _ => 0) s.tly = true
    ∧ Memory.wf s.ddr = true

/-- The memory of the LPDDR5 device is in its canonical form. -/
def State.MemoryFit (s : State) : Prop := Memory.wf s.ddr = true

/-- The queues that the spec bounds hold no more than it gives them: 64 two-step timestamps (R218), 4 TIME_IN edges
(R223) and 4 subscribers (R362). -/
def State.QueuesFit (s : State) : Prop :=
  s.tb.ts2.length ≤ 64 ∧ s.tb.tsIn.length ≤ 4 ∧ s.ring.subs.length ≤ 4

/-- Every register field but those of `l` reads in `t` as it does in `s`. -/
def FieldsKept (s t : State) (l : List Fld) : Prop :=
  ∀ f : Fld, f.key ∉ l.map Fld.key → t.getF f = s.getF f

/-- Between `s` and `t` register fields of `l` may differ and nothing else. -/
def OnlyFields (s t : State) (l : List Fld) : Prop := t = { s with regs := t.regs } ∧ FieldsKept s t l

/-- Every field that a reset of level `lvl` restores (R10) but those of `l` is at its reset value. -/
def FieldsReset (t : State) (lvl : Nat) (l : List Fld) : Prop :=
  ∀ f : Fld, (fieldReach f.key).level ≤ lvl → f.key ∉ l.map Fld.key → t.getF f = fieldReset f.key

/-- Every field of a wider reach than `lvl` but those of `l` reads in `t` as it does in `s` (R10). -/
def WiderKept (s t : State) (lvl : Nat) (l : List Fld) : Prop :=
  ∀ f : Fld, lvl < (fieldReach f.key).level → f.key ∉ l.map Fld.key → t.getF f = s.getF f

/-- Requester `r` (0 control pair, 1 service pair, 2 host) has its table command taken at once: the device is in service,
a pair runs its firmware, and the requester's own BUSY is 0 (R25, R133, R316). -/
def State.CanCommand (s : State) (r : Nat) : Prop :=
  r < 3 ∧ s.serving = true ∧ s.requesterUp r = true ∧ s.isF (reqF r F.TBL_STAT_BUSY) = false

/-- Requester `r` writes the time base at once: `CanCommand`, and it is the owner (R207). -/
def State.CanWriteTime (s : State) (r : Nat) : Prop := s.CanCommand r ∧ s.owns r = true

/-- Every table entry but the one with key `k` reads in `t` as it does in `s`. -/
def EntriesKept (s t : State) (k : Nat) : Prop := ∀ c i, tkey c i ≠ k → t.entry c i = s.entry c i

/-- Rod `n` takes a command at once: it is present, the device is in service and the rod's BUSY is 0 (R2, R53, R316). -/
def State.RodTakes (s : State) (n : Nat) : Prop :=
  n < 128 ∧ s.serving = true ∧ s.rodPresent n = true ∧ s.isF (F.ROD_CMD_STAT_BUSY n) = false

/-- The tally with index `i` has gone up by one between `s` and `t`. -/
def Counted (s t : State) (i : Nat) : Prop := t.tallyOf i = (s.tallyOf i + 1) % 2 ^ 64

/-- Requester `r` has its key store command taken at once: a pair runs its firmware, the host's write reaches the store
(R316), the requester's own BUSY is 0 and READY is 1 (R263). -/
def State.KeyTakes (s : State) (r : Nat) : Prop :=
  r < 3 ∧ s.requesterUp r = true ∧ (r = 2 → s.serving = true) ∧ s.isF (reqF r F.KEY_STAT_BUSY) = false
    ∧ s.isF F.KEY_STORE_STAT_READY = true

/-- A key store command of requester `r` has ended with status `st`: STATUS and LAST_OP say so, and its tally has gone up by
one. -/
def KeyEnded (s t : State) (r op st : Nat) : Prop :=
  t.getF (reqF r F.KEY_STAT_STATUS) = st ∧ t.getF (reqF r F.KEY_STAT_LAST_OP) = op ∧ Counted s t (T.key r st)

/-- KEY_OUT of requester `r` holds the bytes `bs`, and OUT_LEN their number (R264). -/
def KeyOutIs (t : State) (r : Nat) (bs : List Byte) : Prop :=
  t.getF (reqF r F.KEY_RESULT_OUT_LEN) = bs.length
    ∧ ∀ k < ceilDiv bs.length 4, t.getF (reqF r (F.KEY_OUT_DATA k)) = leAt bs (4 * k) 4

/-- The control pair runs Eplen and `frame` is a well-formed Eplen frame with message `msg`, header `h` and body `body` (R352,
R356). -/
def State.Got (s : State) (frame : List Byte) (msg : Nat) (h : EplenHdr) (body : List Byte) : Prop :=
  s.eplenUp = true ∧ eplenParse frame = some (h, body) ∧ h.msg = msg

/-- The host's posted writes are taken at once: the endpoint answers memory requests and no write waits (R287, R292). -/
def State.HostOn (s : State) : Prop := s.memOn = true ∧ s.host.held = []

/-- An answer through the Eplen port of direction `d` leaves at once: nothing waits there and the port is free (R363). -/
def State.PortFree (s : State) (d : Nat) : Prop := s.sendQ (s.eplenPort d) = [] ∧ s.eplenFree (s.eplenPort d) = true

/-- Window `h` is 1 to 15, reaches its device, and no access waits in it (R290 to R292). -/
def State.WinFree (s : State) (h : Nat) : Prop :=
  1 ≤ h ∧ h < 16 ∧ s.winReaches h = true ∧ s.eplenUp = true ∧ (s.win h).q = []

/-- The access `a` has gone out through window `h` as its REQ frame, has taken the window's RSEQ, and nothing but the window
has changed beside it (R291). -/
def ReqSent (s t : State) (h : Nat) (a : Acc) : Prop :=
  t.out = s.out ++ [.eplen (s.eplenPort (s.winDir h)) (s.eplenHdr 0x10 (s.winDir h) (h - 1)) (s.reqBody h a)]
    ∧ t.getF (F.RNG_WIN_SEQ_NEXT (h - 1)) = (s.getF (F.RNG_WIN_SEQ_NEXT (h - 1)) + 1) % 2 ^ 32
    ∧ OnlyFields { s with out := t.out, host := t.host } t
        [F.RNG_WIN_SEQ_NEXT (h - 1), F.RNG_WIN_STAT_ACK_PENDING (h - 1)]

/-- Between `s` and `t` the frames `l` have left and nothing else has changed. -/
def Sent (s t : State) (l : List Out) : Prop := t = { s with out := s.out ++ l }

/-- The host's update command is taken at once: the device is in service, the service pair runs, and BUSY is 0 (R367). -/
def State.UpdTakes (s : State) : Prop :=
  s.serving = true ∧ s.pairUp 1 = true ∧ s.isF F.UPD_STAT_BUSY = false

/-- A frame of the update engine arrives: both pairs run it (R249, R352, R367), and it is well formed with message `msg`. -/
def State.UpdGot (s : State) (frame : List Byte) (msg : Nat) (h : EplenHdr) (body : List Byte) : Prop :=
  s.pairUp 1 = true ∧ s.Got frame msg h body

/-- An update command has ended with status `st`. -/
def UpdEnded (s t : State) (op st : Nat) : Prop :=
  t.getF F.UPD_STAT_STATUS = st ∧ t.getF F.UPD_STAT_LAST_OP = op ∧ Counted s t (T.upd st)

end Sys2Proof.Machine
end

