-- ==== Sys2Proof/Certificates/Slice0/Obligations.lean ====
section
/-! DEFINITION. The statements about the OZ-7680 for the provers. Each names the commands it speaks of; its conclusion is
that the command answers a next state, and what that state holds. -/

open Sys2Proof Sys2Proof.Machine

/-! ### The block as a whole -/

/-- A step runs the command at the front of the queue on the state with the queue's rest; with no command waiting one
cycle of CLK_FAB passes (log 1). -/
def Obligations.StepRunsFrontCommand : Prop :=
  (∀ (c : Instr) (rest : List Instr) (s : State),
      step { s with pending := c :: rest } = exec c { s with pending := rest })
    ∧ ∀ s : State, s.pending = [] → step s = .next s.tick

/-- No command stops the block: exec answers a next state for every command in every state (no row of the table is a
stop). -/
def Obligations.EveryCommandAnswers : Prop := ∀ (c : Instr) (s : State), ∃ t, exec c s = .next t

/-- No meaning touches the queue of waiting commands. -/
def Obligations.MeaningsKeepQueue : Prop :=
  ∀ (c : Instr) (s t : State), exec c s = .next t → t.pending = s.pending

/-- Event rings of 1,024 entries (R30): no step lets either core pair's ring grow beyond them. -/
def Obligations.EventRingsStayBounded : Prop :=
  ∀ s t : State, s.RingsFit → step s = .next t → t.RingsFit

/-- Bounded queues (R218, R223, R362): no step lets the two-step queue, the TIME_IN queue or the list of subscribers
grow beyond what the spec gives them. -/
def Obligations.BoundedQueuesStayBounded : Prop :=
  ∀ s t : State, s.QueuesFit → step s = .next t → t.QueuesFit

/-- LPDDR5 memory keeps its canonical form through every step. -/
def Obligations.MemoryStaysCanonical : Prop :=
  ∀ s t : State, s.MemoryFit → step s = .next t → t.MemoryFit

/-- The machine right after reset meets the invariants: canonical arrays, bounded rings and queues, no command waiting,
stage 1, no register field but GLB_RST_STAT.STAGE away from its reset value. -/
def Obligations.ResetMeetsInvariants : Prop :=
  State.reset.Canonical ∧ State.reset.RingsFit ∧ State.reset.QueuesFit ∧ State.reset.pending = []
    ∧ State.reset.getF F.GLB_RST_STAT_STAGE = 1
    ∧ ∀ f : Fld, f.key ≠ F.GLB_RST_STAT_STAGE.key → State.reset.getF f = fieldReset f.key

/-- Clamping (R14): the value stored is legal, no legal value is nearer to the written one, and of two equally near
values it is the lower. -/
def Obligations.ClampStoresNearestLegalValue : Prop :=
  ∀ (l : List (Nat × Nat)) (v : Nat), l ≠ [] → (∀ r ∈ l, r.1 ≤ r.2) →
    (∃ r ∈ l, r.1 ≤ nearest l v ∧ nearest l v ≤ r.2)
      ∧ ∀ r ∈ l, ∀ x, r.1 ≤ x → x ≤ r.2 →
          ((nearest l v : Int) - v).natAbs < ((x : Int) - v).natAbs
            ∨ ((nearest l v : Int) - v).natAbs = ((x : Int) - v).natAbs ∧ nearest l v ≤ x

/-- Events (R30): posting appends to each core pair's ring that has room and keeps its entries; a full ring is left as it
is and its event-overflow tally goes up by one; the data plane does not wait. The host's ring takes the event by DMA while
it is enabled and not full, else the host's tally goes up. -/
def Obligations.EventReachesEachReaderOrIsCounted : Prop :=
  ∀ (s : State) (e : Event), let t := s.postRaw e
    t.dp = s.dp ∧ (s.evCtl.length < 1024 → t.evCtl = s.evCtl ++ [e])
      ∧ (1024 ≤ s.evCtl.length → t.evCtl = s.evCtl ∧ t.tallyOf (T.glb 3) = (s.tallyOf (T.glb 3) + 1) % 2 ^ 64)
      ∧ (s.evSvc.length < 1024 → t.evSvc = s.evSvc ++ [e])
      ∧ (1024 ≤ s.evSvc.length → t.evSvc = s.evSvc ∧ t.tallyOf (T.glb 4) = (s.tallyOf (T.glb 4) + 1) % 2 ^ 64)
      ∧ (s.isF F.DMA_EVR_CFG_EN = false → t.tallyOf (T.glb 5) = (s.tallyOf (T.glb 5) + 1) % 2 ^ 64)
      ∧ (s.isF F.DMA_EVR_CFG_EN = true →
          (s.getF F.DMA_EVR_HEAD_HEAD + 2 ^ 16 - s.getF F.DMA_EVR_TAIL_TAIL) % 2 ^ 16 = 1024 →
          t.tallyOf (T.glb 5) = (s.tallyOf (T.glb 5) + 1) % 2 ^ 64 ∧ t.getF F.DMA_EVR_HEAD_HEAD = s.getF F.DMA_EVR_HEAD_HEAD)
      ∧ (s.isF F.DMA_EVR_CFG_EN = true →
          (s.getF F.DMA_EVR_HEAD_HEAD + 2 ^ 16 - s.getF F.DMA_EVR_TAIL_TAIL) % 2 ^ 16 ≠ 1024 →
          t.tallyOf (T.glb 5) = s.tallyOf (T.glb 5)
            ∧ t.getF F.DMA_EVR_HEAD_HEAD = (s.getF F.DMA_EVR_HEAD_HEAD + 1) % 2 ^ 16)

/-! ### Resets and start-up (chapter 12) -/

/-- What a reset of warm reach leaves when it is taken in RUN or RUN-LEAN: fields of warm and narrower reach at their
reset values, wider ones kept but for the recorded cause, tallies, event rings and items gone, LPDDR5 contents, the
working clock and the key slots kept (R9, R10, R205, R312, R324). -/
def WarmClears (s t : State) (cause : Nat) : Prop :=
  FieldsReset t 3 [F.RNG_BYP_CAUSE]
    ∧ WiderKept s t 3 [F.BKP_RST_CAUSE_STICKY, F.BKP_RST_CAUSE_LAST, F.BKP_RST_CAUSE_COUNT]
    ∧ t.getF F.BKP_RST_CAUSE_LAST = cause ∧ bit (t.getF F.BKP_RST_CAUSE_STICKY) cause = true
    ∧ t.tly = [] ∧ t.evCtl = [] ∧ t.evSvc = [] ∧ t.dp.items = [] ∧ t.ddr = s.ddr ∧ t.tb.clk = s.tb.clk
    ∧ t.key.slots = s.key.slots

/-- POWER_ON_RESET, PORST_N_ASSERT and CLOCK_MONITOR_FAULT: each restores every field of its reach and of every narrower
one and clears the tables of its reach, keeps the key slots and the wider fields, and leaves the sequence before its first
stage; PORST_N and the clock monitor are recorded as causes (R9, R10, R35, R308, R309, R312, R324). A clock fault's reset
is released at once, so the option load begins unless another source holds it (log 70). WRST_N_ASSERT,
SOFTWARE_WARM_RESET with the key 0xC7, and WATCHDOG_EXPIRY of a running pair with no trial pending: each takes a reset of
warm reach with its own cause (R309 to R311); a software reset with another key only counts in SW_BAD (R310), and the
watchdog of a pair in debug split that a debugger halts does nothing (R311).
Completion (own effect, conditions on state and operands alone): powerOnReset, porstNAssert, clockMonitorFault,
wrstNAssert, softwareWarmReset, watchdogExpiry. -/
def Obligations.ResetsClearTheirReach : Prop :=
  (∀ s : State, ∃ t, exec .powerOnReset s = .next t
      ∧ FieldsReset t 5 [F.GLB_RST_STAT_STAGE] ∧ WiderKept s t 5 [] ∧ t.getF F.GLB_RST_STAT_STAGE = 1
      ∧ t.boot.po = true ∧ t.tables = [] ∧ t.tly = [] ∧ t.evCtl = [] ∧ t.evSvc = [] ∧ t.ddr = []
      ∧ t.tb.clk = 0 ∧ t.key.slots = s.key.slots)
    ∧ (∀ s : State, s.boot.porst = false → ∃ t, exec .porstNAssert s = .next t
      ∧ FieldsReset t 4 [F.GLB_RST_STAT_STAGE]
      ∧ WiderKept s t 4 [F.BKP_RST_CAUSE_STICKY, F.BKP_RST_CAUSE_LAST, F.BKP_RST_CAUSE_COUNT]
      ∧ t.getF F.GLB_RST_STAT_STAGE = 1 ∧ t.getF F.BKP_RST_CAUSE_LAST = 1
      ∧ bit (t.getF F.BKP_RST_CAUSE_STICKY) 1 = true
      ∧ t.boot.porst = true ∧ t.tly = [] ∧ t.evCtl = [] ∧ t.ddr = s.ddr ∧ t.tb.clk = 0 ∧ t.key.slots = s.key.slots)
    ∧ (∀ (s : State) (pll : Bool), s.boot.po = false → s.boot.porst = false →
      ∃ t, exec (.clockMonitorFault pll) s = .next t
      ∧ FieldsReset t 4 [F.GLB_RST_STAT_STAGE, F.GLB_KEY_SLOTS_COUNT] ∧ t.getF F.GLB_KEY_SLOTS_COUNT = 128
      ∧ WiderKept s t 4 [F.BKP_RST_CAUSE_STICKY, F.BKP_RST_CAUSE_LAST, F.BKP_RST_CAUSE_COUNT,
          if pll then F.BKP_CLK_FAIL_PLL_UNLOCK else F.BKP_CLK_FAIL_REFCLK_RANGE]
      ∧ t.isF (if pll then F.BKP_CLK_FAIL_PLL_UNLOCK else F.BKP_CLK_FAIL_REFCLK_RANGE) = true
      ∧ t.getF F.BKP_RST_CAUSE_LAST = 2 ∧ t.getF F.GLB_RST_STAT_STAGE = 2)
    ∧ (∀ s : State, s.boot.wrst = false → s.getF F.PWR_MODE_MODE < 2 → 5 ≤ s.getF F.GLB_RST_STAT_STAGE →
      ∃ t, exec .wrstNAssert s = .next t ∧ WarmClears s t 3 ∧ t.boot.wrst = true)
    ∧ (∀ s : State, s.getF F.PWR_MODE_MODE < 2 → 5 ≤ s.getF F.GLB_RST_STAT_STAGE →
      ∃ t, exec (.softwareWarmReset 0xC7 true) s = .next t ∧ WarmClears s t 4)
    ∧ (∀ (s : State) (key : Nat), key ≠ 0xC7 →
      exec (.softwareWarmReset key true) s = .next (s.satF F.GLB_RST_STAT_SW_BAD 1))
    ∧ (∀ (s : State) (i : Nat) (halted : Bool), i < 2 → s.watched i = true →
      (halted = true → s.getF (F.SAF_PAIR_STAT_STATE i) ≠ 4) →
      s.isF F.BKP_BOOT_PENDING = false → s.getF F.PWR_MODE_MODE < 2 →
      ∃ t, exec (.watchdogExpiry i halted) s = .next t ∧ WarmClears s t (5 + i))
    ∧ ∀ (s : State) (i : Nat), i < 2 → s.getF (F.SAF_PAIR_STAT_STATE i) = 4 →
      exec (.watchdogExpiry i true) s = .next s

/-- SUPPLY_MONITOR_RELEASE, PORST_N_RELEASE, WRST_N_RELEASE and CLOCKS_LOCKED: the release sequence goes on when the last
source that holds its next stage goes (R313 to R315, R317); the option load begins with every shadow at its safe default.
Completion (own effect, conditions on state and operands alone): supplyMonitorRelease, porstNRelease, wrstNRelease,
clocksLocked. -/
def Obligations.ReleaseSequenceGoesOn : Prop :=
  (∀ s : State, s.boot.po = true → s.boot.porst = false → s.getF F.GLB_RST_STAT_STAGE = 1 →
      ∃ t, exec .supplyMonitorRelease s = .next t ∧ t.boot.po = false ∧ t.getF F.GLB_RST_STAT_STAGE = 2
        ∧ t.getF F.GLB_PRESENT_PORT_PORTS = 0 ∧ t.isF F.GLB_LOAD_STAT_LOAD_DONE = false
        ∧ t = { s with regs := t.regs, boot := t.boot })
    ∧ (∀ s : State, s.boot.porst = true → s.boot.po = false → s.getF F.GLB_RST_STAT_STAGE = 1 →
      ∃ t, exec .porstNRelease s = .next t ∧ t.boot.porst = false ∧ t.getF F.GLB_RST_STAT_STAGE = 2
        ∧ t.getF F.GLB_PRESENT_PORT_PORTS = 0 ∧ t.isF F.GLB_LOAD_STAT_LOAD_DONE = false
        ∧ t = { s with regs := t.regs, boot := t.boot })
    ∧ (∀ s : State, s.boot.wrst = true → s.boot.po = false → s.boot.porst = false →
      s.getF F.GLB_RST_STAT_STAGE = 4 → s.isF F.GLB_CLK_STAT_ROOT_LOCK = true →
      exec .wrstNRelease s = .next ({ s with boot := { s.boot with wrst := false } }.setF F.GLB_RST_STAT_STAGE 5))
    ∧ ∀ (s : State) (pcie ddr : Bool) (serdes : Nat), s.getF F.GLB_RST_STAT_STAGE = 4 →
      s.isF F.GLB_CLK_STAT_ROOT_LOCK = false → s.boot.po = false → s.boot.porst = false →
      ∃ t, exec (.clocksLocked pcie ddr serdes) s = .next t
        ∧ OnlyFields s t [F.GLB_CLK_STAT_ROOT_LOCK, F.GLB_CLK_STAT_PCIE_LOCK, F.GLB_CLK_STAT_DDR_LOCK,
            F.GLB_CLK_STAT_SERDES_LOCK, F.GLB_RST_STAT_STAGE]
        ∧ t.isF F.GLB_CLK_STAT_ROOT_LOCK = true ∧ t.isF F.GLB_CLK_STAT_PCIE_LOCK = pcie
        ∧ t.isF F.GLB_CLK_STAT_DDR_LOCK = ddr ∧ t.getF F.GLB_CLK_STAT_SERDES_LOCK = serdes % 2 ^ 16
        ∧ t.getF F.GLB_RST_STAT_STAGE = if s.boot.wrst then 4 else 5

/-- OPTION_LOAD_DONE, STRAP_MEASURED, START_SELF_TESTS_DONE and VBATK_RISE: what each stage of the start leaves in the
shadows (the units of Table 0.1 by part number), the median of 16 conversions in the strap register, the
retirement bitmaps and the VBATK domain (R1, R4, R254, R313, R317 to R321, R443).
Completion (own effect, conditions on state and operands alone): optionLoadDone, strapMeasured, startSelfTestsDone,
vbatkRise. -/
def Obligations.StartStagesRecordTheirFindings : Prop :=
  (∀ (s : State) (attempts part rev uid fuse revoked : Nat) (corr debug : Bool),
      s.getF F.GLB_RST_STAT_STAGE = 2 → s.isF F.GLB_LOAD_STAT_LOAD_FAIL = false → 1 ≤ attempts → attempts ≤ 3 →
      part = 0x7680 ∨ part = 0x7648 ∨ part = 0x7624 →
      let ports := if part = 0x7680 then 0xFFFFFFFF else if part = 0x7648 then 0x00FFFF3F else 0x000F0F0F
      let rods := (if part = 0x7680 then 2 ^ 128 else if part = 0x7648 then 2 ^ 48 else 2 ^ 24) - 1
      let slots := if part = 0x7680 then 512 else 128
      ∃ t, exec (.optionLoadDone true attempts corr part rev uid ports rods slots fuse revoked (part == 0x7680) debug) s
          = .next t
        ∧ t = { s with regs := t.regs, boot := { s.boot with debugEn := debug }
                       key := { s.key with mesh := part == 0x7680 } }
        ∧ FieldsKept s t ([F.GLB_ID_PART, F.GLB_ID_DIE_REV, F.GLB_PRESENT_PORT_PORTS, F.GLB_KEY_SLOTS_COUNT,
            F.GLB_KEY_SLOTS_SCRAMBLE, F.GLB_LOAD_STAT_LOAD_DONE, F.GLB_LOAD_STAT_ATTEMPTS, F.GLB_LOAD_STAT_ECC_CORR,
            F.GLB_BOOT_STAT_KEY_REVOKED, F.RNG_SELF_TAG_LO_TAG, F.RNG_SELF_TAG_HI_TAG, F.GLB_RST_STAT_STAGE]
            ++ (List.range 4).flatMap (fun i => [F.GLB_UID_UID i, F.GLB_PRESENT_ROD_RODS i, F.GLB_FUSE_FUSE i]))
        ∧ t.getF F.GLB_RST_STAT_STAGE = 3
        ∧ t.isF F.GLB_LOAD_STAT_LOAD_DONE = true ∧ t.getF F.GLB_LOAD_STAT_ATTEMPTS = attempts
        ∧ t.isF F.GLB_LOAD_STAT_ECC_CORR = corr ∧ t.getF F.GLB_ID_PART = part
        ∧ t.getF F.GLB_PRESENT_PORT_PORTS = ports ∧ t.getF F.GLB_KEY_SLOTS_COUNT = slots
        ∧ t.isF F.GLB_KEY_SLOTS_SCRAMBLE = (part == 0x7680)
        ∧ ∀ i < 4, t.getF (F.GLB_PRESENT_ROD_RODS i) = rods / 2 ^ (32 * i) % 2 ^ 32
            ∧ t.getF (F.GLB_UID_UID i) = uid / 2 ^ (32 * i) % 2 ^ 32)
    ∧ (∀ (s : State) (attempts part rev uid ports rods slots fuse revoked : Nat) (corr scramble debug : Bool),
      s.getF F.GLB_RST_STAT_STAGE = 2 → s.isF F.GLB_LOAD_STAT_LOAD_FAIL = false →
      ∃ t, exec (.optionLoadDone false attempts corr part rev uid ports rods slots fuse revoked scramble debug) s
          = .next t
        ∧ OnlyFields s t [F.GLB_LOAD_STAT_ECC_CORR, F.GLB_LOAD_STAT_ATTEMPTS, F.GLB_LOAD_STAT_LOAD_FAIL]
        ∧ t.getF F.GLB_RST_STAT_STAGE = 2 ∧ t.isF F.GLB_LOAD_STAT_LOAD_FAIL = true
        ∧ t.getF F.GLB_LOAD_STAT_ATTEMPTS = 3)
    ∧ (∀ (s : State) (mvs : List Nat), s.getF F.GLB_RST_STAT_STAGE = 3 → mvs.length = 16 →
      let v := medianOf (mvs.map conversion)
      ∃ t, exec (.strapMeasured mvs) s = .next t
        ∧ OnlyFields s t [F.GLB_STRAP_CODE, F.GLB_STRAP_RAW, F.GLB_STRAP_OPEN, F.GLB_BOOT_STAT_SOURCE,
            F.GLB_RST_STAT_STAGE]
        ∧ t.getF F.GLB_STRAP_CODE = (if v = 255 then 1 else v / 16) ∧ t.getF F.GLB_STRAP_RAW = v
        ∧ t.isF F.GLB_STRAP_OPEN = (v == 255) ∧ t.getF F.GLB_RST_STAT_STAGE = 4)
    ∧ (∀ s : State, s.getF F.GLB_RST_STAT_STAGE = 8 → s.boot.wrst = false → s.boot.tested = false →
      s.boot.waking = false → ∀ p < 32, s.ethPresent p = true → ∀ n < 128, s.rodPresent n = true →
      ∃ t, exec (.startSelfTestsDone [p] [(n, 2)] true true true true) s = .next t ∧ t.boot.tested = true
        ∧ t.ethPresent p = false ∧ t.rodPresent n = false ∧ t.getF (F.ROD_STAT_RETIRE_CAUSE n) = 2
        ∧ (∀ q < 32, q ≠ p → t.ethPresent q = s.ethPresent q)
        ∧ ∀ m < 128, m ≠ n → t.rodPresent m = s.rodPresent m)
    ∧ ∀ (s : State) (xtal : Bool), s.boot.po = true →
      ∃ t, exec (.vbatkRise xtal) s = .next t ∧ t.isF F.GLB_CLK_STAT_AON_XTAL = xtal ∧ t.key.slots = []
        ∧ t.key.root = none ∧ t.tables = s.tables ∧ t.dp = s.dp

/-! ### Planes, comparators and core pairs (chapter 9) -/

/-- PLANE_DECISION, DECISION_COMPARE and MISSING_DECISION: a compared plane delivers its decision on the record at the
front of the header stream; equal decisions are accepted, decisions that differ in opcode and a decision that is missing
after 1 µs start the mismatch procedure, which discards the item, holds the stream and sets the planes to checking, but for
the one whose decision is missing; corrected memory errors of the lookup are tallied (R32, R106, R228 to R232, R235).
Completion (own effect, conditions on state and operands alone): planeDecision, decisionCompare, missingDecision. -/
def Obligations.DecisionsAreComparedBeforeAcceptance : Prop :=
  (∀ (s : State) (b : Bool) (diff ce : Nat) (op : Option Nat) (r : HdrRec) (rest : List HdrRec),
      s.dp.stream = r :: rest → s.dp.held = false → s.planeSt b = 1 → s.dp.poison = [] →
      let d := { r.decision with diff := diff % 2 ^ 8, op := (op.map (· % 16)).getD r.decision.op }
      exec (.planeDecision b none diff op ce) s = .next
        { (if ce = 0 then s else s.tallyN (T.glb 2) ce) with dp :=
          if b then { s.dp with decB := some d } else { s.dp with decA := some d } })
    ∧ (∀ (s : State) (d : Decision) (r : HdrRec) (rest : List HdrRec), s.dp.stream = r :: rest → s.dp.held = false →
      s.planeSt false = 1 → s.planeSt true = 1 → s.getF F.SAF_STAT_CMP_OK = 3 → s.dp.decA = some d → s.dp.decB = some d →
      d.op ≤ 6 → exec (.decisionCompare false none) s = .next (s.acceptFront d))
    ∧ (∀ (s : State) (a b : Decision) (r : HdrRec) (rest : List HdrRec), s.dp.stream = r :: rest → s.dp.held = false →
      s.planeSt false = 1 → s.planeSt true = 1 → s.getF F.SAF_STAT_CMP_OK = 3 → s.dp.decA = some a → s.dp.decB = some b →
      a.op ≠ b.op → ∃ t, exec (.decisionCompare false none) s = .next t ∧ t.dp.held = true ∧ t.saf.checking = true
        ∧ t.saf.missA = false ∧ t.saf.missB = false ∧ t.planeSt false = 2 ∧ t.planeSt true = 2
        ∧ t.dp.decA = none ∧ t.dp.decB = none)
    ∧ ∀ (s : State) (b : Decision) (r : HdrRec) (rest : List HdrRec), s.dp.stream = r :: rest → s.dp.held = false →
      s.planeSt false = 1 → s.planeSt true = 1 → s.dp.decA = none → s.dp.decB = some b →
      ∃ t, exec .missingDecision s = .next t ∧ t.dp.held = true ∧ t.saf.checking = true
        ∧ t.saf.missA = true ∧ t.saf.missB = false ∧ t.planeSt false = 1 ∧ t.planeSt true = 2

/-- SELF_CHECK_COMPLETE, PLANE_PARITY_ERROR, CLAIM_CHANGE, PLANE_LOGIC_TEST_DONE and REJOIN_END: a self-check that both
planes pass was a transient and both are back in service; a rejoining plane that fails it is withdrawn again; a standby plane with a parity error, or one whose restart fails
its logic test, is withdrawn with its cause, and the other plane stays; a parity error in a hold waits for its end; claims follow the priorities, the driver the claims
(R233 to R235, R237, R239, R240).
Completion (own effect, conditions on state and operands alone): selfCheckComplete, planeParityError, claimChange,
planeLogicTestDone, rejoinEnd. -/
def Obligations.PlanesChangeStateAsTheRulesSay : Prop :=
  (∀ s : State, s.saf.checking = true → s.saf.drill = false → s.saf.missA = false → s.saf.missB = false →
      s.planeSt false = 2 → s.planeSt true = 2 → s.saf.rejA = false → s.saf.rejB = false → s.getF F.SAF_STAT_CMP_OK = 3 →
      s.saf.parA = false → s.saf.parB = false →
      ∃ t, exec (.selfCheckComplete true true true true) s = .next t ∧ t.planeSt false = 1 ∧ t.planeSt true = 1
        ∧ t.dp.held = false ∧ t.saf.checking = false ∧ t.tallyOf (T.saf 1) = (s.tallyOf (T.saf 1) + 1) % 2 ^ 64)
    ∧ (∀ s : State, s.saf.checking = true → s.saf.drill = false → s.saf.missA = false → s.saf.missB = false →
      s.planeSt false = 2 → s.planeSt true = 2 → s.saf.rejA = false → s.saf.rejB = false → s.getF F.SAF_STAT_CMP_OK = 3 → s.saf.raisedA = none →
      s.isF F.SAF_CFG_AUTO_RESTART = false → s.saf.parA = false → s.saf.parB = false →
      ∃ t, exec (.selfCheckComplete false true true true) s = .next t ∧ t.planeSt false = 3 ∧ t.planeSt true = 1
        ∧ t.getF F.SAF_PLANE_STAT_CAUSE_A = 1 ∧ t.getF F.SAF_STAT_DRIVER = 2 ∧ t.dp.held = false
        ∧ t.tallyOf (T.saf 1) = s.tallyOf (T.saf 1))
    ∧ (∀ s : State, s.saf.checking = true → s.saf.drill = false → s.saf.missA = false → s.saf.missB = false →
      s.planeSt false = 2 → s.planeSt true = 2 → s.saf.rejA = false → s.saf.rejB = true → s.getF F.SAF_STAT_CMP_OK = 3 →
      s.saf.raisedB = none → s.isF F.SAF_CFG_AUTO_RESTART = false → s.saf.parA = false → s.saf.parB = false →
      ∃ t, exec (.selfCheckComplete true false true true) s = .next t ∧ t.planeSt false = 1 ∧ t.planeSt true = 3
        ∧ t.getF F.SAF_PLANE_STAT_CAUSE_B = 6 ∧ t.dp.held = false ∧ t.tallyOf (T.saf 1) = s.tallyOf (T.saf 1))
    ∧ (∀ (s : State) (b : Bool), s.dp.held = false → s.planeSt b = 1 → s.planeSt (!b) = 1 →
      s.getF F.SAF_STAT_DRIVER ≠ b2n b + 1 → s.isF F.SAF_CFG_AUTO_RESTART = false → s.saf.raisedA = none →
      s.saf.raisedB = none → ∃ t, exec (.planeParityError b) s = .next t ∧ t.planeSt b = 3
        ∧ t.getF (safCause b) = 2 ∧ t.planeSt (!b) = 1 ∧ t.isF F.SAF_STAT_DEGRADED = true)
    ∧ (∀ (s : State) (b : Bool), s.dp.held = true → s.planeSt b = 2 → exec (.planeParityError b) s = .next
        { s with saf := { s.saf with parA := s.saf.parA || !b, parB := s.saf.parB || b } })
    ∧ (∀ s : State, s.dp.held = false → ∃ t, exec .claimChange s = .next t
        ∧ OnlyFields s t [F.SAF_PLANE_STAT_CLAIM_A, F.SAF_PLANE_STAT_CLAIM_B, F.SAF_STAT_DRIVER]
        ∧ t.getF F.SAF_PLANE_STAT_CLAIM_A = (2 * s.getF F.SAF_CFG_PRIO_A + 1) % 2 ^ 4
        ∧ t.getF F.SAF_PLANE_STAT_CLAIM_B = 2 * s.getF F.SAF_CFG_PRIO_B % 2 ^ 4
        ∧ (s.isF F.SAF_PLANE_STAT_CLAIMING_A = true → s.isF F.SAF_PLANE_STAT_CLAIMING_B = true →
            t.getF F.SAF_STAT_DRIVER = if t.getF F.SAF_PLANE_STAT_CLAIM_A < t.getF F.SAF_PLANE_STAT_CLAIM_B then 2 else 1))
    ∧ (∀ (s : State) (b : Bool), s.planeSt b = 4 → ∃ t, exec (.planeLogicTestDone b true) s = .next t
        ∧ OnlyFields { s with saf := t.saf } t [safState b, safClaiming b] ∧ t.planeSt b = 5
        ∧ (if b then t.saf.failsB else t.saf.failsA) = 0)
    ∧ (∀ (s : State) (b : Bool), s.planeSt b = 4 → (if b then s.saf.failsB else s.saf.failsA) < 2 →
      s.isF F.SAF_CFG_AUTO_RESTART = false → ∃ t, exec (.planeLogicTestDone b false) s = .next t
        ∧ t.planeSt b = 3 ∧ t.getF (safCause b) = 5)
    ∧ ∀ (s : State) (b : Bool), s.planeSt b = 5 → s.dp.held = false → ∃ t, exec (.rejoinEnd b) s = .next t
        ∧ t.planeSt b = 1 ∧ (if b then t.saf.raisedB else t.saf.raisedA) = some s.tb.fab

/-- SAF_NOP, WITHDRAW, RESTART, DRILL, DRILL_DEADLINE and CLEAR_LATENT: the plane commands in a device in service whose
SAF_CMD_STAT.BUSY is 0, with their statuses (R241 to R243).
Completion (own effect, conditions on state and operands alone): safNop, withdraw, restart, drill, drillDeadline,
clearLatent. -/
def Obligations.PlaneCommandsActAndReport : Prop :=
  (∀ s : State, s.serving = true → s.isF F.SAF_CMD_STAT_BUSY = false →
      exec .safNop s = .next (s.setF F.SAF_CMD_STAT_STATUS 0))
    ∧ (∀ (s : State) (b : Bool), s.serving = true → s.isF F.SAF_CMD_STAT_BUSY = false → s.planeSt b = 1 →
      s.planeSt (!b) = 1 → s.isF F.SAF_CFG_AUTO_RESTART = false → s.saf.raisedA = none → s.saf.raisedB = none →
      ∃ t, exec (.withdraw b) s = .next t ∧ t.planeSt b = 3 ∧ t.getF (safCause b) = 3 ∧ t.planeSt (!b) = 1
        ∧ t.getF F.SAF_CMD_STAT_STATUS = 0)
    ∧ (∀ (s : State) (b : Bool), s.serving = true → s.isF F.SAF_CMD_STAT_BUSY = false → s.planeSt b = 1 →
      s.planeSt (!b) = 3 → exec (.withdraw b) s = .next (s.setF F.SAF_CMD_STAT_STATUS 4))
    ∧ (∀ (s : State) (b : Bool), s.serving = true → s.isF F.SAF_CMD_STAT_BUSY = false →
      s.planeSt b = 3 ∨ s.planeSt b = 6 → ∃ t, exec (.restart b) s = .next t
        ∧ OnlyFields { s with saf := t.saf
                              dp := if b then { s.dp with decB := none } else { s.dp with decA := none } } t
            [safState b, safClaiming b, F.SAF_CMD_STAT_STATUS]
        ∧ t.planeSt b = 4 ∧ t.getF F.SAF_CMD_STAT_STATUS = 0
        ∧ (if b then t.saf.failsB else t.saf.failsA) =
            if s.planeSt b = 6 then 0 else if b then s.saf.failsB else s.saf.failsA)
    ∧ (∀ s : State, s.serving = true → s.isF F.SAF_CMD_STAT_BUSY = false → s.planeSt false = 1 → s.planeSt true = 1 →
      s.dp.held = false → s.saf.checking = false → s.saf.drillWait = none →
      ∃ t, exec .drill s = .next t ∧ t.saf.drill = true ∧ t.saf.checking = true ∧ t.dp.held = true
        ∧ t.isF F.SAF_CMD_STAT_BUSY = true ∧ t.getF F.SAF_CMD_STAT_STATUS = 0 ∧ t.dp.stream = s.dp.stream
        ∧ t.tallyOf (T.saf 8) = (s.tallyOf (T.saf 8) + 1) % 2 ^ 64)
    ∧ (∀ (s : State) (wasA : Bool), s.saf.drillWait = some wasA → s.planeSt (!wasA) = 1 →
      exec (.drillDeadline true) s = .next ((({ s with saf := { s.saf with drillWait := none } }).setB
        F.SAF_CMD_STAT_BUSY false).setB F.SAF_CMD_STAT_DRILL_PASS true))
    ∧ ∀ (s : State) (b : Bool), s.serving = true → s.isF F.SAF_CMD_STAT_BUSY = false →
      ∃ t, exec (.clearLatent b) s = .next t ∧ OnlyFields s t [F.SAF_STAT_LATENT, F.SAF_CMD_STAT_STATUS]
        ∧ t.getF F.SAF_CMD_STAT_STATUS = 0
        ∧ (s.getF F.SAF_STAT_LATENT < 4 → bit (t.getF F.SAF_STAT_LATENT) (b2n b) = false
            ∧ bit (t.getF F.SAF_STAT_LATENT) (b2n (!b)) = bit (s.getF F.SAF_STAT_LATENT) (b2n (!b)))

/-- LOCKSTEP_MISMATCH, PAIR_INJECTION_TEST_DONE, PAIR_RESTART_DONE and ORPHAN_BEAD_RECLAIM: a pair that flags a mismatch
leaves service with its cause, for good within 1 s of the test that followed an earlier one; a passing injection test is recorded with its time and lets a held pair reload; a verified
reload returns it; beads that nothing owns return to the free list (R247, R248, R251).
Completion (own effect, conditions on state and operands alone): lockstepMismatch, pairInjectionTestDone,
pairRestartDone, orphanBeadReclaim. -/
def Obligations.PairsAndOrphanBeadsAreHandled : Prop :=
  (∀ (s : State) (i c : Nat), i < 2 → (c = 1 ∨ c = 2) → s.getF (F.SAF_PAIR_STAT_STATE i) = 1 →
      s.pairUp i = true → sget (fun _ => none) s.saf.pairAgain i = none →
      ∃ t, exec (.lockstepMismatch i c) s = .next t ∧ t.getF (F.SAF_PAIR_STAT_STATE i) = 3
        ∧ t.getF (F.SAF_PAIR_STAT_CAUSE i) = c ∧ t.pairUp i = false ∧ t.isF F.SAF_STAT_DEGRADED = true
        ∧ (∀ cls < 8, t.queue (32 + i) cls = []) ∧ t.pairUp (1 - i) = s.pairUp (1 - i))
    ∧ (∀ (s : State) (i c f : Nat), i < 2 → (c = 1 ∨ c = 2) → s.getF (F.SAF_PAIR_STAT_STATE i) = 1 →
      s.pairUp i = true → sget (fun _ => none) s.saf.pairAgain i = some f → s.tb.fab - f < 800000000 →
      ∃ t, exec (.lockstepMismatch i c) s = .next t ∧ t.getF (F.SAF_PAIR_STAT_STATE i) = 5
        ∧ t.getF (F.SAF_PAIR_STAT_CAUSE i) = 7 ∧ t.pairUp i = false)
    ∧ (∀ (s : State) (i : Nat), i < 2 → s.getF (F.SAF_PAIR_STAT_STATE i) ≠ 5 →
      ∃ t, exec (.pairInjectionTestDone i true) s = .next t
        ∧ OnlyFields { s with saf := t.saf } t [F.SAF_PAIR_STAT_STATE i]
        ∧ sget (fun _ => none) t.saf.pairPass i = some s.tb.fab
        ∧ (s.getF (F.SAF_PAIR_STAT_STATE i) = 3 → t.getF (F.SAF_PAIR_STAT_STATE i) = 2))
    ∧ (∀ (s : State) (i : Nat), i < 2 → s.getF (F.SAF_PAIR_STAT_STATE i) = 2 → i ∉ s.boot.noFw →
      ∀ fw : List Byte, (Config.sha384 fw).toNat = s.meas.fw → ∃ t, exec (.pairRestartDone i (some fw)) s = .next t
        ∧ OnlyFields s t [F.SAF_PAIR_STAT_STATE i, F.SAF_STAT_DEGRADED] ∧ t.getF (F.SAF_PAIR_STAT_STATE i) = 1)
    ∧ ∀ s : State, ∃ t, exec .orphanBeadReclaim s = .next t
        ∧ t = { s with dp := { s.dp with resUsed := t.dp.resUsed, shUsed := t.dp.shUsed } }
        ∧ t.dp.shUsed = ((s.dp.items.filterMap (·.2)).map (·.shBeads)).sum
            + ((s.dp.batch.filterMap (·.2)).map (·.beads)).sum

/-! ### Ingress and tables (chapters 1 and 4) -/

/-- PARSE_WINDOW_COMPLETE, FRAME_RX_END and CPU_INJECTION: a good frame on a present port becomes an item that holds its
bytes and enters the header stream behind every other; a short bad one is dropped and counted on its port; the end of a
good frame claims the beads that it still lacks and marks its item complete; a core pair's frame enters with its CPU port as ingress and an FCS added (R28, R37, R43,
R45, R481).
Completion (own effect, conditions on state and operands alone): parseWindowComplete, frameRxEnd, cpuInjection. -/
def Obligations.ItemsEnterTheHeaderStream : Prop :=
  (∀ (s : State) (p ago : Nat) (bytes : List Byte), p < 32 → s.ethPresent p = true → s.ring.bypBoot = false →
      s.receives = true → s.getF (F.PRT_MSEC_CFG_VALIDATE p) = 0 → 64 ≤ bytes.length →
      bytes.length ≤ s.getF (F.PRT_MAC_CFG_MAX_FRAME p) → (s.claim p (if 192 < bytes.length then 1 else frameBeads bytes)).isSome = true →
      s.anyPlane = true → s.dp.held = false →
      ∃ t, exec (.parseWindowComplete p bytes true ago) s = .next t
        ∧ t.dp.nextItem = s.dp.nextItem + 1 ∧ (t.item s.dp.nextItem).map (·.bytes) = some bytes
        ∧ (t.item s.dp.nextItem).map (·.ingress) = some p
        ∧ (t.item s.dp.nextItem).map (·.complete) = some (decide (bytes.length ≤ 192))
        ∧ t.dp.stream.map (·.item) = s.dp.stream.map (·.item) ++ [s.dp.nextItem]
        ∧ t.regs = s.regs ∧ t.tables = s.tables ∧ t.tly = s.tly ∧ t.dp.queues = s.dp.queues ∧ t.ddr = s.ddr)
    ∧ (∀ (s : State) (p ago : Nat) (bytes : List Byte), p < 32 → s.ethPresent p = true → s.ring.bypBoot = false →
      s.receives = true → bytes.length ≤ 192 → bytes.length ≤ s.getF (F.PRT_MAC_CFG_MAX_FRAME p) →
      exec (.parseWindowComplete p bytes false ago) s = .next (s.tally (T.buf p 4)))
    ∧ (∀ (s : State) (p i : Nat) (rest : List (Nat × Nat)) (it : Item),
      sget (fun _ => []) s.dp.rx p = (i, 0) :: rest → s.item i = some it →
      (s.claim it.ingress (frameBeads it.bytes - (it.resBeads + it.shBeads))).isSome = true →
      ∃ t, exec (.frameRxEnd p 0 0) s = .next t ∧ sget (fun _ => []) t.dp.rx p = rest
        ∧ (t.item i).map (fun x => (x.bytes, x.complete, x.bad, x.resBeads + x.shBeads)) =
            some (it.bytes, true, false, max (frameBeads it.bytes) (it.resBeads + it.shBeads))
        ∧ (∀ j, j ≠ i → t.item j = s.item j) ∧ t = { s with dp := t.dp } ∧ t.dp.queues = s.dp.queues
        ∧ t.dp.stream = s.dp.stream)
    ∧ ∀ (s : State) (i tag : Nat) (bytes : List Byte), i < 2 → tag < 2 ^ 16 → s.receives = true → s.pairUp i = true →
      bytes.length ≤ 16380 → (s.claim (32 + i) (beadsOf (bytes ++ fcsOf bytes).length)).isSome = true →
      s.anyPlane = true → s.dp.held = false →
      ∃ t, exec (.cpuInjection i false bytes 0 0 0 true tag) s = .next t
        ∧ (t.item s.dp.nextItem).map (·.bytes) = some (bytes ++ fcsOf bytes)
        ∧ (t.item s.dp.nextItem).map (·.ingress) = some (32 + i)
        ∧ (t.item s.dp.nextItem).map (·.ts.tag) = some tag ∧ (t.item s.dp.nextItem).map (·.injected) = some true
        ∧ t.dp.stream.map (·.item) = s.dp.stream.map (·.item) ++ [s.dp.nextItem] ∧ t.regs = s.regs

/-- TBL_NOP, TBL_READ, TBL_WRITE, INSERT, DELETE and SEARCH of a requester whose command is taken at once: what each
leaves in the table, in the requester's registers and in its status; a command while BUSY is 1 is discarded (R25, R26,
R130 to R134).
Completion (own effect, conditions on state and operands alone): tblNop, tblRead, tblWrite, insert, delete, search. -/
def Obligations.TableCommandsTakeEffect : Prop :=
  (∀ (s : State) (r : Nat), s.CanCommand r →
      exec (.tblNop r) s = .next (((s.setF (reqF r F.TBL_STAT_LAST_OP) 0).setF (reqF r F.TBL_STAT_STATUS) 0).tally
        (T.tbl r 0)))
    ∧ (∀ s : State, s.serving = true → s.isF F.TBL_STAT_BUSY = true →
      exec (.tblNop 2) s = .next ((s.setB F.TBL_STAT_BUSY_HIT true).tally (T.tbl 2 1)))
    ∧ (∀ (s : State) (r : Nat), s.CanCommand r → (s.tblAddr r).1 ≠ tTime → (s.tblAddr r).2.2 = 0 →
      s.entryThere (s.tblAddr r).1 (s.tblAddr r).2.1 = true → s.dp.poison = [] →
      ∀ ce, ∃ t, exec (.tblRead r false ce) s = .next t ∧ t.getF (reqF r F.TBL_STAT_STATUS) = 0
        ∧ t.tblData r = s.seenEntry (s.tblAddr r).1 (s.tblAddr r).2.1 % 2 ^ 256 ∧ t.tables = s.tables)
    ∧ (∀ (s : State) (r i : Nat), s.CanCommand r → (s.tblAddr r).1 = tMac → (s.tblAddr r).2.1 = i → i < 65536 →
      s.dp.sweeps = [] → (s.stageOf r).tag ≠ some (tMac, i) →
      ∃ t, exec (.tblWrite r false) s = .next t ∧ t.getF (reqF r F.TBL_STAT_STATUS) = 0
        ∧ t.entry tMac i = s.storedEntry tMac i (s.entry tMac i) (bits (s.tblData r) 0 128)
        ∧ EntriesKept s t (tkey tMac i))
    ∧ (∀ (s : State) (r i : Nat) (evict : Bool) (e : Nat), s.CanCommand r → (s.tblAddr r).1 = tMac → s.dp.sweeps = [] →
      s.dp.poison = [] → e = s.storedEntry tMac 0 0 (bits (s.tblData r) 0 128) → s.findKey tMac (keyOf tMac e) = none →
      s.freeWay tMac (keyOf tMac e) = some i →
      ∃ t, exec (.insert r evict false) s = .next t ∧ t.entry tMac i = e
        ∧ EntriesKept s t (tkey tMac i)
        ∧ t.getF (reqF r F.TBL_RESULT_INDEX) = i % 2 ^ F.TBL_RESULT_INDEX.w
        ∧ t.getF (reqF r F.TBL_STAT_STATUS) = 0 ∧ t.isF (reqF r F.TBL_STAT_EXISTED) = false
        ∧ t.isF (reqF r F.TBL_STAT_EVICTED) = false)
    ∧ (∀ (s : State) (r i : Nat), s.CanCommand r → (s.tblAddr r).1 = tMac → s.dp.sweeps = [] → s.dp.poison = [] →
      s.findKey tMac (keyOf tMac (s.tblData r % 2 ^ 64)) = some i →
      ∃ t, exec (.delete r false) s = .next t ∧ t.entry tMac i = 0
        ∧ EntriesKept s t (tkey tMac i)
        ∧ t.getF (reqF r F.TBL_STAT_STATUS) = 0)
    ∧ (∀ (s : State) (r : Nat), s.CanCommand r → (s.tblAddr r).1 = tMac → s.dp.sweeps = [] → s.dp.poison = [] →
      s.findKey tMac (keyOf tMac (s.tblData r % 2 ^ 64)) = none →
      ∃ t, exec (.delete r false) s = .next t ∧ t.tables = s.tables ∧ t.getF (reqF r F.TBL_STAT_STATUS) = 2)
    ∧ ∀ (s : State) (r i : Nat), s.CanCommand r → (s.tblAddr r).1 = tMac → s.dp.poison = [] →
      s.findKey tMac (keyOf tMac (s.tblData r % 2 ^ 64)) = some i →
      ∃ t, exec (.search r false) s = .next t ∧ t.tables = s.tables ∧ t.tblData r = s.entry tMac i % 2 ^ 256
        ∧ t.getF (reqF r F.TBL_RESULT_INDEX) = i % 2 ^ F.TBL_RESULT_INDEX.w
        ∧ t.getF (reqF r F.TBL_STAT_STATUS) = 0

/-- FLUSH_MASKED, AGE_SWEEP, SWEEP_SLOT, LEARN_APPLY, AGING_PASS and AGE_NOW_TICK: sweeps start with BUSY set, a slot of a
flush clears exactly the entries that match, its last slot reports the count and clears BUSY; a learn request writes the
dynamic entry of its address and port; an aging pass becomes a sweep, whose slots remove
exactly the dynamic entries that have reached the age (R120 to R124,
R135).
Completion (own effect, conditions on state and operands alone): flushMasked, ageSweep, sweepSlot, learnApply,
agingPass, ageNowTick. -/
def Obligations.SweepsLearningAndAgingChangeTheMacTable : Prop :=
  (∀ (s : State) (r code : Nat), s.CanCommand r → (s.tblAddr r).1 = code → code = tMac → s.dp.sweeps = [] →
      ∃ t, exec (.flushMasked r) s = .next t ∧ t.tables = s.tables ∧ t.isF (reqF r F.TBL_STAT_BUSY) = true
        ∧ t.dp.sweeps = [⟨r, code, 0, some (bits (s.tblData r) 0 128, bits (s.tblData r) 128 128), 0, 0⟩])
    ∧ (∀ (s : State) (r : Nat), s.CanCommand r → (s.tblAddr r).1 = tMac → s.dp.sweeps = [] →
      ∃ t, exec (.ageSweep r) s = .next t ∧ t.tables = s.tables ∧ t.isF (reqF r F.TBL_STAT_BUSY) = true
        ∧ t.dp.sweeps = [⟨r, tMac, 0, none, max 1 (s.tblData r % 2 ^ 16), 0⟩])
    ∧ (∀ (s : State) (slow : Bool) (w : Sweep) (v m : Nat), s.dp.sweeps = [w] → w.table = tMac → w.req < 3 →
      w.flush = some (v, m) → w.pos + 4 < 65536 → ∃ t, exec (.sweepSlot slow) s = .next t
        ∧ (∀ k < 4, t.entry tMac (w.pos + k) =
            if s.entry tMac (w.pos + k) ≠ 0 ∧ (bits (s.entry tMac (w.pos + k)) 0 128 &&& m) = (v &&& m) then 0
            else s.entry tMac (w.pos + k))
        ∧ t.dp.sweeps.map (·.pos) = [w.pos + 4]
        ∧ t.dp.sweeps.map (·.count) = [w.count + ((List.range 4).filter (fun k =>
            s.entry tMac (w.pos + k) != 0 && (bits (s.entry tMac (w.pos + k)) 0 128 &&& m) == (v &&& m))).length])
    ∧ (∀ (s : State) (slow : Bool) (w : Sweep) (v m : Nat), s.dp.sweeps = [w] → w.table = tMac →
      w.flush = some (v, m) → w.pos = 65532 → w.req < 3 → s.dp.ageDue = false →
      ∃ t, exec (.sweepSlot slow) s = .next t ∧ t.dp.sweeps = [] ∧ t.isF (reqF w.req F.TBL_STAT_BUSY) = false
        ∧ t.getF (reqF w.req F.TBL_STAT_STATUS) = 0)
    ∧ (∀ (s : State) (q : LearnReq) (rest : List LearnReq) (i : Nat), s.dp.learnQ = q :: rest → q.port < 36 →
      s.dp.poison = [] → s.dp.sweeps = [] → s.findKey tMac q.key = none → s.freeWay tMac q.key = some i →
      s.atLimit q.port = false → ∃ t, exec .learnApply s = .next t ∧ t.dp.learnQ = rest
        ∧ t.entry tMac i = q.key + 2 ^ 60 + q.port * 2 ^ 64 + s.getF F.FWD_AGE_NOW_NOW * 2 ^ 96
        ∧ EntriesKept s t (tkey tMac i))
    ∧ (∀ s : State, s.isF F.FWD_CFG_AGE_EN = true → s.dp.sweeps = [] → exec .agingPass s = .next
        { s with dp := { s.dp with ageDue := false, sweeps := [⟨3, tMac, 0, none, 0, 0⟩] } })
    ∧ (∀ (s : State) (w : Sweep), s.isF F.FWD_CFG_AGE_EN = true → s.dp.sweeps = [w] → w.table = tMac → w.req = 3 →
      w.flush = none → w.pos + 4 < 65536 → s.dp.poison = [] → ∃ t, exec (.sweepSlot false) s = .next t
        ∧ t.dp.sweeps.map (·.pos) = [w.pos + 4]
        ∧ ∀ k < 4, t.entry tMac (w.pos + k) =
            if s.macAged (s.entry tMac (w.pos + k)) (s.getF F.FWD_CFG_AGE_TIME) = true then 0
            else s.entry tMac (w.pos + k))
    ∧ ∀ s : State, exec .ageNowTick s = .next (s.setF F.FWD_AGE_NOW_NOW (s.getF F.FWD_AGE_NOW_NOW + 1))

/-! ### Time (chapter 8) -/

/-- CLOCK_SET, STEP, SELECT and ACCEPT_STEP: with the jump guard off the working clock takes the written time, moves by
the written step, or becomes the selected domain's time; with it on a step beyond TIM_JUMP_LIMIT is refused and waits; the
acceptance of another requester than the control pair applies it (R207, R209 to R211).
Completion (own effect, conditions on state and operands alone): clockSet, step, select, acceptStep. -/
def Obligations.StepsOfTheWorkingClock : Prop :=
  (∀ (s : State) (r sec ns frac : Nat), s.CanWriteTime r → s.isF F.TIM_CFG_JUMP_EN = false → sec < 2 ^ 48 →
      ns < 1000000000 → frac < 2 ^ 16 → ∃ t, exec (.clockSet r sec ns frac) s = .next t
        ∧ t.tb.clk = (sec * 1000000000 + ns) * 2 ^ 40 + frac * 2 ^ 24 ∧ t.tb.pending = none
        ∧ t.isF F.TIM_STAT_SYNCED = true ∧ t.isF F.TIM_STAT_JUMP_PEND = false ∧ t.tb.ownerAt = s.tb.fab
        ∧ t.getF (reqF r F.TBL_STAT_STATUS) = 0 ∧ t.tables = s.tables ∧ t.tb.rate = s.tb.rate)
    ∧ (∀ (s : State) (r sec ns frac : Nat), s.CanWriteTime r → s.isF F.TIM_CFG_JUMP_EN = true →
      s.isF F.TIM_STAT_SYNCED = true → sec < 2 ^ 48 → ns < 1000000000 → frac < 2 ^ 16 →
      s.getF F.TIM_JUMP_LIMIT_LIMIT * 2 ^ 40
        < ((((sec * 1000000000 + ns) * 2 ^ 40 + frac * 2 ^ 24 : Nat) : Int) - s.tb.clk).natAbs →
      ∃ t, exec (.clockSet r sec ns frac) s = .next t ∧ t.tb.clk = s.tb.clk ∧ t.isF F.TIM_STAT_JUMP_PEND = true
        ∧ t.tb.pending = some ⟨1, 0, (((sec * 1000000000 + ns) * 2 ^ 40 + frac * 2 ^ 24 : Nat) : Int) - s.tb.clk⟩
        ∧ t.getF (reqF r F.TBL_STAT_STATUS) = 0)
    ∧ (∀ (s : State) (r ns : Nat), s.CanWriteTime r → s.isF F.TIM_CFG_JUMP_EN = false → ns < 2 ^ 63 →
      s.tb.clk + ns * 2 ^ 40 < clkTop → ∃ t, exec (.step r ns 0) s = .next t
        ∧ t.tb.clk = s.tb.clk + ns * 2 ^ 40 ∧ t.tb.lastStep = (ns * 2 ^ 40 : Nat) ∧ t.isF F.TIM_STAT_SYNCED = true
        ∧ t.getF (reqF r F.TBL_STAT_STATUS) = 0)
    ∧ (∀ (s : State) (r d : Nat), s.CanWriteTime r → d < 4 → s.isF (F.TIM_DOM_W0_EN d) = true →
      d ≠ s.getF F.TIM_STAT_SEL → s.isF F.TIM_CFG_JUMP_EN = false → 0 ≤ (s.view d).at s.tb.clk →
      (s.view d).at s.tb.clk < clkTop → ∃ t, exec (.select r d) s = .next t ∧ t.getF F.TIM_STAT_SEL = d
        ∧ (t.tb.clk : Int) = (s.view d).at s.tb.clk ∧ t.tb.rate = s.tb.rate + (s.view d).vrate
        ∧ t.getF (reqF r F.TBL_STAT_STATUS) = 0)
    ∧ ∀ (s : State) (r : Nat) (d : Int), s.CanCommand r → r ≠ 0 → s.tb.pending = some ⟨1, 0, d⟩ →
      0 ≤ (s.tb.clk : Int) + d → (s.tb.clk : Int) + d < clkTop → ∃ t, exec (.acceptStep r) s = .next t
        ∧ (t.tb.clk : Int) = s.tb.clk + d ∧ t.tb.pending = none ∧ t.isF F.TIM_STAT_JUMP_PEND = false
        ∧ t.getF (reqF r F.TBL_STAT_STATUS) = 0

/-- TIME_BASE_READ, RATE_WRITE, SLEW, SLEW_END and VIEW_WRITE: the entries of the time base (R207, R208, R212).
TIM_HOLDOVER_ON, DOMAIN_FAILOVER, PTP_FRAME_TRAPPED, SYNC_INTERVAL and TIM_NOW_READ: holdover begins when the owner has been
silent for TIM_HOLD_TMO ms; the control pair selects the next locked domain of the image's list, steers the selected one and
sends Sync on the domain's ports; a host read of
TIM_NOW returns a mirror at most 160 ns old and latches its other parts (R213, R214, R222).
Completion (own effect, conditions on state and operands alone): timeBaseRead, rateWrite, slew, slewEnd, viewWrite,
timHoldoverOn, domainFailover, ptpFrameTrapped, syncInterval, timNowRead. -/
def Obligations.TimeBaseCommandsAndService : Prop :=
  (∀ (s : State) (r i : Nat), s.CanCommand r → timeThere i = true → i < 12 →
      ∃ t, exec (.timeBaseRead r i) s = .next t ∧ t.tblData r = s.timeEntry i % 2 ^ 256
        ∧ t.getF (reqF r F.TBL_STAT_STATUS) = 0 ∧ t.tb = s.tb ∧ t.tables = s.tables)
    ∧ (∀ (s : State) (r rate : Nat), s.CanWriteTime r → rate < 2 ^ 32 →
      ∃ t, exec (.rateWrite r rate) s = .next t ∧ t.tb.rate = clampRate (signed 32 rate) ∧ t.tb.clk = s.tb.clk
        ∧ t.tb.ownerAt = s.tb.fab ∧ t.getF (reqF r F.TBL_STAT_STATUS) = 0)
    ∧ (∀ (s : State) (r adj dur : Nat), s.CanWriteTime r → 0 < adj → adj < 2 ^ 31 → dur < 2 ^ 32 → 2 * adj ≤ dur →
      ∃ t, exec (.slew r adj dur) s = .next t
        ∧ t.tb.slew = some ⟨adj, roundAway (adj * 2 ^ 40) (dur * 1000), dur, 0, 0⟩
        ∧ t.isF F.TIM_STAT_SLEWING = true ∧ t.tb.clk = s.tb.clk ∧ t.getF (reqF r F.TBL_STAT_STATUS) = 0)
    ∧ (∀ (s : State) (w : Slew), s.tb.slew = some w → slewCycles w.dur ≤ w.cycles →
      exec .slewEnd s = .next (({ s with tb := { s.tb with slew := none } }).setB F.TIM_STAT_SLEWING false))
    ∧ (∀ (s : State) (r d ofs frac vrate ref : Nat), s.CanWriteTime r → d < 4 → d ≠ s.getF F.TIM_STAT_SEL →
      ofs < 2 ^ 63 → frac < 2 ^ 16 → vrate < 0x20000000 → ref < 2 ^ 64 →
      ∃ t, exec (.viewWrite r d ofs frac vrate ref) s = .next t
        ∧ t.view d = ⟨(ofs * 2 ^ 40 + frac * 2 ^ 24 : Nat), vrate, (ref * 2 ^ 40 : Nat)⟩
        ∧ (∀ e < 4, e ≠ d → t.view e = s.view e) ∧ t.tb.clk = s.tb.clk ∧ t.getF (reqF r F.TBL_STAT_STATUS) = 0)
    ∧ (∀ s : State, s.isF F.TIM_STAT_SYNCED = true → s.isF F.TIM_STAT_HOLDOVER = false →
      s.tb.ownerAt + s.getF F.TIM_HOLD_TMO_TMO * cycMs ≤ s.tb.fab →
      ∃ t, exec .timHoldoverOn s = .next t ∧ t.isF F.TIM_STAT_HOLDOVER = true
        ∧ t.tb = { s.tb with holdAt := s.tb.fab })
    ∧ (∀ (s : State) (lost d : Nat), s.CanWriteTime 0 → s.failoverDue = true →
      ({ s with tb := { s.tb with locked := s.tb.locked.filter (fun e => !bit lost e) } } : State).failoverTo = some d →
      s.isF F.TIM_STAT_JUMP_PEND = false → s.isF F.TIM_CFG_JUMP_EN = false →
      ∃ t, exec (.domainFailover lost) s = .next t ∧ t.getF F.TIM_STAT_SEL = d ∧ t.isF F.TIM_STAT_HOLDOVER = false)
    ∧ (∀ (s : State) (p dn d v : Nat), s.CanWriteTime 0 → p < 16 → s.ptpDomain p dn = some d →
      d = s.getF F.TIM_STAT_SEL → s.isF F.TIM_STAT_JUMP_PEND = false → v < 2 ^ 32 →
      ∃ t, exec (.ptpFrameTrapped p dn 1 v true) s = .next t ∧ t.tb.rate = clampRate (signed 32 v)
        ∧ t.tb.clk = s.tb.clk ∧ d ∈ t.tb.locked)
    ∧ (∀ (s : State) (d v : Nat) (locked : Bool), d < 4 → s.pairUp 0 = true → s.isF (F.TIM_DOM_W0_EN d) = true →
      ∃ t, exec (.syncInterval d 0 v locked) s = .next t
        ∧ t.out = s.out ++ ((List.range 32).filter (fun p => bit (s.getF (F.TIM_DOM_W1_PORTS d)) p && s.ethPresent p)).map
            (fun p => .ptp d (s.getF (F.TIM_DOM_W0_DOMAIN_NUMBER d)) p (bit (s.param 0x05 0) p)
              (if 16 ≤ p then some (leAt ((s.paramBytes 0x06).getD []) (2 * (p - 16)) 2) else none))
        ∧ t.regs = s.regs ∧ t.tb.clk = s.tb.clk)
    ∧ ∀ (s : State) (age : Nat), age ≤ 160 → s.memOn = true → s.serving = true →
      ∃ t, exec (.timNowRead 2 age 0x20010 1) s = .next t ∧ t.regs = s.regs
        ∧ t.out = s.out ++ [.completion (tNs (s.clkAgo (age * 2 ^ 16)))]
        ∧ sget (fun _ => 0) t.tb.nowLatch 2 = s.clkAgo (age * 2 ^ 16) ∧ t.tb.clk = s.tb.clk

/-- TIM_TS2_ACK, TIM_TS2_POP, TIM_IN_CAPTURE, TIM_IN_ACK, TIME_OUT_ASSERT and TIME_OUT_DEASSERT: the queues are read at
their heads, a captured edge takes the next QSEQ and a place while four are not taken, an instant of TIME_OUT raises the
pin until its width has passed (R218 to R220, R223, R224).
Completion (own effect, conditions on state and operands alone): timTs2Ack, timTs2Pop, timInCapture, timInAck,
timeOutAssert, timeOutDeassert. -/
def Obligations.TimestampQueuesAndTimeOut : Prop :=
  (∀ (s : State) (e : Ts2) (rest : List Ts2), s.serving = true → s.isF F.TIM_CFG_TS2_MODE = false →
      s.tb.ts2 = e :: rest → e.qseq < 2 ^ 16 →
      exec (.timTs2Ack e.qseq) s = .next { s with tb := { s.tb with ts2 := rest } })
    ∧ (∀ (s : State) (e : Ts2) (rest : List Ts2) (q : Nat), s.serving = true → s.isF F.TIM_CFG_TS2_MODE = false →
      s.tb.ts2 = e :: rest → q < 2 ^ 16 → e.qseq ≠ q → exec (.timTs2Ack q) s = .next (s.tally (T.tim 5)))
    ∧ (∀ (s : State) (e : Ts2) (rest : List Ts2), s.memOn = true → s.serving = true →
      s.isF F.TIM_CFG_TS2_MODE = true → s.tb.ts2 = e :: rest →
      ∃ t, exec .timTs2Pop s = .next t ∧ t.tb.ts2 = rest ∧ Counted s t (T.tim 4)
        ∧ t.out = s.out ++ [.completion (e.qseq + 2 ^ 16 + e.port % 32 * 2 ^ 24)]
        ∧ t.getF (F.TIM_TS2_POPDATA_DATA 0) = e.tag % 2 ^ 32 ∧ t.getF (F.TIM_TS2_POPDATA_DATA 1) = tNs e.t % 2 ^ 32)
    ∧ (∀ (s : State) (rising : Bool) (ago : Nat), bit (s.getF F.TIM_IN_CFG_EDGE) (if rising then 0 else 1) = true →
      s.tb.tsIn.length < 4 → ∃ t, exec (.timInCapture rising ago) s = .next t
        ∧ t.tb.tsIn = s.tb.tsIn ++ [⟨s.tb.inSeq, rising, s.clkAgo ago / 2 ^ 24 * 2 ^ 24⟩]
        ∧ t.tb.inSeq = (s.tb.inSeq + 1) % 2 ^ 16 ∧ t.tb.clk = s.tb.clk)
    ∧ (∀ (s : State) (rising : Bool) (ago : Nat), bit (s.getF F.TIM_IN_CFG_EDGE) (if rising then 0 else 1) = true →
      4 ≤ s.tb.tsIn.length → ∃ t, exec (.timInCapture rising ago) s = .next t
        ∧ t.tb.tsIn = s.tb.tsIn ∧ t.tb.inSeq = (s.tb.inSeq + 1) % 2 ^ 16 ∧ t.isF F.TIM_IN_STAT_OVF = true
        ∧ Counted s t (T.tim 6))
    ∧ (∀ (s : State) (e : TimeIn) (rest : List TimeIn), s.serving = true → s.tb.tsIn = e :: rest → e.qseq < 2 ^ 16 →
      exec (.timInAck e.qseq) s = .next { s with tb := { s.tb with tsIn := rest } })
    ∧ (∀ (s : State) (e : TimeIn) (rest : List TimeIn) (q : Nat), s.serving = true → s.tb.tsIn = e :: rest →
      q < 2 ^ 16 → e.qseq ≠ q → exec (.timInAck q) s = .next (s.tally (T.tim 5)))
    ∧ (∀ (s : State) (at_ : Nat), s.isF F.TIM_OUT_CFG_MODE = true → s.tb.outHigh = false → s.tb.outNew = [] →
      lastEdge s.tb.outUse s.tb.clk = some at_ → s.tb.outFrom ≤ at_ → s.tb.outGuard ≤ at_ →
      exec .timeOutAssert s = .next { s with tb := { s.tb with
        outHigh := true, outFrom := at_ + 1
        outEnd := s.tb.fab + (min s.tb.outUse.2.2 (s.tb.outUse.2.1 - 5) * 4 + 4) / 5 } })
    ∧ ∀ s : State, s.tb.outHigh = true → s.tb.outEnd ≤ s.tb.fab →
      exec .timeOutDeassert s = .next { s with tb := { s.tb with outHigh := false } }

/-! ### Firewall state, streams and meters (chapters 5 and 6) -/

/-- STATE_UPDATE_APPLY, FLOW_SWEEP, FWL_NOW_TICK, DIAG_SLOT_EXPIRY, DIAG_CLOSE and CADENCE_SCAN: the oldest update creates
its flow in a free way; a sweep falls due, waits for another sweep of the table, and its slots clear exactly the flows that count as absent; a slot closes at its expiry or on command and
its generation counts on; a scanned cadence state past its bound is marked missing and counted (R151 to R157).
Completion (own effect, conditions on state and operands alone): stateUpdateApply, flowSweep, sweepSlot, fwlNowTick,
diagSlotExpiry, diagClose, cadenceScan. -/
def Obligations.FirewallEngineKeepsItsState : Prop :=
  (∀ (s : State) (a b pa pb proto vid rule i : Nat) (v6 fromB : Bool) (g : Seg) (rest : List Upd),
      s.dp.updQ = .flowNew a b pa pb proto vid v6 fromB rule none g :: rest →
      s.findFlow (.of a b pa pb proto vid v6 fromB) = none → s.freeFlow (.of a b pa pb proto vid v6 fromB) = some i →
      ∃ t, exec .stateUpdateApply s = .next t ∧ t.dp.updQ = rest
        ∧ t.entry tFlow i = newFlow (.of a b pa pb proto vid v6 fromB) rule (s.getF F.FWL_NOW_NOW) none g.tcp
        ∧ EntriesKept s t (tkey tFlow i) ∧ Counted s t (T.fwlDev 0))
    ∧ (∀ (s : State) (key unit cmin cmax t64 src num ident : Nat) (rest : List Upd),
      s.dp.updQ = .cad key unit cmin cmax t64 src num ident :: rest → (s.cadOf key).seen = false →
      exec .stateUpdateApply s = .next (({ s with dp := { s.dp with updQ := rest } }).setCad key
        ⟨cadTick t64 unit, true, false, false⟩))
    ∧ (∀ s : State, s.dp.sweeps = [] → exec .flowSweep s = .next
        { s with dp := { s.dp with flowDue := false, sweeps := [⟨3, tFlow, 0, none, 0, 0⟩] } })
    ∧ (∀ (s : State) (w : Sweep), s.dp.sweeps = [w] → w.table = tFlow → exec .flowSweep s = .next
        { s with dp := { s.dp with flowDue := true } })
    ∧ (∀ (s : State) (w : Sweep), s.dp.sweeps = [w] → w.table = tFlow → w.req = 3 → w.flush = none →
      w.pos + 4 < 16384 → ∃ t, exec (.sweepSlot false) s = .next t ∧ t.dp.sweeps.map (·.pos) = [w.pos + 4]
        ∧ (∀ k < 4, t.entry tFlow (w.pos + k) =
            if s.flowAbsent (s.entry tFlow (w.pos + k)) = true then 0 else s.entry tFlow (w.pos + k))
        ∧ ∀ c i, c ≠ tFlow → c < 16 → i < 2 ^ 20 → t.entry c i = s.entry c i)
    ∧ (∀ s : State, exec .fwlNowTick s = .next (s.setF F.FWL_NOW_NOW (s.getF F.FWL_NOW_NOW + 1)))
    ∧ (∀ (s : State) (k : Nat), k < 16 → s.isF (F.FWL_DIAG_W0_OPEN k) = true →
      s.getF (F.FWL_DIAG_W0_EXPIRY k) = s.getF F.FWL_NOW_NOW → ∃ t, exec (.diagSlotExpiry k) s = .next t
        ∧ t.isF (F.FWL_DIAG_W0_OPEN k) = false
        ∧ t.getF (F.FWL_DIAG_W0_GEN k) = (s.getF (F.FWL_DIAG_W0_GEN k) + 1) % 2 ^ 8
        ∧ t.getF (F.FWL_DIAG_W1_CAUSE k) = 0 ∧ sget (fun _ => none) t.dp.diagClosed k = some s.tb.fab
        ∧ ∀ j < 16, j ≠ k → t.getF (F.FWL_DIAG_W0_OPEN j) = s.getF (F.FWL_DIAG_W0_OPEN j))
    ∧ (∀ (s : State) (k : Nat), k < 16 → s.pairUp 1 = true → s.isF (F.FWL_DIAG_W0_OPEN k) = true →
      ∃ t, exec (.diagClose k) s = .next t ∧ t.isF (F.FWL_DIAG_W0_OPEN k) = false
        ∧ t.getF (F.FWL_DIAG_W0_GEN k) = (s.getF (F.FWL_DIAG_W0_GEN k) + 1) % 2 ^ 8
        ∧ t.getF (F.FWL_DIAG_W1_CAUSE k) = 1)
    ∧ ∀ (s : State) (key unit cmax num ident e : Nat), num < 128 → s.rodPresent num = true →
      s.cadBounds key = some (unit, cmax, true, 0, num, ident) → (s.cadOf key).seen = true →
      (s.cadOf key).miss = false → s.isF F.FWL_CFG_SUPPRESS_INACTIVE = false →
      e = (cadTick s.nowNs unit + 2 ^ 16 - (s.cadOf key).last) % 2 ^ 16 → cmax ≠ 0 → cmax < e → e < 32768 →
      ∃ t, exec (.cadenceScan key) s = .next t ∧ t.cadOf key = { s.cadOf key with miss := true }
        ∧ Counted s t (T.fwlRod num 1)

/-- FWL_METER_WRITE, STR_METER_WRITE, STREAM_GATE_CHANGE, STREAM_GATE_SWAP and RECOVERY_RESET: a written meter word is
clamped and fills the meter's buckets; CHANGE copies the administrative list, which becomes the operational one at its
change time; a stream without a passed item for its reset time takes any number again (R147, R169 to R171, R175).
Completion (own effect, conditions on state and operands alone): fwlMeterWrite, strMeterWrite, streamGateChange,
streamGateSwap, recoveryReset. -/
def Obligations.MetersGatesAndRecoveryFollowTheirWrites : Prop :=
  (∀ (s : State) (m w v : Nat), s.serving = true → m < 1024 → w < 2 → ∃ t, exec (.fwlMeterWrite m w v) s = .next t
        ∧ t = { s.storeReg (0x82000 + 8 * m + 4 * w) v with dp := { s.dp with meters := t.dp.meters } }
        ∧ sget (fun _ => none) t.dp.meters m = none
        ∧ ∀ n, n ≠ m → sget (fun _ => none) t.dp.meters n = sget (fun _ => none) s.dp.meters n)
    ∧ (∀ (s : State) (v : Nat), s.serving = true → ∃ t, exec (.fwlMeterWrite 5 0 v) s = .next t
        ∧ t.getF (F.FWL_METER_W0_CIR 5) = nearest [(1, 400000)] (v % 2 ^ 19)
        ∧ FieldsKept s t [F.FWL_METER_W0_CIR 5])
    ∧ (∀ (s : State) (m w v : Nat), s.serving = true → m < 1024 → w < 4 → ∃ t, exec (.strMeterWrite m w v) s = .next t
        ∧ t = { s.storeReg (0xA4000 + 16 * m + 4 * w) v with dp := { s.dp with smeters := t.dp.smeters } }
        ∧ sget (fun _ => none) t.dp.smeters m = none
        ∧ ∀ n, n ≠ m → sget (fun _ => none) t.dp.smeters n = sget (fun _ => none) s.dp.smeters n)
    ∧ (∀ (s : State) (g : Nat), s.serving = true → g < 64 → s.isF (F.STR_GATE_W0_CHANGE g) = false →
      ∃ t, exec (.streamGateChange g) s = .next t ∧ t.isF (F.STR_GATE_W0_CHANGE g) = true
        ∧ (t.pendOf (gateKey true g)).map (·.entries.length) = some (s.getF (F.STR_GATE_W0_ADMIN_LEN g))
        ∧ (t.pendOf (gateKey true g)).map (·.cycle) = some (s.getF (F.STR_GATE_CYCLE_ADMIN_CYCLE g))
        ∧ (t.pendOf (gateKey true g)).all (fun p => decide (s.tb.clk + 1000 * 2 ^ 40 ≤ p.at40)) = true
        ∧ t.getF (F.STR_GATE_W0_OPER_LEN g) = s.getF (F.STR_GATE_W0_OPER_LEN g)
        ∧ t.dp.gateBase = s.dp.gateBase)
    ∧ (∀ (s : State) (g : Nat), s.serving = true → g < 64 → s.isF (F.STR_GATE_W0_CHANGE g) = true →
      exec (.streamGateChange g) s = .next (s.tally (T.strGate g 1)))
    ∧ (∀ (s : State) (g : Nat) (p : GatePend), g < 64 → s.pendOf (gateKey true g) = some p → p.at40 ≤ s.tb.clk →
      ∃ t, exec (.streamGateSwap g) s = .next t ∧ t.pendOf (gateKey true g) = none
        ∧ t.isF (F.STR_GATE_W0_CHANGE g) = false
        ∧ t.getF (F.STR_GATE_W0_OPER_LEN g) = p.entries.length % 2 ^ (F.STR_GATE_W0_OPER_LEN g).w
        ∧ (∀ k < 64, t.getF (F.STR_GCL_OPER_W0_INTERVAL g k)
            = (p.entries.getD k (0, 0, 0)).1 % 2 ^ (F.STR_GCL_OPER_W0_INTERVAL g k).w)
        ∧ sget (fun _ => 0) t.dp.gateBase (gateKey true g) = p.at40)
    ∧ ∀ (s : State) (i : Nat), i < 8192 → bit (s.entry tStream i) 0 = true → ew (s.entry tStream i) 7 1 2 ≠ 0 →
      (s.rcvOf i).takeAny = false → (s.rcvOf i).lastAt + ew (s.entry tStream i) 7 12 12 * cycMs ≤ s.tb.fab →
      exec (.recoveryReset i) s = .next ((s.setRcv (s.strKey i) { s.rcvOf i with takeAny := true }).tally (T.str i 8))

/-! ### Egress scheduling, links and frame preemption (chapter 7) -/

/-- TX_OPPORTUNITY, EGRESS_FRAME_END, GATE_ENTRY_BOUNDARY, SCH_CHANGE, SCH_SWAP and SHAPER_PARAM_WRITE: an idle port with
no gates sends the head of its only waiting class with its FCS and leaves the rest of the queue; a frame that ends releases
its item; CHANGE copies the list, the swap makes it operational; a changed shaper parameter is clamped and resets the credit
(R44, R179, R180, R185, R187, R188, R191, R195).
Completion (own effect, conditions on state and operands alone): txOpportunity, egressFrameEnd, gateEntryBoundary,
schChange, schSwap, shaperParamWrite. -/
def Obligations.PortsSendAndFollowTheirLists : Prop :=
  (∀ (s : State) (p c sfd : Nat) (sent : Option Nat) (r : QRef) (rs : List QRef) (it : Item), p < 32 → c < 8 →
      s.ethPresent p = true → s.linkUp p = true → s.txOf p = none → s.preemptedOf p = none →
      s.isF (F.SCH_PORT_CFG_GATE_EN p) = false → s.tooLong p c r = false → s.msecTx p = false →
      s.isF (F.SCH_PORT_STAT_HOLD_NOW p) = false → s.queue p c = r :: rs → (∀ d < 8, d ≠ c → s.queue p d = []) →
      s.item r.item = some it → it.complete = true → it.ts.mode = 0 → it.ts.twoStep = false → s.held p c r.elig = false →
      ∃ t, exec (.txOpportunity p sfd sent) s = .next t ∧ t.queue p c = rs
        ∧ t.out = s.out ++ [.frame p c (padTo (max 60 (egressBody it r).length) (egressBody it r)
            ++ fcsOf (padTo (max 60 (egressBody it r).length) (egressBody it r)))]
        ∧ (t.txOf p).map (·.ref) = some r ∧ (t.txOf p).map (·.cls) = some c ∧ Counted s t (T.schClass p c 0)
        ∧ t.regs = s.regs ∧ t.tables = s.tables ∧ t.item r.item = some it)
    ∧ (∀ (s : State) (i sfd : Nat) (r : QRef) (rs : List QRef) (it : Item), i < 2 → s.pairUp i = true →
      s.queue (32 + i) 7 = r :: rs → s.item r.item = some it → it.complete = true → it.refs = 1 →
      ∃ t, exec (.txOpportunity (32 + i) sfd none) s = .next t ∧ t.queue (32 + i) 7 = rs
        ∧ t.out = s.out ++ [.cpuItem (32 + i) 7 it.bytes it.ingress it.t r] ∧ t.item r.item = none ∧ t.regs = s.regs)
    ∧ (∀ (s : State) (p : Nat) (x : EthTx) (it : Item), s.endingOf p = some x → s.item x.ref.item = some it →
      it.refs = 1 → ∃ t, exec (.egressFrameEnd p) s = .next t ∧ t.endingOf p = none ∧ t.txOf p = s.txOf p
        ∧ t.item x.ref.item = none ∧ t.out = s.out ++ [.frameEnd p true] ∧ t.regs = s.regs)
    ∧ (∀ (s : State) (p : Nat) (x : EthTx) (it : Item), s.endingOf p = none → s.txOf p = some x → x.stomped = false →
      s.item x.ref.item = some it → it.complete = true → it.refs = 1 → ∃ t, exec (.egressFrameEnd p) s = .next t ∧ t.txOf p = none
        ∧ t.item x.ref.item = none ∧ t.out = s.out ++ [.frameEnd p true] ∧ t.regs = s.regs
        ∧ t.dp.shUsed = s.dp.shUsed - it.shBeads)
    ∧ (∀ (s : State) (p : Nat), p < 32 → s.ethPresent p = true → s.gatesOn p = true →
      exec (.gateEntryBoundary p) s = .next (s.setF (F.SCH_PORT_STAT_GATES_NOW p) (s.gatesAt p s.tb.clk)))
    ∧ (∀ (s : State) (p : Nat), s.serving = true → p < 32 → s.ethPresent p = true →
      s.isF (F.SCH_PORT_CFG_CHANGE p) = false → ∃ t, exec (.schChange p) s = .next t
        ∧ t.isF (F.SCH_PORT_CFG_CHANGE p) = true
        ∧ (t.pendOf p).map (·.entries.length) = some (min (listMax p) (s.getF (F.SCH_PORT_CFG_ADMIN_LEN p)))
        ∧ (t.pendOf p).map (·.cycle) = some (s.getF (F.SCH_ADMIN_CYCLE_CYCLE p))
        ∧ (t.pendOf p).all (fun g => decide (s.tb.clk + 1000 * 2 ^ 40 ≤ g.at40)) = true
        ∧ t.getF (F.SCH_PORT_STAT_OPER_LEN p) = s.getF (F.SCH_PORT_STAT_OPER_LEN p) ∧ t.dp.gateBase = s.dp.gateBase)
    ∧ (∀ (s : State) (p : Nat), s.serving = true → p < 32 → s.ethPresent p = true →
      s.isF (F.SCH_PORT_CFG_CHANGE p) = true → exec (.schChange p) s = .next (s.tally (T.sch p 0)))
    ∧ (∀ (s : State) (p : Nat) (g : GatePend), p < 32 → s.ethPresent p = true → s.pendOf p = some g →
      g.at40 ≤ s.tb.clk → g.entries.length < 2 ^ 11 → g.cycle < 2 ^ 30 → ∃ t, exec (.schSwap p) s = .next t
        ∧ t.pendOf p = none ∧ t.isF (F.SCH_PORT_CFG_CHANGE p) = false
        ∧ t.getF (F.SCH_PORT_STAT_OPER_LEN p) = g.entries.length ∧ t.getF (F.SCH_OPER_CYCLE_CYCLE p) = g.cycle
        ∧ sget (fun _ => 0) t.dp.gateBase p = g.at40 ∧ Counted s t (T.sch p 1))
    ∧ ∀ (s : State) (v : Nat), s.serving = true → s.ethPresent 2 = true → s.getF (F.SCH_CLASS_W0_SHAPER 2 3) = 1 →
      nearest [(1, 25000000)] (v % 2 ^ 25) ≠ s.getF (F.SCH_CLASS_IDLE_IDLE 2 3) →
      ∃ t, exec (.shaperParamWrite 2 3 1 v) s = .next t
        ∧ t.getF (F.SCH_CLASS_IDLE_IDLE 2 3) = nearest [(1, 25000000)] (v % 2 ^ 25)
        ∧ FieldsKept s t [F.SCH_CLASS_IDLE_IDLE 2 3] ∧ (t.classSt 2 3).credit = 0
        ∧ t.classSt 2 4 = s.classSt 2 4 ∧ t.dp.queues = s.dp.queues

/-- LINK_DOWN, LINK_UP, VERIFY_RESPONSE, VERIFY_TIMEOUT, VERIFY_MPACKET_RECEIVED and MAC_MERGE_HOLD: what the link and the
verification of frame preemption leave in the port's status, and the hold before a boundary with OP 1 (R182, R197 to R199).
Completion (own effect, conditions on state and operands alone): linkDown, linkUp, verifyResponse, verifyTimeout,
verifyMpacketReceived, macMergeHold. -/
def Obligations.LinksAndPreemptionFollowTheirEvents : Prop :=
  (∀ (s : State) (p : Nat), p < 32 → s.ethPresent p = true → s.isF F.RNG_STAT_EPLEN_EN = false →
      ∃ t, exec (.linkDown p) s = .next t ∧ t.isF (F.PRT_MAC_STAT_LINK p) = false
        ∧ t.isF (F.PRT_MAC_STAT_AN_DONE p) = false ∧ (∀ c < 8, (t.classSt p c).credit = 0)
        ∧ (p < 16 → t.getF (F.SCH_FP_STAT_VERIFY_STATUS p) = 0)
        ∧ (∀ q < 32, q ≠ p → t.linkUp q = s.linkUp q) ∧ t.dp.queues = s.dp.queues)
    ∧ (∀ (s : State) (p : Nat), p < 16 → s.ethPresent p = true → s.linkUp p = false → s.portHeld p = false →
      s.getF (F.PRT_MAC_CFG_MODE p) ≠ 0 → s.getF (F.PRT_MAC_CFG_MODE p) < 2 ^ (F.PRT_MAC_STAT_MODE_NOW p).w →
      s.getF F.PWR_MODE_MODE < 2 → s.isF (F.SCH_FP_CFG_VERIFY_DIS p) = false →
      ∃ t, exec (.linkUp p) s = .next t ∧ t.linkUp p = true
        ∧ t.getF (F.PRT_MAC_STAT_MODE_NOW p) = s.getF (F.PRT_MAC_CFG_MODE p)
        ∧ t.getF (F.SCH_FP_STAT_VERIFY_STATUS p) = 2 ∧ t.out = s.out ++ [.mPacket p 0])
    ∧ (∀ (s : State) (p : Nat), p < 16 → s.ethPresent p = true → s.linkUp p = true →
      s.getF (F.SCH_FP_STAT_VERIFY_STATUS p) = 2 → ∃ t, exec (.verifyResponse p) s = .next t
        ∧ OnlyFields s t [F.SCH_FP_STAT_VERIFY_STATUS p, F.SCH_FP_STAT_ACTIVE p]
        ∧ t.getF (F.SCH_FP_STAT_VERIFY_STATUS p) = 3
        ∧ t.isF (F.SCH_FP_STAT_ACTIVE p) = s.isF (F.SCH_FP_CFG_FP_EN p))
    ∧ (∀ (s : State) (p n : Nat), p < 16 → s.ethPresent p = true → s.getF (F.SCH_FP_STAT_VERIFY_STATUS p) = 2 →
      sget (fun _ => 0) s.dp.verifyTry p = n → n < 3 →
      exec (.verifyTimeout p) s = .next ((s.setTries p (n + 1)).emit (.mPacket p 0)))
    ∧ (∀ (s : State) (p : Nat), p < 16 → s.ethPresent p = true → s.getF (F.SCH_FP_STAT_VERIFY_STATUS p) = 2 →
      sget (fun _ => 0) s.dp.verifyTry p = 3 → ∃ t, exec (.verifyTimeout p) s = .next t
        ∧ t.getF (F.SCH_FP_STAT_VERIFY_STATUS p) = 4 ∧ Counted s t (T.sch p 8) ∧ t.out = s.out)
    ∧ (∀ (s : State) (p : Nat), p < 16 → s.ethPresent p = true → s.linkUp p = true →
      s.isF (F.SCH_FP_CFG_FP_EN p) = true → exec (.verifyMpacketReceived p) s = .next (s.emit (.mPacket p 1)))
    ∧ ∀ (s : State) (p k int g : Nat), p < 16 → s.ethPresent p = true → s.fpActive p = true → s.gatesOn p = true →
      (s.schList p)[k]? = some (int, g, 1) → s.pendOf p = none → s.isF (F.SCH_PORT_STAT_HOLD_NOW p) = false →
      entryStart (s.schList p) k < ns40 (s.getF (F.SCH_OPER_CYCLE_CYCLE p)) →
      (cyclePos s.tb.clk (sget (fun _ => 0) s.dp.gateBase p) (ns40 (s.getF (F.SCH_OPER_CYCLE_CYCLE p)))
          + ns40 (s.getF (F.SCH_FP_TIME_HOLD_ADV p)) + ns40 (s.getF (F.SCH_OPER_CYCLE_CYCLE p))
          - entryStart (s.schList p) k) % ns40 (s.getF (F.SCH_OPER_CYCLE_CYCLE p))
        < ns40 (s.getF (F.SCH_FP_TIME_HOLD_ADV p)) + ns40 int →
      exec (.macMergeHold p k) s = .next ((s.setB (F.SCH_PORT_STAT_HOLD_NOW p) true).tally (T.sch p 4))

/-! ### Rods and the ACF engines (chapters 2 and 3) -/

/-- A rod command while BUSY is 1 (R53): discarded; STATUS and LAST_OP keep the running command, BUSY_HIT is set, the rod's
BUSY tally goes up and nothing else changes. -/
def Obligations.RodCommandWhileBusyIsDiscarded : Prop :=
  ∀ (s : State) (n arg : Nat) (rx : Bool) (c : Instr), n < 128 → s.serving = true → s.rodPresent n = true →
    s.isF (F.ROD_CMD_STAT_BUSY n) = true →
    c ∈ [.rodNop n, .setMode n arg, .start n, .stop n rx, .recover n, .flush n arg, .rodStandby n, .rodWake n] →
    exec c s = .next ((s.setB (F.ROD_CMD_STAT_BUSY_HIT n) true).tally (T.rodBusy n))

/-- ROD_NOP, SET_MODE, START, STOP, RECOVER, FLUSH, ROD_STANDBY and ROD_WAKE of a rod that takes commands: the state each
leaves and its status, and the STATE_REJECT of a command outside its states (R52, R54, R56, R78, Table 2.8).
Completion (own effect, conditions on state and operands alone): rodNop, setMode, start, stop, recover, flush,
rodStandby, rodWake. -/
def Obligations.RodCommandsMoveTheRod : Prop :=
  (∀ (s : State) (n : Nat), s.RodTakes n → 1 ≤ s.rodState n → s.rodState n ≤ 8 →
      exec (.rodNop n) s = .next ((s.setF (F.ROD_CMD_STAT_LAST_OP n) 0).setF (F.ROD_CMD_STAT_STATUS n) 0))
    ∧ (∀ (s : State) (n arg : Nat), s.RodTakes n → s.rodState n = 1 → ∃ t, exec (.setMode n arg) s = .next t
        ∧ OnlyFields s t [F.ROD_CMD_STAT_LAST_OP n, F.ROD_STAT_MODE n, F.ROD_CMD_STAT_STATUS n]
        ∧ t.rodMode n = min 4 (arg % 16) ∧ t.getF (F.ROD_CMD_STAT_STATUS n) = 0)
    ∧ (∀ (s : State) (n arg : Nat), s.RodTakes n → s.rodState n = 3 → ∃ t, exec (.setMode n arg) s = .next t
        ∧ OnlyFields { s with tly := t.tly } t [F.ROD_CMD_STAT_LAST_OP n, F.ROD_CMD_STAT_STATUS n]
        ∧ t.getF (F.ROD_CMD_STAT_STATUS n) = 4 ∧ Counted s t (T.rodStateReject n))
    ∧ (∀ (s : State) (n : Nat), s.RodTakes n → s.rodState n = 1 → s.rodMode n ≤ 2 → s.isF (F.ROD_CTL_PWM_EN n) = false →
      ∃ t, exec (.start n) s = .next t ∧ t.rodState n = 2 ∧ t.getF (F.ROD_CMD_STAT_STATUS n) = 0
        ∧ ((t.rod n).latch).isSome = true ∧ (t.rod n).stb = false ∧ (t.rod n).en = true
        ∧ t.getF (F.ROD_NBT_BRP n) = clampBrp (s.getF (F.ROD_NBT_BRP n))
            (1 + s.getF (F.ROD_NBT_TSEG1 n) + s.getF (F.ROD_NBT_TSEG2 n)) 160 % 2 ^ 8)
    ∧ (∀ (s : State) (n : Nat), s.RodTakes n → s.rodState n = 3 → (s.rod n).tx = none → (s.rod n).linWait = none →
      ∃ t, exec (.stop n false) s = .next t ∧ t.rodState n = 1 ∧ t.getF (F.ROD_CMD_STAT_STATUS n) = 0
        ∧ (∀ q < 9, t.queue (64 + n) q = []) ∧ ∀ p < 36, ∀ q < 8, t.queue p q = s.queue p q)
    ∧ (∀ (s : State) (n : Nat), s.RodTakes n → s.rodState n = 3 → ∃ t, exec (.stop n true) s = .next t
        ∧ t.rodState n = 6 ∧ t.isF (F.ROD_CMD_STAT_BUSY n) = true ∧ t.getF (F.ROD_CMD_STAT_STATUS n) = 0)
    ∧ (∀ (s : State) (n : Nat), s.RodTakes n → s.rodState n = 4 → ∃ t, exec (.recover n) s = .next t
        ∧ OnlyFields { s with rods := t.rods } t
            [F.ROD_CMD_STAT_LAST_OP n, F.ROD_STAT_STATE n, F.ROD_CMD_STAT_STATUS n]
        ∧ t.rodState n = 5 ∧ t.getF (F.ROD_CMD_STAT_STATUS n) = 0)
    ∧ (∀ (s : State) (n a : Nat), s.RodTakes n → 1 ≤ s.rodState n → s.rodState n ≤ 8 → a < 9 → (s.rod n).tx = none →
      ∃ t, exec (.flush n a) s = .next t ∧ t.queue (64 + n) a = [] ∧ t.rodState n = s.rodState n
        ∧ (∀ q < 9, q ≠ a → t.queue (64 + n) q = s.queue (64 + n) q) ∧ t.getF (F.ROD_CMD_STAT_STATUS n) = 0)
    ∧ (∀ (s : State) (n : Nat), s.RodTakes n → s.rodState n = 1 → ∃ t, exec (.rodStandby n) s = .next t
        ∧ t.rodState n = 7 ∧ (t.rod n).stb = true ∧ (t.rod n).en = false ∧ t.getF (F.ROD_CMD_STAT_STATUS n) = 0)
    ∧ ∀ (s : State) (n : Nat), s.RodTakes n → s.rodState n = 7 → ∃ t, exec (.rodWake n) s = .next t
        ∧ t.rodState n = 1 ∧ (t.rod n).stb = false ∧ t.getF (F.ROD_CMD_STAT_STATUS n) = 0

/-- STOPPING_END, ROD_RESET, ROD_RESET_COMPLETE, INTEGRATION_COMPLETE, RECOVERY_COMPLETE, ROD_XCVR_WRITE, LIN_SLEEP_ENTRY and
LIN_WAKE: the transitions of a rod that its bus, its reset and its pins cause (R60, R61, R63, R76, R83, Table 2.8).
Completion (own effect, conditions on state and operands alone): stoppingEnd, rodReset, rodResetComplete,
integrationComplete, recoveryComplete, rodXcvrWrite, linSleepEntry, linWake. -/
def Obligations.RodsFollowTheirBusAndReset : Prop :=
  (∀ (s : State) (n : Nat), n < 128 → s.rodPresent n = true → s.rodState n = 6 → (s.rod n).tx = none →
      s.pwr.leanRods = [] → ∃ t, exec (.stoppingEnd n) s = .next t ∧ t.rodState n = 1
        ∧ t.isF (F.ROD_CMD_STAT_BUSY n) = false
        ∧ OnlyFields { s with rods := t.rods } t [F.ROD_STAT_STATE n, F.ROD_CMD_STAT_BUSY n])
    ∧ (∀ (s : State) (n : Nat), n < 128 → s.serving = true → s.rodPresent n = true →
      ∃ t, exec (.rodReset n) s = .next t ∧ t.rodState n = 1 ∧ t.isF (F.ROD_CMD_STAT_BUSY n) = true
        ∧ (t.rod n).resetting = true ∧ (t.rod n).tec = 0 ∧ (t.rod n).tx = none
        ∧ (∀ q < 9, t.queue (64 + n) q = []) ∧ (t.rod n).stb = (s.rod n).stb)
    ∧ (∀ (s : State) (n : Nat), n < 128 → s.rodPresent n = true → (s.rod n).resetting = true →
      s.isF (F.ROD_CTL_AUTOSTART n) = false → ∃ t, exec (.rodResetComplete n) s = .next t
        ∧ t.rodState n = 1 ∧ t.isF (F.ROD_CMD_STAT_BUSY n) = false ∧ (t.rod n).resetting = false
        ∧ (t.rod n).stb = false ∧ (t.rod n).en = true)
    ∧ (∀ (s : State) (n : Nat), n < 128 → s.rodPresent n = true → s.rodState n = 2 → (s.rod n).released = none →
      ∃ t, exec (.integrationComplete n) s = .next t ∧ t.rodState n = 3
        ∧ OnlyFields { s with rods := t.rods } t [F.ROD_STAT_STATE n])
    ∧ (∀ (s : State) (n : Nat), n < 128 → s.rodPresent n = true → s.rodState n = 5 →
      ∃ t, exec (.recoveryComplete n) s = .next t ∧ t.rodState n = 3 ∧ (t.rod n).tec = 0
        ∧ t.getF (F.ROD_ERR_TEC n) = 0 ∧ t.getF (F.ROD_ERR_REC n) = 0 ∧ bit (t.getF (F.ROD_EVT_FLAGS n)) 3 = true
        ∧ t.isF (F.ROD_STAT_ERR_PASSIVE n) = false)
    ∧ (∀ s : State, s.serving = true → s.rodPresent 5 = true → s.pinClaims = [] →
      ∃ t, exec (.rodXcvrWrite 5 (9 + 12 * 2 ^ 8)) s = .next t ∧ t.getF (F.ROD_XCVR_STB_PIN 5) = 9
        ∧ t.getF (F.ROD_XCVR_EN_PIN 5) = 12 ∧ t.getF (F.GLB_GPIO_CFG_OWNER 9) = 5
        ∧ t.getF (F.GLB_GPIO_CFG_OWNER 12) = 5 ∧ t.getF (F.GLB_GPIO_CFG_OWNER 10) = 0xFF)
    ∧ (∀ (s : State) (n : Nat), n < 128 → s.rodPresent n = true → s.isLin n = true → s.rodState n = 3 →
      ∃ t, exec (.linSleepEntry n) s = .next t ∧ t.rodState n = 8 ∧ (t.rod n).stb = true
        ∧ OnlyFields { s with rods := t.rods } t [F.ROD_STAT_STATE n])
    ∧ ∀ (s : State) (n : Nat), n < 128 → s.rodPresent n = true → s.isLin n = true → s.rodState n = 8 →
      ∃ t, exec (.linWake n) s = .next t ∧ t.rodState n = 3 ∧ (t.rod n).stb = false
        ∧ bit (t.getF (F.ROD_EVT_FLAGS n)) 7 = true

/-- ROD_FRAME_RX, ROD_BUS_ERROR, ARBITRATION_LOSS, ROD_TX_COMPLETE and ROD_TEST_FRAME: a received frame that the tables
hold becomes a rod record in the header stream; a bus error sets its code and moves the counters; an item that loses
arbitration stays queued; a completed one leaves its queue and is released (R63, R74, R77, R78, R407).
Completion (own effect, conditions on state and operands alone): rodFrameRx, rodBusError, arbitrationLoss,
rodTxComplete, rodTestFrame. -/
def Obligations.RodsReceiveAndEndTheirFrames : Prop :=
  (∀ (s : State) (n ago : Nat) (f : CanFrame) (rec : List Byte) (key : Nat), n < 128 → s.rodPresent n = true →
      s.receives = true → s.rodState n = 3 → (s.rod n).tx = none → s.looped n = false → Sys2Proof.Machine.CanFrame.sound f = true →
      s.isLin n = false → (modeFormats (s.rodMode n)).contains f.fmt = true → f.fmt ≠ 4 →
      s.isF (F.TST_ROD_CFG_CHK_EN n) = false → s.dp.poison = [] → s.getF (F.ROD_ERR_REC n) < 96 → (s.rod n).tec < 96 →
      s.rodRecord n f false = some (some (rec, key)) → (s.claim (64 + n) (beadsOf rec.length)).isSome = true →
      s.anyPlane = true → s.dp.held = false →
      ∃ t, exec (.rodFrameRx n f ago) s = .next t ∧ (t.item s.dp.nextItem).map (·.bytes) = some rec
        ∧ (t.item s.dp.nextItem).map (·.ingress) = some (64 + n) ∧ (t.item s.dp.nextItem).map (·.isRod) = some true
        ∧ t.dp.stream.map (·.item) = s.dp.stream.map (·.item) ++ [s.dp.nextItem] ∧ Counted s t (T.rodRxOk n)
        ∧ t.getF (F.ROD_ERR_REC n) = s.getF (F.ROD_ERR_REC n) - 1 ∧ t.rodState n = 3)
    ∧ (∀ (s : State) (n code : Nat), n < 128 → s.rodPresent n = true → s.rodState n = 3 → s.isLin n = false →
      (s.rod n).tx = none → 1 ≤ code → code ≤ 6 → s.isF (F.ROD_CTL_LISTEN_ONLY n) = false →
      s.getF (F.ROD_ERR_REC n) < 95 → (s.rod n).tec < 96 → ∃ t, exec (.rodBusError n code false false none) s = .next t
        ∧ t.getF (F.ROD_ERR_LEC n) = code ∧ t.getF (F.ROD_ERR_REC n) = s.getF (F.ROD_ERR_REC n) + 1
        ∧ (t.rod n).tec = (s.rod n).tec ∧ Counted s t (T.rodErr n code) ∧ t.out = s.out ++ [.rodErrorFlag n]
        ∧ t.rodState n = 3 ∧ t.dp = s.dp)
    ∧ (∀ (s : State) (n winId bitpos : Nat) (winIde : Bool) (x : RodTx), n < 128 → (s.rod n).tx = some x → x.q < 8 →
      x.final = false → s.rodPresent n = true → ∃ t, exec (.arbitrationLoss n winId winIde bitpos) s = .next t
        ∧ (t.rod n).tx = none ∧ Counted s t (T.rodArbLoss n) ∧ t.dp = s.dp
        ∧ FieldsKept s t [])
    ∧ (∀ (s : State) (n tdc : Nat) (x : RodTx) (rest : List QRef) (it : Item), n < 128 → s.rodPresent n = true →
      (s.rod n).tx = some x → x.q < 8 → (recHdr x.record).fmt = 0 → s.isLin n = false → s.queue (64 + n) x.q = x.ref :: rest →
      s.item x.ref.item = some it → it.refs = 1 → ∃ t, exec (.rodTxComplete n tdc) s = .next t
        ∧ (t.rod n).tx = none ∧ t.queue (64 + n) x.q = rest ∧ t.item x.ref.item = none ∧ Counted s t (T.rodTxOk n)
        ∧ (t.rod n).tec = (s.rod n).tec - 1)
    ∧ ∀ (s : State) (n : Nat), n < 128 → s.rodPresent n = true → s.rodState n = 3 →
      s.isF (F.TST_ROD_CFG_GEN_EN n) = true → (∀ q < 9, s.queue (64 + n) q = []) → (s.rod n).tx = none →
      s.rodMode n = 2 → s.getF (F.TST_ROD_CFG_FMT n) = 0 → s.isF (F.ROD_CTL_LISTEN_ONLY n) = false →
      s.looped n = false → s.wakeWait n = false → s.gapOver n = true → ∃ t, exec (.rodTestFrame n) s = .next t
        ∧ (t.rod n).testSeq = ((s.rod n).testSeq + 1) % 256 ∧ ((t.rod n).tx).map (·.q) = some 9
        ∧ t.out.length = s.out.length + 1 ∧ t.dp = s.dp

/-- ROD_TX_SELECT, LAUNCH_INSTANT, LAUNCH_LATE, LIN_SLOT_START, LIN_SCHEDULE_RESTART, LIN_WAKE_RETRY, LIN_NO_RESP and
LIN_HEADER_RECEIVED: what a rod starts at a start-of-frame opportunity, at a launch time and in a LIN slot, and what it drops
or expects (R67 to R73, R76).
Completion (own effect, conditions on state and operands alone): rodTxSelect, launchInstant, launchLate,
linSlotStart, linScheduleRestart, linWakeRetry, linNoResp, linHeaderReceived. -/
def Obligations.RodsStartWhatIsDue : Prop :=
  (∀ (s : State) (n q : Nat) (r : QRef) (rs : List QRef) (it : Item) (rec : List Byte), n < 128 → q < 8 →
      s.mayStart n = true → s.isLin n = false → s.looped n = false → s.queue (64 + n) 8 = [] →
      (∀ k < 8, q < k → s.queue (64 + n) k = []) → s.queue (64 + n) q = r :: rs → s.held (64 + n) q r.elig = false →
      s.item r.item = some it → s.txRecord n it r = .ok rec → s.getF (F.SCH_RODQ_W0_SHAPER n q) = 0 →
      ∃ t, exec (.rodTxSelect n) s = .next t ∧ ((t.rod n).tx).map (·.q) = some q
        ∧ ((t.rod n).tx).map (·.record) = some rec ∧ ((t.rod n).tx).map (·.ref.attempts) = some (r.attempts + 1)
        ∧ t.out = s.out ++ [.rodTx n rec] ∧ t.item r.item = some it)
    ∧ (∀ (s : State) (n : Nat) (r : QRef) (it : Item) (rec : List Byte), n < 128 → s.mayStart n = true →
      s.isLin n = false → s.looped n = false → s.queue (64 + n) 8 = [r] → dueAt r.launch s.now32 = true →
      s.launchLate n r = false → s.item r.item = some it → s.txRecord n it r = .ok rec →
      ∃ t, exec (.launchInstant n true) s = .next t ∧ ((t.rod n).tx).map (·.q) = some 8
        ∧ ((t.rod n).tx).map (·.record) = some rec ∧ t.out = s.out ++ [.rodTx n rec])
    ∧ (∀ (s : State) (n : Nat) (r : QRef) (it : Item), n < 128 → s.rodPresent n = true → s.queue (64 + n) 8 = [r] →
      s.launchLate n r = true → s.onBus n 8 = none → s.item r.item = some it → it.refs = 1 →
      ∃ t, exec (.launchLate n) s = .next t ∧ t.queue (64 + n) 8 = [] ∧ t.item r.item = none
        ∧ Counted s t (T.rodLaunchLate n) ∧ bit (t.getF (F.ROD_EVT_FLAGS n)) 5 = true)
    ∧ (∀ (s : State) (n k : Nat), n < 128 → s.mayStart n = true → s.rodMode n = 3 → s.inSlot n = false →
      s.queue (64 + n) 8 = [] → (s.rod n).linSlot = k → k < 255 → bit (s.slotEntry n k) 0 = true →
      bit (s.slotEntry n k) 7 = false → ∃ t, exec (.linSlotStart n) s = .next t
        ∧ t.out = s.out ++ [.linHeader n (bits (s.slotEntry n k) 1 6)] ∧ (t.rod n).linSlot = k + 1
        ∧ ((t.rod n).linWait).map (·.1) = some (bits (s.slotEntry n k) 1 6)
        ∧ ((t.rod n).linWait).map (·.2.1) = some (bits (s.slotEntry n k) 25 3 + 1) ∧ t.regs = s.regs ∧ t.dp = s.dp)
    ∧ (∀ (s : State) (n : Nat), n < 128 → s.rodPresent n = true → s.rodMode n = 3 → 0 < (s.rod n).wakePulses →
      exec (.linScheduleRestart n) s = .next
        (s.setRod n { s.rod n with linSlot := 0, linEnd := none, wakePulses := 0 }))
    ∧ (∀ (s : State) (n : Nat), n < 128 → s.rodPresent n = true → s.rodMode n = 4 → 0 < (s.rod n).wakePulses →
      (s.rod n).wakePulses < 3 → s.rodState n = 8 → s.isF (F.ROD_CTL_LISTEN_ONLY n) = false → exec (.linWakeRetry n) s = .next
        ((s.setRod n { s.rod n with wakePulses := (s.rod n).wakePulses + 1 }).emit (.linWake n)))
    ∧ (∀ (s : State) (n : Nat) (w : Nat × Nat × Bool), n < 128 → s.rodPresent n = true → s.rodMode n = 3 →
      (s.rod n).linWait = some w → ∃ t, exec (.linNoResp n) s = .next t ∧ (t.rod n).linWait = none
        ∧ t.getF (F.ROD_ERR_LEC n) = 8 ∧ Counted s t (T.rodErr n 8) ∧ bit (t.getF (F.ROD_EVT_FLAGS n)) 8 = true)
    ∧ ∀ (s : State) (n fid sync : Nat) (h : RodHit), n < 128 → s.syncOk n sync = true → fid < 0x3C → s.rodPresent n = true → s.rodMode n = 4 →
      s.rodState n = 3 → (s.rod n).tx = none → (∀ q < 8, s.queue (64 + n) q = []) → s.rodLookup n 5 fid = some h →
      ∃ t, exec (.linHeaderReceived n fid 0 sync) s = .next t ∧ (t.rod n).wakePulses = 0 ∧ (t.rod n).linSync = some sync
        ∧ (t.rod n).linWait = some (fid, bits h.word 60 3 + 1, bit h.word 59) ∧ t.regs = s.regs ∧ t.dp = s.dp

/-- ACF_APPEND, ACF_HOLD_EXPIRY, CRY_EMIT and ACF_SPLIT: a converted message joins the open batch of its talker context; a
batch whose hold time has passed, or that software asks for, leaves as one frame and the talker's sequence number counts on;
the splitter takes its oldest item and releases it (R97 to R101).
Completion (own effect, conditions on state and operands alone): acfAppend, acfHoldExpiry, cryEmit, acfSplit. -/
def Obligations.AcfEnginesBatchAndSplit : Prop :=
  (∀ (s : State) (m : AcfMsg) (rest : List AcfMsg) (it : Item) (rec : List Byte), s.dp.acfQ = m :: rest → m.ctx < 256 →
      s.item m.item = some it → it.complete = true → it.refs = 1 → ew (s.entry tTalker m.ctx) 0 63 1 = 1 →
      convert it.bytes (m.target % 2 ^ 64) (m.target / 2 ^ 64) true false = .ok rec → s.batchOf m.ctx = none →
      (acfMessage rec (m.target / 2 ^ 64) (s.getF F.CRY_CFG_XL_GPC_TAG) (ew (s.entry tTalker m.ctx) 1 63 1 == 1)
        (it.t / 2 ^ 40 % 2 ^ 64)).length ≤ batchCap (s.entry tTalker m.ctx) →
      s.dp.shUsed + 64 ≤ s.sharedPool → bit (m.target % 2 ^ 64) 22 = false → 2 ≤ ew (s.entry tTalker m.ctx) 3 16 8 →
      ew (s.entry tTalker m.ctx) 3 0 16 ≠ 0 →
      ∃ t, exec .acfAppend s = .next t ∧ t.dp.acfQ = rest ∧ t.item m.item = none
        ∧ (t.batchOf m.ctx).map (·.count) = some 1 ∧ (t.batchOf m.ctx).map (·.firstTs) = some (t32 it.t)
        ∧ (t.batchOf m.ctx).map (·.openAt) = some s.tb.fab ∧ Counted s t (T.cryTalk m.ctx 0) ∧ t.regs = s.regs)
    ∧ (∀ (s : State) (c : Nat) (b : Batch), c < 256 → s.batchOf c = some b →
      b.openAt + 800 * ew (s.entry tTalker c) 3 0 16 ≤ s.tb.fab → s.anyPlane = true → s.dp.held = false →
      ∃ t, exec (.acfHoldExpiry c) s = .next t ∧ t.batchOf c = none
        ∧ sget (fun _ => 0) t.dp.talkSeq c = (sget (fun _ => 0) s.dp.talkSeq c + 1) % 256
        ∧ (t.item s.dp.nextItem).map (·.bytes) = some (avtpFrame (s.entry tTalker c) (sget (fun _ => 0) s.dp.talkSeq c)
            ((b.firstTs + ew (s.entry tTalker c) 3 32 31) % 2 ^ 32) b.msgs.flatten)
        ∧ t.dp.stream.map (·.item) = s.dp.stream.map (·.item) ++ [s.dp.nextItem] ∧ Counted s t (T.cryTalk c 1))
    ∧ (∀ (s : State) (c : Nat) (b : Batch), c < 256 → s.serving = true → s.batchOf c = some b → s.anyPlane = true →
      s.dp.held = false → ∃ t, exec (.cryEmit c) s = .next t ∧ t.batchOf c = none
        ∧ sget (fun _ => 0) t.dp.talkSeq c = (sget (fun _ => 0) s.dp.talkSeq c + 1) % 256
        ∧ t.dp.stream.map (·.item) = s.dp.stream.map (·.item) ++ [s.dp.nextItem] ∧ Counted s t (T.cryTalk c 1))
    ∧ (∀ (s : State) (c : Nat), c < 256 → s.serving = true → s.batchOf c = none → exec (.cryEmit c) s = .next s)
    ∧ (∀ (s : State) (i c : Nat) (rest : List (Nat × Nat)) (it : Item), s.dp.splitQ = (i, c) :: rest →
      s.item i = some it → it.complete = true → it.bad = true →
      exec .acfSplit s = .next (({ s with dp := { s.dp with splitQ := rest } }).release i))
    ∧ ∀ (s : State) (i c : Nat) (rest : List (Nat × Nat)) (it : Item), s.dp.splitQ = (i, c) :: rest →
      s.item i = some it → it.complete = true → it.bad = false → s.entry tListener c = 0 → it.refs = 1 → c < 256 →
      ∃ t, exec .acfSplit s = .next t ∧ t.dp.splitQ = rest ∧ t.item i = none ∧ Counted s t (T.cryListen c 0)
        ∧ t.dp.stream = s.dp.stream

/-! ### The key store (chapter 10) -/

/-- GENERATE, DERIVE and IMPORT_WRAPPED into a FREE slot that is named (R262, R264, R267, R268): the slot's key, type, level,
parent and generation; every slot but it and the parent is kept, and an unwrap that fails changes none.
Completion (own effect, conditions on state and operands alone): generate, deriveKey, importWrapped. -/
def Obligations.KeyCommandsCreateSlots : Prop :=
  (∀ (s : State) (r i : Nat), s.KeyTakes r → (s.keyArgs r).1 = i → i < 1023 → s.slotThere i = true → (s.slot i).state = 0 →
      s.source r ((s.keyArgs r).2) none true = none → s.isF F.KEY_STORE_STAT_DRBG_FAIL = false →
      (s.parentOf ((s.keyArgs r).2)).level < 4 → ∃ t, exec (.generate r) s = .next t ∧ KeyEnded s t r 1 0
        ∧ (t.slot i).state = 1
        ∧ (t.slot i).key = (Config.drbg s.key.drawn).toNat % 2 ^ keyBits (min 2 (s.getF (reqF r F.KEY_ATTR_TYPE)))
        ∧ (t.slot i).parent = (s.keyArgs r).2 ∧ (t.slot i).pgen = (s.parentOf ((s.keyArgs r).2)).gen
        ∧ (t.slot i).level = (s.parentOf ((s.keyArgs r).2)).level + 1 ∧ (t.slot i).gen = (s.slot i).gen
        ∧ (t.slot i).uses = s.getF (reqF r F.KEY_USES_USES) ∧ t.getF (reqF r F.KEY_RESULT_SLOT) = i
        ∧ (∀ j, j ≠ i → t.slot j = s.slot j) ∧ t.key.drawn = s.key.drawn + 1)
    ∧ (∀ (s : State) (r i a : Nat), s.KeyTakes r → (s.keyArgs r).1 = i → i < 1023 → s.slotThere i = true →
      (s.slot i).state = 0 → (s.keyArgs r).2 = a → a ≠ 1023 → s.source r a (some 0) true = none →
      (s.slot a).level < 4 → (s.slot a).uses ≠ 0xFFFFFF → (s.keyIn r).length = 4 → byteAt (s.keyIn r) 0 = 1 →
      ∃ t, exec (.deriveKey r) s = .next t ∧ KeyEnded s t r 2 0 ∧ (t.slot i).state = 1
        ∧ (t.slot i).key = kdf ((s.slot a).ty == 2) (s.slot a).key (keyBits (s.getF (reqF r F.KEY_ATTR_TYPE)))
            [(s.keyIn r).getD 1 0] [(s.keyIn r).getD 2 0, (s.keyIn r).getD 3 0]
            % 2 ^ keyBits (min 2 (s.getF (reqF r F.KEY_ATTR_TYPE)))
        ∧ (t.slot i).level = (s.slot a).level + 1 ∧ (t.slot a).uses = (s.slot a).uses - 1
        ∧ (t.slot i).usage &&& (s.slot a).usage = (t.slot i).usage ∧ (t.slot i).perm &&& (s.slot a).perm = (t.slot i).perm
        ∧ ∀ j, j ≠ i → j ≠ a → t.slot j = s.slot j)
    ∧ ∀ (s : State) (r i a : Nat), s.KeyTakes r → (s.keyArgs r).1 = i → i < 1023 → s.slotThere i = true →
      (s.slot i).state = 0 → (s.keyArgs r).2 = a → s.source r a (some 1) false = none →
      (s.slot a).level < 4 → (s.keyIn r).length = keyBits (s.getF (reqF r F.KEY_ATTR_TYPE)) / 8 + 8 →
      ∃ t, exec (.importWrapped r) s = .next t ∧ (∀ j, j ≠ i → j ≠ a → t.slot j = s.slot j)
        ∧ (keyUnwrap (s.slot a).key (keyBits (s.slot a).ty)
              (keyBits (s.getF (reqF r F.KEY_ATTR_TYPE)) / 64) (s.keyIn r) = none →
            KeyEnded s t r 3 6 ∧ t.slot i = s.slot i ∧ t.slot a = s.slot a)
        ∧ ∀ p, keyUnwrap (s.slot a).key (keyBits (s.slot a).ty)
              (keyBits (s.getF (reqF r F.KEY_ATTR_TYPE)) / 64) (s.keyIn r) = some p → KeyEnded s t r 3 0
            ∧ (t.slot i).state = 1 ∧ (t.slot i).level = (s.slot a).level + 1 ∧ (t.slot i).parent = a
            ∧ t.getF (reqF r F.KEY_RESULT_SLOT) = i
            ∧ (t.slot i).key = beNat p
                % 2 ^ keyBits (min 2 (s.getF (reqF r F.KEY_ATTR_TYPE)))

/-- EXPORT_WRAPPED, MAC, BIND_SA, BIND_IMAGE, INVALIDATE and INFO of a slot that passes the checks (R260, R261, R264, R273,
R338): what each answers, the use that it consumes, and the SA, image key or generation that it changes. What EXPORT_WRAPPED
wraps, the unwrapping of IMPORT_WRAPPED gives back (R268).
Completion (own effect, conditions on state and operands alone): exportWrapped, keyMac, bindSa, bindImage,
invalidate, info. -/
def Obligations.KeyCommandsUseSlots : Prop :=
  (∀ (s : State) (r i a : Nat), s.KeyTakes r → (s.keyArgs r).1 = i → (s.keyArgs r).2 = a → i ≠ a →
      s.source r i (some 2) false = none → s.source r a (some 1) false = none → (s.slot i).uses ≠ 0xFFFFFF →
      (s.slot a).uses = 0xFFFFFF → ∃ t, exec (.exportWrapped r) s = .next t ∧ KeyEnded s t r 4 0
        ∧ KeyOutIs t r (keyWrap (s.slot a).key (keyBits (s.slot a).ty) (keyBits (s.slot i).ty / 64)
            (beBytes (keyBits (s.slot i).ty / 8) (s.slot i).key))
        ∧ (t.slot i).uses = (s.slot i).uses - 1 ∧ ∀ j, j ≠ i → t.slot j = s.slot j)
    ∧ (∀ (s : State) (r i : Nat), s.KeyTakes r → (s.keyArgs r).1 = i → s.source r i (some 3) false = none →
      (s.slot i).ty ≠ 2 → (s.slot i).uses = 0xFFFFFF → ∃ t, exec (.keyMac r 0) s = .next t ∧ KeyEnded s t r 5 0
        ∧ KeyOutIs t r (beBytes 16 (Config.cmac (s.slot i).key (keyBits (s.slot i).ty) (s.keyIn r)).toNat)
        ∧ t.key = s.key)
    ∧ (∀ (s : State) (r i : Nat), s.KeyTakes r → (s.keyArgs r).1 = i → s.source r i (some 3) false = none →
      (s.slot i).ty = 2 → (s.slot i).uses ≠ 0xFFFFFF → ∃ t, exec (.keyMac r 1) s = .next t ∧ KeyEnded s t r 5 0
        ∧ KeyOutIs t r (beBytes 32 (Config.hmac (s.slot i).key (s.keyIn r)).toNat)
        ∧ (t.slot i).uses = (s.slot i).uses - 1)
    ∧ (∀ (s : State) (r i a : Nat), s.KeyTakes r → s.keyArgs r = (i, a) → i < 1023 → s.source r i (some 4) false = none →
      s.entryThere tSa a = true → bit (s.entry tSa a) 0 = true → bit (s.entry tSa a) 1 = false →
      (s.slot i).ty ≠ 2 → keyBits (s.slot i).ty = (if ew (s.entry tSa a) 0 2 1 = 0 then 128 else 256) →
      ∃ t, exec (.bindSa r) s = .next t ∧ KeyEnded s t r 6 0 ∧ bit (t.entry tSa a) 1 = true
        ∧ ew (t.entry tSa a) 0 4 10 = i ∧ sget (fun _ => 0) t.dp.saKey a = (s.slot i).key
        ∧ EntriesKept s t (tkey tSa a))
    ∧ (∀ (s : State) (r i : Nat), s.KeyTakes r → (s.keyArgs r).1 = i → s.source r i (some 5) false = none →
      (s.slot i).uses = 0xFFFFFF → ∃ t, exec (.bindImage r) s = .next t ∧ KeyEnded s t r 6 0
        ∧ t.key = { s.key with imageSlot := some i })
    ∧ (∀ (s : State) (r i : Nat), s.KeyTakes r → (s.keyArgs r).1 = i → s.slotThere i = true → (s.slot i).state = 1 →
      bit (s.slot i).perm r = true → s.orphan i = false → s.badPath i = false →
      ∃ t, exec (.invalidate r) s = .next t ∧ KeyEnded s t r 7 0
        ∧ t.slot i = { s.slot i with state := 2, gen := ((s.slot i).gen + 1) % 2 ^ 16 }
        ∧ t.key.sweeps = s.key.sweeps ++ [i] ∧ t.isF F.KEY_STORE_STAT_SWEEP = true ∧ ∀ j, j ≠ i → t.slot j = s.slot j)
    ∧ (∀ (s : State) (r i : Nat), s.KeyTakes r → (s.keyArgs r).1 = i → i < 1023 → s.slotThere i = true →
      (s.slot i).state = 0 → s.slotBad i (s.slot i) = false → ∃ t, exec (.info r) s = .next t ∧ KeyEnded s t r 8 0
        ∧ KeyOutIs t r (slotWords (s.slot i)) ∧ t.key = s.key)
    ∧ ∀ (kek len n : Nat) (key : List Byte), key.length = 8 * n →
      keyUnwrap kek len n (keyWrap kek len n key) = some key

/-- AUTHORIZE_CHALLENGE, AUTHORIZE_TOKEN, ATTEST_STATEMENT and ATTEST_PUBLIC_KEYS (R278 to R280): the challenge that is held,
the token that consumes it whatever it says, and the lengths of statement and keys.
Completion (own effect, conditions on state and operands alone): authorizeChallenge, authorizeToken,
attestStatement, attestPublicKeys. -/
def Obligations.TokensAndAttestation : Prop :=
  (∀ (s : State) (r : Nat), s.KeyTakes r → s.isF F.KEY_STORE_STAT_DRBG_FAIL = false →
      ∃ t, exec (.authorizeChallenge r) s = .next t ∧ KeyEnded s t r 9 0
        ∧ sget (fun _ => none) t.key.challenge r = some ((Config.drbg s.key.drawn).toNat % 2 ^ 128, s.tb.fab)
        ∧ KeyOutIs t r (beBytes 16 ((Config.drbg s.key.drawn).toNat % 2 ^ 128)) ∧ t.key.slots = s.key.slots)
    ∧ (∀ (s : State) (r i c at_ : Nat), s.KeyTakes r → (s.keyArgs r).1 = i → s.source r i (some 6) false = none →
      (s.slot i).uses = 0xFFFFFF → sget (fun _ => none) s.key.challenge r = some (c, at_) →
      s.tb.fab - at_ ≤ 60 * cycS → (s.keyIn r).length = 68 → ((s.keyIn r).drop 4).take 16 = s.uid →
      beAt (s.keyIn r) 36 16 = c → byteAt (s.keyIn r) 0 = 1 → s.boot.debugEn = true → s.pairUp 0 = true →
      ∃ t, exec (.authorizeToken r) s = .next t ∧ sget (fun _ => none) t.key.challenge r = none
        ∧ (beAt (s.keyIn r) 52 16 = (Config.cmac (s.slot i).key (keyBits (s.slot i).ty) ((s.keyIn r).take 52)).toNat →
            KeyEnded s t r 9 0 ∧ t.getF (F.SAF_PAIR_STAT_STATE 0) = 4 ∧ bit (t.getF F.SAF_STAT_DEBUG_SPLIT) 0 = true
              ∧ t.isF F.SAF_STAT_SAFE_STATE = false)
        ∧ (beAt (s.keyIn r) 52 16 ≠ (Config.cmac (s.slot i).key (keyBits (s.slot i).ty) ((s.keyIn r).take 52)).toNat →
            KeyEnded s t r 9 6 ∧ t.getF (F.SAF_PAIR_STAT_STATE 0) = s.getF (F.SAF_PAIR_STAT_STATE 0)))
    ∧ (∀ (s : State) (r i : Nat), s.KeyTakes r → (s.keyArgs r).1 = i → s.source r i (some 6) false = none →
      sget (fun _ => none) s.key.challenge r = none → ∃ t, exec (.authorizeToken r) s = .next t ∧ KeyEnded s t r 9 6
        ∧ OnlyFields { s with tly := t.tly, key := t.key } t [reqF r F.KEY_STAT_LAST_OP, reqF r F.KEY_STAT_STATUS]
        ∧ t.key.slots = s.key.slots)
    ∧ (∀ (s : State) (r : Nat), s.KeyTakes r → s.pairUp 1 = true → ∃ t, exec (.attestStatement r) s = .next t
        ∧ KeyEnded s t r 0xA 0 ∧ t.getF (reqF r F.KEY_RESULT_OUT_LEN) = 3605
        ∧ t.getF (reqF r (F.KEY_OUT_DATA 0)) = 0x54415A4F ∧ t.key = s.key)
    ∧ ∀ (s : State) (r : Nat), s.KeyTakes r → s.pairUp 1 = true → ∃ t, exec (.attestPublicKeys r) s = .next t
        ∧ KeyEnded s t r 0xA 0 ∧ t.getF (reqF r F.KEY_RESULT_OUT_LEN) = 2017 ∧ KeyOutIs t r identityKeys ∧ t.key = s.key

/-- KEY_NOP, a command while BUSY is 1 and a command before READY: the status each leaves (R263, R264).
KEY_STORE_READY, RECLAIM_SWEEP_DONE, DRBG_HEALTH_FAIL and TAMPER_DETECTION: the store that becomes ready, the slot that a
sweep frees, the committed journal group that a start replays and the other that it discards, the store that tampering
empties (R255, R256, R260, R266, R270, R271).
Completion (own effect, conditions on state and operands alone): keyNop, keyStoreReady, reclaimSweepDone,
drbgHealthFail, tamperDetection. -/
def Obligations.KeyStoreAnswersSweepsAndEmpties : Prop :=
  (∀ (s : State) (r : Nat), s.KeyTakes r → exec (.keyNop r) s = .next (((s.setF (reqF r F.KEY_STAT_LAST_OP) 0).setF
      (reqF r F.KEY_STAT_STATUS) 0).tally (T.key r 0)))
    ∧ (∀ (s : State) (c : Instr), s.serving = true → s.isF F.KEY_STAT_BUSY = true →
      c ∈ [.keyNop 2, .generate 2, .deriveKey 2, .importWrapped 2, .exportWrapped 2, .keyMac 2 0, .keyMac 2 1, .bindSa 2,
        .bindImage 2, .invalidate 2, .info 2, .authorizeChallenge 2, .authorizeToken 2, .attestStatement 2,
        .attestPublicKeys 2] → exec c s = .next ((s.setB F.KEY_STAT_BUSY_HIT true).tally (T.key 2 1)))
    ∧ (∀ s : State, s.serving = true → s.isF F.KEY_STAT_BUSY = false → s.isF F.KEY_STORE_STAT_READY = false →
      exec (.generate 2) s = .next (((s.setF F.KEY_STAT_LAST_OP 1).setF F.KEY_STAT_STATUS 4).tally (T.key 2 4)))
    ∧ (∀ s : State, s.isF F.KEY_STORE_STAT_READY = false → s.key.tamperHold = false → 5 ≤ s.getF F.GLB_RST_STAT_STAGE →
      s.key.root = none → s.isF F.KEY_STORE_STAT_DRBG_FAIL = false → s.isF F.GLB_KEY_SLOTS_SCRAMBLE = false →
      ∃ t, exec (.keyStoreReady {}) s = .next t ∧ t.isF F.KEY_STORE_STAT_READY = true ∧ t.getF F.KEY_ARC_ARC = 0
        ∧ t.key = { s.key with root := some (Config.drbg s.key.drawn).toNat, slots := [], journal := {}, sweeps := []
                               drawn := s.key.drawn + 1 }
        ∧ t.getF F.KEY_STORE_STAT_FREE = s.getF F.GLB_KEY_SLOTS_COUNT % 2 ^ F.KEY_STORE_STAT_FREE.w)
    ∧ (∀ (s : State) (x : Nat), s.isF F.KEY_STORE_STAT_READY = false → s.key.tamperHold = false →
      5 ≤ s.getF F.GLB_RST_STAT_STAGE → s.key.root = some x → s.isF F.GLB_KEY_SLOTS_SCRAMBLE = false →
      s.jValid = false → (∀ e ∈ s.key.slots, e.2.expire = false) → ∃ t, exec (.keyStoreReady {}) s = .next t
        ∧ t.isF F.KEY_STORE_STAT_READY = true
        ∧ t.key = { s.key with journal := {}, sweeps := s.resumeSweeps.key.sweeps })
    ∧ (∀ (s : State) (x i : Nat) (k : KeySlot), s.isF F.KEY_STORE_STAT_READY = false → s.key.tamperHold = false →
      5 ≤ s.getF F.GLB_RST_STAT_STAGE → s.key.root = some x → s.isF F.GLB_KEY_SLOTS_SCRAMBLE = false →
      s.key.journal = ⟨[⟨some i, k, s.entryCrc (some i) k⟩], 1⟩ →
      k.expire = false → (∀ e ∈ s.key.slots, e.2.expire = false) → ∃ t, exec (.keyStoreReady {}) s = .next t
        ∧ t.isF F.KEY_STORE_STAT_READY = true ∧ t.slot i = k ∧ (∀ j, j ≠ i → t.slot j = s.slot j) ∧ t.key.journal = {})
    ∧ (∀ (s : State) (i : Nat) (rest : List Nat), s.key.sweeps = i :: rest → s.key.slots.map (·.1) = [i] →
      (s.slot i).state = 2 → (∀ e ∈ s.entriesOf tSa, bit e.2 1 = false) → ∃ t, exec .reclaimSweepDone s = .next t
        ∧ t.slot i = freed (s.slot i) (s.slot i).gen ∧ t.key.sweeps = rest
        ∧ t.isF F.KEY_STORE_STAT_SWEEP = !rest.isEmpty ∧ t.tables = s.tables)
    ∧ (∀ s : State, exec .drbgHealthFail s = .next (s.setB F.KEY_STORE_STAT_DRBG_FAIL true))
    ∧ (∀ s : State, s.isF F.KEY_STORE_STAT_TAMPER_N_EN = true → 2 ≤ s.getF F.GLB_RST_STAT_STAGE →
      s.powerMode = 0 → ∃ t, exec (.tamperDetection 0 0) s = .next t ∧ t.key.root = none
        ∧ t.key.slots = [] ∧ t.key.tamperHold = true ∧ t.isF F.KEY_STORE_STAT_READY = false
        ∧ bit (t.getF F.BKP_TAMPER_CAUSE) 0 = true ∧ t.getF F.KEY_ARC_ARC = 0)
    ∧ ∀ s : State, s.isF F.KEY_STORE_STAT_TAMPER_N_EN = false → exec (.tamperDetection 0 0) s = .next s
/-! ### Power modes, wake and the thermal governor (chapter 15) -/

/-- The energy bucket (R395): each millisecond of the governor adds 16 W less the power, within 0 and 180 J, and tallies
PWR_OVER_MS where the bucket would fall below 0; it is full after a reset of power-on reach and no other reset alters it.
Completion (own effect, conditions on state and operands alone): governorTick, powerOnReset. -/
def Obligations.EnergyBucketFollowsPower : Prop :=
  (∀ (s : State) (ts : List Nat) (p : Nat), s.powerMode < 2 → s.isF F.GLB_CLK_STAT_ROOT_LOCK = true →
      ∃ t, exec (.governorTick ts p) s = .next t ∧ t.pwr.energy = min 180000000 (s.pwr.energy + 16000 - p)
        ∧ t.getF F.PWR_BUCKET_B = t.pwr.energy / 10000 % 2 ^ F.PWR_BUCKET_B.w
        ∧ (s.pwr.energy + 16000 < p → Counted s t (T.pwr 2))
        ∧ (p ≤ s.pwr.energy + 16000 → t.tallyOf (T.pwr 2) = s.tallyOf (T.pwr 2)))
    ∧ (∀ s : State, ∃ t, exec .powerOnReset s = .next t ∧ t.pwr.energy = 180000000)
    ∧ ∀ (s : State) (c : Instr), c ∈ [.porstNAssert, .wrstNAssert, .clockMonitorFault true, .clockMonitorFault false,
        .softwareWarmReset 0xC7 true, .watchdogExpiry 0 false, .watchdogExpiry 1 false, .watchdogExpiry 0 true,
        .watchdogExpiry 1 true, .restart false, .restart true, .rodReset 0,
        .rodReset 127] →
      ∃ t, exec c s = .next t ∧ t.pwr.energy = s.pwr.energy

/-- GOVERNOR_TICK and THERMAL_SHUTDOWN (R394, R396 to R399): an empty bucket or a hot die raises the level, the emergency
level is entered at 150 °C and left at 145 °C, a full bucket on a cool die lowers it, and 160 °C is recorded and ends in
STANDBY with wakes refused.
Completion (own effect, conditions on state and operands alone): governorTick, thermalShutdown. -/
def Obligations.GovernorRaisesAndLowersTheLevel : Prop :=
  (∀ (s : State) (ts : List Nat) (p : Nat), s.powerMode < 2 → s.isF F.GLB_CLK_STAT_ROOT_LOCK = true →
      s.getF F.PWR_THERM_STAT_LEVEL < 4 → ts.length = 4 → 214 ≤ ts.foldl max 0 → ts.foldl max 0 ≤ 255 →
      ∃ t, exec (.governorTick ts p) s = .next t ∧ t.getF F.PWR_THERM_STAT_LEVEL = 4 ∧ t.isF F.FWL_STAT_SHED = true
        ∧ t.getF F.PWR_THERM_STAT_TMAX = ts.foldl max 0 ∧ t.dp.items = s.dp.items)
    ∧ (∀ (s : State) (ts : List Nat) (p : Nat), s.powerMode < 2 → s.isF F.GLB_CLK_STAT_ROOT_LOCK = true →
      s.getF F.PWR_THERM_STAT_LEVEL = 4 → ts.foldl max 0 ≤ 209 → ∃ t, exec (.governorTick ts p) s = .next t
        ∧ t.getF F.PWR_THERM_STAT_LEVEL = 3 ∧ t.isF F.FWL_STAT_SHED = true)
    ∧ (∀ (s : State) (ts : List Nat) (p : Nat), s.powerMode < 2 → s.isF F.GLB_CLK_STAT_ROOT_LOCK = true →
      s.getF F.PWR_THERM_STAT_LEVEL = 0 → ts.foldl max 0 < 214 → s.pwr.energy = 0 → 16000 < p → s.pwr.raised = none →
      s.getF F.TRC_STAT_STATE = 1 → (∀ k < 4, s.getF (F.TRC_TRIG_W0_KIND k) = 0) →
      ∃ t, exec (.governorTick ts p) s = .next t ∧ t.getF F.PWR_THERM_STAT_LEVEL = 1 ∧ t.pwr.since = some 0
        ∧ t.pwr.raised = some 0)
    ∧ (∀ (s : State) (ts : List Nat) (p n : Nat), s.powerMode < 2 → s.isF F.GLB_CLK_STAT_ROOT_LOCK = true →
      s.getF F.PWR_THERM_STAT_LEVEL = 3 → s.pwr.since = some n → 10 * s.getF F.PWR_THERM_CFG_STEP_MS ≤ n → p ≤ 16000 →
      s.pwr.energy ≤ 180000000 → s.getF F.PWR_RESTORE_RESTORE * 10000 ≤ s.pwr.energy →
      ts.foldl max 0 + s.getF F.PWR_THERM_CFG_HYST ≤ s.getF F.PWR_THERM_CFG_TJ_LIMIT + 64 →
      ts.foldl max 0 < s.getF F.PWR_THERM_CFG_TJ_LIMIT + 64 → ts.foldl max 0 < 214 →
      ∃ t, exec (.governorTick ts p) s = .next t ∧ t.getF F.PWR_THERM_STAT_LEVEL = 2 ∧ t.isF F.FWL_STAT_SHED = false)
    ∧ ∀ (s : State) (k tmax : Nat), s.powerMode < 2 → k < 4 → 224 ≤ tmax → tmax ≤ 255 →
      ∃ t, exec (.thermalShutdown k tmax) s = .next t ∧ t.isF F.BKP_THERM_SHUTDOWN = true
        ∧ t.getF F.BKP_THERM_SENSOR = k ∧ t.getF F.BKP_THERM_TMAX = tmax ∧ t.powerMode = 3 ∧ t.pwr.hot = true
        ∧ t.pwr.energy = s.pwr.energy ∧ t.key.slots = s.key.slots ∧ t.dp.items = []

/-- PWR_NOP, PWR_STANDBY, PWR_SLEEP, SLEEP_DRAIN_END, PWR_LEAN and PWR_RUN from a requester whose command is taken (R383 to
R387): the mode each leaves and what it keeps, and the commands that the key or the state refuses.
Completion (own effect, conditions on state and operands alone): pwrNop, pwrStandby, pwrSleep, sleepDrainEnd,
pwrLean, pwrRun. -/
def Obligations.PowerCommandsChangeTheMode : Prop :=
  (∀ (s : State) (r : Nat), r < 3 → s.serving = true → s.requesterUp r = true → s.isF F.PWR_CMD_STAT_BUSY = false →
      s.powerMode ≤ 1 → exec (.pwrNop r) s = .next (((s.setF F.PWR_CMD_STAT_LAST_OP 0).setF F.PWR_CMD_STAT_STATUS 0).tally
        (T.pwr 3)))
    ∧ (∀ (s : State) (r : Nat), s.serving = true → r < 3 → s.requesterUp r = true → s.isF F.PWR_CMD_STAT_BUSY = false →
      s.powerMode ≤ 1 → s.pwr.drain = false → ∃ t, exec (.pwrStandby r 0x5A) s = .next t ∧ t.powerMode = 3
        ∧ FieldsReset t 4 [F.PWR_MODE_MODE, F.GLB_RST_STAT_STAGE] ∧ WiderKept s t 4 []
        ∧ t.getF F.GLB_RST_STAT_STAGE = 1 ∧ t.pwr.phySlp = s.sleepPorts ∧ t.dp.items = [] ∧ t.tly = []
        ∧ t.key.slots = s.key.slots ∧ ∀ n < 128, s.rodPresent n = true → (t.rod n).stb = true ∧ (t.rod n).en = false)
    ∧ (∀ (s : State) (r key : Nat), s.serving = true → r < 3 → s.requesterUp r = true →
      s.isF F.PWR_CMD_STAT_BUSY = false → s.powerMode ≤ 1 → key % 256 ≠ 0x5A →
      exec (.pwrStandby r key) s = .next (((s.setF F.PWR_CMD_STAT_LAST_OP 1).setF F.PWR_CMD_STAT_STATUS 4).tally (T.pwr 7))
        ∧ exec (.pwrSleep r key) s
          = .next (((s.setF F.PWR_CMD_STAT_LAST_OP 2).setF F.PWR_CMD_STAT_STATUS 4).tally (T.pwr 7)))
    ∧ (∀ (s : State) (r : Nat), s.serving = true → r < 3 → s.requesterUp r = true → s.isF F.PWR_CMD_STAT_BUSY = false →
      s.powerMode ≤ 1 → s.isF F.GLB_BOOT_STAT_SNAP_VALID = true → s.getF F.UPD_STAT_STATE = 0 →
      s.isF F.SAF_CMD_STAT_BUSY = false → s.ring.bypBoot = false → ∃ t, exec (.pwrSleep r 0x5A) s = .next t ∧ t.pwr.drain = true
        ∧ t.isF F.PWR_CMD_STAT_BUSY = true ∧ t.getF F.PWR_CMD_STAT_STATUS = 0 ∧ t.receives = false
        ∧ t.getF F.RNG_BYP_LEVEL = 0 ∧ t.dp = s.dp ∧ t.powerMode = s.powerMode)
    ∧ (∀ (s : State) (a b : Bool) (aon : Nat), s.pwr.drain = true → s.pwr.early = false →
      ∃ t, exec (.sleepDrainEnd a b aon) s = .next t ∧ t.powerMode = 2 ∧ t.getF F.GLB_RST_STAT_STAGE = 4
        ∧ t.pwr.drain = false ∧ t.pwr.phySlp = s.sleepPorts ∧ t.pwr.failA = (s.planeSt false == 1 && !a)
        ∧ t.pwr.failB = (s.planeSt true == 1 && !b) ∧ t.tb.clk = 0 ∧ t.dp.items = [] ∧ t.ddr = s.ddr
        ∧ t.boot.snap = s.boot.snap ∧ t.key.slots = s.key.slots
        ∧ t.getF F.GLB_RETIRED_PORT_PORTS = s.getF F.GLB_RETIRED_PORT_PORTS % 2 ^ 32)
    ∧ (∀ (s : State) (r n : Nat), s.serving = true → r < 3 → s.requesterUp r = true → s.isF F.PWR_CMD_STAT_BUSY = false →
      s.powerMode = 0 → s.leanSet = (0, [n]) → s.rodState n = 1 → s.param 0x42 0 = 0 →
      ∃ t, exec (.pwrLean r) s = .next t ∧ t.powerMode = 1 ∧ t.rodState n = 7 ∧ (t.rod n).stb = true
        ∧ t.pwr.leanRods = [n] ∧ t.getF F.PWR_CMD_STAT_STATUS = 0 ∧ t.dp = s.dp)
    ∧ (∀ (s : State) (r p : Nat), s.serving = true → r < 3 → s.requesterUp r = true → s.isF F.PWR_CMD_STAT_BUSY = false →
      s.powerMode = 0 → p < 32 → s.leanSet = (2 ^ p, []) → s.param 0x42 0 = 0 →
      ∃ t, exec (.pwrLean r) s = .next t ∧ t.powerMode = 1 ∧ t.linkUp p = false ∧ t.portHeld p = true
        ∧ t.getF F.PWR_CMD_STAT_STATUS = 0)
    ∧ (∀ (s : State) (r n : Nat), s.serving = true → r < 3 → s.requesterUp r = true → s.isF F.PWR_CMD_STAT_BUSY = false →
      s.powerMode = 1 → n < 128 → s.pwr.leanRods = [n] → s.rodState n = 7 → s.isF (F.ROD_CTL_AUTOSTART n) = false →
      ∃ t, exec (.pwrRun r) s = .next t ∧ t.powerMode = 0 ∧ t.rodState n = 1 ∧ t.pwr.leanPorts = 0
        ∧ t.pwr.leanRods = [] ∧ t.pwr.ddrSelf = false ∧ t.getF F.PWR_CMD_STAT_STATUS = 0)
    ∧ ∀ (s : State) (r : Nat), s.serving = true → r < 3 → s.requesterUp r = true → s.isF F.PWR_CMD_STAT_BUSY = false →
      s.powerMode = 0 → exec (.pwrRun r) s = .next (((s.setF F.PWR_CMD_STAT_LAST_OP 4).setF F.PWR_CMD_STAT_STATUS 0).tally
        (T.pwr 3))

/-- WAKE_PIN, PHY_WAKE, T1S_ACTIVITY_WAKE, WAKE_TIMER, TAMPER_DETECTION, PHYWK_RISE and PHY_SLEEP_NOACK (R386, R389 to R391,
R399): each enabled source records its cause and takes the device out of SLEEP-RETAIN to the CLOCKS stage; a hot device is
not woken, a disabled source wakes nothing, and ports wait for their PHYs.
Completion (own effect, conditions on state and operands alone): wakePin, phyWake, t1sActivityWake, wakeTimer,
tamperDetection, phywkRise, phySleepNoack. -/
def Obligations.WakeSourcesEndTheMode : Prop :=
  (∀ (s : State) (k held aon : Nat), s.powerMode = 2 → s.pwr.drain = false → s.pwr.hot = false → k < 8 →
      s.getF F.PWR_WAKE_CFG_FILT ≤ held →
      bit (s.getF F.PWR_WAKE_CFG_PIN_EN) k = true → bit (s.getF F.PWR_WAKE_CFG_PIN_POL) k = true →
      ∃ t, exec (.wakePin 255 aon held) s = .next t ∧ t.powerMode = 0 ∧ bit (t.getF F.BKP_WAKE_PIN) k = true
        ∧ t.getF F.GLB_RST_STAT_STAGE = 4 ∧ t.boot.waking = true ∧ t.pwr.phyWait = s.pwr.phySlp ∧ t.pwr.phySlp = 0)
    ∧ (∀ (s : State) (levels held aon : Nat), s.getF F.PWR_WAKE_CFG_PIN_EN = 0 ∨ held < s.getF F.PWR_WAKE_CFG_FILT →
      exec (.wakePin levels aon held) s = .next s)
    ∧ (∀ (s : State) (held aon k : Nat), s.getF F.PWR_WAKE_CFG_FILT ≤ held → s.powerMode = 2 → s.pwr.drain = false → s.pwr.hot = true → 194 < aon → k < 8 →
      bit (s.getF F.PWR_WAKE_CFG_PIN_EN) k = true → bit (s.getF F.PWR_WAKE_CFG_PIN_POL) k = true →
      exec (.wakePin 255 aon held) s = .next (s.setB F.BKP_WAKE_THERM_HELD true))
    ∧ (∀ (s : State) (p aon : Nat), p < 16 → s.powerMode = 2 → s.pwr.drain = false → s.pwr.hot = false →
      bit s.pwr.phySlp p = true → bit (s.getF F.PWR_WAKE_SRC_PHYWK_EN) p = true →
      ∃ t, exec (.phyWake (2 ^ p) aon) s = .next t ∧ t.powerMode = 0 ∧ bit (t.getF F.BKP_WAKE_PHY) p = true
        ∧ bit t.pwr.phyWait p = false ∧ t.pwr.phySlp = 0)
    ∧ (∀ (s : State) (k us aon : Nat), k < 16 → 50 ≤ us → s.powerMode = 3 → s.pwr.drain = false → s.pwr.hot = false →
      s.boot.po = false → s.boot.porst = false → s.getF F.GLB_RST_STAT_STAGE = 1 →
      bit (s.getF F.PWR_WAKE_SRC_T1S_EN) k = true → ∃ t, exec (.t1sActivityWake (2 ^ k) aon us) s = .next t
        ∧ t.powerMode = 0 ∧ bit (t.getF F.BKP_WAKE_T1S_T1S) k = true ∧ t.getF F.GLB_RST_STAT_STAGE = 2)
    ∧ (∀ (s : State) (aon : Nat), s.powerMode = 2 → s.pwr.drain = false → s.pwr.hot = false →
      s.getF F.PWR_WAKE_TIMER_SEC ≠ 0 → ∃ t, exec (.wakeTimer aon) s = .next t ∧ t.powerMode = 0
        ∧ t.isF F.BKP_WAKE_TIMER = true ∧ t.getF F.GLB_RST_STAT_STAGE = 4 ∧ t.key = s.key)
    ∧ (∀ (s : State) (aon : Nat), s.pwr.drain = true → s.getF F.PWR_WAKE_TIMER_SEC ≠ 0 →
      ∃ t, exec (.wakeTimer aon) s = .next t ∧ t.pwr.early = true ∧ OnlyFields { s with pwr := t.pwr } t [F.BKP_WAKE_TIMER])
    ∧ (∀ (s : State) (aon : Nat), s.powerMode = 2 → s.pwr.drain = false → s.pwr.hot = false →
      s.isF F.KEY_STORE_STAT_TAMPER_N_EN = true → ∃ t, exec (.tamperDetection 0 aon) s = .next t ∧ t.powerMode = 0
        ∧ t.isF F.BKP_WAKE_TAMPER = true ∧ t.key.root = none ∧ t.key.slots = [])
    ∧ (∀ (s : State) (ports : Nat), exec (.phywkRise ports) s = .next { s with pwr := { s.pwr with
        phyWait := s.pwr.phyWait - (s.pwr.phyWait &&& ports) } })
    ∧ ∀ (s : State) (p : Nat), 2 ≤ s.powerMode → p < 16 → bit s.pwr.phySlp p = true → p ∉ s.pwr.noAck →
      exec (.phySleepNoack p) s = .next { s.tally (T.pwr 1) with pwr := { s.pwr with noAck := s.pwr.noAck ++ [p] } }

/-! ### Test and diagnostics (chapter 16) -/

/-- LPDDR5_TRAINED, LPDDR5_RETRAIN, MEM_TEST_NOP, MEM_TEST_RUN, MEM_TEST_ABORT and MEM_TEST_DONE (R412 to R414): what the
training finds, the third failed retrain in a row, and a memory test that leaves every byte outside its range alone and
whose end leaves what its algorithm writes.
Completion (own effect, conditions on state and operands alone): lpddr5Trained, lpddr5Retrain, memTestNop,
memTestRun, memTestAbort, memTestDone. -/
def Obligations.MemoryTrainingAndTest : Prop :=
  (∀ (s : State) (size : Nat), 5 ≤ s.getF F.GLB_RST_STAT_STAGE → s.isF F.MEM_STAT_TRAINED = false →
      s.getF F.MEM_STAT_CAUSE = 0 → exec (.lpddr5Trained 0 size) s
        = .next (((s.setB F.MEM_STAT_PRESENT true).setB F.MEM_STAT_TRAINED true).setF F.MEM_STAT_SIZE (min 8 size)))
    ∧ (∀ (s : State) (size : Nat), 5 ≤ s.getF F.GLB_RST_STAT_STAGE → s.isF F.MEM_STAT_TRAINED = false →
      s.getF F.MEM_STAT_CAUSE = 0 → ∃ t, exec (.lpddr5Trained 1 size) s = .next t ∧ t.isF F.MEM_STAT_PRESENT = false
        ∧ t.isF F.MEM_STAT_TRAINED = false ∧ t.getF F.MEM_STAT_CAUSE = 1 ∧ t.isF F.CRY_CFG_EXT_OK = false ∧ t.ddr = s.ddr)
    ∧ (∀ s : State, s.ddrUp = true → exec (.lpddr5Retrain true) s = .next { s with ddrFails := 0 })
    ∧ (∀ s : State, s.ddrUp = true → s.ddrFails < 2 →
      exec (.lpddr5Retrain false) s = .next { s with ddrFails := s.ddrFails + 1 })
    ∧ (∀ s : State, s.ddrUp = true → s.ddrFails = 2 → ∃ t, exec (.lpddr5Retrain false) s = .next t
        ∧ t.isF F.MEM_STAT_FAILED = true ∧ t.isF F.MEM_STAT_TRAINED = true ∧ t.getF F.MEM_STAT_CAUSE = 3
        ∧ t.isF F.CRY_CFG_EXT_OK = false ∧ t.getF F.TRC_STAT_STATE = 0)
    ∧ (∀ s : State, s.serving = true → exec .memTestNop s = .next s)
    ∧ (∀ (s : State) (alg a n : Nat), s.serving = true → s.isF F.MEM_TEST_STAT_BUSY = false →
      s.isF F.MEM_STAT_PRESENT = true → s.isF F.MEM_STAT_FAILED = false → s.getF F.MEM_TEST_START_START = a →
      s.getF F.MEM_TEST_LEN_LEN = n → (a + n) * 65536 ≤ s.ddrBytes → s.testMeets (a * 65536) (n * 65536) = false →
      ∃ t, exec (.memTestRun alg) s = .next t ∧ t.isF F.MEM_TEST_STAT_BUSY = true ∧ t.getF F.MEM_TEST_STAT_FAILS = 0
        ∧ t.memTest = some (min alg 2, a, n, s.getF F.MEM_TEST_PAT_PAT) ∧ t.dp = s.dp
        ∧ ∀ x, x < a * 65536 ∨ (a + n) * 65536 ≤ x → t.ddrByte x = s.ddrByte x)
    ∧ (∀ (s : State) (alg : Nat), s.serving = true → s.isF F.MEM_TEST_STAT_BUSY = false →
      s.ddrBytes < (s.getF F.MEM_TEST_START_START + s.getF F.MEM_TEST_LEN_LEN) * 65536 →
      exec (.memTestRun alg) s = .next (s.setF F.MEM_TEST_STAT_STATUS 2))
    ∧ (∀ s : State, s.serving = true → s.isF F.MEM_TEST_STAT_BUSY = true → exec .memTestAbort s
        = .next { (s.setB F.MEM_TEST_STAT_BUSY false).setF F.MEM_TEST_STAT_STATUS 0 with memTest := none })
    ∧ (∀ (s : State) (a n pat : Nat), s.memTest = some (0, a, n, pat) → ∃ t, exec (.memTestDone []) s = .next t
        ∧ t.isF F.MEM_TEST_STAT_BUSY = false ∧ t.getF F.MEM_TEST_STAT_STATUS = 0 ∧ t.getF F.MEM_TEST_STAT_FAILS = 0
        ∧ t.memTest = none ∧ (∀ x, a * 65536 ≤ x → x < (a + n) * 65536 → t.ddrByte x = 0)
        ∧ ∀ x, x < a * 65536 ∨ (a + n) * 65536 ≤ x → t.ddrByte x = s.ddrByte x)
    ∧ ∀ (s : State) (alg a n pat x : Nat) (xs : List Nat), s.memTest = some (alg, a, n, pat) → x < 2 ^ 33 →
      xs.length < 65535 → ∃ t, exec (.memTestDone (x :: xs)) s = .next t ∧ t.getF F.MEM_TEST_STAT_STATUS = 5
        ∧ t.getF F.MEM_TEST_STAT_FAILS = xs.length + 1
        ∧ t.getF F.MEM_TEST_FAIL_LO_ADDR + t.getF F.MEM_TEST_FAIL_HI_ADDR * 2 ^ 32 = x

/-- TRACE_RECORD_WRITE, FREEZE_NOW, TRC_ARM and TRC_ENABLE (R420 to R424): the record that the oldest item of port 35's
highest class becomes, at WR_PTR and nowhere else; the item that the governor's cap drops; the trigger, the arming and the stop.
Completion (own effect, conditions on state and operands alone): traceRecordWrite, freezeNow, trcArm, trcEnable. -/
def Obligations.TraceRecorderFollowsItsStates : Prop :=
  (∀ (s : State) (c : Nat) (r : QRef) (rest : List QRef) (it : Item) (cap total : Nat), s.getF F.TRC_STAT_STATE = 1 →
      s.ddrUp = true → s.traceHead = some (c, r) → s.queue 35 c = r :: rest → s.item r.item = some it → it.complete = true → it.bad = false →
      it.refs = 1 → s.getF F.PWR_THERM_STAT_LEVEL = 0 → cap = min it.len (s.getF F.TRC_SNAPLEN_SNAPLEN) →
      total = 32 + ceilDiv cap 32 * 32 → s.getF F.TRC_REGION_SIZE ≤ 8192 →
      s.wrPtr + total ≤ s.getF F.TRC_REGION_SIZE * 2 ^ 20 → (∀ k < 4, s.getF (F.TRC_TRIG_W0_KIND k) = 0) →
      ∃ t, exec (.traceRecordWrite false) s = .next t ∧ t.queue 35 c = rest ∧ t.item r.item = none
        ∧ t.wrPtr = (s.wrPtr + total) % (s.getF F.TRC_REGION_SIZE * 2 ^ 20) ∧ Counted s t (T.trc 0)
        ∧ (∀ i < total, t.ddrByte (s.traceBase + s.wrPtr + i)
            = ((padTo total (traceHeader it r cap ++ it.bytes.take cap)).getD i 0).toNat)
        ∧ ∀ x, x < s.traceBase + s.wrPtr ∨ s.traceBase + s.wrPtr + total ≤ x → t.ddrByte x = s.ddrByte x)
    ∧ (∀ (s : State) (c : Nat) (r : QRef) (rest : List QRef) (it : Item), s.getF F.TRC_STAT_STATE = 1 → s.ddrUp = true →
      s.traceHead = some (c, r) → s.queue 35 c = r :: rest → s.item r.item = some it → it.complete = true → it.bad = false → it.refs = 1 →
      1 ≤ s.getF F.PWR_THERM_STAT_LEVEL → ∃ t, exec (.traceRecordWrite true) s = .next t ∧ t.queue 35 c = rest
        ∧ t.item r.item = none ∧ Counted s t (T.trc 2) ∧ t.ddr = s.ddr ∧ t.regs = s.regs)
    ∧ (∀ s : State, s.serving = true → s.getF F.TRC_STAT_STATE = 1 → ∃ t, exec .freezeNow s = .next t
        ∧ t.getF F.TRC_STAT_STATE = 2 ∧ t.isF F.TRC_STAT_TRIG_SW = true
        ∧ t.getF F.TRC_TRIG_SEQ_SEQ = s.getF F.TRC_SEQ_SEQ % 2 ^ 32
        ∧ t.getF F.TRC_TRIG_PTR_LO_PTR = s.getF F.TRC_WR_PTR_LO_PTR % 2 ^ 32 ∧ t.dp = s.dp ∧ t.ddr = s.ddr)
    ∧ (∀ s : State, s.serving = true → s.getF F.TRC_STAT_STATE ≠ 1 → exec .freezeNow s = .next (s.tally (T.trc 4)))
    ∧ (∀ s : State, s.serving = true → s.getF F.TRC_STAT_STATE = 3 →
      exec .trcArm s = .next ((s.setF F.TRC_STAT_STATE 1).setF F.TRC_STAT_STOP_CAUSE 0))
    ∧ (∀ s : State, s.serving = true → s.getF F.TRC_STAT_STATE ≠ 3 → exec .trcArm s = .next s)
    ∧ (∀ s : State, s.serving = true → s.getF F.TRC_STAT_STATE = 0 → s.ddrUp = true → s.getF F.TRC_REGION_SIZE ≠ 0 →
      exec (.trcEnable true) s = .next (((s.setB F.TRC_CTL_EN true).setF F.TRC_STAT_STATE 1).setF F.TRC_STAT_STOP_CAUSE 0))
    ∧ ∀ s : State, s.serving = true → s.getF F.TRC_STAT_STATE = 1 → ∃ t, exec (.trcEnable false) s = .next t
        ∧ t.getF F.TRC_STAT_STATE = 0 ∧ t.getF F.TRC_STAT_STOP_CAUSE = 1 ∧ t.isF F.TRC_CTL_EN = false
        ∧ t.queue 35 0 = [] ∧ t.ddr = s.ddr ∧ FieldsKept s t [F.TRC_STAT_STATE, F.TRC_STAT_STOP_CAUSE, F.TRC_CTL_EN]

/-- TST_LANE_CLR, TST_ROD_CLR, CHECKER_LOCK, CHECKER_LOCK_LOSS, JTAG_INSTRUCTION_LOAD, TAP_RESET, TLY_SNAPSHOT and
TLY_AUTO_SNAPSHOT (R403, R407, R409, R410, R411, R418): the counters that each clears or raises, the instruction that the
TAP takes or refuses, what a scan of the identification and the boundary register shifts out and leaves, and the frozen copy of every tally.
Completion (own effect, conditions on state and operands alone): tstLaneClr, tstRodClr, checkerLock,
checkerLockLoss, jtagInstructionLoad, tapReset, tlySnapshot, tlyAutoSnapshot. -/
def Obligations.TestsScansAndSnapshots : Prop :=
  (∀ (s : State) (l : Nat), s.serving = true → l < 16 → s.ethPresent l = true → ∃ t, exec (.tstLaneClr l) s = .next t
      ∧ OnlyFields { s with laneFrac := t.laneFrac } t [F.TST_LANE_ERR_ERR l, F.TST_LANE_BITS_LO_BITS l,
          F.TST_LANE_BITS_HI_BITS l, F.TST_LANE_STAT_LOSS l]
      ∧ t.getF (F.TST_LANE_ERR_ERR l) = 0 ∧ t.getF (F.TST_LANE_BITS_LO_BITS l) = 0
      ∧ t.getF (F.TST_LANE_BITS_HI_BITS l) = 0 ∧ t.getF (F.TST_LANE_STAT_LOSS l) = 0)
    ∧ (∀ (s : State) (n : Nat), s.serving = true → n < 128 → s.rodPresent n = true → exec (.tstRodClr n) s
        = .next (((s.setF (F.TST_ROD_CNT_GOOD n) 0).setF (F.TST_ROD_CNT_BAD n) 0).setF (F.TST_ROD_MISS_MISSED n) 0))
    ∧ (∀ (s : State) (l : Nat) (bits last : List Bool), s.laneChecks l = true → s.isF (F.TST_LANE_STAT_LOCK l) = false →
      64 ≤ (s.laneReceives l bits).length → last = (s.laneReceives l bits).drop ((s.laneReceives l bits).length - 64) →
      (isPattern (s.getF (F.TST_LANE_CFG_CHK_PAT l)) (s.laneShape l).1 (s.laneShape l).2 last = true →
        ∃ t, exec (.checkerLock l bits) s = .next t ∧ t.isF (F.TST_LANE_STAT_LOCK l) = true
          ∧ OnlyFields { s with laneMiss := t.laneMiss } t [F.TST_LANE_STAT_LOCK l])
        ∧ (isPattern (s.getF (F.TST_LANE_CFG_CHK_PAT l)) (s.laneShape l).1 (s.laneShape l).2 last = false →
          exec (.checkerLock l bits) s = .next s))
    ∧ (∀ (s : State) (l : Nat) (errs : List Nat), s.laneChecks l = true → s.isF (F.TST_LANE_STAT_LOCK l) = true →
      sget (fun _ => []) s.laneMiss l = [] → errs.length = 16 → errs.getD 15 0 < errs.getD 0 0 + 1024 →
      ∃ t, exec (.checkerLockLoss l errs) s = .next t ∧ t.isF (F.TST_LANE_STAT_LOCK l) = false
        ∧ t.getF (F.TST_LANE_ERR_ERR l) = min (2 ^ 32 - 1) (s.getF (F.TST_LANE_ERR_ERR l) + 16)
        ∧ OnlyFields { s with laneMiss := t.laneMiss } t
            [F.TST_LANE_ERR_ERR l, F.TST_LANE_STAT_LOSS l, F.TST_LANE_STAT_LOCK l])
    ∧ (∀ (s : State) (l k : Nat), s.laneChecks l = true → s.isF (F.TST_LANE_STAT_LOCK l) = true →
      (sget (fun _ => []) s.laneMiss l).length < 15 → ∃ t, exec (.checkerLockLoss l [k]) s = .next t
        ∧ t.getF (F.TST_LANE_ERR_ERR l) = min (2 ^ 32 - 1) (s.getF (F.TST_LANE_ERR_ERR l) + 1)
        ∧ OnlyFields { s with laneMiss := t.laneMiss } t [F.TST_LANE_ERR_ERR l])
    ∧ (∀ s : State, exec (.jtagInstructionLoad 2 none) s = .next { s with boot := { s.boot with tapIr := 2 } })
    ∧ (∀ (s : State) (c : Nat), c ∉ tapCodes →
      exec (.jtagInstructionLoad c none) s = .next { s with boot := { s.boot with tapIr := 0xFF } })
    ∧ (∀ (s : State) (c : Nat), c ∈ tapResetOnly → s.boot.porst = false → exec (.jtagInstructionLoad c none) s
        = .next { s with boot := { s.boot with tapIr := 0xFF, scanRefused := true } })
    ∧ (∀ (s : State) (c : Nat), c ∈ tapResetOnly → s.boot.porst = true →
      exec (.jtagInstructionLoad c none) s = .next { s with boot := { s.boot with tapIr := c } })
    ∧ (∀ (s : State) (tdi balls : Nat), ∃ t, exec (.jtagInstructionLoad 2 (some (32, tdi, balls))) s = .next t
        ∧ t.out = s.out ++ [.tdo 32 ((if s.isF F.GLB_LOAD_STAT_LOAD_DONE then s.getF F.GLB_ID_DIE_REV % 16 * 2 ^ 28
            + s.getF F.GLB_ID_PART % 2 ^ 16 * 2 ^ 12 else 0) + 0x573)]
        ∧ t.regs = s.regs ∧ t.boot.bsr = s.boot.bsr)
    ∧ (∀ (s : State) (tdi balls : Nat), s.boot.porst = true →
      ∃ t, exec (.jtagInstructionLoad 0 (some (bsrCells, tdi, balls))) s = .next t ∧ t.boot.bsr = s.cellsOf tdi
        ∧ t.out = s.out ++ [.tdo bsrCells (s.cellsOf balls)] ∧ t.regs = s.regs)
    ∧ (∀ s : State, ∃ t, exec .tapReset s = .next t ∧ t.boot.tapIr = 2 ∧ t = { s with boot := t.boot })
    ∧ (∀ s : State, s.serving = true → s.isF F.TLY_SNAP_STAT_BUSY = false → ∃ t, exec (.tlySnapshot true) s = .next t
        ∧ t.tlyFrozen = s.tly ∧ t.getF F.TLY_SNAP_SEQ_SEQ = (s.getF F.TLY_SNAP_SEQ_SEQ + 1) % 2 ^ F.TLY_SNAP_SEQ_SEQ.w
        ∧ ∀ n < 128, ∀ m < 29, t.tallyOf (T.rod n m) = 0)
    ∧ (∀ s : State, s.serving = true → s.isF F.TLY_SNAP_STAT_BUSY = false → ∃ t, exec (.tlySnapshot false) s = .next t
        ∧ t.tlyFrozen = s.tly ∧ ∀ n < 128, ∀ m < 29, t.tallyOf (T.rod n m) = s.tallyOf (T.rod n m))
    ∧ ∀ s : State, s.pairUp 1 = true → s.param 0x63 0 ≠ 0 → s.isF F.TLY_SNAP_STAT_BUSY = false →
      ∃ t, exec .tlyAutoSnapshot s = .next t ∧ t.tlyFrozen = s.tly
        ∧ ∀ n < 128, ∀ m < 29, t.tallyOf (T.rod n m) = s.tallyOf (T.rod n m)

/-! ### The Ndozil image and boot (chapter 13) -/

/-- IMAGE_ACCEPT, HOST_LOAD_GO and IMAGE_BLOCK_TIMEOUT (R340, R344, R345): an accepted host load ends stage 7 and reports OK;
an image that fails is abandoned with the step that failed and its result; an image without the magic fails step 1 with
INTEGRITY_FAIL; a late block fails step 14 with TIMEOUT; a host load begins only where it is called for.
Completion (own effect, conditions on state and operands alone): imageAccept, hostLoadGo, imageBlockTimeout. -/
def Obligations.ImageIsAcceptedOrAbandoned : Prop :=
  (∀ (s : State) (img rest : List Byte), s.getF F.GLB_RST_STAT_STAGE = 7 → s.boot.loaded = false → s.releasing = true →
      s.ddrSettled = true → anyEnc img = false → anyEnc rest = false → s.boot.snap = none →
      s.isF F.GLB_HL_CTL_BUSY = true → s.memReads = true → img.length ≤ s.getF F.GLB_HL_LEN_LEN →
      ∃ t, exec (.imageAccept img rest) s = .next t ∧ t.isF F.GLB_HL_CTL_BUSY = false
        ∧ (∀ u, s.acceptImage img = .ok u → t.boot.loaded = true ∧ t.boot.src = 2 ∧ t.boot.seq = hdrSeq img
            ∧ t.getF F.GLB_RST_STAT_STAGE = 8 ∧ t.getF F.GLB_BOOT_STAT_STEP = 0 ∧ t.getF F.GLB_BOOT_STAT_RESULT = 0)
        ∧ ∀ f, s.acceptImage img = .error f → t.getF F.GLB_BOOT_STAT_STEP = f.1 % 2 ^ F.GLB_BOOT_STAT_STEP.w
            ∧ t.getF F.GLB_BOOT_STAT_RESULT = f.2 % 2 ^ F.GLB_BOOT_STAT_RESULT.w ∧ t.isF F.GLB_BOOT_STAT_BOOT_FAIL = true
            ∧ t.getF F.GLB_RST_STAT_STAGE = 7 ∧ t.boot.loaded = false)
    ∧ (∀ (s : State) (img rest : List Byte), s.getF F.GLB_RST_STAT_STAGE = 7 → s.boot.loaded = false →
      s.releasing = true → s.ddrSettled = true → anyEnc img = false → anyEnc rest = false → s.boot.snap = none →
      s.isF F.GLB_HL_CTL_BUSY = true → s.memReads = true → beAt (img.take (s.getF F.GLB_HL_LEN_LEN)) 0 4 ≠ 0x4E445A4C →
      ∃ t, exec (.imageAccept img rest) s = .next t ∧ t.getF F.GLB_BOOT_STAT_STEP = 1 ∧ t.getF F.GLB_BOOT_STAT_RESULT = 5
        ∧ t.isF F.GLB_BOOT_STAT_BOOT_FAIL = true ∧ t.tables = s.tables)
    ∧ (∀ s : State, s.getF F.GLB_RST_STAT_STAGE = 7 → s.isF F.GLB_HL_CTL_BUSY = false →
      s.getF F.GLB_BOOT_STAT_SOURCE = 2 → exec .hostLoadGo s = .next (s.setB F.GLB_HL_CTL_BUSY true))
    ∧ (∀ s : State, s.getF F.GLB_RST_STAT_STAGE ≠ 7 → exec .hostLoadGo s = .next s)
    ∧ (∀ s : State, s.getF F.GLB_RST_STAT_STAGE = 7 → s.isF F.GLB_HL_CTL_BUSY = false →
      s.getF F.GLB_BOOT_STAT_SOURCE ≠ 2 → s.isF F.GLB_BOOT_STAT_BOOT_FAIL = false → exec .hostLoadGo s = .next s)
    ∧ ∀ s : State, s.getF F.GLB_RST_STAT_STAGE = 7 → s.isF F.GLB_HL_CTL_BUSY = true →
      ∃ t, exec .imageBlockTimeout s = .next t ∧ t.getF F.GLB_BOOT_STAT_STEP = 14 ∧ t.getF F.GLB_BOOT_STAT_RESULT = 7
        ∧ t.isF F.GLB_BOOT_STAT_BOOT_FAIL = true ∧ t.isF F.GLB_HL_CTL_BUSY = false

/-- SERVICE_ENTRY, FWD_GO, IMAGE_CONFIRMED, SNAPSHOT_WRITTEN and NEIGHBOUR_BOOT_REQUEST (R313, R322, R343, R346, R348,
R365): what entering stage 9 leaves, what safe start holds back until FWD_GO, the end of the trial, the snapshot that is
kept, and the request that a device without an image sends.
Completion (own effect, conditions on state and operands alone): serviceEntry, fwdGo, imageConfirmed,
snapshotWritten, neighbourBootRequest. -/
def Obligations.BootEndsInService : Prop :=
  (∀ s : State, s.releasing = true → s.boot.loaded = true → s.boot.tested = true → s.coresDone = true →
      bit (s.getF F.GLB_STRAP_CODE) 0 = false → ∃ t, exec .serviceEntry s = .next t ∧ t.serving = true
        ∧ t.isF F.GLB_RST_STAT_FWD_HELD = false ∧ t.isF F.BKP_BOOT_PENDING = true
        ∧ t.getF F.BKP_BOOT_SEQ_SEQ = s.boot.seq % 2 ^ F.BKP_BOOT_SEQ_SEQ.w ∧ t.boot.waking = false ∧ t.pwr.noAck = []
        ∧ t.boot.since = some s.tb.fab
        ∧ ∀ n < 128, s.rodPresent n = true → (s.rod n).resetting = false → s.isF (F.ROD_CTL_AUTOSTART n) = false →
            t.rodState n = 1 ∧ (t.rod n).en = true)
    ∧ (∀ s : State, s.releasing = true → s.boot.loaded = true → s.boot.tested = true → s.coresDone = true →
      bit (s.getF F.GLB_STRAP_CODE) 0 = true → s.isF F.GLB_START_FWD_GO = false →
      ∃ t, exec .serviceEntry s = .next t ∧ t.serving = true ∧ t.isF F.GLB_RST_STAT_FWD_HELD = true
        ∧ ∀ n < 128, s.rodPresent n = true → (s.rod n).resetting = false → t.rodState n = 1)
    ∧ (∀ s : State, s.serving = false → exec .fwdGo s = .next (s.setB F.GLB_START_FWD_GO true))
    ∧ (∀ (s : State) (n : Nat), s.serving = true → s.isF F.GLB_RST_STAT_FWD_HELD = true → n < 128 →
      s.rodPresent n = true → (s.rod n).resetting = false → s.rodState n = 1 → s.isF (F.ROD_CTL_AUTOSTART n) = true →
      s.isF (F.ROD_CTL_PWM_EN n) = false → ∃ t, exec .fwdGo s = .next t ∧ t.isF F.GLB_RST_STAT_FWD_HELD = false
        ∧ t.isF F.GLB_START_FWD_GO = true ∧ t.rodState n = 2)
    ∧ (∀ s : State, s.serving = true → s.isF F.BKP_BOOT_PENDING = true → s.getF F.PWR_MODE_MODE < 2 →
      60 * cycS ≤ s.ranFor →
      ∃ t, exec .imageConfirmed s = .next t ∧ t.isF F.BKP_BOOT_PENDING = false ∧ t.getF F.BKP_BOOT_TRIES = 0
        ∧ t.isF F.GLB_BOOT_STAT_CONFIRMED = true
        ∧ (s.boot.arv < 2 ^ 32 → t.getF F.KEY_ARC_ARC = max (s.getF F.KEY_ARC_ARC) s.boot.arv))
    ∧ (∀ s : State, s.serving = true → s.snapDue = true → exec .snapshotWritten s = .next (({ s with boot := { s.boot with
        snap := some ⟨s.boot.src, s.getF F.GLB_BOOT_STAT_SLOT, s.boot.seq, s.boot.arv, s.meas.fw, s.meas.cfg,
          s.boot.sections⟩, full := false } }).setB F.GLB_BOOT_STAT_SNAP_VALID true))
    ∧ ∀ s : State, s.getF F.GLB_RST_STAT_STAGE = 7 → s.boot.loaded = false → s.boot.asking = false →
      s.getF F.GLB_BOOT_STAT_SOURCE = 3 → s.isF F.GLB_HL_CTL_BUSY = false → s.askAgain = true → ∃ t, exec .neighbourBootRequest s = .next t
        ∧ t.boot.asking = true ∧ t.ring.bypBoot = true ∧ t.getF F.RNG_BYP_LEVEL = s.pairsThere % 2 ^ F.RNG_BYP_LEVEL.w
        ∧ (∀ p < 8, s.ethPresent p = true → s.linkUp p = true → ∃ o ∈ t.out, ∃ h, o = .eplen p h [])
        ∧ t.dp = s.dp

/-! ### The Eplen ring and the remote windows (chapters 14 and 11) -/

/-- HELLO_TIMER, HELLO, NEIGHBOUR_LOST and EPLEN_RELAY, and any malformed Eplen frame (R354, R356, R357): what leaves each
Eplen port, what a HELLO stores, and where a frame that is still to travel goes.
Completion (own effect, conditions on state and operands alone): helloTimer, hello, neighbourLost, eplenRelay. -/
def Obligations.NeighboursAndRelayedFrames : Prop :=
  (∀ s : State, s.eplenUp = true → s.linkUp (s.eplenPort 0) = true → s.linkUp (s.eplenPort 1) = true →
      ∃ t, exec .helloTimer s = .next t ∧ Sent s t ([0, 1].map (fun d => .eplen (s.eplenPort d) (s.eplenHdr 1 d 0)
        (beBytes 2 (s.getF F.GLB_ID_PART) ++ beBytes 1 (s.eplenPort d) ++ beBytes 1 (b2n s.isHead)))))
    ∧ (∀ s : State, s.eplenUp = true → s.linkUp (s.eplenPort 0) = false → s.linkUp (s.eplenPort 1) = false →
      exec .helloTimer s = .next s)
    ∧ (∀ (s : State) (d : Nat) (frame : List Byte) (h : EplenHdr) (body : List Byte), d < 2 → s.Got frame 1 h body →
      ∃ t, exec (.hello d frame) s = .next t ∧ t.isF (F.RNG_NBR_INFO_VALID d) = true
        ∧ t.getF (F.RNG_NBR_LO_TAG d) = h.origin % 2 ^ 32 ∧ t.getF (F.RNG_NBR_HI_TAG d) = h.origin / 2 ^ 32 % 2 ^ 32
        ∧ t.getF (F.RNG_NBR_INFO_PORT d) = byteAt body 2
        ∧ (s.hasNbr d = false → t.getF F.RNG_REACH_CHANGES = min 255 (s.getF F.RNG_REACH_CHANGES + 1)))
    ∧ (∀ (s : State) (d : Nat), d < 2 → s.eplenUp = true → s.hasNbr d = true → ∃ t, exec (.neighbourLost d) s = .next t
        ∧ t.hasNbr d = false ∧ t.getF (F.RNG_NBR_LO_TAG d) = 0 ∧ t.getF (F.RNG_NBR_HI_TAG d) = 0
        ∧ t.getF F.RNG_REACH_CHANGES = min 255 (s.getF F.RNG_REACH_CHANGES + 1))
    ∧ (∀ (s : State) (d : Nat) (frame : List Byte) (c : Instr), s.eplenUp = true → s.host.held = [] →
      eplenParse frame = none →
      c ∈ [.hello d frame, .probeReceived d frame, .probeAns d frame, .eplenRelay d frame, .event d frame, .ans d frame,
        .err d frame] → exec c s = .next (s.tally (T.rng 1)))
    ∧ (∀ (s : State) (d msg : Nat) (frame : List Byte) (h : EplenHdr) (body : List Byte), d < 2 → msg ∈ eplenRelayed →
      s.Got frame msg h body → 0 < h.hopsLeft → h.origin ≠ s.selfTag → s.hasNbr (1 - d) = true →
      ∃ t, exec (.eplenRelay d frame) s = .next t ∧ Sent s t [.eplen (s.eplenPort (1 - d))
        { h with hopsLeft := h.hopsLeft - 1, hopsDone := (h.hopsDone + 1) % 256 } body])
    ∧ (∀ (s : State) (d msg : Nat) (frame : List Byte) (h : EplenHdr) (body : List Byte), msg ∈ eplenRelayed →
      s.Got frame msg h body → 0 < h.hopsLeft → h.origin = s.selfTag →
      exec (.eplenRelay d frame) s = .next (s.tally (T.rng 3)))
    ∧ ∀ (s : State) (d msg : Nat) (frame : List Byte) (h : EplenHdr) (body : List Byte), d < 2 → msg ∈ eplenRelayed →
      s.Got frame msg h body → 0 < h.hopsLeft → h.origin ≠ s.selfTag → s.hasNbr (1 - d) = false →
      exec (.eplenRelay d frame) s = .next (s.tally (T.rng 2))

/-- PROBE, PROBE_RECEIVED, PROBE_ANS and PROBE_WINDOW_END (R355): the probes that leave, the answer of a device that a probe
reaches, the answers that are collected, and the reach and ring size that they show after the window.
Completion (own effect, conditions on state and operands alone): probe, probeReceived, probeAns, probeWindowEnd. -/
def Obligations.ProbesFindTheRing : Prop :=
  (∀ s : State, s.eplenUp = true → ∃ t, exec .probe s = .next t ∧ t.ring.probing = true ∧ t.ring.ans = []
      ∧ t.ring.back = none ∧ t.regs = s.regs ∧ ∀ d < 2, s.hasNbr d = true →
        .eplen (s.eplenPort d) (s.eplenHdr 2 d Config.probeHops.toNat) (beBytes 1 (b2n s.isHead)) ∈ t.out)
    ∧ (∀ (s : State) (d : Nat) (frame : List Byte) (h : EplenHdr) (body : List Byte), d < 2 → s.Got frame 2 h body →
      h.hopsLeft = 0 → h.origin ≠ s.selfTag → ∃ t, exec (.probeReceived d frame) s = .next t
        ∧ Sent s t [.eplen (s.eplenPort d) (s.eplenHdr 3 (1 - h.dir) h.hopsDone) (beBytes 1 (b2n s.isHead))])
    ∧ (∀ (s : State) (d : Nat) (frame : List Byte) (h : EplenHdr) (body : List Byte), s.Got frame 2 h body →
      h.origin = s.selfTag → s.ring.probing = true → exec (.probeReceived d frame) s
        = .next { s with ring := { s.ring with back := some (h.hopsDone + 1) } })
    ∧ (∀ (s : State) (d : Nat) (frame : List Byte) (h : EplenHdr) (body : List Byte), s.Got frame 3 h body →
      h.hopsLeft = 0 → s.ring.probing = true → byteAt body 0 ≠ 1 → exec (.probeAns d frame) s
        = .next { s with ring := { s.ring with ans := (1 - h.dir, h.hopsDone + 1) :: s.ring.ans } })
    ∧ (∀ (s : State) (d : Nat) (frame : List Byte) (h : EplenHdr) (body : List Byte), s.Got frame 3 h body →
      h.hopsLeft = 0 → s.ring.probing = true → byteAt body 0 = 1 → exec (.probeAns d frame) s
        = .next { s with ring := { s.ring with
            ans := (1 - h.dir, h.hopsDone + 1) :: s.ring.ans
            heads := s.ring.heads ++ [(1 - h.dir, h.hopsDone + 1, h.origin)] } })
    ∧ ∀ (s : State) (k m : Nat), s.eplenUp = true → s.ring.probing = true → k < 15 → m < 15 →
      (∀ j, 1 ≤ j → j ≤ k → (0, j) ∈ s.ring.ans) → (0, k + 1) ∉ s.ring.ans →
      (∀ j, 1 ≤ j → j ≤ m → (1, j) ∈ s.ring.ans) → (1, m + 1) ∉ s.ring.ans →
      ∃ t, exec .probeWindowEnd s = .next t ∧ t.getF F.RNG_REACH_REACH0 = k ∧ t.getF F.RNG_REACH_REACH1 = m
        ∧ t.isF F.RNG_STAT_CLOSED = s.ring.back.isSome
        ∧ t.getF F.RNG_REACH_RING_SIZE = s.ring.back.getD 0 % 256
        ∧ t.isF F.RNG_STAT_MULTI_HEAD = manyHeads s.ring.heads ∧ t.ring.probing = false

/-- REMOTE_POSTED_WRITE, REMOTE_ACK_WRITE, REMOTE_READ, REMOTE_ATOMIC, RNG_WIN_FENCE and SUBSCRIBE_REFRESH through a free
window that reaches its device (R287, R289 to R294, R362): the REQ frame that leaves, the RSEQ that is taken, and what
waits for its answer; a read or atomic of another size is unsupported, and an access that reaches no device is recorded.
Completion (own effect, conditions on state and operands alone): remotePostedWrite, remoteAckWrite, remoteRead,
remoteAtomic, rngWinFence, subscribeRefresh. -/
def Obligations.RemoteAccessesLeaveAsRequests : Prop :=
  (∀ (s : State) (h x v : Nat), s.WinFree h → s.memOn = true → s.host.held = [] → x % 4 = 0 → x < 2 ^ 19 →
      ∃ t, exec (.remotePostedWrite h x [(v, true)]) s = .next t ∧ (t.win h).q = []
        ∧ ReqSent s t h { rseq := s.getF (F.RNG_WIN_SEQ_NEXT (h - 1)), kind := 0, off := s.remoteOff h x, count := 1
                          data := [v % 2 ^ 32] })
    ∧ (∀ (s : State) (h x v : Nat), s.WinFree h → s.memOn = true → s.host.held = [] → x % 4 = 0 → x < 2 ^ 19 →
      ∃ t, exec (.remoteAckWrite h x [(v, true)]) s = .next t ∧ t.getF (F.RNG_WIN_STAT_ACK_PENDING (h - 1)) = 1
        ∧ ∃ a : Acc, a = { rseq := s.getF (F.RNG_WIN_SEQ_NEXT (h - 1)), kind := 1, off := s.remoteOff h x, count := 1
                           data := [v % 2 ^ 32] } ∧ (t.win h).q = [{ a with sent := true }] ∧ ReqSent s t h a)
    ∧ (∀ (s : State) (h x : Nat), s.WinFree h → s.memOn = true → x % 4 = 0 → x < 2 ^ 19 →
      ∃ t, exec (.remoteRead h x 1) s = .next t
        ∧ ∃ a : Acc, a = { rseq := s.getF (F.RNG_WIN_SEQ_NEXT (h - 1)), kind := 2, off := s.remoteOff h x, count := 1 }
          ∧ (t.win h).q = [{ a with sent := true }] ∧ ReqSent s t h a)
    ∧ (∀ (s : State) (h x a b : Nat), s.WinFree h → s.memOn = true → x % 4 = 0 → x < 2 ^ 19 →
      ∃ t, exec (.remoteAtomic h x 2 32 a b) s = .next t
        ∧ ∃ c : Acc, c = { rseq := s.getF (F.RNG_WIN_SEQ_NEXT (h - 1)), kind := 3, atomic := 2, off := s.remoteOff h x
                           count := 2, data := [a % 2 ^ 32, b % 2 ^ 32] }
          ∧ (t.win h).q = [{ c with sent := true }] ∧ ReqSent s t h c)
    ∧ (∀ (s : State) (h : Nat), s.WinFree h → s.memOn = true → s.serving = true →
      ∃ t, exec (.rngWinFence h) s = .next t
        ∧ ∃ a : Acc, a = { rseq := s.getF (F.RNG_WIN_SEQ_NEXT (h - 1)), kind := 4, off := 0, count := 0 }
          ∧ (t.win h).q = [{ a with sent := true }] ∧ ReqSent s t h a)
    ∧ (∀ (s : State) (h : Nat), s.WinFree h → s.getF F.RNG_EVT_SUB_WIN = 2 ^ (h - 1) →
      ∃ t, exec .subscribeRefresh s = .next t
        ∧ ∃ a : Acc, a = { rseq := s.getF (F.RNG_WIN_SEQ_NEXT (h - 1)), kind := 5, off := 0, count := 0 }
          ∧ (t.win h).q = [{ a with sent := true }] ∧ ReqSent s t h a)
    ∧ (∀ (s : State) (h x count : Nat), s.host.link = true → 2 < count →
      exec (.remoteRead h x count) s = .next (s.emit .unsupported))
    ∧ (∀ (s : State) (h x op size a b : Nat), s.host.link = true → size ≠ 32 →
      exec (.remoteAtomic h x op size a b) s = .next (s.emit .unsupported))
    ∧ (∀ (s : State) (h x v : Nat), s.memOn = true → s.host.held = [] → 1 ≤ h → h < 16 → s.winReaches h = false →
      s.ackQueued h < 32 → s.getF F.RNG_REL_STAT_UNREAD < 32 →
      ∃ t, exec (.remoteAckWrite h x [(v, true)]) s = .next t ∧ t.out = s.out ∧ (t.win h).q = (s.win h).q
        ∧ t.getF (F.RNG_WIN_STAT_LAST_STATUS (h - 1)) = 2
        ∧ t.getF F.RNG_REL_STAT_UNREAD = s.getF F.RNG_REL_STAT_UNREAD + 1 ∧ Counted s t (T.rngWin h 0))

/-- ANS, REMOTE_TIMEOUT, ERR and RNG_REL_ACK (R292 to R296): an answer completes the access it names and a late one is
counted; an access without answer ends with TIMEOUT and a record; a far side's error becomes a record, or is counted as lost
when 32 are unread; the host acknowledges records.
Completion (own effect, conditions on state and operands alone): ans, remoteTimeout, err, rngRelAck. -/
def Obligations.RemoteAccessesEndOrAreRecorded : Prop :=
  (∀ (s : State) (d : Nat) (frame : List Byte) (h : EplenHdr) (body : List Byte) (a : Acc) (w : Nat),
      s.host.held = [] → s.Got frame 0x11 h body → h.hopsLeft = 0 → w = h.hopsDone + 1 → w < 16 → (s.win w).q = [a] → a.sent = true →
      a.rseq = beAt body 0 4 → a.kind = 2 → a.count = 1 → s.winDir w + h.dir = 1 → byteAt body 4 = 0 →
      byteAt body 5 = 1 → ∃ t, exec (.ans d frame) s = .next t ∧ (t.win w).q = []
        ∧ t.out = s.out ++ [.completion (beAt body 6 4)] ∧ t.getF (F.RNG_WIN_STAT_LAST_STATUS (w - 1)) = 0
        ∧ OnlyFields { s with out := t.out, host := t.host } t
            [F.RNG_WIN_STAT_LAST_STATUS (w - 1), F.RNG_WIN_STAT_ACK_PENDING (w - 1)])
    ∧ (∀ (s : State) (d : Nat) (frame : List Byte) (h : EplenHdr) (body : List Byte) (w : Nat), s.Got frame 0x11 h body →
      s.host.held = [] → h.hopsLeft = 0 → w = h.hopsDone + 1 → w < 16 → (s.win w).q = [] →
      exec (.ans d frame) s = .next (s.tally (T.rngWin w 1)))
    ∧ (∀ (s : State) (h : Nat) (a : Acc), 1 ≤ h → h < 16 → (s.win h).q = [a] → a.sent = true → a.kind = 1 →
      s.host.held = [] →
      s.getF F.RNG_REL_STAT_UNREAD < 32 → ∃ t, exec (.remoteTimeout h) s = .next t ∧ (t.win h).q = []
        ∧ t.getF (F.RNG_WIN_STAT_LAST_STATUS (h - 1)) = 7 ∧ (t.win h).errs = (s.win h).errs + 1
        ∧ t.getF F.RNG_REL_STAT_UNREAD = s.getF F.RNG_REL_STAT_UNREAD + 1 ∧ Counted s t (T.rngWin h 0))
    ∧ (∀ (s : State) (h : Nat) (a : Acc), 1 ≤ h → h < 16 → (s.win h).q = [a] → a.sent = true → a.kind = 2 → a.count = 1 →
      s.host.held = [] →
      s.getF F.RNG_REL_STAT_UNREAD < 32 → ∃ t, exec (.remoteTimeout h) s = .next t ∧ (t.win h).q = []
        ∧ t.out = s.out ++ [.completion (2 ^ 32 - 1)] ∧ t.getF (F.RNG_WIN_STAT_LAST_STATUS (h - 1)) = 7)
    ∧ (∀ (s : State) (d i : Nat) (frame : List Byte) (h : EplenHdr) (body : List Byte), s.Got frame 0x12 h body →
      h.hopsLeft = 0 → byteAt body 4 % 16 ≠ 0 → s.getF F.RNG_REL_STAT_UNREAD < 32 →
      i = s.getF F.RNG_REL_STAT_WRITTEN % 32 → ∃ t, exec (.err d frame) s = .next t
        ∧ t.getF F.RNG_REL_STAT_UNREAD = s.getF F.RNG_REL_STAT_UNREAD + 1
        ∧ t.getF F.RNG_REL_STAT_WRITTEN = (s.getF F.RNG_REL_STAT_WRITTEN + 1) % 256
        ∧ t.getF (F.RNG_REL_REC_WORD i 0) = beAt body 7 4 % 2 ^ 26 + byteAt body 4 % 16 * 2 ^ 26
        ∧ t.getF (F.RNG_REL_REC_WORD i 1) = beAt body 0 4
        ∧ t.getF (F.RNG_REL_REC_WORD i 2) = byteAt body 5 % 16 + byteAt body 6 % 8 * 16 + 2 ^ 31
        ∧ t.getF (F.RNG_REL_REC_WORD i 3) = beAt body 11 4 ∧ Counted s t (T.rngWin (byteAt body 4 % 16) 0))
    ∧ (∀ (s : State) (d : Nat) (frame : List Byte) (h : EplenHdr) (body : List Byte), s.Got frame 0x12 h body →
      h.hopsLeft = 0 → byteAt body 4 % 16 ≠ 0 → s.getF F.RNG_REL_STAT_UNREAD = 32 → s.getF F.RNG_REL_STAT_LOST < 65535 →
      ∃ t, exec (.err d frame) s = .next t ∧ t.getF F.RNG_REL_STAT_LOST = s.getF F.RNG_REL_STAT_LOST + 1
        ∧ Counted s t (T.rng 0) ∧ FieldsKept s t [F.RNG_REL_STAT_LOST])
    ∧ ∀ (s : State) (n : Nat), s.serving = true → s.getF F.RNG_REL_STAT_UNREAD ≤ 32 →
      exec (.rngRelAck n) s = .next (s.setF F.RNG_REL_STAT_UNREAD
        (s.getF F.RNG_REL_STAT_UNREAD - min (n % 64) (s.getF F.RNG_REL_STAT_UNREAD)))

/-- REMOTE_CONTEXT_IDLE, SUBSCRIBER_EXPIRY and EVENT (R359, R362, R363, R305): idle contexts and subscribers that have not
refreshed go, and a far device's event enters the host's ring with its hop, or is counted as lost.
Completion (own effect, conditions on state and operands alone): remoteContextIdle, subscriberExpiry, event. -/
def Obligations.FarContextsSubscribersAndEvents : Prop :=
  (∀ s : State, ∃ t, exec .remoteContextIdle s = .next t ∧ t = { s with ring := { s.ring with ctxs := t.ring.ctxs } }
      ∧ ∀ c, c ∈ t.ring.ctxs ↔ c ∈ s.ring.ctxs ∧ s.tb.fab - c.at_ < 10 * cycS)
    ∧ (∀ s : State, ∃ t, exec .subscriberExpiry s = .next t ∧ t = { s with ring := { s.ring with subs := t.ring.subs } }
      ∧ ∀ c, c ∈ t.ring.subs ↔ c ∈ s.ring.subs ∧ s.tb.fab - c.at_ < 3 * cycS)
    ∧ (∀ (s : State) (d : Nat) (frame : List Byte) (h : EplenHdr) (body : List Byte), s.Got frame 0x20 h body →
      h.hopsLeft = 0 → s.isF F.DMA_EVR_CFG_EN = true →
      (s.getF F.DMA_EVR_HEAD_HEAD + 2 ^ 16 - s.getF F.DMA_EVR_TAIL_TAIL) % 2 ^ 16 ≠ 1024 →
      ∃ t, exec (.event d frame) s = .next t
        ∧ t.getF F.DMA_EVR_HEAD_HEAD = (s.getF F.DMA_EVR_HEAD_HEAD + 1) % 2 ^ 16
        ∧ FieldsKept s t [F.DMA_EVR_HEAD_HEAD] ∧ t.evCtl = s.evCtl ∧ t.evSvc = s.evSvc)
    ∧ ∀ (s : State) (d : Nat) (frame : List Byte) (h : EplenHdr) (body : List Byte), s.Got frame 0x20 h body →
      h.hopsLeft = 0 → s.isF F.DMA_EVR_CFG_EN = false → exec (.event d frame) s = .next (s.tally (T.glb 5))

/-! ### Field update over the ring (chapter 14) -/

/-- UPD_NOP, LOAD, RELAY, ACTIVATE, UPD_ABORT and CLEAR (R367, R368, R371, R373, R375): the state of the session that each
leaves and its status, and STATE_REJECT where the state is wrong. LOAD fetches the whole image (log 62) once the host has
enabled Bus Master.
Completion (own effect, conditions on state and operands alone): updNop, load, relay, activate, updAbort, clear. -/
def Obligations.UpdateCommandsMoveTheSession : Prop :=
  (∀ s : State, s.UpdTakes → exec .updNop s = .next (((s.setF F.UPD_STAT_LAST_OP 0).setF F.UPD_STAT_STATUS 0).tally
      (T.upd 0)))
    ∧ (∀ (s : State) (img : List Byte), s.UpdTakes → s.updState = 0 → s.canStage = true → s.ddrStage = true →
      s.memReads = true → s.getF F.UPD_HOST_LEN_LEN ≤ 16777216 → ∃ t, exec (.load img) s = .next t ∧ UpdEnded s t 1 0 ∧ t.updState = 2
        ∧ t.upd.here = true ∧ t.upd.len = s.getF F.UPD_HOST_LEN_LEN
        ∧ t.getF F.UPD_PROGRESS_NBLK = ceilDiv (s.getF F.UPD_HOST_LEN_LEN) 4096
        ∧ t.getF F.UPD_PROGRESS_HELD = ceilDiv (s.getF F.UPD_HOST_LEN_LEN) 4096
        ∧ (∀ i < s.getF F.UPD_HOST_LEN_LEN, t.ddrByte i = (img.getD i 0).toNat)
        ∧ ∀ i, s.getF F.UPD_HOST_LEN_LEN ≤ i → t.ddrByte i = s.ddrByte i)
    ∧ (∀ (s : State) (img : List Byte), s.UpdTakes → s.updState = 0 → s.canStage = true → s.memReads = false →
      ∃ t, exec (.load img) s = .next t ∧ UpdEnded s t 1 0 ∧ t.updState = 1 ∧ t.upd.here = true ∧ t.upd.held = []
        ∧ t.ddr = s.ddr)
    ∧ (∀ (s : State) (img : List Byte), s.UpdTakes → s.updState ≠ 0 → exec (.load img) s
        = .next (((s.setF F.UPD_STAT_LAST_OP 1).setF F.UPD_STAT_STATUS 4).tally (T.upd 4)))
    ∧ (∀ s : State, s.UpdTakes → s.updState = 3 → s.upd.here = true → s.eplenUp = true → s.hasNbr 0 = true →
      s.hasNbr 1 = false → ∃ t, exec .relay s = .next t ∧ UpdEnded s t 2 0
        ∧ t.out = s.out ++ [.eplen (s.eplenPort 0) (s.eplenHdr 0x31 0 0) (beBytes 4 s.session ++ beBytes 4 s.upd.len
            ++ beBytes 2 (ceilDiv s.upd.len 4096) ++ beBytes 48 s.upd.hash)]
        ∧ t.flow 0 = { state := 1, session := s.session } ∧ t.updState = 3)
    ∧ (∀ s : State, s.UpdTakes → s.actsHead = true → s.param 0x28 1 = 0 → s.mayArm = true → s.upd.arming = false →
      s.ringDevices ≤ s.stagedVotes → ∃ t, exec .activate s = .next t ∧ UpdEnded s t 3 0 ∧ t.updState = 4
        ∧ t.upd.arming = true
        ∧ t.getF F.UPD_ACT_NS_T_ACT = tNs (s.tb.clk + ns40 (s.param 0x25 2000 * 1000000)) % 2 ^ 30
        ∧ t.getF F.UPD_ACT_SL_T_ACT = tSec (s.tb.clk + ns40 (s.param 0x25 2000 * 1000000)) % 2 ^ 32)
    ∧ (∀ s : State, s.UpdTakes → s.actsHead = false → exec .activate s
        = .next (((s.setF F.UPD_STAT_LAST_OP 3).setF F.UPD_STAT_STATUS 4).tally (T.upd 4)))
    ∧ (∀ s : State, s.UpdTakes → s.inSession = true → ∃ t, exec .updAbort s = .next t ∧ UpdEnded s t 4 0
        ∧ t.updState = 6 ∧ t.upd.held = [] ∧ t.upd.blocks = [] ∧ t.upd.active = s.upd.active ∧ t.ddr = s.ddr)
    ∧ (∀ s : State, s.UpdTakes → s.inSession = false → exec .updAbort s
        = .next (((s.setF F.UPD_STAT_LAST_OP 4).setF F.UPD_STAT_STATUS 4).tally (T.upd 4)))
    ∧ ∀ s : State, s.UpdTakes → s.updState = 6 → ∃ t, exec .clear s = .next t ∧ UpdEnded s t 5 0 ∧ t.updState = 0
        ∧ t.session = 0 ∧ t.getF F.UPD_PROGRESS_HELD = 0 ∧ t.getF F.UPD_PROGRESS_NBLK = 0
        ∧ t.getF F.UPD_VOTES_FAIL_STATUS = 0 ∧ t.dp = s.dp

/-- OFFER, OFFER_ANS, OFFER_TIMEOUT and IMG_REQ (R369, R376): an offer that is taken begins a session and is answered OK, one
for another session is refused; the answers start, end or fail a flow; a booting neighbour is offered the active image or
refused.
Completion (own effect, conditions on state and operands alone): offer, offerAns, offerTimeout, imgReq. -/
def Obligations.OffersBeginSessionsAndFlows : Prop :=
  (∀ (s : State) (d : Nat) (frame : List Byte) (h : EplenHdr) (body : List Byte), d < 2 → s.UpdGot frame 0x31 h body →
      s.updState = 0 → s.canStage = true → beAt body 4 4 ≤ 16777216 → beAt body 4 4 ≠ 0 →
      beAt body 8 2 = ceilDiv (beAt body 4 4) 4096 → ∃ t, exec (.offer d frame) s = .next t ∧ t.updState = 1
        ∧ t.session = beAt body 0 4 ∧ t.upd.rxDir = some d ∧ t.upd.len = beAt body 4 4 ∧ t.upd.held = []
        ∧ t.getF F.UPD_PROGRESS_NBLK = ceilDiv (beAt body 4 4) 4096
        ∧ .eplen (s.eplenPort d) (s.eplenHdr 0x32 (1 - h.dir) h.hopsDone) (beBytes 4 (beAt body 0 4) ++ beBytes 1 0) ∈ t.out)
    ∧ (∀ (s : State) (d : Nat) (frame : List Byte) (h : EplenHdr) (body : List Byte), d < 2 → s.UpdGot frame 0x31 h body →
      s.inSession = true → s.session ≠ beAt body 0 4 → ∃ t, exec (.offer d frame) s = .next t
        ∧ Sent s t [.eplen (s.eplenPort d) (s.eplenHdr 0x32 (1 - h.dir) h.hopsDone)
            (beBytes 4 (beAt body 0 4) ++ beBytes 1 4)])
    ∧ (∀ (s : State) (d : Nat) (frame : List Byte) (h : EplenHdr) (body : List Byte), d < 2 → s.UpdGot frame 0x31 h body →
      s.inSession = true → s.session = beAt body 0 4 → ∃ t, exec (.offer d frame) s = .next t
        ∧ Sent s t [.eplen (s.eplenPort d) (s.eplenHdr 0x32 (1 - h.dir) h.hopsDone)
            (beBytes 4 (beAt body 0 4) ++ beBytes 1 1)])
    ∧ (∀ (s : State) (d : Nat) (frame : List Byte) (h : EplenHdr) (body : List Byte), d < 2 → s.UpdGot frame 0x32 h body →
      (s.flow d).state = 1 → (s.flow d).session = beAt body 0 4 → (s.flow d).serve = false → (s.flow d).sent = [] →
      (s.flow d).open_ = [] → byteAt body 4 = 0 → s.getF F.UPD_PROGRESS_NBLK = 1 → s.upd.held = [0] →
      s.eplenPort d < 8 → s.ethPresent (s.eplenPort d) = true →
      ∃ t, exec (.offerAns d frame) s = .next t ∧ (t.flow d).state = 2 ∧ (t.flow d).sent = [0]
        ∧ (t.flow d).open_ = [(0, 0)] ∧ Counted s t (T.rngPort (s.eplenPort d) 0)
        ∧ t.out = s.out ++ [.eplen (s.eplenPort d) (s.eplenHdr 0x33 d 0) (beBytes 4 (beAt body 0 4) ++ beBytes 2 0
            ++ beBytes 2 (s.blockData 0).length ++ beBytes 4 (crc32c (s.blockData 0)) ++ s.blockData 0)])
    ∧ (∀ (s : State) (d : Nat) (frame : List Byte) (h : EplenHdr) (body : List Byte), d < 2 → s.UpdGot frame 0x32 h body →
      (s.flow d).state = 1 → (s.flow d).session = beAt body 0 4 → byteAt body 4 = 1 →
      exec (.offerAns d frame) s = .next (s.setFlow d {}))
    ∧ (∀ (s : State) (d : Nat) (frame : List Byte) (h : EplenHdr) (body : List Byte), d < 2 → s.UpdGot frame 0x32 h body →
      (s.flow d).state = 1 → (s.flow d).session = beAt body 0 4 → 1 < byteAt body 4 → (s.flow d).serve = false →
      s.upd.nbrFail = none → ∃ t, exec (.offerAns d frame) s = .next t ∧ t.upd.nbrFail = some (byteAt body 4)
        ∧ t.flow d = {} ∧ t.regs = s.regs ∧ t.out = s.out)
    ∧ (∀ (s : State) (d : Nat), d < 2 → (s.flow d).state = 1 → (s.flow d).serve = false → s.upd.nbrFail = none →
      ∃ t, exec (.offerTimeout d) s = .next t ∧ t.upd.nbrFail = some 7 ∧ t.flow d = {} ∧ t.regs = s.regs
        ∧ t.out = s.out)
    ∧ (∀ (s : State) (d : Nat) (frame : List Byte) (h : EplenHdr) (body : List Byte), d < 2 → s.UpdGot frame 0x30 h body →
      s.upd.active = [] → ∃ t, exec (.imgReq d frame) s = .next t
        ∧ Sent { s with freeCtr := s.freeCtr + 1 } t [.eplen (s.eplenPort d) (s.eplenHdr 0x32 (1 - h.dir) h.hopsDone)
            (beBytes 4 ((Config.free s.freeCtr).toNat % 2 ^ 32) ++ beBytes 1 4)])
    ∧ ∀ (s : State) (d : Nat) (frame : List Byte) (h : EplenHdr) (body : List Byte), d < 2 → s.UpdGot frame 0x30 h body →
      s.upd.active ≠ [] → ∃ t, exec (.imgReq d frame) s = .next t
        ∧ t.flow d = { state := 1, serve := true, session := (Config.free s.freeCtr).toNat % 2 ^ 32 }
        ∧ t.out = s.out ++ [.eplen (s.eplenPort d) (s.eplenHdr 0x31 d 0)
            (beBytes 4 ((Config.free s.freeCtr).toNat % 2 ^ 32) ++ beBytes 4 s.upd.active.length
              ++ beBytes 2 (ceilDiv s.upd.active.length 4096) ++ beBytes 48 (beAt s.upd.active 100 48))]
        ∧ t.regs = s.regs

/-- BLOCK, BLOCK_ACK, BLOCK_RESEND and BLOCK_RECEIVE_TIMEOUT (R370): a sound block is held, stored and acknowledged and the
last one begins the check; a block with a wrong CRC is counted and dropped; acknowledged blocks leave the window, others
are sent again up to eight times; a session without blocks fails.
Completion (own effect, conditions on state and operands alone): block, blockAck, blockResend, blockReceiveTimeout. -/
def Obligations.BlocksCrossOneHop : Prop :=
  (∀ (s : State) (d k len : Nat) (frame : List Byte) (h : EplenHdr) (body : List Byte), d < 2 →
      s.UpdGot frame 0x33 h body → s.updState = 1 → beAt body 0 4 = s.session → s.upd.rxDir = some d →
      beAt body 4 2 = k → beAt body 6 2 = len → ((body.drop 12).take len).length = len →
      crc32c ((body.drop 12).take len) = beAt body 8 4 → k < s.getF F.UPD_PROGRESS_NBLK →
      1 < s.getF F.UPD_PROGRESS_NBLK → len = min 4096 (s.upd.len - 4096 * k) → s.upd.held = [] →
      s.isF F.UPD_STAT_NOR_STAGE = false → s.hasNbr (1 - d) = false → ∃ t, exec (.block d frame) s = .next t
        ∧ t.upd.held = [k] ∧ t.getF F.UPD_PROGRESS_HELD = 1 ∧ t.updState = 1
        ∧ t.out = s.out ++ [.eplen (s.eplenPort d) (s.eplenHdr 0x34 (1 - h.dir) h.hopsDone) t.ackBody]
        ∧ (∀ i < len, t.ddrByte (4096 * k + i) = (((body.drop 12).take len).getD i 0).toNat)
        ∧ ∀ x, x < 4096 * k ∨ 4096 * k + len ≤ x → t.ddrByte x = s.ddrByte x)
    ∧ (∀ (s : State) (d len : Nat) (frame : List Byte) (h : EplenHdr) (body : List Byte), d < 2 →
      s.UpdGot frame 0x33 h body → s.updState = 1 → beAt body 0 4 = s.session → s.upd.rxDir = some d →
      beAt body 4 2 = 0 → beAt body 6 2 = len → ((body.drop 12).take len).length = len →
      crc32c ((body.drop 12).take len) = beAt body 8 4 → s.getF F.UPD_PROGRESS_NBLK = 1 →
      len = min 4096 s.upd.len → s.upd.held = [] → s.hasNbr (1 - d) = false →
      ∃ t, exec (.block d frame) s = .next t ∧ t.updState = 2 ∧ t.upd.held = [0])
    ∧ (∀ (s : State) (d : Nat) (frame : List Byte) (h : EplenHdr) (body : List Byte), d < 2 → s.UpdGot frame 0x33 h body →
      s.updState = 1 → beAt body 0 4 = s.session → s.upd.rxDir = some d →
      crc32c ((body.drop 12).take (beAt body 6 2)) ≠ beAt body 8 4 →
      exec (.block d frame) s = .next (s.tally (T.rng 6)))
    ∧ (∀ (s : State) (d : Nat) (frame : List Byte) (h : EplenHdr) (body : List Byte), d < 2 → s.UpdGot frame 0x34 h body →
      (s.flow d).state = 2 → (s.flow d).session = beAt body 0 4 → (s.flow d).serve = false → (s.flow d).sent = [0] →
      (s.flow d).open_ = [(0, 0)] → beAt body 4 2 = 1 → s.getF F.UPD_PROGRESS_NBLK = 1 →
      ∃ t, exec (.blockAck d frame) s = .next t ∧ t.flow d = {} ∧ t.out = s.out ∧ t.regs = s.regs)
    ∧ (∀ (s : State) (d k n : Nat), d < 2 → s.updUp = true → (s.flow d).state = 2 → (s.flow d).serve = false →
      (s.flow d).open_ = [(k, n)] → n < 8 → k ∈ s.upd.held → s.eplenPort d < 8 → s.ethPresent (s.eplenPort d) = true →
      ∃ t, exec (.blockResend d k) s = .next t
        ∧ (t.flow d).open_ = [(k, n + 1)] ∧ Counted s t (T.rngPort (s.eplenPort d) 1)
        ∧ Counted s t (T.rngPort (s.eplenPort d) 0)
        ∧ t.out = s.out ++ [.eplen (s.eplenPort d) (s.eplenHdr 0x33 d 0) (beBytes 4 (s.flow d).session ++ beBytes 2 k
            ++ beBytes 2 (s.blockData k).length ++ beBytes 4 (crc32c (s.blockData k)) ++ s.blockData k)])
    ∧ (∀ (s : State) (d k : Nat), d < 2 → s.updUp = true → (s.flow d).state = 2 → (s.flow d).serve = false →
      (s.flow d).open_ = [(k, 8)] → s.upd.nbrFail = none → ∃ t, exec (.blockResend d k) s = .next t
        ∧ t.upd.nbrFail = some 7 ∧ t.flow d = {} ∧ t.out = s.out)
    ∧ ∀ (s : State) (d : Nat), s.updState = 1 → s.upd.rxDir = some d → ∃ t, exec .blockReceiveTimeout s = .next t
        ∧ t.updState = 6 ∧ t.getF F.UPD_STAT_STATUS = 7 ∧ t.upd.held = [] ∧ t.ddr = s.ddr

/-- UPD_STAGED, POLL, VOTE and UPD_RING_TIMEOUT (R371, R372): the end of the check, the vote that a device answers, the votes
that the head counts, and the ring that it aborts.
Completion (own effect, conditions on state and operands alone): updStaged, poll, vote, updRingTimeout. -/
def Obligations.VotesDecideTheSession : Prop :=
  (∀ s : State, s.updState = 2 → s.pairUp 1 = true → ∃ t, exec (.updStaged true) s = .next t
      ∧ (s.checkStaged s.stagedImage = none → t.updState = 3)
      ∧ ∀ st, s.checkStaged s.stagedImage = some st → t.updState = 6 ∧ t.getF F.UPD_STAT_STATUS = st % 16
          ∧ t.upd.held = [])
    ∧ (∀ s : State, s.updUp = true → s.actsHead = true → s.updState = 1 → s.boot.src ≠ 2 → s.upd.nbrFail = none →
      s.upd.rejected = false → s.upd.votes = [] → s.isF F.RNG_STAT_CLOSED = false → s.isF F.RNG_STAT_MULTI_HEAD = false →
      s.getF F.RNG_REACH_REACH0 = 1 → s.getF F.RNG_REACH_REACH1 = 0 → ∃ t, exec (.poll none) s = .next t
        ∧ t.out = s.out ++ [.eplen (s.eplenPort 0) (s.eplenHdr 0x38 0 0) (beBytes 4 s.session)]
        ∧ t.upd.votes = [(s.selfTag, 1, 0)] ∧ t.getF F.UPD_VOTES_EXPECTED = 2 ∧ t.getF F.UPD_VOTES_STAGED = 0
        ∧ t.updState = 1)
    ∧ (∀ (s : State) (d : Nat) (frame : List Byte) (h : EplenHdr) (body : List Byte), d < 2 → s.UpdGot frame 0x38 h body →
      h.hopsLeft = 0 → ∃ t, exec (.poll (some (d, frame))) s = .next t
        ∧ Sent s t [.eplen (s.eplenPort d) (s.eplenHdr 0x39 (1 - h.dir) h.hopsDone) (body.take 4
            ++ beBytes 1 (s.vote (beAt body 0 4)).1 ++ beBytes 1 (s.vote (beAt body 0 4)).2)])
    ∧ (∀ (s : State) (d : Nat) (frame : List Byte) (h : EplenHdr) (body : List Byte), s.UpdGot frame 0x39 h body →
      h.hopsLeft = 0 → s.actsHead = true → s.inSession = true → beAt body 0 4 = s.session → byteAt body 4 = 3 →
      byteAt body 5 = 0 → s.upd.votes = [] → s.isF F.RNG_STAT_MULTI_HEAD = false → s.ringDevices = 2 →
      ∃ t, exec (.vote d frame) s = .next t ∧ t.upd.votes = [(h.origin, 3, 0)]
        ∧ OnlyFields { s with upd := t.upd } t [F.UPD_VOTES_STAGED, F.UPD_VOTES_EXPECTED]
        ∧ t.getF F.UPD_VOTES_STAGED = 1 ∧ t.getF F.UPD_VOTES_EXPECTED = 2)
    ∧ (∀ (s : State) (d : Nat) (frame : List Byte) (h : EplenHdr) (body : List Byte), s.UpdGot frame 0x39 h body →
      h.hopsLeft = 0 → s.actsHead = true → s.inSession = true → beAt body 0 4 = s.session → byteAt body 4 = 6 →
      s.getF F.UPD_VOTES_FAIL_STATUS = 0 → ∃ t, exec (.vote d frame) s = .next t ∧ t.updState = 6
        ∧ t.getF F.UPD_STAT_STATUS = 4 ∧ t.getF F.UPD_VOTES_FAIL_HOP = (h.hopsDone + 1) % 16
        ∧ t.getF F.UPD_VOTES_FAIL_DIR = (1 - h.dir) % 2 ∧ t.getF F.UPD_VOTES_FAIL_STATUS = byteAt body 5 % 16)
    ∧ ∀ s : State, s.updUp = true → s.actsHead = true → s.inSession = true → s.upd.arming = false → s.upd.votes ≠ [] →
      s.stagedVotes < s.ringDevices → ∃ t, exec .updRingTimeout s = .next t ∧ t.updState = 6
        ∧ t.getF F.UPD_STAT_STATUS = 4 ∧ t.upd.held = []

/-- ARM, ARMED, ARM_GUARD_DEADLINE, COMMIT, COMMIT_RESEND, ACTIVATION_INSTANT and ABORT (R373 to R375): the devices arm and
answer, the head commits when all have, a device whose commit is held writes block 0 and takes a reset of warm reach, one
without it returns to STAGED, and an abort fails the session.
Completion (own effect, conditions on state and operands alone): arm, armed, armGuardDeadline, commit, commitResend,
activationInstant, abort. -/
def Obligations.ArmedDevicesActivateTogether : Prop :=
  (∀ (s : State) (d : Nat) (frame : List Byte) (h : EplenHdr) (body : List Byte), d < 2 → s.UpdGot frame 0x3A h body →
      h.hopsLeft = 0 → beAt body 0 4 = s.session → s.mayArm = true → ∃ t, exec (.arm d frame) s = .next t
        ∧ t.updState = 4 ∧ t.getF F.UPD_ACT_NS_T_ACT = beAt body 10 4 % 2 ^ 30
        ∧ t.getF F.UPD_ACT_SL_T_ACT = beAt body 4 6 % 2 ^ 32 ∧ t.getF F.UPD_ACT_SH_T_ACT = beAt body 4 6 / 2 ^ 32 % 2 ^ 16
        ∧ .eplen (s.eplenPort d) (s.eplenHdr 0x3B (1 - h.dir) h.hopsDone) (body.take 4) ∈ t.out)
    ∧ (∀ (s : State) (d : Nat) (frame : List Byte) (h : EplenHdr) (body : List Byte), d < 2 → s.UpdGot frame 0x3A h body →
      h.hopsLeft = 0 → s.updState ≠ 4 → s.mayArm = false → ∃ t, exec (.arm d frame) s = .next t
        ∧ Sent s t [.eplen (s.eplenPort d) (s.eplenHdr 0x39 (1 - h.dir) h.hopsDone)
            (body.take 4 ++ beBytes 1 6 ++ beBytes 1 4)])
    ∧ (∀ (s : State) (d : Nat) (frame : List Byte) (h : EplenHdr) (body : List Byte), s.UpdGot frame 0x3B h body →
      h.hopsLeft = 0 → s.upd.arming = true → s.upd.commits = 0 → beAt body 0 4 = s.session → s.ringDevices = 2 →
      s.upd.armed = [s.selfTag] → h.origin ≠ s.selfTag → s.beforeGuard = true → ∃ t, exec (.armed d frame) s = .next t ∧ t.upd.commits = 1
        ∧ t.upd.commit = true ∧ t.upd.armed = [h.origin, s.selfTag] ∧ t.regs = s.regs)
    ∧ (∀ s : State, s.updUp = true → s.upd.arming = true → s.upd.commits = 0 → s.inSession = true →
      s.beforeGuard = false →
      s.upd.armed.length < s.ringDevices → ∃ t, exec .armGuardDeadline s = .next t ∧ t.updState = 6
        ∧ t.getF F.UPD_STAT_STATUS = 4 ∧ t.upd.arming = false)
    ∧ (∀ (s : State) (d : Nat) (frame : List Byte) (h : EplenHdr) (body : List Byte), s.UpdGot frame 0x3C h body →
      h.hopsLeft = 0 → beAt body 0 4 = s.session → s.updState = 4 →
      exec (.commit d frame) s = .next { s with upd := { s.upd with commit := true } })
    ∧ (∀ s : State, s.updUp = true → s.upd.arming = true → 1 ≤ s.upd.commits → s.upd.commits < 3 →
      s.getF F.RNG_REACH_REACH0 = 1 → s.getF F.RNG_REACH_REACH1 = 0 → ∃ t, exec .commitResend s = .next t
        ∧ t.out = s.out ++ [.eplen (s.eplenPort 0) (s.eplenHdr 0x3C 0 0) (beBytes 4 s.session)]
        ∧ t.upd.commits = s.upd.commits + 1 ∧ t.regs = s.regs)
    ∧ (∀ s : State, s.updState = 4 → s.pairUp 1 = true → s.upd.commit = true → s.boot.src ≠ 3 → s.powerMode < 2 →
      s.tAct ≤ s.tb.clk →
      ∃ t, exec .activationInstant s = .next t ∧ .nor s.spare 0 (s.blockData 0) ∈ t.out
        ∧ t.getF F.BKP_RST_CAUSE_LAST = 4 ∧ t.isF F.GLB_BOOT_STAT_SNAP_VALID = false ∧ t.updState = 0
        ∧ t.tb.clk = s.tb.clk ∧ t.key.slots = s.key.slots)
    ∧ (∀ s : State, s.updState = 4 → s.pairUp 1 = true → s.upd.commit = false → s.tAct ≤ s.tb.clk →
      ∃ t, exec .activationInstant s = .next t ∧ t.updState = 3 ∧ t.upd.rejected = true ∧ t.upd.arming = false
        ∧ t.upd.held = s.upd.held ∧ t.ddr = s.ddr)
    ∧ (∀ (s : State) (d : Nat) (frame : List Byte) (h : EplenHdr) (body : List Byte), s.UpdGot frame 0x3D h body →
      h.hopsLeft = 0 → beAt body 0 4 = s.session → s.inSession = true → ∃ t, exec (.abort d frame) s = .next t
        ∧ t.updState = 6 ∧ t.getF F.UPD_STAT_STATUS = 4 ∧ t.upd.held = [])
    ∧ ∀ (s : State) (d : Nat) (frame : List Byte) (h : EplenHdr) (body : List Byte), s.UpdGot frame 0x3D h body →
      h.hopsLeft = 0 → s.inSession = false → exec (.abort d frame) s = .next s

/-! ### The host bridge (chapter 11) -/

/-- DOORBELL, QUEUE_ENABLE and QUEUE_STOP (R297, R302): TAIL is stored and clamped to the ring, enabling starts the ring at
0, disabling keeps its positions, a second write while enabled is counted, and a completion error stops the queue with its
cause.
Completion (own effect, conditions on state and operands alone): doorbell, queueEnable, queueStop. -/
def Obligations.QueuesStartRunAndStop : Prop :=
  (∀ (s : State) (q n : Nat), q < 128 → s.serving = true →
      (n % 2 ^ 16 + 2 ^ 16 - s.getF (F.DMA_Q_STAT_HEAD q)) % 2 ^ 16 ≤ 2 ^ s.getF (F.DMA_Q_CFG_SIZE_LOG2 q) →
      ∃ t, exec (.doorbell q n) s = .next t ∧ OnlyFields s t [F.DMA_Q_STAT_TAIL q]
        ∧ t.getF (F.DMA_Q_STAT_TAIL q) = n % 2 ^ 16)
    ∧ (∀ (s : State) (q n : Nat), q < 64 → s.serving = true →
      2 ^ s.getF (F.DMA_Q_CFG_SIZE_LOG2 q) < (n % 2 ^ 16 + 2 ^ 16 - s.getF (F.DMA_Q_STAT_HEAD q)) % 2 ^ 16 →
      ∃ t, exec (.doorbell q n) s = .next t ∧ Counted s t (T.dmaTx q 5)
        ∧ t.getF (F.DMA_Q_STAT_TAIL q) = (s.getF (F.DMA_Q_STAT_HEAD q) + 2 ^ s.getF (F.DMA_Q_CFG_SIZE_LOG2 q)) % 2 ^ 16)
    ∧ (∀ (s : State) (q k : Nat), q < 128 → s.serving = true → s.isF (F.DMA_Q_CFG_EN q) = false → 3 ≤ k → k ≤ 12 →
      ∃ t, exec (.queueEnable q (1 + 2 * k)) s = .next t ∧ t.isF (F.DMA_Q_CFG_EN q) = true
        ∧ t.getF (F.DMA_Q_CFG_SIZE_LOG2 q) = k ∧ t.getF (F.DMA_Q_STAT_HEAD q) = 0 ∧ t.getF (F.DMA_Q_STAT_TAIL q) = 0
        ∧ t.isF (F.DMA_Q_ERR_STOPPED q) = false
        ∧ OnlyFields s t [F.DMA_Q_CFG_EN q, F.DMA_Q_CFG_SIZE_LOG2 q, F.DMA_Q_CFG_EMPTY_ACT q, F.DMA_Q_STAT_HEAD q,
            F.DMA_Q_STAT_TAIL q, F.DMA_Q_ERR_STOPPED q])
    ∧ (∀ (s : State) (q v : Nat), q < 64 → s.serving = true → s.isF (F.DMA_Q_CFG_EN q) = true → v % 2 = 0 →
      ∃ t, exec (.queueEnable q v) s = .next t ∧ t.isF (F.DMA_Q_CFG_EN q) = false ∧ t.isF (F.DMA_Q_ERR_STOPPED q) = true
        ∧ t.getF (F.DMA_Q_STAT_HEAD q) = s.getF (F.DMA_Q_STAT_HEAD q)
        ∧ t.getF (F.DMA_Q_STAT_TAIL q) = s.getF (F.DMA_Q_STAT_TAIL q) ∧ Counted s t (T.dmaTx q 6))
    ∧ ∀ (s : State) (q cause : Nat), q < 128 → s.isF (F.DMA_Q_CFG_EN q) = true → 1 ≤ cause → cause ≤ 5 →
      ∃ t, exec (.queueStop q cause) s = .next t ∧ t.isF (F.DMA_Q_CFG_EN q) = false
        ∧ t.isF (F.DMA_Q_ERR_STOPPED q) = true ∧ t.getF (F.DMA_Q_ERR_CAUSE q) = cause ∧ Counted s t (qTally q 7 6)
        ∧ FieldsKept s t [F.DMA_Q_CFG_EN q, F.DMA_Q_ERR_STOPPED q, F.DMA_Q_ERR_CAUSE q]

/-- TX_DESCRIPTOR_SERVE and RX_DELIVERY (R298 to R301, R303): a frame of 64 bytes becomes an item with its FCS in the header
stream, an empty descriptor is skipped, and a frame of port 34 goes into host memory; each completes its descriptor.
Completion (own effect, conditions on state and operands alone): txDescriptorServe, rxDelivery. -/
def Obligations.DescriptorsMoveItems : Prop :=
  (∀ (s : State) (q : Nat) (desc buf : List Byte), s.receives = true → s.txQueue = some q → q < 64 →
      bits (leAt desc 8 4) 0 15 = 64 → bits (leAt desc 8 4) 16 15 = 64 → bits (leAt desc 12 4) 0 2 = 0 →
      (s.claim 34 (beadsOf (padTo 64 buf ++ fcsOf (padTo 64 buf)).length)).isSome = true → s.anyPlane = true →
      s.dp.held = false → ∃ t, exec (.txDescriptorServe desc buf) s = .next t
        ∧ (t.item s.dp.nextItem).map (·.bytes) = some (padTo 64 buf ++ fcsOf (padTo 64 buf))
        ∧ (t.item s.dp.nextItem).map (·.ingress) = some 34
        ∧ t.dp.stream.map (·.item) = s.dp.stream.map (·.item) ++ [s.dp.nextItem]
        ∧ t.getF (F.DMA_Q_STAT_HEAD q) = (s.getF (F.DMA_Q_STAT_HEAD q) + 1) % 2 ^ 16
        ∧ FieldsKept s t [F.DMA_Q_STAT_HEAD q] ∧ Counted s t (T.dmaTx q 0) ∧ t.host.txNext = (q + 1) % 64)
    ∧ (∀ (s : State) (q : Nat) (desc buf : List Byte), s.receives = true → s.txQueue = some q → q < 64 →
      bits (leAt desc 8 4) 0 15 = 0 → ∃ t, exec (.txDescriptorServe desc buf) s = .next t ∧ t.dp = s.dp
        ∧ Counted s t (T.dmaTx q 2) ∧ t.getF (F.DMA_Q_STAT_HEAD q) = (s.getF (F.DMA_Q_STAT_HEAD q) + 1) % 2 ^ 16
        ∧ .hostWrite (s.descAddr q + 20) (leBytes 4 5) false ∈ t.out)
    ∧ (∀ (s : State) (c q a n : Nat) (r : QRef) (rs : List QRef) (it : Item), c < 8 → s.serving = true →
      s.getF F.PWR_MODE_MODE < 2 → s.queue 34 c = r :: rs → (∀ k < 8, k ≠ c → s.queue 34 k = []) →
      s.item r.item = some it → it.complete = true → it.isRod = false → it.refs = 1 → q = s.rxQueue c it →
      s.qPending q ≠ 0 → n < 2 ^ 14 → n ≠ 0 → it.len - 4 ≤ n → ∃ t, exec (.rxDelivery [(a, n)]) s = .next t
        ∧ t.queue 34 c = rs ∧ t.item r.item = none ∧ Counted s t (T.dmaRx (q - 64) 0)
        ∧ t.getF (F.DMA_Q_STAT_HEAD q) = (s.getF (F.DMA_Q_STAT_HEAD q) + 1) % 2 ^ 16
        ∧ .hostWrite a (it.bytes.take (it.len - 4)) (s.isF F.DMA_CFG_RO_EN && s.relaxOn) ∈ t.out
        ∧ FieldsKept s t [F.DMA_Q_STAT_HEAD q])
    ∧ ∀ (s : State) (c q : Nat) (r : QRef) (rs : List QRef) (it : Item), c < 8 → s.serving = true →
      s.getF F.PWR_MODE_MODE < 2 → s.queue 34 c = r :: rs → (∀ k < 8, k ≠ c → s.queue 34 k = []) →
      s.item r.item = some it → it.complete = true → it.refs = 1 → q = s.rxQueue c it → s.qPending q = 0 →
      s.isF (F.DMA_Q_CFG_EMPTY_ACT q) = true → ∃ t, exec (.rxDelivery []) s = .next t ∧ t.queue 34 c = rs
        ∧ t.item r.item = none ∧ Counted s t (T.dmaRx (q - 64) 3) ∧ t.regs = s.regs ∧ t.out = s.out

/-- MSIX_MESSAGE, MSIX_UNMASK, BAR2_ACCESS and PCIE_PERST (R285, R288, R304): an interrupt source that has enough
announcements sends its vector or sets its pending bit, unmasking sends what is pending, BAR2 reads and writes the LPDDR5
bytes of its window and no others, and PERST takes the link down and returns queues, MSI-X and configuration space to their reset values.
Completion (own effect, conditions on state and operands alone): msixMessage, msixUnmask, bar2Access, pciePerst. -/
def Obligations.InterruptsWindowAndPerst : Prop :=
  (∀ (s : State) (src : Nat), src < 131 → (sget (fun _ => (0, 0)) s.host.irq src).1 ≠ 0 →
      s.isF (F.DMA_IRQ_MAP_EN src) = true →
      s.getF (F.DMA_IRQ_MAP_MOD_COUNT src) ≤ (sget (fun _ => (0, 0)) s.host.irq src).1 →
      s.msixMasked (s.getF (F.DMA_IRQ_MAP_VEC src)) = false → ∃ t, exec (.msixMessage src) s = .next t
        ∧ sget (fun _ => (0, 0)) t.host.irq src = (0, 0) ∧ t.regs = s.regs
        ∧ t.out = s.out ++ [.msix (s.getF (F.DMA_IRQ_MAP_VEC src))
            (s.getF (F.MSIX_ADDR_LO_ADDR (s.getF (F.DMA_IRQ_MAP_VEC src))) * 4
              + s.getF (F.MSIX_ADDR_HI_ADDR (s.getF (F.DMA_IRQ_MAP_VEC src))) * 2 ^ 32)
            (s.getF (F.MSIX_DATA_DATA (s.getF (F.DMA_IRQ_MAP_VEC src))))])
    ∧ (∀ (s : State) (src v : Nat), src < 131 → v < 256 → (sget (fun _ => (0, 0)) s.host.irq src).1 ≠ 0 →
      s.isF (F.DMA_IRQ_MAP_EN src) = true →
      s.getF (F.DMA_IRQ_MAP_MOD_COUNT src) ≤ (sget (fun _ => (0, 0)) s.host.irq src).1 →
      s.getF (F.DMA_IRQ_MAP_VEC src) = v → s.msixMasked v = true → ∃ t, exec (.msixMessage src) s = .next t
        ∧ bit (t.getF (F.MSIX_PBA_PENDING (v / 32))) (v % 32) = true ∧ t.out = s.out
        ∧ FieldsKept s t [F.MSIX_PBA_PENDING (v / 32)])
    ∧ (∀ (s : State) (v : Nat), v < 256 → s.funcMask = false →
      bit (s.getF (F.MSIX_PBA_PENDING (v / 32))) (v % 32) = true → ∃ t, exec (.msixUnmask v) s = .next t
        ∧ t.isF (F.MSIX_CTL_MASK v) = false ∧ bit (t.getF (F.MSIX_PBA_PENDING (v / 32))) (v % 32) = false
        ∧ .msix v (s.getF (F.MSIX_ADDR_LO_ADDR v) * 4 + s.getF (F.MSIX_ADDR_HI_ADDR v) * 2 ^ 32)
            (s.getF (F.MSIX_DATA_DATA v)) ∈ t.out)
    ∧ (∀ (s : State) (x n : Nat) (bs : List Byte), s.ddrUp = true → s.memOn = true → s.host.held = [] → x < 0xF000000 →
      (∀ i < bs.length, s.b2Forbidden (s.b2Addr x + i) = false) → ∃ t, exec (.bar2Access x n (some bs)) s = .next t
        ∧ t = { s with ddr := t.ddr } ∧ (∀ i < bs.length, t.ddrByte (s.b2Addr x + i) = (bs.getD i 0).toNat)
        ∧ ∀ y, y < s.b2Addr x ∨ s.b2Addr x + bs.length ≤ y → t.ddrByte y = s.ddrByte y)
    ∧ (∀ (s : State) (x n i : Nat) (bs : List Byte), s.ddrUp = true → s.memOn = true → s.host.held = [] →
      x < 0xF000000 → i < bs.length →
      s.b2Forbidden (s.b2Addr x + i) = true →
      exec (.bar2Access x n (some bs)) s = .next (s.tally (T.dma 2)))
    ∧ (∀ (s : State) (x n : Nat), s.memOn = true → s.ddrUp = true → x + n ≤ 0xF000000 → s.b2Addr x + n ≤ s.ddrBytes →
      x < 0x10000000 → ∃ t, exec (.bar2Access x n none) s = .next t
        ∧ t.out = s.out ++ [.completion (leNat ((List.range n).map (fun i => BitVec.ofNat 8 (s.ddrByte (s.b2Addr x + i)))))]
        ∧ t = { s with out := t.out, freeCtr := t.freeCtr })
    ∧ ∀ s : State, ∃ t, exec .pciePerst s = .next t ∧ t.funcMask = false ∧ t.host.link = false ∧ t.host.cfg = []
        ∧ t.host.txNext = 0
        ∧ (∀ f : Fld, perstReg (f.key / 32) = true → t.getF f = fieldReset f.key)
        ∧ (∀ f : Fld, perstReg (f.key / 32) = false → t.getF f = s.getF f)
        ∧ (∀ h < 16, (t.win h).q = (s.win h).dropReads.q) ∧ t.dp = s.dp ∧ t.out = s.out

/-! ### The register bus and remote access (chapters 0, 14 and 19) -/

/-- REGISTER_WRITE and BAR0_ATOMIC (R12 to R14, R27, R287, R289, R316, R473): a read-write field takes what is written, a
clamped one the nearest legal value, a read-only one nothing, a write of one clears; a write before stage 9 is counted and
dropped; an incomplete dword and a long write are counted; a write to a command register is the command; an atomic answers
the old value, one that names BAR2 or more than 32 bits is unsupported.
Completion (own effect, conditions on state and operands alone): registerWrite, bar0Atomic. -/
def Obligations.RegisterWritesAndAtomics : Prop :=
  (∀ (s : State) (v : Nat) (env : BusEnv), s.HostOn → s.serving = true → ∃ t,
      exec (.registerWrite 2 0x2C0000 [(v, true)] env) s = .next t ∧ OnlyFields s t [F.DMA_CFG_RO_EN]
        ∧ t.getF F.DMA_CFG_RO_EN = v % 2)
    ∧ (∀ (s : State) (v : Nat) (env : BusEnv), s.HostOn → s.serving = true → ∃ t,
      exec (.registerWrite 2 0x2C0010 [(v, true)] env) s = .next t ∧ OnlyFields s t [F.DMA_B2_BASE_BASE]
        ∧ t.getF F.DMA_B2_BASE_BASE = min 497 (v % 2 ^ 9))
    ∧ (∀ (s : State) (v : Nat) (env : BusEnv), s.HostOn → s.serving = true →
      exec (.registerWrite 2 0x440000 [(v, true)] env) s = .next s)
    ∧ (∀ (s : State) (v : Nat) (env : BusEnv), s.HostOn → s.serving = true → s.isF F.DMA_STAT_WARM_SEEN = true → ∃ t,
      exec (.registerWrite 2 0x2C0004 [(v, true)] env) s = .next t ∧ OnlyFields s t [F.DMA_STAT_WARM_SEEN]
        ∧ t.isF F.DMA_STAT_WARM_SEEN = !(bit v 0))
    ∧ (∀ (s : State) (off v : Nat) (env : BusEnv), s.HostOn → s.serving = false → off < 2 ^ 26 →
      off % 4 = 0 →
      alwaysOpen off = false →
      exec (.registerWrite 2 off [(v, true)] env) s = .next (s.satF F.GLB_RST_STAT_WR_DROP 1))
    ∧ (∀ (s : State) (off v : Nat) (env : BusEnv), s.HostOn →
      exec (.registerWrite 2 off [(v, false)] env) s = .next (s.tally (T.dma 0)))
    ∧ (∀ (s : State) (off : Nat) (l : List (Nat × Bool)) (env : BusEnv), s.HostOn → 32 < l.length →
      exec (.registerWrite 2 off l env) s = .next (s.aerPosted.tally (T.dma 1)))
    ∧ (∀ (s : State) (env : BusEnv), s.HostOn → s.serving = true →
      exec (.registerWrite 2 0x40000 [(0, true)] env) s = exec (.tblNop 2) s
        ∧ exec (.registerWrite 2 0x240000 [(1, true)] env) s = exec (.generate 2) s
        ∧ exec (.registerWrite 2 0x280000 [(4, true)] env) s = exec .updAbort s
        ∧ exec (.registerWrite 2 0x10008 [(0, true)] env) s = exec .safNop s
        ∧ exec (.registerWrite 2 0x3C0004 [(3, true)] env) s = exec (.pwrLean 2) s
        ∧ exec (.registerWrite 2 0x300010 [(0, true)] env) s = exec .memTestNop s)
    ∧ (∀ (s : State) (n : Nat) (env : BusEnv), s.HostOn → s.serving = true → n < 128 → s.rodPresent n = true →
      exec (.registerWrite 2 (0x180004 + n * 0x400) [(2, true)] env) s = exec (.start n) s)
    ∧ (∀ (s : State) (k a : Nat) (env : BusEnv), s.memOn = true → k < 8192 → ∃ t,
      exec (.bar0Atomic (0x408000 + 4 * k) 0 32 a 0 env 0) s = .next t
        ∧ t.getF (F.BKP_USER_DATA k) = (s.getF (F.BKP_USER_DATA k) + a) % 2 ^ 32
        ∧ t.out = s.out ++ [.completion (s.getF (F.BKP_USER_DATA k))]
        ∧ OnlyFields { s with out := t.out } t [F.BKP_USER_DATA k])
    ∧ (∀ (s : State) (k a b : Nat) (env : BusEnv), s.memOn = true → k < 8192 →
      s.getF (F.BKP_USER_DATA k) ≠ a % 2 ^ 32 →
      exec (.bar0Atomic (0x408000 + 4 * k) 2 32 a b env 0) s
        = .next (s.emit (.completion (s.getF (F.BKP_USER_DATA k)))))
    ∧ ∀ (s : State) (bar off op size a b : Nat) (env : BusEnv), s.host.link = true → bar ≠ 0 ∨ size ≠ 32 →
      exec (.bar0Atomic off op size a b env bar) s = .next (s.emit .unsupported)

/-- REQ (R359 to R362): a request that passes the checks acts as the host's access and is answered; one for another device,
into a closed block or a closed segment changes nothing and is answered with its status; a request that has been passed is
counted; an answer waits while its port is not free; a subscription is kept; the far context expects the next RSEQ.
Completion (own effect, conditions on state and operands alone): req. -/
def Obligations.RequestsAreCheckedAndAnswered : Prop :=
  (∀ (s : State) (d v : Nat) (frame : List Byte) (h : EplenHdr) (body : List Byte) (env : BusEnv), d < 2 →
      s.Got frame 0x10 h body → s.PortFree d → h.hopsLeft = 0 → 20 ≤ body.length → s.ring.ctxs = [] → (reqOf body).kind = 1 →
      (reqOf body).count = 1 → (reqOf body).off = 0x2C0000 → (reqOf body).target = 0 → (reqOf body).data = [v] →
      s.segClosed true 0x2C0000 = false → ∃ t, exec (.req d frame false env) s = .next t
        ∧ t.getF F.DMA_CFG_RO_EN = v % 2 ∧ FieldsKept s t [F.DMA_CFG_RO_EN]
        ∧ t.ring.ctxs = [⟨h.origin, (reqOf body).win, h.dir, ((reqOf body).rseq + 1) % 2 ^ 32, s.tb.fab⟩]
        ∧ t.out = s.out ++ [.eplen (s.eplenPort d) (s.eplenHdr 0x11 (1 - h.dir) h.hopsDone)
            (beBytes 4 (reqOf body).rseq ++ beBytes 1 0 ++ beBytes 1 0)])
    ∧ (∀ (s : State) (d : Nat) (frame : List Byte) (h : EplenHdr) (body : List Byte) (env : BusEnv), d < 2 →
      s.Got frame 0x10 h body → s.PortFree d → h.hopsLeft = 0 → 20 ≤ body.length → s.ring.ctxs = [] → (reqOf body).kind = 2 →
      (reqOf body).count = 1 → (reqOf body).off = 0x2C0000 → (reqOf body).target = s.selfTag →
      s.segClosed false 0x2C0000 = false → ∃ t, exec (.req d frame false env) s = .next t ∧ t.regs = s.regs
        ∧ t.out = s.out ++ [.eplen (s.eplenPort d) (s.eplenHdr 0x11 (1 - h.dir) h.hopsDone)
            (beBytes 4 (reqOf body).rseq ++ beBytes 1 0 ++ beBytes 1 1 ++ beBytes 4 (s.getF F.DMA_CFG_RO_EN))])
    ∧ (∀ (s : State) (d : Nat) (frame : List Byte) (h : EplenHdr) (body : List Byte) (env : BusEnv), d < 2 →
      s.Got frame 0x10 h body → s.PortFree d → h.hopsLeft = 0 → 20 ≤ body.length → s.ring.ctxs = [] → (reqOf body).sound = true →
      (reqOf body).kind ≠ 0 → (reqOf body).target ≠ 0 → (reqOf body).target ≠ s.selfTag →
      ∃ t, exec (.req d frame false env) s = .next t
        ∧ Sent { s with ring := t.ring } t [.eplen (s.eplenPort d) (s.eplenHdr 0x11 (1 - h.dir) h.hopsDone)
            (beBytes 4 (reqOf body).rseq ++ beBytes 1 2 ++ beBytes 1 0)])
    ∧ (∀ (s : State) (d : Nat) (frame : List Byte) (h : EplenHdr) (body : List Byte) (env : BusEnv), d < 2 →
      s.Got frame 0x10 h body → s.PortFree d → h.hopsLeft = 0 → 20 ≤ body.length → s.ring.ctxs = [] → (reqOf body).sound = true →
      (reqOf body).kind ≠ 0 → (reqOf body).target = 0 →
      (∃ o ∈ (reqOf body).offsets, closedBlock o = true ∨ s.segClosed ((reqOf body).kind != 2) o = true) →
      ∃ t, exec (.req d frame false env) s = .next t
        ∧ Sent { s with ring := t.ring } t [.eplen (s.eplenPort d) (s.eplenHdr 0x11 (1 - h.dir) h.hopsDone)
            (beBytes 4 (reqOf body).rseq ++ beBytes 1 10 ++ beBytes 1 0)])
    ∧ (∀ (s : State) (d : Nat) (frame : List Byte) (h : EplenHdr) (body : List Byte) (env : BusEnv), d < 2 →
      s.Got frame 0x10 h body → s.eplenFree (s.eplenPort d) = false → h.hopsLeft = 0 → 20 ≤ body.length →
      s.ring.ctxs = [] → (reqOf body).kind = 4 → (reqOf body).target = 0 → ∃ t, exec (.req d frame false env) s = .next t
        ∧ t.sendQ (s.eplenPort d) = s.sendQ (s.eplenPort d) ++ [(s.eplenHdr 0x11 (1 - h.dir) h.hopsDone,
            beBytes 4 (reqOf body).rseq ++ beBytes 1 0 ++ beBytes 1 0)]
        ∧ t.out = s.out ∧ t.regs = s.regs)
    ∧ (∀ (s : State) (d : Nat) (frame : List Byte) (h : EplenHdr) (body : List Byte) (env : BusEnv) (c : Ctx),
      s.Got frame 0x10 h body → h.hopsLeft = 0 → 20 ≤ body.length → s.ring.ctxs = [c] →
      c.isOf h.origin (reqOf body).win h.dir = true → 2 ^ 31 ≤ ((reqOf body).rseq + 2 ^ 32 - c.next) % 2 ^ 32 →
      exec (.req d frame false env) s = .next (s.tally (T.rng 4)))
    ∧ ∀ (s : State) (d : Nat) (frame : List Byte) (h : EplenHdr) (body : List Byte) (env : BusEnv), d < 2 →
      s.Got frame 0x10 h body → s.PortFree d → h.hopsLeft = 0 → 20 ≤ body.length → s.ring.ctxs = [] → s.ring.subs = [] →
      (reqOf body).kind = 5 → (reqOf body).target = 0 → ∃ t, exec (.req d frame false env) s = .next t
        ∧ t.ring.subs = [⟨h.origin, (reqOf body).win, h.dir, d, h.hopsDone, s.tb.fab⟩]
        ∧ t.out = s.out ++ [.eplen (s.eplenPort d) (s.eplenHdr 0x11 (1 - h.dir) h.hopsDone)
            (beBytes 4 (reqOf body).rseq ++ beBytes 1 0 ++ beBytes 1 0)] ∧ t.regs = s.regs
end

