-- ==== Sys2Proof/Laws/Sparse.lean ====
section
/-! SUPPORT. Laws of sparse maps: a read after a write, and that every operation keeps the canonical form. -/

namespace Sys2Proof.Machine

variable {α : Type} {d : Nat → α}

theorem sget_sins_same (m : Sparse α) (k : Nat) (v : α) : sget d (sins m k v) k = v := by
  induction m with
  | nil => simp [sins, sget]
  | cons e m ih =>
    obtain ⟨k', v'⟩ := e
    unfold sins
    split
    · simp [sget]
    · split
      · simp [sget]
      · simp_all [sget]

theorem sget_sins_ne (m : Sparse α) {k j : Nat} (v : α) (h : j ≠ k) : sget d (sins m k v) j = sget d m j := by
  induction m with
  | nil => simp [sins, sget, h]
  | cons e m ih =>
    obtain ⟨k', v'⟩ := e
    unfold sins
    split
    · simp [sget, h]
    · split
      · subst_vars; simp [sget, h]
      · simp [sget, ih]

theorem sget_sdel_same (m : Sparse α) (k : Nat) : sget d (sdel m k) k = d k := by
  induction m with
  | nil => rfl
  | cons e m ih =>
    obtain ⟨k', v'⟩ := e
    by_cases h : k' = k
    · subst h; simpa [sdel] using ih
    · have h' : ¬k = k' := fun c => h c.symm
      simp only [sdel] at ih
      simp [sdel, h, sget, h', ih]

theorem sget_sdel_ne (m : Sparse α) {k j : Nat} (h : j ≠ k) : sget d (sdel m k) j = sget d m j := by
  induction m with
  | nil => rfl
  | cons e m ih =>
    obtain ⟨k', v'⟩ := e
    simp only [sdel] at ih
    by_cases hk : k' = k
    · subst hk; simp [sdel, sget, h, ih]
    · simp [sdel, hk, sget, ih]

theorem mem_sins (m : Sparse α) (k : Nat) (v : α) (e : Nat × α) (h : e ∈ sins m k v) : e = (k, v) ∨ e ∈ m := by
  induction m with
  | nil => simpa [sins] using h
  | cons x m ih =>
    obtain ⟨k', v'⟩ := x
    unfold sins at h
    split at h
    · simpa using h
    · split at h
      · rcases List.mem_cons.1 h with h | h
        · exact .inl h
        · exact .inr (List.mem_cons_of_mem _ h)
      · rcases List.mem_cons.1 h with h | h
        · exact .inr (h ▸ List.mem_cons_self ..)
        · rcases ih h with h | h
          · exact .inl h
          · exact .inr (List.mem_cons_of_mem _ h)

theorem pairwise_sins (m : Sparse α) (k : Nat) (v : α) (h : m.Pairwise (fun a b => a.1 < b.1)) :
    (sins m k v).Pairwise (fun a b => a.1 < b.1) := by
  induction m with
  | nil => simp [sins]
  | cons x m ih =>
    obtain ⟨k', v'⟩ := x
    rw [List.pairwise_cons] at h
    unfold sins
    split
    · rename_i hk
      refine List.pairwise_cons.2 ⟨fun a ha => ?_, List.pairwise_cons.2 h⟩
      rcases List.mem_cons.1 ha with rfl | ha
      · exact hk
      · exact lt_trans hk (h.1 a ha)
    · split
      · rename_i hk
        exact List.pairwise_cons.2 ⟨fun a ha => hk ▸ h.1 a ha, h.2⟩
      · refine List.pairwise_cons.2 ⟨fun a ha => ?_, ih h.2⟩
        rcases mem_sins m k v a ha with rfl | ha
        · show k' < k; omega
        · exact h.1 a ha

variable [DecidableEq α]

/-- A read after a write of the same key gives what was written. -/
@[simp] theorem sget_sput_same (m : Sparse α) (k : Nat) (v : α) : sget d (sput d m k v) k = v := by
  unfold sput
  split
  · rw [sget_sdel_same]; exact (‹v = d k›).symm
  · exact sget_sins_same m k v

/-- A write leaves every other key alone. -/
theorem sget_sput_ne (m : Sparse α) {k j : Nat} (v : α) (h : j ≠ k) : sget d (sput d m k v) j = sget d m j := by
  unfold sput
  split
  · exact sget_sdel_ne m h
  · exact sget_sins_ne m v h

/-- The canonical form, entry by entry: no entry equals the default, and keys rise. -/
theorem swf_iff (m : Sparse α) :
    swf d m = true ↔ (∀ e ∈ m, e.2 ≠ d e.1) ∧ m.Pairwise (fun a b => a.1 < b.1) := by
  induction m with
  | nil => simp [swf]
  | cons e m ih =>
    cases m with
    | nil => obtain ⟨k, v⟩ := e; simp [swf]
    | cons e' m =>
      obtain ⟨k, v⟩ := e
      obtain ⟨k', v'⟩ := e'
      simp only [swf, Bool.and_eq_true, decide_eq_true_eq, ih]
      simp only [List.mem_cons, List.pairwise_cons, forall_eq_or_imp]
      constructor
      · rintro ⟨⟨hv, hk⟩, ⟨hv', hm⟩, hp, hq⟩
        exact ⟨⟨hv, hv', hm⟩, ⟨hk, fun a ha => lt_trans hk (hp a ha)⟩, hp, hq⟩
      · rintro ⟨⟨hv, hv', hm⟩, ⟨hk, _⟩, hp, hq⟩
        exact ⟨⟨hv, hk⟩, ⟨hv', hm⟩, hp, hq⟩

/-- Dropping entries keeps the canonical form. -/
theorem swf_filter (m : Sparse α) (p : Nat × α → Bool) (h : swf d m = true) : swf d (m.filter p) = true := by
  rw [swf_iff] at *
  exact ⟨fun e he => h.1 e (List.mem_filter.1 he).1, h.2.filter p⟩

/-- A write keeps the canonical form. -/
theorem swf_sput (m : Sparse α) (k : Nat) (v : α) (h : swf d m = true) : swf d (sput d m k v) = true := by
  unfold sput
  split
  · exact swf_filter m _ h
  · rename_i hv
    rw [swf_iff] at *
    refine ⟨fun e he => ?_, pairwise_sins m k v h.2⟩
    rcases mem_sins m k v e he with rfl | he
    · exact hv
    · exact h.1 e he

end Sys2Proof.Machine
end

