-- ==== Sys2Proof/Laws/State.lean ====
section
/-! SUPPORT. What the primitive updates of the state leave alone, one lemma per field and update, and register
fields read back after an update. -/

namespace Sys2Proof.Machine

variable (s : State)

/-! ### Frames of the updates -/

@[simp] theorem setF_pending (f : Fld) (v : Nat) : (s.setF f v).pending = s.pending := rfl
@[simp] theorem setF_freeCtr (f : Fld) (v : Nat) : (s.setF f v).freeCtr = s.freeCtr := rfl
@[simp] theorem setF_tables (f : Fld) (v : Nat) : (s.setF f v).tables = s.tables := rfl
@[simp] theorem setF_tly (f : Fld) (v : Nat) : (s.setF f v).tly = s.tly := rfl
@[simp] theorem setF_tlyFrozen (f : Fld) (v : Nat) : (s.setF f v).tlyFrozen = s.tlyFrozen := rfl
@[simp] theorem setF_evCtl (f : Fld) (v : Nat) : (s.setF f v).evCtl = s.evCtl := rfl
@[simp] theorem setF_evSvc (f : Fld) (v : Nat) : (s.setF f v).evSvc = s.evSvc := rfl
@[simp] theorem setF_out (f : Fld) (v : Nat) : (s.setF f v).out = s.out := rfl
@[simp] theorem setF_dp (f : Fld) (v : Nat) : (s.setF f v).dp = s.dp := rfl
@[simp] theorem setF_rods (f : Fld) (v : Nat) : (s.setF f v).rods = s.rods := rfl
@[simp] theorem setF_saf (f : Fld) (v : Nat) : (s.setF f v).saf = s.saf := rfl
@[simp] theorem setF_tb (f : Fld) (v : Nat) : (s.setF f v).tb = s.tb := rfl
@[simp] theorem setF_key (f : Fld) (v : Nat) : (s.setF f v).key = s.key := rfl
@[simp] theorem setF_meas (f : Fld) (v : Nat) : (s.setF f v).meas = s.meas := rfl
@[simp] theorem setF_host (f : Fld) (v : Nat) : (s.setF f v).host = s.host := rfl
@[simp] theorem setF_ring (f : Fld) (v : Nat) : (s.setF f v).ring = s.ring := rfl
@[simp] theorem setF_boot (f : Fld) (v : Nat) : (s.setF f v).boot = s.boot := rfl
@[simp] theorem setF_upd (f : Fld) (v : Nat) : (s.setF f v).upd = s.upd := rfl
@[simp] theorem setF_pwr (f : Fld) (v : Nat) : (s.setF f v).pwr = s.pwr := rfl
@[simp] theorem setF_ddr (f : Fld) (v : Nat) : (s.setF f v).ddr = s.ddr := rfl
@[simp] theorem setF_ddrFails (f : Fld) (v : Nat) : (s.setF f v).ddrFails = s.ddrFails := rfl
@[simp] theorem setF_memTest (f : Fld) (v : Nat) : (s.setF f v).memTest = s.memTest := rfl
@[simp] theorem setF_laneFrac (f : Fld) (v : Nat) : (s.setF f v).laneFrac = s.laneFrac := rfl
@[simp] theorem setF_laneMiss (f : Fld) (v : Nat) : (s.setF f v).laneMiss = s.laneMiss := rfl
@[simp] theorem setF_trcPost (f : Fld) (v : Nat) : (s.setF f v).trcPost = s.trcPost := rfl

@[simp] theorem setB_pending (f : Fld) (b : Bool) : (s.setB f b).pending = s.pending := rfl
@[simp] theorem setB_freeCtr (f : Fld) (b : Bool) : (s.setB f b).freeCtr = s.freeCtr := rfl
@[simp] theorem setB_tables (f : Fld) (b : Bool) : (s.setB f b).tables = s.tables := rfl
@[simp] theorem setB_tly (f : Fld) (b : Bool) : (s.setB f b).tly = s.tly := rfl
@[simp] theorem setB_tlyFrozen (f : Fld) (b : Bool) : (s.setB f b).tlyFrozen = s.tlyFrozen := rfl
@[simp] theorem setB_evCtl (f : Fld) (b : Bool) : (s.setB f b).evCtl = s.evCtl := rfl
@[simp] theorem setB_evSvc (f : Fld) (b : Bool) : (s.setB f b).evSvc = s.evSvc := rfl
@[simp] theorem setB_out (f : Fld) (b : Bool) : (s.setB f b).out = s.out := rfl
@[simp] theorem setB_dp (f : Fld) (b : Bool) : (s.setB f b).dp = s.dp := rfl
@[simp] theorem setB_rods (f : Fld) (b : Bool) : (s.setB f b).rods = s.rods := rfl
@[simp] theorem setB_saf (f : Fld) (b : Bool) : (s.setB f b).saf = s.saf := rfl
@[simp] theorem setB_tb (f : Fld) (b : Bool) : (s.setB f b).tb = s.tb := rfl
@[simp] theorem setB_key (f : Fld) (b : Bool) : (s.setB f b).key = s.key := rfl
@[simp] theorem setB_meas (f : Fld) (b : Bool) : (s.setB f b).meas = s.meas := rfl
@[simp] theorem setB_host (f : Fld) (b : Bool) : (s.setB f b).host = s.host := rfl
@[simp] theorem setB_ring (f : Fld) (b : Bool) : (s.setB f b).ring = s.ring := rfl
@[simp] theorem setB_boot (f : Fld) (b : Bool) : (s.setB f b).boot = s.boot := rfl
@[simp] theorem setB_upd (f : Fld) (b : Bool) : (s.setB f b).upd = s.upd := rfl
@[simp] theorem setB_pwr (f : Fld) (b : Bool) : (s.setB f b).pwr = s.pwr := rfl
@[simp] theorem setB_ddr (f : Fld) (b : Bool) : (s.setB f b).ddr = s.ddr := rfl
@[simp] theorem setB_ddrFails (f : Fld) (b : Bool) : (s.setB f b).ddrFails = s.ddrFails := rfl
@[simp] theorem setB_memTest (f : Fld) (b : Bool) : (s.setB f b).memTest = s.memTest := rfl
@[simp] theorem setB_laneFrac (f : Fld) (b : Bool) : (s.setB f b).laneFrac = s.laneFrac := rfl
@[simp] theorem setB_laneMiss (f : Fld) (b : Bool) : (s.setB f b).laneMiss = s.laneMiss := rfl
@[simp] theorem setB_trcPost (f : Fld) (b : Bool) : (s.setB f b).trcPost = s.trcPost := rfl

@[simp] theorem satF_pending (f : Fld) (n : Nat) : (s.satF f n).pending = s.pending := rfl
@[simp] theorem satF_freeCtr (f : Fld) (n : Nat) : (s.satF f n).freeCtr = s.freeCtr := rfl
@[simp] theorem satF_tables (f : Fld) (n : Nat) : (s.satF f n).tables = s.tables := rfl
@[simp] theorem satF_tly (f : Fld) (n : Nat) : (s.satF f n).tly = s.tly := rfl
@[simp] theorem satF_tlyFrozen (f : Fld) (n : Nat) : (s.satF f n).tlyFrozen = s.tlyFrozen := rfl
@[simp] theorem satF_evCtl (f : Fld) (n : Nat) : (s.satF f n).evCtl = s.evCtl := rfl
@[simp] theorem satF_evSvc (f : Fld) (n : Nat) : (s.satF f n).evSvc = s.evSvc := rfl
@[simp] theorem satF_out (f : Fld) (n : Nat) : (s.satF f n).out = s.out := rfl
@[simp] theorem satF_dp (f : Fld) (n : Nat) : (s.satF f n).dp = s.dp := rfl
@[simp] theorem satF_rods (f : Fld) (n : Nat) : (s.satF f n).rods = s.rods := rfl
@[simp] theorem satF_saf (f : Fld) (n : Nat) : (s.satF f n).saf = s.saf := rfl
@[simp] theorem satF_tb (f : Fld) (n : Nat) : (s.satF f n).tb = s.tb := rfl
@[simp] theorem satF_key (f : Fld) (n : Nat) : (s.satF f n).key = s.key := rfl
@[simp] theorem satF_meas (f : Fld) (n : Nat) : (s.satF f n).meas = s.meas := rfl
@[simp] theorem satF_host (f : Fld) (n : Nat) : (s.satF f n).host = s.host := rfl
@[simp] theorem satF_ring (f : Fld) (n : Nat) : (s.satF f n).ring = s.ring := rfl
@[simp] theorem satF_boot (f : Fld) (n : Nat) : (s.satF f n).boot = s.boot := rfl
@[simp] theorem satF_upd (f : Fld) (n : Nat) : (s.satF f n).upd = s.upd := rfl
@[simp] theorem satF_pwr (f : Fld) (n : Nat) : (s.satF f n).pwr = s.pwr := rfl
@[simp] theorem satF_ddr (f : Fld) (n : Nat) : (s.satF f n).ddr = s.ddr := rfl
@[simp] theorem satF_ddrFails (f : Fld) (n : Nat) : (s.satF f n).ddrFails = s.ddrFails := rfl
@[simp] theorem satF_memTest (f : Fld) (n : Nat) : (s.satF f n).memTest = s.memTest := rfl
@[simp] theorem satF_laneFrac (f : Fld) (n : Nat) : (s.satF f n).laneFrac = s.laneFrac := rfl
@[simp] theorem satF_laneMiss (f : Fld) (n : Nat) : (s.satF f n).laneMiss = s.laneMiss := rfl
@[simp] theorem satF_trcPost (f : Fld) (n : Nat) : (s.satF f n).trcPost = s.trcPost := rfl

@[simp] theorem incF_pending (f : Fld) : (s.incF f).pending = s.pending := rfl
@[simp] theorem incF_freeCtr (f : Fld) : (s.incF f).freeCtr = s.freeCtr := rfl
@[simp] theorem incF_tables (f : Fld) : (s.incF f).tables = s.tables := rfl
@[simp] theorem incF_tly (f : Fld) : (s.incF f).tly = s.tly := rfl
@[simp] theorem incF_tlyFrozen (f : Fld) : (s.incF f).tlyFrozen = s.tlyFrozen := rfl
@[simp] theorem incF_evCtl (f : Fld) : (s.incF f).evCtl = s.evCtl := rfl
@[simp] theorem incF_evSvc (f : Fld) : (s.incF f).evSvc = s.evSvc := rfl
@[simp] theorem incF_out (f : Fld) : (s.incF f).out = s.out := rfl
@[simp] theorem incF_dp (f : Fld) : (s.incF f).dp = s.dp := rfl
@[simp] theorem incF_rods (f : Fld) : (s.incF f).rods = s.rods := rfl
@[simp] theorem incF_saf (f : Fld) : (s.incF f).saf = s.saf := rfl
@[simp] theorem incF_tb (f : Fld) : (s.incF f).tb = s.tb := rfl
@[simp] theorem incF_key (f : Fld) : (s.incF f).key = s.key := rfl
@[simp] theorem incF_meas (f : Fld) : (s.incF f).meas = s.meas := rfl
@[simp] theorem incF_host (f : Fld) : (s.incF f).host = s.host := rfl
@[simp] theorem incF_ring (f : Fld) : (s.incF f).ring = s.ring := rfl
@[simp] theorem incF_boot (f : Fld) : (s.incF f).boot = s.boot := rfl
@[simp] theorem incF_upd (f : Fld) : (s.incF f).upd = s.upd := rfl
@[simp] theorem incF_pwr (f : Fld) : (s.incF f).pwr = s.pwr := rfl
@[simp] theorem incF_ddr (f : Fld) : (s.incF f).ddr = s.ddr := rfl
@[simp] theorem incF_ddrFails (f : Fld) : (s.incF f).ddrFails = s.ddrFails := rfl
@[simp] theorem incF_memTest (f : Fld) : (s.incF f).memTest = s.memTest := rfl
@[simp] theorem incF_laneFrac (f : Fld) : (s.incF f).laneFrac = s.laneFrac := rfl
@[simp] theorem incF_laneMiss (f : Fld) : (s.incF f).laneMiss = s.laneMiss := rfl
@[simp] theorem incF_trcPost (f : Fld) : (s.incF f).trcPost = s.trcPost := rfl

@[simp] theorem setEntry_pending (c i v : Nat) : (s.setEntry c i v).pending = s.pending := rfl
@[simp] theorem setEntry_freeCtr (c i v : Nat) : (s.setEntry c i v).freeCtr = s.freeCtr := rfl
@[simp] theorem setEntry_regs (c i v : Nat) : (s.setEntry c i v).regs = s.regs := rfl
@[simp] theorem setEntry_tly (c i v : Nat) : (s.setEntry c i v).tly = s.tly := rfl
@[simp] theorem setEntry_tlyFrozen (c i v : Nat) : (s.setEntry c i v).tlyFrozen = s.tlyFrozen := rfl
@[simp] theorem setEntry_evCtl (c i v : Nat) : (s.setEntry c i v).evCtl = s.evCtl := rfl
@[simp] theorem setEntry_evSvc (c i v : Nat) : (s.setEntry c i v).evSvc = s.evSvc := rfl
@[simp] theorem setEntry_out (c i v : Nat) : (s.setEntry c i v).out = s.out := rfl
@[simp] theorem setEntry_dp (c i v : Nat) : (s.setEntry c i v).dp = s.dp := rfl
@[simp] theorem setEntry_rods (c i v : Nat) : (s.setEntry c i v).rods = s.rods := rfl
@[simp] theorem setEntry_saf (c i v : Nat) : (s.setEntry c i v).saf = s.saf := rfl
@[simp] theorem setEntry_tb (c i v : Nat) : (s.setEntry c i v).tb = s.tb := rfl
@[simp] theorem setEntry_key (c i v : Nat) : (s.setEntry c i v).key = s.key := rfl
@[simp] theorem setEntry_meas (c i v : Nat) : (s.setEntry c i v).meas = s.meas := rfl
@[simp] theorem setEntry_host (c i v : Nat) : (s.setEntry c i v).host = s.host := rfl
@[simp] theorem setEntry_ring (c i v : Nat) : (s.setEntry c i v).ring = s.ring := rfl
@[simp] theorem setEntry_boot (c i v : Nat) : (s.setEntry c i v).boot = s.boot := rfl
@[simp] theorem setEntry_upd (c i v : Nat) : (s.setEntry c i v).upd = s.upd := rfl
@[simp] theorem setEntry_pwr (c i v : Nat) : (s.setEntry c i v).pwr = s.pwr := rfl
@[simp] theorem setEntry_ddr (c i v : Nat) : (s.setEntry c i v).ddr = s.ddr := rfl
@[simp] theorem setEntry_ddrFails (c i v : Nat) : (s.setEntry c i v).ddrFails = s.ddrFails := rfl
@[simp] theorem setEntry_memTest (c i v : Nat) : (s.setEntry c i v).memTest = s.memTest := rfl
@[simp] theorem setEntry_laneFrac (c i v : Nat) : (s.setEntry c i v).laneFrac = s.laneFrac := rfl
@[simp] theorem setEntry_laneMiss (c i v : Nat) : (s.setEntry c i v).laneMiss = s.laneMiss := rfl
@[simp] theorem setEntry_trcPost (c i v : Nat) : (s.setEntry c i v).trcPost = s.trcPost := rfl

@[simp] theorem emit_pending (o : Out) : (s.emit o).pending = s.pending := rfl
@[simp] theorem emit_freeCtr (o : Out) : (s.emit o).freeCtr = s.freeCtr := rfl
@[simp] theorem emit_regs (o : Out) : (s.emit o).regs = s.regs := rfl
@[simp] theorem emit_tables (o : Out) : (s.emit o).tables = s.tables := rfl
@[simp] theorem emit_tly (o : Out) : (s.emit o).tly = s.tly := rfl
@[simp] theorem emit_tlyFrozen (o : Out) : (s.emit o).tlyFrozen = s.tlyFrozen := rfl
@[simp] theorem emit_evCtl (o : Out) : (s.emit o).evCtl = s.evCtl := rfl
@[simp] theorem emit_evSvc (o : Out) : (s.emit o).evSvc = s.evSvc := rfl
@[simp] theorem emit_dp (o : Out) : (s.emit o).dp = s.dp := rfl
@[simp] theorem emit_rods (o : Out) : (s.emit o).rods = s.rods := rfl
@[simp] theorem emit_saf (o : Out) : (s.emit o).saf = s.saf := rfl
@[simp] theorem emit_tb (o : Out) : (s.emit o).tb = s.tb := rfl
@[simp] theorem emit_key (o : Out) : (s.emit o).key = s.key := rfl
@[simp] theorem emit_meas (o : Out) : (s.emit o).meas = s.meas := rfl
@[simp] theorem emit_host (o : Out) : (s.emit o).host = s.host := rfl
@[simp] theorem emit_ring (o : Out) : (s.emit o).ring = s.ring := rfl
@[simp] theorem emit_boot (o : Out) : (s.emit o).boot = s.boot := rfl
@[simp] theorem emit_upd (o : Out) : (s.emit o).upd = s.upd := rfl
@[simp] theorem emit_pwr (o : Out) : (s.emit o).pwr = s.pwr := rfl
@[simp] theorem emit_ddr (o : Out) : (s.emit o).ddr = s.ddr := rfl
@[simp] theorem emit_ddrFails (o : Out) : (s.emit o).ddrFails = s.ddrFails := rfl
@[simp] theorem emit_memTest (o : Out) : (s.emit o).memTest = s.memTest := rfl
@[simp] theorem emit_laneFrac (o : Out) : (s.emit o).laneFrac = s.laneFrac := rfl
@[simp] theorem emit_laneMiss (o : Out) : (s.emit o).laneMiss = s.laneMiss := rfl
@[simp] theorem emit_trcPost (o : Out) : (s.emit o).trcPost = s.trcPost := rfl

@[simp] theorem announce_pending (n : Nat) : (s.announce n).pending = s.pending := rfl
@[simp] theorem announce_freeCtr (n : Nat) : (s.announce n).freeCtr = s.freeCtr := rfl
@[simp] theorem announce_regs (n : Nat) : (s.announce n).regs = s.regs := rfl
@[simp] theorem announce_tables (n : Nat) : (s.announce n).tables = s.tables := rfl
@[simp] theorem announce_tly (n : Nat) : (s.announce n).tly = s.tly := rfl
@[simp] theorem announce_tlyFrozen (n : Nat) : (s.announce n).tlyFrozen = s.tlyFrozen := rfl
@[simp] theorem announce_evCtl (n : Nat) : (s.announce n).evCtl = s.evCtl := rfl
@[simp] theorem announce_evSvc (n : Nat) : (s.announce n).evSvc = s.evSvc := rfl
@[simp] theorem announce_out (n : Nat) : (s.announce n).out = s.out := rfl
@[simp] theorem announce_dp (n : Nat) : (s.announce n).dp = s.dp := rfl
@[simp] theorem announce_rods (n : Nat) : (s.announce n).rods = s.rods := rfl
@[simp] theorem announce_saf (n : Nat) : (s.announce n).saf = s.saf := rfl
@[simp] theorem announce_tb (n : Nat) : (s.announce n).tb = s.tb := rfl
@[simp] theorem announce_key (n : Nat) : (s.announce n).key = s.key := rfl
@[simp] theorem announce_meas (n : Nat) : (s.announce n).meas = s.meas := rfl
@[simp] theorem announce_ring (n : Nat) : (s.announce n).ring = s.ring := rfl
@[simp] theorem announce_boot (n : Nat) : (s.announce n).boot = s.boot := rfl
@[simp] theorem announce_upd (n : Nat) : (s.announce n).upd = s.upd := rfl
@[simp] theorem announce_pwr (n : Nat) : (s.announce n).pwr = s.pwr := rfl
@[simp] theorem announce_ddr (n : Nat) : (s.announce n).ddr = s.ddr := rfl
@[simp] theorem announce_ddrFails (n : Nat) : (s.announce n).ddrFails = s.ddrFails := rfl
@[simp] theorem announce_memTest (n : Nat) : (s.announce n).memTest = s.memTest := rfl
@[simp] theorem announce_laneFrac (n : Nat) : (s.announce n).laneFrac = s.laneFrac := rfl
@[simp] theorem announce_laneMiss (n : Nat) : (s.announce n).laneMiss = s.laneMiss := rfl
@[simp] theorem announce_trcPost (n : Nat) : (s.announce n).trcPost = s.trcPost := rfl

@[simp] theorem setItem_pending (i : Nat) (x : Option Item) : (s.setItem i x).pending = s.pending := rfl
@[simp] theorem setItem_freeCtr (i : Nat) (x : Option Item) : (s.setItem i x).freeCtr = s.freeCtr := rfl
@[simp] theorem setItem_regs (i : Nat) (x : Option Item) : (s.setItem i x).regs = s.regs := rfl
@[simp] theorem setItem_tables (i : Nat) (x : Option Item) : (s.setItem i x).tables = s.tables := rfl
@[simp] theorem setItem_tly (i : Nat) (x : Option Item) : (s.setItem i x).tly = s.tly := rfl
@[simp] theorem setItem_tlyFrozen (i : Nat) (x : Option Item) : (s.setItem i x).tlyFrozen = s.tlyFrozen := rfl
@[simp] theorem setItem_evCtl (i : Nat) (x : Option Item) : (s.setItem i x).evCtl = s.evCtl := rfl
@[simp] theorem setItem_evSvc (i : Nat) (x : Option Item) : (s.setItem i x).evSvc = s.evSvc := rfl
@[simp] theorem setItem_out (i : Nat) (x : Option Item) : (s.setItem i x).out = s.out := rfl
@[simp] theorem setItem_rods (i : Nat) (x : Option Item) : (s.setItem i x).rods = s.rods := rfl
@[simp] theorem setItem_saf (i : Nat) (x : Option Item) : (s.setItem i x).saf = s.saf := rfl
@[simp] theorem setItem_tb (i : Nat) (x : Option Item) : (s.setItem i x).tb = s.tb := rfl
@[simp] theorem setItem_key (i : Nat) (x : Option Item) : (s.setItem i x).key = s.key := rfl
@[simp] theorem setItem_meas (i : Nat) (x : Option Item) : (s.setItem i x).meas = s.meas := rfl
@[simp] theorem setItem_host (i : Nat) (x : Option Item) : (s.setItem i x).host = s.host := rfl
@[simp] theorem setItem_ring (i : Nat) (x : Option Item) : (s.setItem i x).ring = s.ring := rfl
@[simp] theorem setItem_boot (i : Nat) (x : Option Item) : (s.setItem i x).boot = s.boot := rfl
@[simp] theorem setItem_upd (i : Nat) (x : Option Item) : (s.setItem i x).upd = s.upd := rfl
@[simp] theorem setItem_pwr (i : Nat) (x : Option Item) : (s.setItem i x).pwr = s.pwr := rfl
@[simp] theorem setItem_ddr (i : Nat) (x : Option Item) : (s.setItem i x).ddr = s.ddr := rfl
@[simp] theorem setItem_ddrFails (i : Nat) (x : Option Item) : (s.setItem i x).ddrFails = s.ddrFails := rfl
@[simp] theorem setItem_memTest (i : Nat) (x : Option Item) : (s.setItem i x).memTest = s.memTest := rfl
@[simp] theorem setItem_laneFrac (i : Nat) (x : Option Item) : (s.setItem i x).laneFrac = s.laneFrac := rfl
@[simp] theorem setItem_laneMiss (i : Nat) (x : Option Item) : (s.setItem i x).laneMiss = s.laneMiss := rfl
@[simp] theorem setItem_trcPost (i : Nat) (x : Option Item) : (s.setItem i x).trcPost = s.trcPost := rfl

@[simp] theorem setQueue_pending (p c : Nat) (q : List QRef) : (s.setQueue p c q).pending = s.pending := rfl
@[simp] theorem setQueue_freeCtr (p c : Nat) (q : List QRef) : (s.setQueue p c q).freeCtr = s.freeCtr := rfl
@[simp] theorem setQueue_regs (p c : Nat) (q : List QRef) : (s.setQueue p c q).regs = s.regs := rfl
@[simp] theorem setQueue_tables (p c : Nat) (q : List QRef) : (s.setQueue p c q).tables = s.tables := rfl
@[simp] theorem setQueue_tly (p c : Nat) (q : List QRef) : (s.setQueue p c q).tly = s.tly := rfl
@[simp] theorem setQueue_tlyFrozen (p c : Nat) (q : List QRef) : (s.setQueue p c q).tlyFrozen = s.tlyFrozen := rfl
@[simp] theorem setQueue_evCtl (p c : Nat) (q : List QRef) : (s.setQueue p c q).evCtl = s.evCtl := rfl
@[simp] theorem setQueue_evSvc (p c : Nat) (q : List QRef) : (s.setQueue p c q).evSvc = s.evSvc := rfl
@[simp] theorem setQueue_out (p c : Nat) (q : List QRef) : (s.setQueue p c q).out = s.out := rfl
@[simp] theorem setQueue_rods (p c : Nat) (q : List QRef) : (s.setQueue p c q).rods = s.rods := rfl
@[simp] theorem setQueue_saf (p c : Nat) (q : List QRef) : (s.setQueue p c q).saf = s.saf := rfl
@[simp] theorem setQueue_tb (p c : Nat) (q : List QRef) : (s.setQueue p c q).tb = s.tb := rfl
@[simp] theorem setQueue_key (p c : Nat) (q : List QRef) : (s.setQueue p c q).key = s.key := rfl
@[simp] theorem setQueue_meas (p c : Nat) (q : List QRef) : (s.setQueue p c q).meas = s.meas := rfl
@[simp] theorem setQueue_host (p c : Nat) (q : List QRef) : (s.setQueue p c q).host = s.host := rfl
@[simp] theorem setQueue_ring (p c : Nat) (q : List QRef) : (s.setQueue p c q).ring = s.ring := rfl
@[simp] theorem setQueue_boot (p c : Nat) (q : List QRef) : (s.setQueue p c q).boot = s.boot := rfl
@[simp] theorem setQueue_upd (p c : Nat) (q : List QRef) : (s.setQueue p c q).upd = s.upd := rfl
@[simp] theorem setQueue_pwr (p c : Nat) (q : List QRef) : (s.setQueue p c q).pwr = s.pwr := rfl
@[simp] theorem setQueue_ddr (p c : Nat) (q : List QRef) : (s.setQueue p c q).ddr = s.ddr := rfl
@[simp] theorem setQueue_ddrFails (p c : Nat) (q : List QRef) : (s.setQueue p c q).ddrFails = s.ddrFails := rfl
@[simp] theorem setQueue_memTest (p c : Nat) (q : List QRef) : (s.setQueue p c q).memTest = s.memTest := rfl
@[simp] theorem setQueue_laneFrac (p c : Nat) (q : List QRef) : (s.setQueue p c q).laneFrac = s.laneFrac := rfl
@[simp] theorem setQueue_laneMiss (p c : Nat) (q : List QRef) : (s.setQueue p c q).laneMiss = s.laneMiss := rfl
@[simp] theorem setQueue_trcPost (p c : Nat) (q : List QRef) : (s.setQueue p c q).trcPost = s.trcPost := rfl

@[simp] theorem setClassSt_pending (p c : Nat) (x : ClassSt) : (s.setClassSt p c x).pending = s.pending := rfl
@[simp] theorem setClassSt_freeCtr (p c : Nat) (x : ClassSt) : (s.setClassSt p c x).freeCtr = s.freeCtr := rfl
@[simp] theorem setClassSt_regs (p c : Nat) (x : ClassSt) : (s.setClassSt p c x).regs = s.regs := rfl
@[simp] theorem setClassSt_tables (p c : Nat) (x : ClassSt) : (s.setClassSt p c x).tables = s.tables := rfl
@[simp] theorem setClassSt_tly (p c : Nat) (x : ClassSt) : (s.setClassSt p c x).tly = s.tly := rfl
@[simp] theorem setClassSt_tlyFrozen (p c : Nat) (x : ClassSt) : (s.setClassSt p c x).tlyFrozen = s.tlyFrozen := rfl
@[simp] theorem setClassSt_evCtl (p c : Nat) (x : ClassSt) : (s.setClassSt p c x).evCtl = s.evCtl := rfl
@[simp] theorem setClassSt_evSvc (p c : Nat) (x : ClassSt) : (s.setClassSt p c x).evSvc = s.evSvc := rfl
@[simp] theorem setClassSt_out (p c : Nat) (x : ClassSt) : (s.setClassSt p c x).out = s.out := rfl
@[simp] theorem setClassSt_rods (p c : Nat) (x : ClassSt) : (s.setClassSt p c x).rods = s.rods := rfl
@[simp] theorem setClassSt_saf (p c : Nat) (x : ClassSt) : (s.setClassSt p c x).saf = s.saf := rfl
@[simp] theorem setClassSt_tb (p c : Nat) (x : ClassSt) : (s.setClassSt p c x).tb = s.tb := rfl
@[simp] theorem setClassSt_key (p c : Nat) (x : ClassSt) : (s.setClassSt p c x).key = s.key := rfl
@[simp] theorem setClassSt_meas (p c : Nat) (x : ClassSt) : (s.setClassSt p c x).meas = s.meas := rfl
@[simp] theorem setClassSt_host (p c : Nat) (x : ClassSt) : (s.setClassSt p c x).host = s.host := rfl
@[simp] theorem setClassSt_ring (p c : Nat) (x : ClassSt) : (s.setClassSt p c x).ring = s.ring := rfl
@[simp] theorem setClassSt_boot (p c : Nat) (x : ClassSt) : (s.setClassSt p c x).boot = s.boot := rfl
@[simp] theorem setClassSt_upd (p c : Nat) (x : ClassSt) : (s.setClassSt p c x).upd = s.upd := rfl
@[simp] theorem setClassSt_pwr (p c : Nat) (x : ClassSt) : (s.setClassSt p c x).pwr = s.pwr := rfl
@[simp] theorem setClassSt_ddr (p c : Nat) (x : ClassSt) : (s.setClassSt p c x).ddr = s.ddr := rfl
@[simp] theorem setClassSt_ddrFails (p c : Nat) (x : ClassSt) : (s.setClassSt p c x).ddrFails = s.ddrFails := rfl
@[simp] theorem setClassSt_memTest (p c : Nat) (x : ClassSt) : (s.setClassSt p c x).memTest = s.memTest := rfl
@[simp] theorem setClassSt_laneFrac (p c : Nat) (x : ClassSt) : (s.setClassSt p c x).laneFrac = s.laneFrac := rfl
@[simp] theorem setClassSt_laneMiss (p c : Nat) (x : ClassSt) : (s.setClassSt p c x).laneMiss = s.laneMiss := rfl
@[simp] theorem setClassSt_trcPost (p c : Nat) (x : ClassSt) : (s.setClassSt p c x).trcPost = s.trcPost := rfl

@[simp] theorem freeBeads_pending (p a b : Nat) : (s.freeBeads p a b).pending = s.pending := rfl
@[simp] theorem freeBeads_freeCtr (p a b : Nat) : (s.freeBeads p a b).freeCtr = s.freeCtr := rfl
@[simp] theorem freeBeads_regs (p a b : Nat) : (s.freeBeads p a b).regs = s.regs := rfl
@[simp] theorem freeBeads_tables (p a b : Nat) : (s.freeBeads p a b).tables = s.tables := rfl
@[simp] theorem freeBeads_tly (p a b : Nat) : (s.freeBeads p a b).tly = s.tly := rfl
@[simp] theorem freeBeads_tlyFrozen (p a b : Nat) : (s.freeBeads p a b).tlyFrozen = s.tlyFrozen := rfl
@[simp] theorem freeBeads_evCtl (p a b : Nat) : (s.freeBeads p a b).evCtl = s.evCtl := rfl
@[simp] theorem freeBeads_evSvc (p a b : Nat) : (s.freeBeads p a b).evSvc = s.evSvc := rfl
@[simp] theorem freeBeads_out (p a b : Nat) : (s.freeBeads p a b).out = s.out := rfl
@[simp] theorem freeBeads_rods (p a b : Nat) : (s.freeBeads p a b).rods = s.rods := rfl
@[simp] theorem freeBeads_saf (p a b : Nat) : (s.freeBeads p a b).saf = s.saf := rfl
@[simp] theorem freeBeads_tb (p a b : Nat) : (s.freeBeads p a b).tb = s.tb := rfl
@[simp] theorem freeBeads_key (p a b : Nat) : (s.freeBeads p a b).key = s.key := rfl
@[simp] theorem freeBeads_meas (p a b : Nat) : (s.freeBeads p a b).meas = s.meas := rfl
@[simp] theorem freeBeads_host (p a b : Nat) : (s.freeBeads p a b).host = s.host := rfl
@[simp] theorem freeBeads_ring (p a b : Nat) : (s.freeBeads p a b).ring = s.ring := rfl
@[simp] theorem freeBeads_boot (p a b : Nat) : (s.freeBeads p a b).boot = s.boot := rfl
@[simp] theorem freeBeads_upd (p a b : Nat) : (s.freeBeads p a b).upd = s.upd := rfl
@[simp] theorem freeBeads_pwr (p a b : Nat) : (s.freeBeads p a b).pwr = s.pwr := rfl
@[simp] theorem freeBeads_ddr (p a b : Nat) : (s.freeBeads p a b).ddr = s.ddr := rfl
@[simp] theorem freeBeads_ddrFails (p a b : Nat) : (s.freeBeads p a b).ddrFails = s.ddrFails := rfl
@[simp] theorem freeBeads_memTest (p a b : Nat) : (s.freeBeads p a b).memTest = s.memTest := rfl
@[simp] theorem freeBeads_laneFrac (p a b : Nat) : (s.freeBeads p a b).laneFrac = s.laneFrac := rfl
@[simp] theorem freeBeads_laneMiss (p a b : Nat) : (s.freeBeads p a b).laneMiss = s.laneMiss := rfl
@[simp] theorem freeBeads_trcPost (p a b : Nat) : (s.freeBeads p a b).trcPost = s.trcPost := rfl

@[simp] theorem setRod_pending (n : Nat) (r : Rod) : (s.setRod n r).pending = s.pending := rfl
@[simp] theorem setRod_freeCtr (n : Nat) (r : Rod) : (s.setRod n r).freeCtr = s.freeCtr := rfl
@[simp] theorem setRod_regs (n : Nat) (r : Rod) : (s.setRod n r).regs = s.regs := rfl
@[simp] theorem setRod_tables (n : Nat) (r : Rod) : (s.setRod n r).tables = s.tables := rfl
@[simp] theorem setRod_tly (n : Nat) (r : Rod) : (s.setRod n r).tly = s.tly := rfl
@[simp] theorem setRod_tlyFrozen (n : Nat) (r : Rod) : (s.setRod n r).tlyFrozen = s.tlyFrozen := rfl
@[simp] theorem setRod_evCtl (n : Nat) (r : Rod) : (s.setRod n r).evCtl = s.evCtl := rfl
@[simp] theorem setRod_evSvc (n : Nat) (r : Rod) : (s.setRod n r).evSvc = s.evSvc := rfl
@[simp] theorem setRod_out (n : Nat) (r : Rod) : (s.setRod n r).out = s.out := rfl
@[simp] theorem setRod_dp (n : Nat) (r : Rod) : (s.setRod n r).dp = s.dp := rfl
@[simp] theorem setRod_saf (n : Nat) (r : Rod) : (s.setRod n r).saf = s.saf := rfl
@[simp] theorem setRod_tb (n : Nat) (r : Rod) : (s.setRod n r).tb = s.tb := rfl
@[simp] theorem setRod_key (n : Nat) (r : Rod) : (s.setRod n r).key = s.key := rfl
@[simp] theorem setRod_meas (n : Nat) (r : Rod) : (s.setRod n r).meas = s.meas := rfl
@[simp] theorem setRod_host (n : Nat) (r : Rod) : (s.setRod n r).host = s.host := rfl
@[simp] theorem setRod_ring (n : Nat) (r : Rod) : (s.setRod n r).ring = s.ring := rfl
@[simp] theorem setRod_boot (n : Nat) (r : Rod) : (s.setRod n r).boot = s.boot := rfl
@[simp] theorem setRod_upd (n : Nat) (r : Rod) : (s.setRod n r).upd = s.upd := rfl
@[simp] theorem setRod_pwr (n : Nat) (r : Rod) : (s.setRod n r).pwr = s.pwr := rfl
@[simp] theorem setRod_ddr (n : Nat) (r : Rod) : (s.setRod n r).ddr = s.ddr := rfl
@[simp] theorem setRod_ddrFails (n : Nat) (r : Rod) : (s.setRod n r).ddrFails = s.ddrFails := rfl
@[simp] theorem setRod_memTest (n : Nat) (r : Rod) : (s.setRod n r).memTest = s.memTest := rfl
@[simp] theorem setRod_laneFrac (n : Nat) (r : Rod) : (s.setRod n r).laneFrac = s.laneFrac := rfl
@[simp] theorem setRod_laneMiss (n : Nat) (r : Rod) : (s.setRod n r).laneMiss = s.laneMiss := rfl
@[simp] theorem setRod_trcPost (n : Nat) (r : Rod) : (s.setRod n r).trcPost = s.trcPost := rfl

@[simp] theorem setDdr_pending (a v : Nat) : (s.setDdr a v).pending = s.pending := rfl
@[simp] theorem setDdr_freeCtr (a v : Nat) : (s.setDdr a v).freeCtr = s.freeCtr := rfl
@[simp] theorem setDdr_regs (a v : Nat) : (s.setDdr a v).regs = s.regs := rfl
@[simp] theorem setDdr_tables (a v : Nat) : (s.setDdr a v).tables = s.tables := rfl
@[simp] theorem setDdr_tly (a v : Nat) : (s.setDdr a v).tly = s.tly := rfl
@[simp] theorem setDdr_tlyFrozen (a v : Nat) : (s.setDdr a v).tlyFrozen = s.tlyFrozen := rfl
@[simp] theorem setDdr_evCtl (a v : Nat) : (s.setDdr a v).evCtl = s.evCtl := rfl
@[simp] theorem setDdr_evSvc (a v : Nat) : (s.setDdr a v).evSvc = s.evSvc := rfl
@[simp] theorem setDdr_out (a v : Nat) : (s.setDdr a v).out = s.out := rfl
@[simp] theorem setDdr_dp (a v : Nat) : (s.setDdr a v).dp = s.dp := rfl
@[simp] theorem setDdr_rods (a v : Nat) : (s.setDdr a v).rods = s.rods := rfl
@[simp] theorem setDdr_saf (a v : Nat) : (s.setDdr a v).saf = s.saf := rfl
@[simp] theorem setDdr_tb (a v : Nat) : (s.setDdr a v).tb = s.tb := rfl
@[simp] theorem setDdr_key (a v : Nat) : (s.setDdr a v).key = s.key := rfl
@[simp] theorem setDdr_meas (a v : Nat) : (s.setDdr a v).meas = s.meas := rfl
@[simp] theorem setDdr_host (a v : Nat) : (s.setDdr a v).host = s.host := rfl
@[simp] theorem setDdr_ring (a v : Nat) : (s.setDdr a v).ring = s.ring := rfl
@[simp] theorem setDdr_boot (a v : Nat) : (s.setDdr a v).boot = s.boot := rfl
@[simp] theorem setDdr_upd (a v : Nat) : (s.setDdr a v).upd = s.upd := rfl
@[simp] theorem setDdr_pwr (a v : Nat) : (s.setDdr a v).pwr = s.pwr := rfl
@[simp] theorem setDdr_ddrFails (a v : Nat) : (s.setDdr a v).ddrFails = s.ddrFails := rfl
@[simp] theorem setDdr_memTest (a v : Nat) : (s.setDdr a v).memTest = s.memTest := rfl
@[simp] theorem setDdr_laneFrac (a v : Nat) : (s.setDdr a v).laneFrac = s.laneFrac := rfl
@[simp] theorem setDdr_laneMiss (a v : Nat) : (s.setDdr a v).laneMiss = s.laneMiss := rfl
@[simp] theorem setDdr_trcPost (a v : Nat) : (s.setDdr a v).trcPost = s.trcPost := rfl

@[simp] theorem setWin_pending (h : Nat) (w : Win) : (s.setWin h w).pending = s.pending := rfl
@[simp] theorem setWin_freeCtr (h : Nat) (w : Win) : (s.setWin h w).freeCtr = s.freeCtr := rfl
@[simp] theorem setWin_regs (h : Nat) (w : Win) : (s.setWin h w).regs = s.regs := rfl
@[simp] theorem setWin_tables (h : Nat) (w : Win) : (s.setWin h w).tables = s.tables := rfl
@[simp] theorem setWin_tly (h : Nat) (w : Win) : (s.setWin h w).tly = s.tly := rfl
@[simp] theorem setWin_tlyFrozen (h : Nat) (w : Win) : (s.setWin h w).tlyFrozen = s.tlyFrozen := rfl
@[simp] theorem setWin_evCtl (h : Nat) (w : Win) : (s.setWin h w).evCtl = s.evCtl := rfl
@[simp] theorem setWin_evSvc (h : Nat) (w : Win) : (s.setWin h w).evSvc = s.evSvc := rfl
@[simp] theorem setWin_out (h : Nat) (w : Win) : (s.setWin h w).out = s.out := rfl
@[simp] theorem setWin_dp (h : Nat) (w : Win) : (s.setWin h w).dp = s.dp := rfl
@[simp] theorem setWin_rods (h : Nat) (w : Win) : (s.setWin h w).rods = s.rods := rfl
@[simp] theorem setWin_saf (h : Nat) (w : Win) : (s.setWin h w).saf = s.saf := rfl
@[simp] theorem setWin_tb (h : Nat) (w : Win) : (s.setWin h w).tb = s.tb := rfl
@[simp] theorem setWin_key (h : Nat) (w : Win) : (s.setWin h w).key = s.key := rfl
@[simp] theorem setWin_meas (h : Nat) (w : Win) : (s.setWin h w).meas = s.meas := rfl
@[simp] theorem setWin_ring (h : Nat) (w : Win) : (s.setWin h w).ring = s.ring := rfl
@[simp] theorem setWin_boot (h : Nat) (w : Win) : (s.setWin h w).boot = s.boot := rfl
@[simp] theorem setWin_upd (h : Nat) (w : Win) : (s.setWin h w).upd = s.upd := rfl
@[simp] theorem setWin_pwr (h : Nat) (w : Win) : (s.setWin h w).pwr = s.pwr := rfl
@[simp] theorem setWin_ddr (h : Nat) (w : Win) : (s.setWin h w).ddr = s.ddr := rfl
@[simp] theorem setWin_ddrFails (h : Nat) (w : Win) : (s.setWin h w).ddrFails = s.ddrFails := rfl
@[simp] theorem setWin_memTest (h : Nat) (w : Win) : (s.setWin h w).memTest = s.memTest := rfl
@[simp] theorem setWin_laneFrac (h : Nat) (w : Win) : (s.setWin h w).laneFrac = s.laneFrac := rfl
@[simp] theorem setWin_laneMiss (h : Nat) (w : Win) : (s.setWin h w).laneMiss = s.laneMiss := rfl
@[simp] theorem setWin_trcPost (h : Nat) (w : Win) : (s.setWin h w).trcPost = s.trcPost := rfl

@[simp] theorem setFlow_pending (d : Nat) (f : Flow) : (s.setFlow d f).pending = s.pending := rfl
@[simp] theorem setFlow_freeCtr (d : Nat) (f : Flow) : (s.setFlow d f).freeCtr = s.freeCtr := rfl
@[simp] theorem setFlow_regs (d : Nat) (f : Flow) : (s.setFlow d f).regs = s.regs := rfl
@[simp] theorem setFlow_tables (d : Nat) (f : Flow) : (s.setFlow d f).tables = s.tables := rfl
@[simp] theorem setFlow_tly (d : Nat) (f : Flow) : (s.setFlow d f).tly = s.tly := rfl
@[simp] theorem setFlow_tlyFrozen (d : Nat) (f : Flow) : (s.setFlow d f).tlyFrozen = s.tlyFrozen := rfl
@[simp] theorem setFlow_evCtl (d : Nat) (f : Flow) : (s.setFlow d f).evCtl = s.evCtl := rfl
@[simp] theorem setFlow_evSvc (d : Nat) (f : Flow) : (s.setFlow d f).evSvc = s.evSvc := rfl
@[simp] theorem setFlow_out (d : Nat) (f : Flow) : (s.setFlow d f).out = s.out := rfl
@[simp] theorem setFlow_dp (d : Nat) (f : Flow) : (s.setFlow d f).dp = s.dp := rfl
@[simp] theorem setFlow_rods (d : Nat) (f : Flow) : (s.setFlow d f).rods = s.rods := rfl
@[simp] theorem setFlow_saf (d : Nat) (f : Flow) : (s.setFlow d f).saf = s.saf := rfl
@[simp] theorem setFlow_tb (d : Nat) (f : Flow) : (s.setFlow d f).tb = s.tb := rfl
@[simp] theorem setFlow_key (d : Nat) (f : Flow) : (s.setFlow d f).key = s.key := rfl
@[simp] theorem setFlow_meas (d : Nat) (f : Flow) : (s.setFlow d f).meas = s.meas := rfl
@[simp] theorem setFlow_host (d : Nat) (f : Flow) : (s.setFlow d f).host = s.host := rfl
@[simp] theorem setFlow_ring (d : Nat) (f : Flow) : (s.setFlow d f).ring = s.ring := rfl
@[simp] theorem setFlow_boot (d : Nat) (f : Flow) : (s.setFlow d f).boot = s.boot := rfl
@[simp] theorem setFlow_pwr (d : Nat) (f : Flow) : (s.setFlow d f).pwr = s.pwr := rfl
@[simp] theorem setFlow_ddr (d : Nat) (f : Flow) : (s.setFlow d f).ddr = s.ddr := rfl
@[simp] theorem setFlow_ddrFails (d : Nat) (f : Flow) : (s.setFlow d f).ddrFails = s.ddrFails := rfl
@[simp] theorem setFlow_memTest (d : Nat) (f : Flow) : (s.setFlow d f).memTest = s.memTest := rfl
@[simp] theorem setFlow_laneFrac (d : Nat) (f : Flow) : (s.setFlow d f).laneFrac = s.laneFrac := rfl
@[simp] theorem setFlow_laneMiss (d : Nat) (f : Flow) : (s.setFlow d f).laneMiss = s.laneMiss := rfl
@[simp] theorem setFlow_trcPost (d : Nat) (f : Flow) : (s.setFlow d f).trcPost = s.trcPost := rfl

/-! ### Register fields after other updates -/

@[simp] theorem getF_setEntry (c i v : Nat) (g : Fld) : (s.setEntry c i v).getF g = s.getF g := rfl
@[simp] theorem isF_setEntry (c i v : Nat) (g : Fld) : (s.setEntry c i v).isF g = s.isF g := rfl
@[simp] theorem getF_emit (o : Out) (g : Fld) : (s.emit o).getF g = s.getF g := rfl
@[simp] theorem isF_emit (o : Out) (g : Fld) : (s.emit o).isF g = s.isF g := rfl
@[simp] theorem getF_announce (n : Nat) (g : Fld) : (s.announce n).getF g = s.getF g := rfl
@[simp] theorem isF_announce (n : Nat) (g : Fld) : (s.announce n).isF g = s.isF g := rfl
@[simp] theorem getF_setItem (i : Nat) (x : Option Item) (g : Fld) : (s.setItem i x).getF g = s.getF g := rfl
@[simp] theorem isF_setItem (i : Nat) (x : Option Item) (g : Fld) : (s.setItem i x).isF g = s.isF g := rfl
@[simp] theorem getF_setQueue (p c : Nat) (q : List QRef) (g : Fld) : (s.setQueue p c q).getF g = s.getF g := rfl
@[simp] theorem isF_setQueue (p c : Nat) (q : List QRef) (g : Fld) : (s.setQueue p c q).isF g = s.isF g := rfl
@[simp] theorem getF_setClassSt (p c : Nat) (x : ClassSt) (g : Fld) : (s.setClassSt p c x).getF g = s.getF g := rfl
@[simp] theorem isF_setClassSt (p c : Nat) (x : ClassSt) (g : Fld) : (s.setClassSt p c x).isF g = s.isF g := rfl
@[simp] theorem getF_freeBeads (p a b : Nat) (g : Fld) : (s.freeBeads p a b).getF g = s.getF g := rfl
@[simp] theorem isF_freeBeads (p a b : Nat) (g : Fld) : (s.freeBeads p a b).isF g = s.isF g := rfl
@[simp] theorem getF_setRod (n : Nat) (r : Rod) (g : Fld) : (s.setRod n r).getF g = s.getF g := rfl
@[simp] theorem isF_setRod (n : Nat) (r : Rod) (g : Fld) : (s.setRod n r).isF g = s.isF g := rfl
@[simp] theorem getF_setDdr (a v : Nat) (g : Fld) : (s.setDdr a v).getF g = s.getF g := rfl
@[simp] theorem isF_setDdr (a v : Nat) (g : Fld) : (s.setDdr a v).isF g = s.isF g := rfl
@[simp] theorem getF_setWin (h : Nat) (w : Win) (g : Fld) : (s.setWin h w).getF g = s.getF g := rfl
@[simp] theorem isF_setWin (h : Nat) (w : Win) (g : Fld) : (s.setWin h w).isF g = s.isF g := rfl
@[simp] theorem getF_setFlow (d : Nat) (f : Flow) (g : Fld) : (s.setFlow d f).getF g = s.getF g := rfl
@[simp] theorem isF_setFlow (d : Nat) (f : Flow) (g : Fld) : (s.setFlow d f).isF g = s.isF g := rfl

/-! ### Register fields after a register update -/

/-- A field reads what was stored, cut to its width. -/
@[simp] theorem getF_setF_same (f : Fld) (v : Nat) : (s.setF f v).getF f = v % 2 ^ f.w := by
  simp [State.getF, State.setF]

/-- Every other field keeps its value. -/
theorem getF_setF_ne (f g : Fld) (v : Nat) (h : g.key ≠ f.key) : (s.setF f v).getF g = s.getF g := by
  simp [State.getF, State.setF, sget_sput_ne _ _ h]

@[simp] theorem isF_setB_same (f : Fld) (b : Bool) (hw : f.w = 1) : (s.setB f b).isF f = b := by
  cases b <;> simp [State.setB, State.isF, hw, b2n]

theorem getF_setB_ne (f g : Fld) (b : Bool) (h : g.key ≠ f.key) : (s.setB f b).getF g = s.getF g :=
  getF_setF_ne s f g (b2n b) h

theorem isF_setB_ne (f g : Fld) (b : Bool) (h : g.key ≠ f.key) : (s.setB f b).isF g = s.isF g := by
  simp [State.isF, getF_setB_ne s f g b h]

theorem isF_setF_ne (f g : Fld) (v : Nat) (h : g.key ≠ f.key) : (s.setF f v).isF g = s.isF g := by
  simp [State.isF, getF_setF_ne s f g v h]

theorem getF_satF_ne (f g : Fld) (n : Nat) (h : g.key ≠ f.key) : (s.satF f n).getF g = s.getF g :=
  getF_setF_ne s f g _ h

/-- A table entry reads what was written. -/
@[simp] theorem entry_setEntry_same (c i v : Nat) : (s.setEntry c i v).entry c i = v := by
  simp [State.entry, State.setEntry]

theorem entry_setEntry_ne (c i v c' i' : Nat) (h : tkey c' i' ≠ tkey c i) :
    (s.setEntry c i v).entry c' i' = s.entry c' i' := by
  simp [State.entry, State.setEntry, sget_sput_ne _ _ h]

@[simp] theorem rod_setRod_same (n : Nat) (r : Rod) : (s.setRod n r).rod n = r := by
  simp [State.rod, State.setRod]

@[simp] theorem queue_setQueue_same (p c : Nat) (q : List QRef) : (s.setQueue p c q).queue p c = q := by
  simp [State.queue, State.setQueue]

@[simp] theorem item_setItem_same (i : Nat) (x : Option Item) : (s.setItem i x).item i = x := by
  simp [State.item, State.setItem]

@[simp] theorem win_setWin_same (h : Nat) (w : Win) : (s.setWin h w).win h = w := by
  simp [State.win, State.setWin]

@[simp] theorem ddrByte_setDdr_same (a v : Nat) : (s.setDdr a v).ddrByte a = v % 256 := by
  simp [State.ddrByte, State.setDdr]

theorem ddrByte_setDdr_ne (a b v : Nat) (h : b ≠ a) : (s.setDdr a v).ddrByte b = s.ddrByte b := by
  simp [State.ddrByte, State.setDdr, sget_sput_ne _ _ h]

/-! ### Canonical forms -/

/-- Storing a field keeps the register store canonical. -/
theorem setF_canonical (f : Fld) (v : Nat) (h : swf fieldReset s.regs = true) :
    swf fieldReset (s.setF f v).regs = true := swf_sput _ _ _ h

/-- Storing a table entry keeps the table memory canonical. -/
theorem setEntry_canonical (c i v : Nat) (h : swf (fun _ => 0) s.tables = true) :
    swf (fun _ => 0) (s.setEntry c i v).tables = true := swf_sput _ _ _ h

/-- Storing a byte keeps LPDDR5 memory canonical. -/
theorem setDdr_wf (a v : Nat) (h : Memory.wf s.ddr = true) : Memory.wf (s.setDdr a v).ddr = true :=
  swf_sput _ _ _ h

/-- Writing bytes keeps LPDDR5 memory canonical. -/
theorem writeDdr_wf (bs : List Byte) : ∀ (s : State) (a : Nat), Memory.wf s.ddr = true →
    Memory.wf (s.writeDdr a bs).ddr = true := by
  induction bs with
  | nil => exact fun _ _ h => h
  | cons b bs ih => exact fun s a h => ih _ _ (setDdr_wf s a b.toNat h)

/-- Writing bytes touches only the addresses written. -/
theorem writeDdr_outside (bs : List Byte) : ∀ (s : State) (a b : Nat), b < a ∨ a + bs.length ≤ b →
    (s.writeDdr a bs).ddrByte b = s.ddrByte b := by
  induction bs with
  | nil => intros; rfl
  | cons x bs ih =>
    intro s a b h
    have h' : b < a + 1 ∨ a + 1 + bs.length ≤ b := by simp at h; omega
    rw [State.writeDdr, ih _ _ _ h', ddrByte_setDdr_ne]
    simp at h; omega

/-- A repeated update that keeps a property keeps it as a whole. -/
theorem forN_keeps (P : State → Prop) (n : Nat) (f : Nat → State → State) (h : ∀ i s, P s → P (f i s)) :
    P s → P (s.forN n f) := by
  unfold State.forN
  generalize List.range n = l
  intro hs
  induction l generalizing s with
  | nil => exact hs
  | cons i l ih => exact ih _ (h i s hs)

/-- The contents of a tested range are free values, and memory stays canonical. -/
theorem destroy_wf (lo n : Nat) (h : Memory.wf s.ddr = true) : Memory.wf (s.destroy lo n).ddr = true := by
  unfold State.destroy
  exact forN_keeps s (fun t => Memory.wf t.ddr = true) n _ (fun _ t ht => setDdr_wf t _ _ ht) h

end Sys2Proof.Machine
end

