-- ==== Sys2Proof/Laws/Ops.lean ====
section
/-! SUPPORT. One lemma per shared operation that says once everything the operation can do: which parts of the
state it replaces (every other part is unchanged) and what it puts there. Proofs cite these and unfold nothing. -/

namespace Sys2Proof.Machine

variable (s : State)

/-! ### Fields -/

/-- A saturating addition leaves the smaller of the sum and the field's largest value. -/
theorem getF_satF_same (f : Fld) (n : Nat) : (s.satF f n).getF f = min (2 ^ f.w - 1) (s.getF f + n) := by
  have h : 0 < 2 ^ f.w := Nat.two_pow_pos _
  unfold State.satF satAdd
  rw [getF_setF_same, Nat.mod_eq_of_lt]
  omega

/-- An increment wraps at the field's width. -/
theorem getF_incF_same (f : Fld) : (s.incF f).getF f = (s.getF f + 1) % 2 ^ f.w := by
  simp [State.incF]

/-- A gated register write is the write in service and a count of WR_DROP before. -/
theorem busGate_cases (f : State → State) :
    (s.serving = true ∧ s.busGate f = f s) ∨
    (s.serving = false ∧ s.busGate f = s.satF F.GLB_RST_STAT_WR_DROP 1) := by
  unfold State.busGate
  cases h : s.serving <;> simp

/-! ### Tallies -/

/-- Counting replaces the tallies alone. -/
theorem tallyN_eq (i n : Nat) : s.tallyN i n = { s with tly := (s.tallyN i n).tly } := by
  unfold State.tallyN; split <;> rfl

/-- A tally that counts rises by `n` modulo 2^64; every other one keeps its value. -/
theorem tallyOf_tallyN (i n j : Nat) : (s.tallyN i n).tallyOf j =
    if j = i ∧ s.tallyCounts i = true then (s.tallyOf i + n) % 2 ^ 64 else s.tallyOf j := by
  unfold State.tallyN
  by_cases hc : s.tallyCounts i = true
  · by_cases hj : j = i
    · subst hj; simp [hc, State.tallyOf]
    · simp [hc, hj, State.tallyOf, sget_sput_ne _ _ hj]
  · simp [hc]

/-- Counting keeps the tallies canonical. -/
theorem tallyN_canonical (i n : Nat) (h : swf (fun _ => 0) s.tly = true) :
    swf (fun _ => 0) (s.tallyN i n).tly = true := by
  unfold State.tallyN; split
  · exact swf_sput _ _ _ h
  · exact h

/-! ### Free values -/

/-- Drawing a free value answers the counter and advances it; nothing else changes. -/
theorem fresh_eq : s.fresh = (s.freeCtr, { s with freeCtr := s.freeCtr + 1 }) := rfl

/-! ### Events -/

/-- What posting may replace: registers, tallies, the outward list, the host's waiting announcements, the Eplen frames
that wait for their port, the two event rings, the free-value counter and the trace recorder's count after its trigger. -/
def State.withPosted (s r : State) : State :=
  { s with regs := r.regs, tly := r.tly, out := r.out, host := { s.host with irq := r.host.irq },
           ring := { s.ring with sendQ := r.ring.sendQ },
           evCtl := r.evCtl, evSvc := r.evSvc, freeCtr := r.freeCtr, trcPost := r.trcPost }

theorem withPosted_trans {s t u : State} (h : t = s.withPosted t) (k : u = t.withPosted u) :
    u = s.withPosted u := by
  rw [k, h]; rfl

/-- An announcement replaces the host's waiting announcements alone, one more for its source. -/
theorem announce_eq (n : Nat) : s.announce n = s.withPosted (s.announce n) := rfl

/-- A frame for the Eplen port `p` leaves when nothing waits there and the port is free, is dropped and tallied when 64
EVENT frames wait toward its subscriber, and else waits behind the others. -/
theorem sendEplen_cases (p : Nat) (h : EplenHdr) (body : List Byte) :
    (s.sendQ p = [] ∧ s.eplenFree p = true ∧ s.sendEplen p h body = s.emit (.eplen p h body)) ∨
    (h.msg = 0x20 ∧ 64 ≤ eventsToward h (s.sendQ p) ∧ s.sendEplen p h body = s.tally (T.rng 5)) ∨
    (s.sendEplen p h body = s.setSendQ p (s.sendQ p ++ [(h, body)])) := by
  unfold State.sendEplen
  dsimp only
  split
  · rename_i hq
    simp only [Bool.and_eq_true, List.isEmpty_iff] at hq
    exact .inl ⟨hq.1, hq.2, rfl⟩
  · split
    · rename_i he
      exact .inr (.inl ⟨he.1, he.2, rfl⟩)
    · exact .inr (.inr rfl)

/-- An Eplen frame of the relay replaces only what posting may replace. -/
theorem sendEplen_posted (p : Nat) (h : EplenHdr) (body : List Byte) :
    s.sendEplen p h body = s.withPosted (s.sendEplen p h body) := by
  obtain ⟨-, -, e⟩ | ⟨-, -, e⟩ | e := sendEplen_cases s p h body
  · rw [e]; rfl
  · rw [e, State.tally, tallyN_eq]; rfl
  · rw [e]; rfl

/-- Relaying an event replaces only what posting may replace, and nothing where the control pair is down. -/
theorem relayEvent_posted (e : Event) :
    s.relayEvent e = s.withPosted (s.relayEvent e) ∧ (s.pairUp 0 = false → s.relayEvent e = s) := by
  unfold State.relayEvent
  refine ⟨?_, fun h => by simp [h]⟩
  split
  · rfl
  · generalize s.ring.subs = l
    have key : ∀ (l : List Sub) (t : State), t = s.withPosted t →
        l.foldl (fun s sub => s.sendEplen (s.eplenPort sub.port) (s.eplenHdr 0x20 (1 - sub.dir) sub.hops)
          (beBytes 2 e.code ++ beBytes 1 e.block ++ beBytes 4 e.n32 ++ beBytes 8 e.payload)) t
        = s.withPosted (l.foldl (fun s sub => s.sendEplen (s.eplenPort sub.port)
          (s.eplenHdr 0x20 (1 - sub.dir) sub.hops)
          (beBytes 2 e.code ++ beBytes 1 e.block ++ beBytes 4 e.n32 ++ beBytes 8 e.payload)) t) := by
      intro l
      induction l with
      | nil => exact fun _ h => h
      | cons x l ih => exact fun t h => ih _ (withPosted_trans h (sendEplen_posted t _ _ _))
    exact key l s rfl

/-- Handing an event to the host's ring replaces only what posting may replace. -/
theorem hostEvent_posted (e : Event) : s.hostEvent e = s.withPosted (s.hostEvent e) := by
  unfold State.hostEvent
  dsimp only
  split
  · rfl
  · rw [State.tally, tallyN_eq]; rfl

/-- Posting to the readers replaces only what posting may replace. -/
theorem postRaw_posted (e : Event) : s.postRaw e = s.withPosted (s.postRaw e) := by
  have h1 : ∀ t : State, (if t.evCtl.length < 1024 then { t with evCtl := t.evCtl ++ [e] } else t.tally (T.glb 3))
      = t.withPosted (if t.evCtl.length < 1024 then { t with evCtl := t.evCtl ++ [e] } else t.tally (T.glb 3)) := by
    intro t; split
    · rfl
    · rw [State.tally, tallyN_eq]; rfl
  have h2 : ∀ t : State, (if t.evSvc.length < 1024 then { t with evSvc := t.evSvc ++ [e] } else t.tally (T.glb 4))
      = t.withPosted (if t.evSvc.length < 1024 then { t with evSvc := t.evSvc ++ [e] } else t.tally (T.glb 4)) := by
    intro t; split
    · rfl
    · rw [State.tally, tallyN_eq]; rfl
  have h3 : ∀ t : State, t.relayEvent e = t.withPosted (t.relayEvent e) := by
    exact fun t => (relayEvent_posted t e).1
  exact withPosted_trans (withPosted_trans (withPosted_trans (h1 s) (h2 _)) (hostEvent_posted _ e)) (h3 _)

theorem setF_posted {s t : State} (f : Fld) (v : Nat) (h : t = s.withPosted t) :
    t.setF f v = s.withPosted (t.setF f v) := withPosted_trans h rfl

theorem setB_posted {s t : State} (f : Fld) (b : Bool) (h : t = s.withPosted t) :
    t.setB f b = s.withPosted (t.setB f b) := withPosted_trans h rfl

theorem fresh_posted {s t : State} (h : t = s.withPosted t) : t.fresh.2 = s.withPosted t.fresh.2 :=
  withPosted_trans h rfl

/-- Firing a trigger replaces only what posting may replace. -/
theorem fireTrigger_posted (k : Nat) : s.fireTrigger k = s.withPosted (s.fireTrigger k) := by
  unfold State.fireTrigger
  split
  · extract_lets s1 s2 s3 s4 s5 s6 s7
    have h2 : s2 = s.withPosted s2 := rfl
    have h3 : s3 = s.withPosted s3 := by
      unfold s3; split
      · exact setB_posted _ _ (setF_posted _ _ h2)
      · exact setB_posted _ _ h2
    clear_value s3
    have h7 : s7 = s.withPosted s7 := setF_posted _ _ (setF_posted _ _ (setF_posted _ _ (setF_posted _ _ h3)))
    clear_value s7
    exact withPosted_trans (fresh_posted h7) (postRaw_posted _ _)
  · rw [State.tally, tallyN_eq]; rfl

/-- Posting an event replaces only what posting may replace. -/
theorem post_posted (b c p : Nat) : s.post b c p = s.withPosted (s.post b c p) := by
  unfold State.post
  dsimp only
  generalize (s.postRaw ⟨b, c, 0, s.now32, p⟩).eventTriggers b c = l
  have h : ∀ (l : List Nat) (t : State), t = s.withPosted t →
      l.foldl State.fireTrigger t = s.withPosted (l.foldl State.fireTrigger t) := by
    intro l
    induction l with
    | nil => exact fun _ h => h
    | cons k l ih => exact fun t h => ih _ (withPosted_trans h (fireTrigger_posted t k))
  exact h l _ (postRaw_posted s _)

/-- Posting with a free payload replaces only what posting may replace. -/
theorem postFree_posted (b c : Nat) : s.postFree b c = s.withPosted (s.postFree b c) :=
  withPosted_trans (s := s) (t := { s with freeCtr := s.freeCtr + 1 }) rfl (post_posted _ b c _)

/-! ### Beads -/

/-- A claim takes all its beads, its own reserve first and the rest from the shared pool, which it leaves
within its bound; nothing but the two counts of used beads changes. -/
theorem claim_some {p n r sh : Nat} {t : State} (h : s.claim p n = some (r, sh, t)) :
    r + sh = n ∧ s.dp.shUsed + sh ≤ s.sharedPool ∧ t.dp.shUsed = s.dp.shUsed + sh ∧
    t.dp.resUsed = sput (fun _ => 0) s.dp.resUsed p (sget (fun _ => 0) s.dp.resUsed p + r) ∧
    t = { s with dp := { s.dp with resUsed := t.dp.resUsed, shUsed := t.dp.shUsed } } := by
  unfold State.claim at h
  dsimp only at h
  by_cases hs : s.dp.shUsed + (n - min n (if s.present p = true then s.reserve p
      - sget (fun _ => 0) s.dp.resUsed p else 0)) ≤ s.sharedPool
  · rw [if_pos hs] at h
    injection h with h
    injection h with hr h
    injection h with hh ht
    subst hr hh ht
    exact ⟨by omega, hs, rfl, rfl, rfl⟩
  · rw [if_neg hs] at h
    cases h

/-- The test of the beads of an item changes the counts of lost and marked beads alone. -/
theorem testBeads_cases (i : Nat) : (s.testBeads i).item = s.item ∧
    s.testBeads i = { s with dp := { s.dp with
      lostBeads := (s.testBeads i).dp.lostBeads, badBead := (s.testBeads i).dp.badBead } } := by
  unfold State.testBeads
  split <;> exact ⟨rfl, rfl⟩

/-- Discarding an item removes it and replaces nothing outside the data plane. -/
theorem dropItem_item (i : Nat) : (s.dropItem i).item i = none ∧ s.dropItem i = { s with dp := (s.dropItem i).dp } := by
  unfold State.dropItem
  split
  · exact ⟨‹_›, rfl⟩
  · rw [(testBeads_cases _ i).1, (testBeads_cases _ i).2]
    exact ⟨item_setItem_same _ _ _, rfl⟩

/-- A released reference replaces nothing outside the data plane. -/
theorem release_eq (i : Nat) : s.release i = { s with dp := (s.release i).dp } := by
  unfold State.release
  split
  · rfl
  · split
    · exact (dropItem_item s i).2
    · rfl

/-- A new item reads back under the number it was given, which no later item gets. -/
theorem newItem_item (it : Item) : (s.newItem it).2.item (s.newItem it).1 = some it ∧
    (s.newItem it).2.dp.nextItem = (s.newItem it).1 + 1 :=
  ⟨item_setItem_same _ _ _, rfl⟩

/-! ### The step -/

/-- A step runs the command at the front of the queue with the rest of the queue. -/
theorem step_cons {i : Instr} {l : List Instr} (h : s.pending = i :: l) :
    step s = exec i { s with pending := l } := by
  unfold step; rw [h]

/-- A step on an empty queue is one tick. -/
theorem step_nil (h : s.pending = []) : step s = .next s.tick := by
  unfold step; rw [h]

end Sys2Proof.Machine
end

