-- ==== Sys2Proof/Machine/Pins.lean ====
section
/-! DEFINITION. The package (chapter 17): what every ball of the 34 by 34 array is assigned (R428 to R435), the state
that every pin group is in (R388, R438, R439, Tables 12.10, 15.5 and 17.10) and the transmitter settings of the SerDes
lanes (R459). No command acts on a ball; these are what an observer of the balls sees of the state. -/

namespace Sys2Proof.Machine

/-! ### The ball map (R428 to R435) -/

/-- Supplies of Table 17.8. -/
inductive Supply where
  | vss
  | vddCore
  | vddSrd
  | vddPll
  | vddio33
  | vddio18
  | vddqDdr
  | vddAon
  | vbatk
  deriving DecidableEq, Repr

/-- What a ball carries: a supply, or signal number `i` of a group, named as chapter 17 names it. -/
inductive Ball where
  | supply (v : Supply)
  | signal (name : String) (i : Nat)
  deriving DecidableEq, Repr

/-- Row letters by row index 1 to 34 (Table 17.2). -/
def rowLetter (r : Nat) : String :=
  (["A", "B", "C", "D", "E", "F", "G", "H", "J", "K", "L", "M", "N", "P", "T", "U", "V"]
    ++ ["W", "Y", "AA", "AB", "AC", "AD", "AE", "AF", "AG", "AH", "AJ", "AK", "AL", "AM", "AN", "AP", "AT"]).getD
    (r - 1) ""

/-- Ethernet SerDes region, rows 1 to 7 (R430). -/
def serdesBall (r c : Nat) : Ball :=
  let edge := decide (c = 1 ∨ c = 34)
  if r = 2 ∨ r = 5 then
    if edge then .supply .vss
    else .signal (match r, c % 2 with
      | 2, 0 => "SD_TXP"
      | 2, _ => "SD_TXN"
      | _, 0 => "SD_RXP"
      | _, _ => "SD_RXN") ((c - 2) / 2)
  else if r = 4 then .supply .vddSrd
  else if r = 7 then
    if c = 17 then .signal "REFCLK_XI" 0
    else if c = 18 then .signal "REFCLK_XO" 0
    else if c % 2 = 1 then .supply .vddPll else .supply .vss
  else .supply .vss

/-- PCIe region, rows 10 to 17 of columns 1 to 5 (R431). -/
def pcieBall (r c : Nat) : Ball :=
  if c = 2 then .signal (if r % 2 = 0 then "PET_P" else "PET_N") ((r - 10) / 2)
  else if c = 4 then .signal (if r % 2 = 0 then "PER_P" else "PER_N") ((r - 10) / 2)
  else .supply .vss

/-- LPDDR5 region, rows 8 to 26 of columns 29 to 34 (R432, Table 17.4); a signal's number is its bit, with 32 added
for channel B. -/
def ddrBall (r c : Nat) : Ball :=
  let ch := if c ≤ 31 then 32 else 0
  if r = 8 then .supply (if c % 2 = 1 then .vddqDdr else .vss)
  else if c = 34 ∨ c = 29 then
    if r ≤ 16 then .signal "DQ" (ch + (r - 9))
    else if r ≤ 18 then .supply .vddqDdr
    else .signal "DQ" (ch + (r - 11))
  else if c = 33 ∨ c = 30 then
    let k := if r ≤ 18 then 0 else 1
    match r - (9 + 10 * k) with
    | 0 => .signal "WCK_T" (ch + k)
    | 1 => .signal "WCK_C" (ch + k)
    | 2 => .signal "RDQS_T" (ch + k)
    | 3 => .signal "RDQS_C" (ch + k)
    | 4 => .signal "DMI" (ch + k)
    | 5 => .supply .vddqDdr
    | 7 => .supply .vddqDdr
    | _ => .supply .vss
  else if r ≤ 15 then .signal "CA" (ch + (r - 9))
  else match r with
    | 16 => .signal "CS" ch
    | 17 => .signal "CS" (ch + 1)
    | 18 => .signal "CK_T" ch
    | 19 => .signal "CK_C" ch
    | 20 => if c = 32 then .signal "DDR_ZQ" 0 else .signal "DDR_RESET_N" 0
    | _ => .supply (if c = 32 then .vddqDdr else .vss)

/-- Rod region, rows 27 to 34 (R433). -/
def rodBall (r c : Nat) : Ball :=
  if c = 1 ∨ c = 34 then .supply (if r % 2 = 1 then .vddio33 else .vss)
  else .signal (if r % 2 = 1 then "ROD_TXD" else "ROD_RXD") (32 * ((r - 27) / 2) + (c - 2))

/-- Low-speed region, rows 15 to 26 of columns 6 to 21 (R434, Table 17.6). -/
def lowSpeedBall (r c : Nat) : Ball :=
  match r with
  | 15 => .signal "PHYSLP" (c - 6)
  | 16 => .signal "PHYWK" (c - 6)
  | 17 => .supply (if c % 2 = 0 then .vddio18 else .vss)
  | 22 => .supply (if c % 2 = 0 then .vddio18 else .vss)
  | 23 => .signal (if c % 2 = 0 then "T1S_P" else "T1S_N") ((c - 6) / 2)
  | 24 => .supply .vss
  | 25 => .signal (if c % 2 = 0 then "T1S_P" else "T1S_N") (8 + (c - 6) / 2)
  | 26 => .supply .vddio33
  | _ => .signal "GPIO" (16 * (r - 18) + (c - 6))

/-- System region, rows 18 to 26 of columns 1 to 5 (R435, Table 17.7). -/
def systemBall (r c : Nat) : Ball :=
  let row : List Ball := match r with
    | 18 => [.signal "XSPI_D" 0, .signal "XSPI_D" 1, .signal "XSPI_D" 2, .signal "XSPI_D" 3, .supply .vss]
    | 19 => [.signal "XSPI_D" 4, .signal "XSPI_D" 5, .signal "XSPI_D" 6, .signal "XSPI_D" 7, .supply .vddio18]
    | 20 => [.signal "XSPI_CLK" 0, .supply .vss, .signal "XSPI_DS" 0, .signal "XSPI_CS_N" 0, .signal "XSPI_CS_N" 1]
    | 21 => [.signal "TCK" 0, .signal "TMS" 0, .signal "TDI" 0, .signal "TDO" 0, .supply .vss]
    | 22 => [.signal "PORST_N" 0, .signal "WRST_N" 0, .signal "PCIE_PERST_N" 0, .signal "CFGSEL" 0, .supply .vddio18]
    | 23 => [.signal "TIME_IN" 0, .signal "TIME_OUT" 0, .signal "BYP_CTL" 0, .signal "BYP_CTL" 1, .signal "BYP_CTL" 2]
    | 24 => [.signal "BYP_CTL" 3, .supply .vss, .signal "WAKE" 0, .signal "WAKE" 1, .signal "WAKE" 2]
    | 25 => [.signal "WAKE" 3, .signal "WAKE" 4, .signal "WAKE" 5, .signal "WAKE" 6, .signal "WAKE" 7]
    | _ => [.signal "TAMPER_N" 0, .signal "AON_XI" 0, .signal "AON_XO" 0, .supply .vddAon, .supply .vbatk]
  row.getD (c - 1) (.supply .vss)

/-- The ball at row index `r` and column `c`, each 1 to 34: every ball lies in one region (R429, Table 17.3). -/
def ballAt (r c : Nat) : Ball :=
  if r ≤ 7 then serdesBall r c
  else if 27 ≤ r then rodBall r c
  else if c ≤ 5 then
    if r ≤ 9 then .supply .vddSrd else if r ≤ 17 then pcieBall r c else systemBall r c
  else if 29 ≤ c then ddrBall r c
  else if 15 ≤ r ∧ c ≤ 21 then lowSpeedBall r c
  else .supply (if (r + c) % 2 = 0 then .vddCore else .vss)

/-- Every ball of the array, row by row. -/
def allBalls : List Ball :=
  (List.range 34).flatMap (fun r => (List.range 34).map (fun c => ballAt (r + 1) (c + 1)))

/-! ### Pin states -/

/-- The pin groups of Tables 12.10, 15.5 and 17.10, with the number of the unit or ball. -/
inductive PinGroup where
  | rodTxd (n : Nat)
  | rodRxd (n : Nat)
  | gpio (g : Nat)
  | phySlp (p : Nat)
  | phyWk (p : Nat)
  | serdes (p : Nat)
  | t1s (k : Nat)
  | pcie
  | lpddr5
  | xspi
  | bypCtl (k : Nat)
  | timeOut
  | timeIn
  | tck
  | tms
  | tdi
  | tdo
  | resetN
  | cfgsel
  | wake (k : Nat)
  | tamperN
  deriving DecidableEq, Repr

/-- What a pin does. Pulls: 0 none, 1 down, 2 up. -/
inductive PinState where
  /-- The unit that the ball belongs to drives or reads it as its own rules say. -/
  | unit
  | input (pull : Nat)
  /-- The input is ignored. -/
  | ignored (pull : Nat)
  /-- The output is off. -/
  | off (pull : Nat)
  | low
  | high
  | highZ
  /-- Electrical idle, with receiver termination on. -/
  | idle
  /-- Transmitter and receiver powered down, termination off. -/
  | poweredDown
  | selfRefresh
  /-- DDR_RESET_N and every other output low, bidirectional balls at high impedance. -/
  | ddrReset
  /-- CS high, clock low, data high impedance. -/
  | norIdle
  /-- The current source of the strap measurement. -/
  | strapSource
  deriving DecidableEq, Repr

/-- In SLEEP-RETAIN or STANDBY. -/
def State.asleep (s : State) : Bool := decide (2 ≤ s.powerMode)

/-- A GPIO ball: what it is held at or driven to, else an input with its pull (R438, R440). -/
def State.gpioPin (s : State) (g : Nat) : PinState :=
  match s.gpioDrive g with
  | 0 => .input (if s.boot.gpioHold.isSome then 1 else s.getF (F.GLB_GPIO_CFG_PULL g))
  | 1 => .low
  | _ => .high

/-- The state of a pin while the main supplies are off (R438, Table 17.10, column OFF). -/
def PinGroup.mainOff : PinGroup → PinState
  | .tamperN => .input 2
  | _ => .highZ

/-- The state of a pin (R388, R438, R439, Tables 12.10, 15.5 and 17.10): that of the low-power modes, else that of
the reset until stage 9 drives the group, else that of an absent or retired unit, else the unit's own. A reset of warm
reach keeps the links of SerDes and PCIe. -/
def State.pin (s : State) (g : PinGroup) : PinState :=
  let run := s.serving
  match g with
  | .rodTxd n => if s.rodPresent n && run then .unit else .off 2
  | .rodRxd n => if !s.rodPresent n then .ignored 2 else if run then .unit else .input 2
  | .gpio k => s.gpioPin k
  | .phySlp p =>
    if !s.ethPresent p then .off 1 else if bit s.pwr.phySlp p then .high else .low
  | .phyWk p => if s.ethPresent p then .input 1 else .ignored 1
  | .serdes p =>
    if !s.ethPresent p then .poweredDown else if s.asleep || decide (s.stage < 5) then .idle else .unit
  | .t1s k => if s.ethPresent (16 + k) && run then .unit else .highZ
  | .pcie => if s.asleep || decide (s.stage < 5) then .idle else .unit
  | .lpddr5 =>
    if s.boot.po then .ddrReset else if s.asleep || decide (s.stage < 5) then .selfRefresh else .unit
  | .xspi => if s.asleep || decide (s.stage < 5) then .norIdle else .unit
  | .bypCtl k => if s.bypBall k then .high else .low
  | .timeOut => if s.timeOutLevel then .high else .low
  | .timeIn => .input 1
  | .tck => .input 1
  | .tms => .input 2
  | .tdi => .input 2
  | .tdo => .highZ
  | .resetN => .input 2
  | .cfgsel => if s.stage = 3 then .strapSource else .input 0
  | .wake _ => .input 0
  | .tamperN => .input 2

/-! ### Transmitter settings of the lanes (R459) -/

/-- Amplitude in mV, pre-cursor and post-cursor de-emphasis in percent, and TRAIN of lane `l`, from FW_PARAM item
LANE_EQ; the defaults apply where the item is absent. -/
def State.laneEq (s : State) (l : Nat) : Nat × Nat × Nat × Bool :=
  match s.paramBytes 0x90 with
  | none => (900, 0, 4, true)
  | some b => (400 + 50 * byteAt b (4 * l), byteAt b (4 * l + 1), byteAt b (4 * l + 2), bit (byteAt b (4 * l + 3)) 0)

end Sys2Proof.Machine
end

