-- ==== Sys2Proof/Tests/Slice0.lean ====
section
/-! SUPPORT. Tests: the checks of WellFormed each refuse an ill-formed command; small tests of single steps, with results
taken from the spec; and for each statement with hypotheses one theorem that shows, clause by clause, a state and operands
that meet them together, at a boundary of their ranges where they have one. -/

open Sys2Proof Sys2Proof.Machine

namespace Sys2Proof.Tests

set_option Elab.async false

/-! ### Helpers -/

/-- A state with the named register fields stored over the state after reset. -/
def mk (l : List (Fld × Nat)) : State := l.foldl (fun s e => s.setF e.1 e.2) State.reset
/-- A device in service: stage 9, every port and rod present. -/
def up : State := { mk [(F.GLB_RST_STAT_STAGE, 9), (F.GLB_PRESENT_PORT_PORTS, 2 ^ 32 - 1),
  (F.GLB_PRESENT_ROD_RODS 0, 2 ^ 32 - 1), (F.GLB_PRESENT_ROD_RODS 1, 2 ^ 32 - 1),
  (F.GLB_PRESENT_ROD_RODS 2, 2 ^ 32 - 1), (F.GLB_PRESENT_ROD_RODS 3, 2 ^ 32 - 1)] with boot := {} }
def upW (l : List (Fld × Nat)) : State := l.foldl (fun s e => s.setF e.1 e.2) up
/-- An item of an Ethernet frame. -/
def it0 : Item := { bytes := List.replicate 64 7, isRod := false, ingress := 1, t := 5, refs := 1, shBeads := 1 }
/-- `up` with tables, tallies, events, items, memory and keys that are not empty. -/
def rich : State := { up with
  tables := [(5, 9), (tkey 6 3, 7)], tly := [(0x2E000, 4)], evCtl := [⟨1, 2, 0, 3, 4⟩], evSvc := [⟨1, 2, 0, 3, 4⟩]
  ddr := [(16, 7#8)], tb := { clk := 2 ^ 42 * 100, fab := 400 }, key := { slots := [(3, { key := 5, state := 1 })] }
  dp := { items := [(1, some it0)], shUsed := 1, stream := [⟨1, false, { op := 0 }⟩] } }
def richW (l : List (Fld × Nat)) : State := l.foldl (fun s e => s.setF e.1 e.2) rich
def chk (a b m : Bool) : State := { richW [(F.SAF_PLANE_STAT_STATE_A, 2), (F.SAF_PLANE_STAT_STATE_B, 2), (F.SAF_CFG_AUTO_RESTART, 0)] with
  saf := { checking := true, missA := a, missB := b, drill := m } }
/-- The host's MAC-table command set with address `i` and data words. -/
def tbl (i : Nat) (d : List Nat) : List (Fld × Nat) :=
  [(F.TBL_ADDR_TABLE, 0), (F.TBL_ADDR_INDEX, i)] ++ d.zipIdx.map (fun e => (F.TBL_DATA_DATA e.2, e.1))
/-- A device whose MAC table holds the entry of address 5 under VID 1. -/
def macUp (l : List (Fld × Nat)) : State :=
  let s := upW l
  let i := ((ways (s.bucketOf tMac (macKey 5 1))).headD 0)
  s.setEntry tMac i (macKey 5 1 + 2 ^ 60 + 3 * 2 ^ 64)
def macWay : Nat := (ways (up.bucketOf tMac (macKey 5 1))).headD 0


/-! ### Well-formed commands -/

/-- Each check of WellFormed refuses a command whose operand lies one beyond its range. -/
theorem test_wellFormed_refuses : [Instr.tblNop 3, .start 128, .linkUp 34, .shaperParamWrite 32 0 0 0,
    .shaperParamWrite 63 0 0 0, .shaperParamWrite 192 0 0 0, .offerTimeout 2, .rngWinFence 0, .rngWinFence 16,
    .watchdogExpiry 2 false, .queueStop 128 1, .diagClose 16, .streamGateSwap 64, .fwlMeterWrite 1024 0 0,
    .recoveryReset 8192, .tstLaneClr 16, .cryEmit 256, .strapMeasured [0], .shaperParamWrite 0 8 0 0, .syncInterval 4 0 0 true,
    .optionLoadDone true 1 false 0x7681 0 0 0 0 0 0 0 false,
    .optionLoadDone true 1 false 0x7648 0 0 0xFFFFFFFF 0 128 0 0 false, .msixUnmask 257, .timInAck (2 ^ 32), .viewWrite 0 0 (2 ^ 64) 0 0 0].all (fun i => !wellFormed i) = true := by decide

/-- The byte offsets of the bus and the dwords of a write. -/
theorem test_wellFormed_refuses_offsets : [Instr.registerWrite 2 (2 ^ 26) [] {}, .registerWrite 2 6 [] {},
    .registerWrite 2 0 [(2 ^ 32, true)] {}, .bar2Access (2 ^ 28) 4 none, .remoteRead 1 2 1].all
    (fun i => !wellFormed i) = true := by decide

/-- Commands at the top of their ranges pass. -/
theorem test_wellFormed_accepts : [Instr.tblNop 2, .start 127, .linkUp 33, .shaperParamWrite 191 7 0 (2 ^ 32 - 1),
    .offerTimeout 1, .rngWinFence 15, .queueStop 127 1, .msixUnmask 256, .bar2Access (2 ^ 28 - 1) 1 none,
    .registerWrite 2 (2 ^ 26 - 4) [(2 ^ 32 - 1, true)] {}].all wellFormed = true := by decide

/-- No row of the table gives bits, so no word spells a command. -/
theorem test_no_word_spells_a_command : decodeTableWord 32 7 = none ∧ State.reset.withFetchWord 32 7 = State.reset := by
  decide


/-! ### The worked examples of the spec -/

/-- Table 4.6: the hash of station 02-00-00-00-00-00 on VID 10, its bucket, and the first entry of the bucket. -/
theorem test_mac_hash : keyHash (macKey 0x020000000000 10) 60 = 0x650CE2EF
    ∧ State.reset.bucketOf tMac (macKey 0x020000000000 10) = 8943
      ∧ (ways 8943).head? = some 35772 := by decide +kernel

/-- Table 6.5, items 1, 3, 4, 8 and 9 (history of 4): take-any, a jump of two, out of order, two lost, a rogue. -/
theorem test_vector_recovery :
    vectorRecover {} 4 100 5 = (true, ⟨false, 100, 0b1111, 5⟩, [3], 0)
    ∧ vectorRecover ⟨false, 100, 0b1111, 5⟩ 4 102 5 = (true, ⟨false, 102, 0b1101, 5⟩, [3], 0)
    ∧ vectorRecover ⟨false, 102, 0b1101, 5⟩ 4 101 5 = (true, ⟨false, 102, 0b1111, 5⟩, [3, 6], 0)
    ∧ vectorRecover ⟨false, 106, 0b0011, 5⟩ 4 108 5 = (true, ⟨false, 108, 0b1101, 5⟩, [3], 2)
    ∧ (vectorRecover ⟨false, 108, 0b1101, 5⟩ 4 120 5).1 = false := by decide

/-- Table 8.4: a rod timestamp extended, and the same one three seconds later. -/
theorem test_extension : extend32 344386048 1234500000000 = 1233000000000
    ∧ extend32 344386048 1236000000000 = 1237294967296 := by decide

/-- Table 9.3: the claims of PRIO 2 and 3, and the driver. -/
theorem test_claims : let t := State.claims (upW [(F.SAF_CFG_PRIO_A, 2), (F.SAF_CFG_PRIO_B, 3),
      (F.SAF_PLANE_STAT_CLAIMING_A, 1), (F.SAF_PLANE_STAT_CLAIMING_B, 1)])
    t.getF F.SAF_PLANE_STAT_CLAIM_A = 5 ∧ t.getF F.SAF_PLANE_STAT_CLAIM_B = 6 ∧ t.getF F.SAF_STAT_DRIVER = 2 := by
  decide +kernel

/-- The example of R189: 1,542 counted bytes at 25 Gb/s last 493.44 ns. -/
theorem test_transmission_time : fitsIn 1542 25000 (493 * 2 ^ 40) = false ∧ fitsIn 1542 25000 (494 * 2 ^ 40) = true := by
  decide

/-- The example of chapter 1: a frame of 1,518 bytes takes six beads; the OZ-7680 shares 45,056 of them. -/
theorem test_beads : beadsOf 1518 = 6 ∧ up.sharedPool = 45056 := by decide +kernel

/-- The examples of chapters 2 and 19: ROD_STAT[47] lies at 0x0018_BC0C, and BASE 2 with offset 0x9200 is 0x0010_9200. -/
theorem test_addresses : (F.ROD_STAT_STATE 47).off = 0x18BC0C
    ∧ (upW [(F.RNG_WIN_CFG_BASE 1, 2)]).remoteOff 2 0x9200 = 0x109200 := by decide +kernel

/-- Table 2.14: ROD_NBT[9] = 0x1020_3F03, written in CONFIG. -/
theorem test_rod_nbt : let t := (up.storeReg (0x180014 + 9 * 0x400) 0x10203F03)
    t.getF (F.ROD_NBT_BRP 9) = 3 ∧ t.getF (F.ROD_NBT_TSEG1 9) = 63 ∧ t.getF (F.ROD_NBT_TSEG2 9) = 16
      ∧ t.getF (F.ROD_NBT_SJW 9) = 16 := by decide +kernel

/-- R14: of two equally near legal values the lower is stored. -/
theorem test_clamp : nearest [(1, 3), (9, 9)] 6 = 3 ∧ nearest [(1, 3), (9, 9)] 7 = 9 ∧ nearest [(1, 3)] 0 = 1 := by decide

/-- R395: 22 W take 6 mJ more than the sustained line in a millisecond. -/
theorem test_energy :
    (match exec (.governorTick [20, 20, 20, 20] 22000) { upW [(F.GLB_CLK_STAT_ROOT_LOCK, 1)] with pwr := { energy := 6000 } } with
      | .next t => t.pwr.energy
      | _ => 1) = 0 := by decide +kernel

/-- R308, R314: right after reset the device waits in stage 1. -/
theorem test_reset_stage : State.reset.getF F.GLB_RST_STAT_STAGE = 1 ∧ State.reset.pending = [] := by decide +kernel

/-- Ball counts of Table 17.8. -/
theorem test_ball_counts :
    ((allBalls.filter (fun b => match b with | .signal _ _ => true | _ => false)).length,
      [Supply.vss, .vddCore, .vddSrd, .vddio33, .vddqDdr, .vddio18, .vddPll, .vddAon, .vbatk].map
        (fun v => (allBalls.filter (fun b => match b with | .supply w => v == w | _ => false)).length))
    = (579, [329, 123, 44, 24, 21, 18, 16, 1, 1]) := by decide +kernel
/-- Worked examples of R432 to R434 and Table 17.5. -/
theorem test_ball_examples :
    [ballAt 22 34, ballAt 21 30, ballAt 29 17, ballAt 30 17, ballAt 19 7, ballAt 25 12, ballAt 25 13]
      = [.signal "DQ" 11, .signal "RDQS_T" 33, .signal "ROD_TXD" 47, .signal "ROD_RXD" 47, .signal "GPIO" 17,
         .signal "T1S_P" 11, .signal "T1S_N" 11]
    ∧ [22, 21, 29, 19, 25].map rowLetter = ["AC", "AB", "AK", "Y", "AF"] := by decide +kernel

/-- Table 12.10, R441: a reset of warm reach holds a GPIO output at its level although the register is reset. -/
theorem test_pads_held :
    (match exec .wrstNAssert (upW [(F.GLB_GPIO_CFG_DIR 3, 1), (F.GLB_GPIO_CFG_OUT 3, 1), (F.GLB_GPIO_CFG_OWNER 3, 255)]) with
      | .next t => (t.gpioDrive 3, t.getF (F.GLB_GPIO_CFG_OUT 3))
      | _ => (9, 9)) = (2, 0) := by decide +kernel


/-! ### States and operands that meet the hypotheses of the statements -/


namespace reset

def wa0 : State := (richW [(F.SAF_PAIR_STAT_STATE 0, 4)])
def wa1 : State := ({ State.reset with boot := { porst := true } })
def wa2 : State := ({ mk [(F.GLB_RST_STAT_STAGE, 4), (F.GLB_CLK_STAT_ROOT_LOCK, 1)] with boot := { wrst := true } })
def wa3 : State := ({ mk [(F.GLB_RST_STAT_STAGE, 4)] with boot := { } })
def wa4 : State := ({ mk [(F.GLB_RST_STAT_STAGE, 2)] with boot := { } })
def wa5 : State := (mk [(F.GLB_RST_STAT_STAGE, 3)])
def wa6 : List Nat := List.replicate 9 3000 ++ List.replicate 7 1
def wa8 : State := (upW [(F.GLB_RST_STAT_STAGE, 8)])

/-- Hypotheses of StepRunsFrontCommand, clause 2. -/
theorem witness_StepRunsFrontCommand :
    (up.pending = []) := by
  decide +kernel

/-- Hypotheses of ResetsClearTheirReach, clauses 2, 3, 4, 5, 6, 7, 8. -/
theorem witness_ResetsClearTheirReach :
    (rich.boot.porst = false)
    ∧ ((rich.boot.po = false) ∧ (rich.boot.porst = false))
    ∧ ((rich.boot.wrst = false) ∧ (State.getF rich F.PWR_MODE_MODE < 2) ∧ (5 ≤ State.getF rich F.GLB_RST_STAT_STAGE))
    ∧ ((State.getF rich F.PWR_MODE_MODE < 2) ∧ (5 ≤ State.getF rich F.GLB_RST_STAT_STAGE))
    ∧ (3 ≠ 199)
    ∧ ((1 < 2) ∧ (State.watched rich 1 = true) ∧ (true = true → State.getF rich (F.SAF_PAIR_STAT_STATE 1) ≠ 4)
      ∧ (State.isF rich F.BKP_BOOT_PENDING = false) ∧ (State.getF rich F.PWR_MODE_MODE < 2))
    ∧ ((0 < 2) ∧ (State.getF wa0 (F.SAF_PAIR_STAT_STATE 0) = 4)) := by
  refine ⟨?_, ?_, ?_, ?_, ?_, ?_, ?_⟩ <;> decide +kernel

/-- Hypotheses of ReleaseSequenceGoesOn, clauses 1, 2, 3, 4. -/
theorem witness_ReleaseSequenceGoesOn :
    ((State.reset.boot.po = true) ∧ (State.reset.boot.porst = false)
      ∧ (State.getF State.reset F.GLB_RST_STAT_STAGE = 1))
    ∧ ((wa1.boot.porst = true) ∧ (wa1.boot.po = false) ∧ (State.getF wa1 F.GLB_RST_STAT_STAGE = 1))
    ∧ ((wa2.boot.wrst = true) ∧ (wa2.boot.po = false) ∧ (wa2.boot.porst = false)
      ∧ (State.getF wa2 F.GLB_RST_STAT_STAGE = 4) ∧ (State.isF wa2 F.GLB_CLK_STAT_ROOT_LOCK = true))
    ∧ ((State.getF wa3 F.GLB_RST_STAT_STAGE = 4) ∧ (State.isF wa3 F.GLB_CLK_STAT_ROOT_LOCK = false)
      ∧ (wa3.boot.po = false) ∧ (wa3.boot.porst = false)) := by
  refine ⟨?_, ?_, ?_, ?_⟩ <;> decide +kernel

/-- Hypotheses of StartStagesRecordTheirFindings, clauses 1, 2, 3, 4, 5. -/
theorem witness_StartStagesRecordTheirFindings :
    ((State.getF wa4 F.GLB_RST_STAT_STAGE = 2) ∧ (State.isF wa4 F.GLB_LOAD_STAT_LOAD_FAIL = false) ∧ (1 ≤ 2)
      ∧ (2 ≤ 3) ∧ (30336 = 30336 ∨ 30336 = 30280 ∨ 30336 = 30244))
    ∧ ((State.getF wa4 F.GLB_RST_STAT_STAGE = 2) ∧ (State.isF wa4 F.GLB_LOAD_STAT_LOAD_FAIL = false))
    ∧ ((State.getF wa5 F.GLB_RST_STAT_STAGE = 3) ∧ (List.length wa6 = 16))
    ∧ ((State.getF wa8 F.GLB_RST_STAT_STAGE = 8) ∧ (wa8.boot.wrst = false) ∧ (wa8.boot.tested = false)
      ∧ (wa8.boot.waking = false) ∧ (31 < 32) ∧ (State.ethPresent wa8 31 = true) ∧ (127 < 128)
      ∧ (State.rodPresent wa8 127 = true))
    ∧ (State.reset.boot.po = true) := by
  refine ⟨?_, ?_, ?_, ?_, ?_⟩ <;> decide +kernel

end reset

namespace lockstep

def wb0 : HdrRec := ⟨1, false, { op := 0 }⟩
def wb1 : State := ({ rich with dp := { rich.dp with decA := some { op := 0 }, decB := some { op := 0 } } })
def wb2 : State := ({ rich with dp := { rich.dp with decA := some { op := 0 }, decB := some { op := 6 } } })
def wb3 : State := ({ rich with dp := { rich.dp with decB := some { op := 6 } } })
def wb4 : State := chk false false false
def wb5 : State := ({ chk false false false with saf := { (chk false false false).saf with rejB := true } })
def wb6 : State := (richW [(F.SAF_CFG_AUTO_RESTART, 0)])
def wb8 : State := ({ chk false false false with dp := { held := true } })
def wb9 : State := (richW [(F.SAF_CFG_PRIO_B, 7)])
def wb10 : State := (richW [(F.SAF_PLANE_STAT_STATE_A, 4)])
def wb11 : State := (richW [(F.SAF_PLANE_STAT_STATE_A, 4), (F.SAF_CFG_AUTO_RESTART, 0)])
def wb12 : State := (richW [(F.SAF_PLANE_STAT_STATE_A, 5)])
def wb13 : State := (richW [(F.SAF_PLANE_STAT_STATE_A, 3)])
def wb15 : State := ({ rich with saf := { drillWait := some true } })
def wb16 : State := (richW [(F.SAF_STAT_LATENT, 3)])
def wb17 : State := ({ rich with saf := { pairAgain := [(1, some 1)] } })
def wb18 : State := (richW [(F.SAF_PAIR_STAT_STATE 1, 3)])
def wb19 : State := ({ richW [(F.SAF_PAIR_STAT_STATE 1, 2)] with meas := { fw := (Config.sha384 [7]).toNat } })

/-- Hypotheses of DecisionsAreComparedBeforeAcceptance, clauses 1, 2, 3, 4. -/
theorem witness_DecisionsAreComparedBeforeAcceptance :
    ((rich.dp.stream = [wb0]) ∧ (rich.dp.held = false) ∧ (State.planeSt rich true = 1) ∧ (rich.dp.poison = []))
    ∧ ((wb1.dp.stream = [wb0]) ∧ (wb1.dp.held = false) ∧ (State.planeSt wb1 false = 1)
      ∧ (State.planeSt wb1 true = 1) ∧ (State.getF wb1 F.SAF_STAT_CMP_OK = 3)
      ∧ (wb1.dp.decA = some { op := 0 : Decision }) ∧ (wb1.dp.decB = some { op := 0 : Decision })
      ∧ ({ op := 0 : Decision }.op ≤ 6))
    ∧ ((wb2.dp.stream = [wb0]) ∧ (wb2.dp.held = false) ∧ (State.planeSt wb2 false = 1)
      ∧ (State.planeSt wb2 true = 1) ∧ (State.getF wb2 F.SAF_STAT_CMP_OK = 3)
      ∧ (wb2.dp.decA = some { op := 0 : Decision }) ∧ (wb2.dp.decB = some { op := 6 : Decision })
      ∧ ({ op := 0 : Decision }.op ≠ { op := 6 : Decision }.op))
    ∧ ((wb3.dp.stream = [wb0]) ∧ (wb3.dp.held = false) ∧ (State.planeSt wb3 false = 1)
      ∧ (State.planeSt wb3 true = 1) ∧ (wb3.dp.decA = none) ∧ (wb3.dp.decB = some { op := 6 : Decision })) := by
  refine ⟨?_, ?_, ?_, ?_⟩ <;> decide +kernel

/-- Hypotheses of PlanesChangeStateAsTheRulesSay, clauses 1, 2, 3, 4, 5, 6, 7, 8, 9. -/
theorem witness_PlanesChangeStateAsTheRulesSay :
    ((wb4.saf.checking = true) ∧ (wb4.saf.drill = false) ∧ (wb4.saf.missA = false) ∧ (wb4.saf.missB = false)
      ∧ (State.planeSt wb4 false = 2) ∧ (State.planeSt wb4 true = 2) ∧ (wb4.saf.rejA = false)
      ∧ (wb4.saf.rejB = false) ∧ (State.getF wb4 F.SAF_STAT_CMP_OK = 3) ∧ (wb4.saf.parA = false)
      ∧ (wb4.saf.parB = false))
    ∧ ((wb4.saf.checking = true) ∧ (wb4.saf.drill = false) ∧ (wb4.saf.missA = false) ∧ (wb4.saf.missB = false)
      ∧ (State.planeSt wb4 false = 2) ∧ (State.planeSt wb4 true = 2) ∧ (wb4.saf.rejA = false)
      ∧ (wb4.saf.rejB = false) ∧ (State.getF wb4 F.SAF_STAT_CMP_OK = 3) ∧ (wb4.saf.raisedA = none)
      ∧ (State.isF wb4 F.SAF_CFG_AUTO_RESTART = false) ∧ (wb4.saf.parA = false) ∧ (wb4.saf.parB = false))
    ∧ ((wb5.saf.checking = true) ∧ (wb5.saf.drill = false) ∧ (wb5.saf.missA = false) ∧ (wb5.saf.missB = false)
      ∧ (State.planeSt wb5 false = 2) ∧ (State.planeSt wb5 true = 2) ∧ (wb5.saf.rejA = false)
      ∧ (wb5.saf.rejB = true) ∧ (State.getF wb5 F.SAF_STAT_CMP_OK = 3) ∧ (wb5.saf.raisedB = none)
      ∧ (State.isF wb5 F.SAF_CFG_AUTO_RESTART = false) ∧ (wb5.saf.parA = false) ∧ (wb5.saf.parB = false))
    ∧ ((wb6.dp.held = false) ∧ (State.planeSt wb6 true = 1) ∧ ((State.planeSt wb6 !true) = 1)
      ∧ (State.getF wb6 F.SAF_STAT_DRIVER ≠ b2n true + 1) ∧ (State.isF wb6 F.SAF_CFG_AUTO_RESTART = false)
      ∧ (wb6.saf.raisedA = none) ∧ (wb6.saf.raisedB = none))
    ∧ ((wb8.dp.held = true) ∧ (State.planeSt wb8 true = 2))
    ∧ (wb9.dp.held = false)
    ∧ (State.planeSt wb10 false = 4)
    ∧ ((State.planeSt wb11 false = 4) ∧ ((if false = true then wb11.saf.failsB else wb11.saf.failsA) < 2)
      ∧ (State.isF wb11 F.SAF_CFG_AUTO_RESTART = false))
    ∧ ((State.planeSt wb12 false = 5) ∧ (wb12.dp.held = false)) := by
  refine ⟨?_, ?_, ?_, ?_, ?_, ?_, ?_, ?_, ?_⟩ <;> decide +kernel

/-- Hypotheses of PlaneCommandsActAndReport, clauses 1, 2, 3, 4, 5, 6, 7. -/
theorem witness_PlaneCommandsActAndReport :
    ((State.serving rich = true) ∧ (State.isF rich F.SAF_CMD_STAT_BUSY = false))
    ∧ ((State.serving wb6 = true) ∧ (State.isF wb6 F.SAF_CMD_STAT_BUSY = false) ∧ (State.planeSt wb6 true = 1)
      ∧ ((State.planeSt wb6 !true) = 1) ∧ (State.isF wb6 F.SAF_CFG_AUTO_RESTART = false)
      ∧ (wb6.saf.raisedA = none) ∧ (wb6.saf.raisedB = none))
    ∧ ((State.serving wb13 = true) ∧ (State.isF wb13 F.SAF_CMD_STAT_BUSY = false)
      ∧ (State.planeSt wb13 true = 1) ∧ ((State.planeSt wb13 !true) = 3))
    ∧ ((State.serving wb13 = true) ∧ (State.isF wb13 F.SAF_CMD_STAT_BUSY = false)
      ∧ (State.planeSt wb13 false = 3 ∨ State.planeSt wb13 false = 6))
    ∧ ((State.serving rich = true) ∧ (State.isF rich F.SAF_CMD_STAT_BUSY = false)
      ∧ (State.planeSt rich false = 1) ∧ (State.planeSt rich true = 1) ∧ (rich.dp.held = false)
      ∧ (rich.saf.checking = false) ∧ (rich.saf.drillWait = none))
    ∧ ((wb15.saf.drillWait = some true) ∧ ((State.planeSt wb15 !true) = 1))
    ∧ ((State.serving wb16 = true) ∧ (State.isF wb16 F.SAF_CMD_STAT_BUSY = false)) := by
  refine ⟨?_, ?_, ?_, ?_, ?_, ?_, ?_⟩ <;> decide +kernel

/-- Hypotheses of PairsAndOrphanBeadsAreHandled, clauses 1, 2, 3, 4. -/
theorem witness_PairsAndOrphanBeadsAreHandled :
    ((1 < 2) ∧ (2 = 1 ∨ 2 = 2) ∧ (State.getF rich (F.SAF_PAIR_STAT_STATE 1) = 1) ∧ (State.pairUp rich 1 = true)
      ∧ (sget (fun _ => none) rich.saf.pairAgain 1 = none))
    ∧ ((1 < 2) ∧ (2 = 1 ∨ 2 = 2) ∧ (State.getF wb17 (F.SAF_PAIR_STAT_STATE 1) = 1)
      ∧ (State.pairUp wb17 1 = true) ∧ (sget (fun _ => none) wb17.saf.pairAgain 1 = some 1)
      ∧ (wb17.tb.fab - 1 < 800000000))
    ∧ ((1 < 2) ∧ (State.getF wb18 (F.SAF_PAIR_STAT_STATE 1) ≠ 5))
    ∧ ((1 < 2) ∧ (State.getF wb19 (F.SAF_PAIR_STAT_STATE 1) = 2) ∧ (¬1 ∈ wb19.boot.noFw)
      ∧ (BitVec.toNat (Config.sha384 [7]) = wb19.meas.fw)) := by
  refine ⟨?_, ?_, ?_, ?_⟩ <;> first | decide +kernel | (and_intros <;> first | decide +kernel | rfl)

end lockstep

namespace tables

def wc0 : List Byte := List.replicate 64 9
def wc2 : State := ({ rich with dp := { rich.dp with rx := [(3, [(1, 0)])] } })
def wc3 : List Byte := List.replicate 60 9
def wc4 : State := (richW [(F.TBL_STAT_BUSY, 1)])
def wc5 : State := macUp (tbl macWay [])
def wc6 : State := macUp (tbl 7 [5, 1, 0xFFFF])
def wc7 : State := macUp (tbl 0 [6, 2 ^ 16 + 2 ^ 28, 3])
def wc8 : Nat := (ways (up.bucketOf tMac (macKey 6 1))).headD 0
def wc9 : Nat := up.storedEntry tMac 0 0 (6 + 2 ^ 48 + 2 ^ 60 + 3 * 2 ^ 64)
def wc10 : State := macUp (tbl 0 [5, 2 ^ 16])
def wc11 : State := macUp (tbl 0 [6, 2 ^ 16])
def wc12 : State := ({ macUp [] with dp := { sweeps := [⟨2, 0, macWay, some (0, 0), 0, 5⟩] } })
def wc13 : Sweep := ⟨2, 0, macWay, some (0, 0), 0, 5⟩
def wc14 : State := ({ macUp [(F.TBL_STAT_BUSY, 1)] with dp := { sweeps := [⟨2, 0, 65532, some (0, 0), 0, 5⟩] } })
def wc15 : Sweep := ⟨2, 0, 65532, some (0, 0), 0, 5⟩
def wc16 : State := ({ macUp [] with dp := { learnQ := [⟨macKey 7 1, 4, false⟩] } })
def wc17 : LearnReq := ⟨macKey 7 1, 4, false⟩
def wc18 : Nat := (ways (up.bucketOf tMac (macKey 7 1))).headD 0
def wc19 : State := macUp [(F.FWD_CFG_AGE_EN, 1), (F.FWD_AGE_NOW_NOW, 5000)]
def wc20 : State := ({ macUp [(F.FWD_CFG_AGE_EN, 1), (F.FWD_AGE_NOW_NOW, 5000)] with dp := { sweeps := [⟨3, 0, macWay, none, 0, 5⟩] } })
def wc21 : Sweep := ⟨3, 0, macWay, none, 0, 5⟩

/-- Hypotheses of ItemsEnterTheHeaderStream, clauses 1, 2, 3, 4. -/
theorem witness_ItemsEnterTheHeaderStream :
    ((3 < 32) ∧ (State.ethPresent rich 3 = true) ∧ (rich.ring.bypBoot = false) ∧ (State.receives rich = true)
      ∧ (State.getF rich (F.PRT_MSEC_CFG_VALIDATE 3) = 0) ∧ (64 ≤ List.length wc0)
      ∧ (List.length wc0 ≤ State.getF rich (F.PRT_MAC_CFG_MAX_FRAME 3))
      ∧ (Option.isSome (State.claim rich 3 (if 192 < List.length wc0 then 1 else frameBeads wc0)) = true)
      ∧ (State.anyPlane rich = true) ∧ (rich.dp.held = false))
    ∧ ((3 < 32) ∧ (State.ethPresent rich 3 = true) ∧ (rich.ring.bypBoot = false) ∧ (State.receives rich = true)
      ∧ (List.length wc0 ≤ 192) ∧ (List.length wc0 ≤ State.getF rich (F.PRT_MAC_CFG_MAX_FRAME 3)))
    ∧ ((sget (fun _ => []) wc2.dp.rx 3 = [(1, 0)]) ∧ (State.item wc2 1 = some it0)
      ∧ (Option.isSome (State.claim wc2 it0.ingress (frameBeads it0.bytes - (it0.resBeads + it0.shBeads))) = true))
    ∧ ((1 < 2) ∧ (65535 < 2 ^ 16) ∧ (State.receives rich = true) ∧ (State.pairUp rich 1 = true)
      ∧ (List.length wc3 ≤ 16380) ∧ (Option.isSome (State.claim rich (32 + 1) (beadsOf (List.length (wc3 ++ fcsOf wc3)))) = true) ∧ (State.anyPlane rich = true) ∧ (rich.dp.held = false)) := by
  refine ⟨?_, ?_, ?_, ?_⟩ <;> decide +kernel

/-- Hypotheses of TableCommandsTakeEffect, clauses 1, 2, 3, 4, 5, 6, 7, 8. -/
theorem witness_TableCommandsTakeEffect :
    (State.CanCommand rich 2)
    ∧ ((State.serving wc4 = true) ∧ (State.isF wc4 F.TBL_STAT_BUSY = true))
    ∧ ((State.CanCommand wc5 2) ∧ ((State.tblAddr wc5 2).fst ≠ tTime) ∧ ((State.tblAddr wc5 2).snd.snd = 0)
      ∧ (State.entryThere wc5 (State.tblAddr wc5 2).fst (State.tblAddr wc5 2).snd.fst = true) ∧ (wc5.dp.poison = []))
    ∧ ((State.CanCommand wc6 2) ∧ ((State.tblAddr wc6 2).fst = tMac) ∧ ((State.tblAddr wc6 2).snd.fst = 7)
      ∧ (7 < 65536) ∧ (wc6.dp.sweeps = []) ∧ ((State.stageOf wc6 2).tag ≠ some (tMac, 7)))
    ∧ ((State.CanCommand wc7 2) ∧ ((State.tblAddr wc7 2).fst = tMac) ∧ (wc7.dp.sweeps = [])
      ∧ (wc7.dp.poison = []) ∧ (wc9 = State.storedEntry wc7 tMac 0 0 (bits (State.tblData wc7 2) 0 128))
      ∧ (State.findKey wc7 tMac (keyOf tMac wc9) = none) ∧ (State.freeWay wc7 tMac (keyOf tMac wc9) = some wc8))
    ∧ ((State.CanCommand wc10 2) ∧ ((State.tblAddr wc10 2).fst = tMac) ∧ (wc10.dp.sweeps = [])
      ∧ (wc10.dp.poison = []) ∧ (State.findKey wc10 tMac (keyOf tMac (State.tblData wc10 2 % 2 ^ 64)) = some macWay))
    ∧ ((State.CanCommand wc11 2) ∧ ((State.tblAddr wc11 2).fst = tMac) ∧ (wc11.dp.sweeps = [])
      ∧ (wc11.dp.poison = []) ∧ (State.findKey wc11 tMac (keyOf tMac (State.tblData wc11 2 % 2 ^ 64)) = none))
    ∧ ((State.CanCommand wc10 2) ∧ ((State.tblAddr wc10 2).fst = tMac) ∧ (wc10.dp.poison = [])
      ∧ (State.findKey wc10 tMac (keyOf tMac (State.tblData wc10 2 % 2 ^ 64)) = some macWay)) := by
  simp only [State.CanCommand]
  refine ⟨?_, ?_, ?_, ?_, ?_, ?_, ?_, ?_⟩ <;> decide +kernel

/-- Hypotheses of SweepsLearningAndAgingChangeTheMacTable, clauses 1, 2, 3, 4, 5, 6, 7. -/
theorem witness_SweepsLearningAndAgingChangeTheMacTable :
    ((State.CanCommand wc10 2) ∧ ((State.tblAddr wc10 2).fst = 0) ∧ (0 = tMac) ∧ (wc10.dp.sweeps = []))
    ∧ ((State.CanCommand wc10 2) ∧ ((State.tblAddr wc10 2).fst = tMac) ∧ (wc10.dp.sweeps = []))
    ∧ ((wc12.dp.sweeps = [wc13]) ∧ (wc13.table = tMac) ∧ (wc13.req < 3) ∧ (wc13.flush = some (0, 0))
      ∧ (wc13.pos + 4 < 65536))
    ∧ ((wc14.dp.sweeps = [wc15]) ∧ (wc15.table = tMac) ∧ (wc15.flush = some (0, 0)) ∧ (wc15.pos = 65532)
      ∧ (wc15.req < 3) ∧ (wc14.dp.ageDue = false))
    ∧ ((wc16.dp.learnQ = [wc17]) ∧ (wc17.port < 36) ∧ (wc16.dp.poison = []) ∧ (wc16.dp.sweeps = [])
      ∧ (State.findKey wc16 tMac wc17.key = none) ∧ (State.freeWay wc16 tMac wc17.key = some wc18)
      ∧ (State.atLimit wc16 wc17.port = false))
    ∧ ((State.isF wc19 F.FWD_CFG_AGE_EN = true) ∧ (wc19.dp.sweeps = []))
    ∧ ((State.isF wc20 F.FWD_CFG_AGE_EN = true) ∧ (wc20.dp.sweeps = [wc21]) ∧ (wc21.table = tMac)
      ∧ (wc21.req = 3) ∧ (wc21.flush = none) ∧ (wc21.pos + 4 < 65536) ∧ (wc20.dp.poison = [])) := by
  simp only [State.CanCommand]
  refine ⟨?_, ?_, ?_, ?_, ?_, ?_, ?_⟩ <;> decide +kernel

end tables

namespace time

def lp (s : State) (l : List (Nat × List Byte)) (k : List Nat) : State := { s with boot := { s.boot with params := l }, tb := { s.tb with locked := k, fab := 10 ^ 9 } }
def mem (s : State) : State := { s with host := { s.host with link := true, cfg := [(4, 2)] } }
def wd0 : State := (richW [(F.TIM_CFG_JUMP_EN, 0), (F.TIM_CFG_SERVO_OWNER, 1)])
def wd1 : State := (richW [(F.TIM_CFG_JUMP_EN, 0)])
def wd2 : State := (richW [(F.TIM_STAT_SYNCED, 1)])
def wd3 : State := ({ richW [(F.TIM_CFG_JUMP_EN, 0), (F.TIM_DOM_W0_EN 2, 1)] with tb := { rich.tb with views := [(2, ⟨5, 7, 9⟩)] } })
def wd4 : State := ({ rich with tb := { rich.tb with pending := some ⟨1, 0, -5⟩ } })
def wd5 : State := ({ rich with tb := { rich.tb with views := [(2, ⟨5, 7, 9⟩)] } })
def wd6 : State := ({ rich with tb := { rich.tb with slew := some ⟨5, 7, 1, 800, 0⟩ } })
def wd7 : Slew := ⟨5, 7, 1, 800, 0⟩
def wd8 : State := ({ richW [(F.TIM_STAT_SYNCED, 1)] with tb := { fab := 10 ^ 12 } })
def wd9 : State := lp (richW [(F.TIM_STAT_HOLDOVER, 1), (F.TIM_DOM_W0_EN 1, 1), (F.TIM_CFG_JUMP_EN, 0)]) [(3, [0, 2, 1]), (4, [1, 0])] [1, 2]
def wd10 : State := (richW [(F.TIM_DOM_W0_EN 0, 1), (F.TIM_DOM_W1_PORTS 0, 2 ^ 15)])
def wd11 : State := (richW [(F.TIM_DOM_W0_EN 0, 1), (F.TIM_DOM_W1_PORTS 0, 2 ^ 31 + 1)])
def wd12 : State := ({ rich with tb := { rich.tb with ts2 := [⟨9, 3, 4, 5⟩] } })
def wd13 : State := mem ({ richW [(F.TIM_CFG_TS2_MODE, 1)] with tb := { rich.tb with ts2 := [⟨9, 3, 4, 5⟩] } })
def wd14 : State := (richW [(F.TIM_IN_CFG_EDGE, 3)])
def wd15 : State := ({ richW [(F.TIM_IN_CFG_EDGE, 3)] with tb := { rich.tb with tsIn := List.replicate 4 ⟨1, true, 4⟩ } })
def wd16 : State := ({ rich with tb := { rich.tb with tsIn := List.replicate 4 ⟨1, true, 4⟩ } })
def wd17 : List TimeIn := List.replicate 3 ⟨1, true, 4⟩
def wd18 : State := (richW [(F.TIM_OUT_CFG_MODE, 1)])
def wd19 : State := ({ rich with tb := { rich.tb with outHigh := true, outEnd := 5 } })

/-- Hypotheses of StepsOfTheWorkingClock, clauses 1, 2, 3, 4, 5. -/
theorem witness_StepsOfTheWorkingClock :
    ((State.CanWriteTime wd0 2) ∧ (State.isF wd0 F.TIM_CFG_JUMP_EN = false) ∧ (2 ^ 48 - 1 < 2 ^ 48)
      ∧ (999999999 < 1000000000) ∧ (65535 < 2 ^ 16))
    ∧ ((State.CanWriteTime wd2 0) ∧ (State.isF wd2 F.TIM_CFG_JUMP_EN = true)
      ∧ (State.isF wd2 F.TIM_STAT_SYNCED = true) ∧ (5 < 2 ^ 48) ∧ (0 < 1000000000) ∧ (0 < 2 ^ 16)
      ∧ (State.getF wd2 F.TIM_JUMP_LIMIT_LIMIT * 2 ^ 40 < Int.natAbs ((↑((5 * 1000000000 + 0) * 2 ^ 40 + 0 * 2 ^ 24) : Int) - (↑wd2.tb.clk : Int))))
    ∧ ((State.CanWriteTime wd1 0) ∧ (State.isF wd1 F.TIM_CFG_JUMP_EN = false) ∧ (77 < 2 ^ 63)
      ∧ (wd1.tb.clk + 77 * 2 ^ 40 < clkTop))
    ∧ ((State.CanWriteTime wd3 0) ∧ (2 < 4) ∧ (State.isF wd3 (F.TIM_DOM_W0_EN 2) = true)
      ∧ (2 ≠ State.getF wd3 F.TIM_STAT_SEL) ∧ (State.isF wd3 F.TIM_CFG_JUMP_EN = false)
      ∧ (0 ≤ View.at (State.view wd3 2) (↑wd3.tb.clk : Int))
      ∧ (View.at (State.view wd3 2) (↑wd3.tb.clk : Int) < (↑clkTop : Int)))
    ∧ ((State.CanCommand wd4 2) ∧ (2 ≠ 0) ∧ (wd4.tb.pending = some { kind := 1, dom := 0, step := -5 : Pending }) ∧ (0 ≤ (↑wd4.tb.clk : Int) + -5) ∧ ((↑wd4.tb.clk : Int) + -5 < (↑clkTop : Int))) := by
  simp only [State.CanCommand, State.CanWriteTime]
  refine ⟨?_, ?_, ?_, ?_, ?_⟩ <;> decide +kernel

/-- Hypotheses of TimeBaseCommandsAndService, clauses 1, 2, 3, 4, 5, 6, 7, 8, 9, 10. -/
theorem witness_TimeBaseCommandsAndService :
    ((State.CanCommand wd5 2) ∧ (timeThere 10 = true) ∧ (10 < 12))
    ∧ ((State.CanWriteTime rich 0) ∧ (2 ^ 31 < 2 ^ 32))
    ∧ ((State.CanWriteTime rich 0) ∧ (0 < 7) ∧ (7 < 2 ^ 31) ∧ (14 < 2 ^ 32) ∧ (2 * 7 ≤ 14))
    ∧ ((wd6.tb.slew = some wd7) ∧ (slewCycles wd7.dur ≤ wd7.cycles))
    ∧ ((State.CanWriteTime rich 0) ∧ (3 < 4) ∧ (3 ≠ State.getF rich F.TIM_STAT_SEL) ∧ (2 ^ 63 - 1 < 2 ^ 63)
      ∧ (65535 < 2 ^ 16) ∧ (536870911 < 536870912) ∧ (2 ^ 64 - 1 < 2 ^ 64))
    ∧ ((State.isF wd8 F.TIM_STAT_SYNCED = true) ∧ (State.isF wd8 F.TIM_STAT_HOLDOVER = false)
      ∧ (wd8.tb.ownerAt + State.getF wd8 F.TIM_HOLD_TMO_TMO * cycMs ≤ wd8.tb.fab))
    ∧ ((State.CanWriteTime wd9 0) ∧ (State.failoverDue wd9 = true)
      ∧ (State.failoverTo { pending := wd9.pending, freeCtr := wd9.freeCtr, regs := wd9.regs, tables := wd9.tables, tly := wd9.tly, tlyFrozen := wd9.tlyFrozen, evCtl := wd9.evCtl, evSvc := wd9.evSvc, out := wd9.out, dp := wd9.dp, rods := wd9.rods, saf := wd9.saf, tb := have __src := wd9.tb; { clk := __src.clk, fab := __src.fab, rate := __src.rate, slew := __src.slew, views := __src.views, pending := __src.pending, lastStep := __src.lastStep, ownerAt := __src.ownerAt, ts2 := __src.ts2, tsIn := __src.tsIn, inSeq := __src.inSeq, steps := __src.steps, holdAt := __src.holdAt, locked := List.filter (fun e => !bit 4 e) wd9.tb.locked, nowLatch := __src.nowLatch, outHigh := __src.outHigh, outEnd := __src.outEnd, outFrom := __src.outFrom, outUse := __src.outUse, outGuard := __src.outGuard, outNew := __src.outNew : TimeBase }, key := wd9.key, meas := wd9.meas, host := wd9.host, ring := wd9.ring, boot := wd9.boot, upd := wd9.upd, pwr := wd9.pwr, ddr := wd9.ddr, ddrFails := wd9.ddrFails, memTest := wd9.memTest, laneFrac := wd9.laneFrac, laneMiss := wd9.laneMiss, trcPost := wd9.trcPost : State } = some 1) ∧ (State.isF wd9 F.TIM_STAT_JUMP_PEND = false) ∧ (State.isF wd9 F.TIM_CFG_JUMP_EN = false))
    ∧ ((State.CanWriteTime wd10 0) ∧ (15 < 16) ∧ (State.ptpDomain wd10 15 0 = some 0)
      ∧ (0 = State.getF wd10 F.TIM_STAT_SEL) ∧ (State.isF wd10 F.TIM_STAT_JUMP_PEND = false) ∧ (77 < 2 ^ 32))
    ∧ ((0 < 4) ∧ (State.pairUp wd11 0 = true) ∧ (State.isF wd11 (F.TIM_DOM_W0_EN 0) = true))
    ∧ ((160 ≤ 160) ∧ (State.memOn (mem rich) = true) ∧ (State.serving (mem rich) = true)) := by
  simp only [State.CanCommand, State.CanWriteTime]
  refine ⟨?_, ?_, ?_, ?_, ?_, ?_, ?_, ?_, ?_, ?_⟩ <;> decide +kernel

/-- Hypotheses of TimestampQueuesAndTimeOut, clauses 1, 2, 3, 4, 5, 6, 7, 8, 9. -/
theorem witness_TimestampQueuesAndTimeOut :
    ((State.serving wd12 = true) ∧ (State.isF wd12 F.TIM_CFG_TS2_MODE = false)
      ∧ (wd12.tb.ts2 = [{ qseq := 9, port := 3, tag := 4, t := 5 : Ts2 }])
      ∧ ({ qseq := 9, port := 3, tag := 4, t := 5 : Ts2 }.qseq < 2 ^ 16))
    ∧ ((State.serving wd12 = true) ∧ (State.isF wd12 F.TIM_CFG_TS2_MODE = false)
      ∧ (wd12.tb.ts2 = [{ qseq := 9, port := 3, tag := 4, t := 5 : Ts2 }]) ∧ (8 < 2 ^ 16)
      ∧ ({ qseq := 9, port := 3, tag := 4, t := 5 : Ts2 }.qseq ≠ 8))
    ∧ ((State.memOn wd13 = true) ∧ (State.serving wd13 = true) ∧ (State.isF wd13 F.TIM_CFG_TS2_MODE = true)
      ∧ (wd13.tb.ts2 = [{ qseq := 9, port := 3, tag := 4, t := 5 : Ts2 }]))
    ∧ ((bit (State.getF wd14 F.TIM_IN_CFG_EDGE) (if true = true then 0 else 1) = true)
      ∧ (List.length wd14.tb.tsIn < 4))
    ∧ ((bit (State.getF wd15 F.TIM_IN_CFG_EDGE) (if false = true then 0 else 1) = true)
      ∧ (4 ≤ List.length wd15.tb.tsIn))
    ∧ ((State.serving wd16 = true) ∧ (wd16.tb.tsIn = { qseq := 1, rising := true, t := 4 : TimeIn } :: wd17)
      ∧ ({ qseq := 1, rising := true, t := 4 : TimeIn }.qseq < 2 ^ 16))
    ∧ ((State.serving wd16 = true) ∧ (wd16.tb.tsIn = { qseq := 1, rising := true, t := 4 : TimeIn } :: wd17)
      ∧ (0 < 2 ^ 16) ∧ ({ qseq := 1, rising := true, t := 4 : TimeIn }.qseq ≠ 0))
    ∧ ((State.isF wd18 F.TIM_OUT_CFG_MODE = true) ∧ (wd18.tb.outHigh = false) ∧ (wd18.tb.outNew = [])
      ∧ (lastEdge wd18.tb.outUse wd18.tb.clk = some 0) ∧ (wd18.tb.outFrom ≤ 0) ∧ (wd18.tb.outGuard ≤ 0))
    ∧ ((wd19.tb.outHigh = true) ∧ (wd19.tb.outEnd ≤ wd19.tb.fab)) := by
  refine ⟨?_, ?_, ?_, ?_, ?_, ?_, ?_, ?_, ?_⟩ <;> decide +kernel

end time

namespace monitor

def u0 : Upd := .flowNew 1 2 3 4 17 5 false false 9 none ⟨false, false, false, false, false⟩
def fs : State := (rich.setEntry tFlow 9 (newFlow (.of 1 2 3 4 17 5 false false) 9 0 none false)).setF F.FWL_NOW_NOW 60000
def cs : State := { (richW [(F.FWL_CFG_SUPPRESS_INACTIVE, 0)]).setEntry tRodDirect 2049 (5 * 2 ^ 46 + 2 ^ 58) with dp := { cad := [(2049, ⟨0, true, false, false⟩)] }, tb := { clk := 10 ^ 8 * 2 ^ 40 } }
def we0 : State := ({ rich with dp := { rich.dp with updQ := [u0] } })
def we1 : Nat := ((up.freeFlow (.of 1 2 3 4 17 5 false false)).getD 0)
def we2 : Seg := ⟨false, false, false, false, false⟩
def we3 : State := ({ rich with dp := { rich.dp with updQ := [.cad 3 1 2 4 77777 0 0 3] } })
def we4 : State := ({ rich with dp := { sweeps := [⟨2, 12, 8, some (0, 0), 0, 0⟩] } })
def we5 : Sweep := ⟨2, 12, 8, some (0, 0), 0, 0⟩
def we6 : State := ({ fs with dp := { sweeps := [⟨3, 12, 8, none, 0, 0⟩] } })
def we7 : Sweep := ⟨3, 12, 8, none, 0, 0⟩
def we8 : State := (richW [(F.FWL_DIAG_W0_OPEN 15, 1), (F.FWL_DIAG_W0_GEN 15, 255)])
def we9 : State := (richW [(F.FWL_DIAG_W0_OPEN 0, 1), (F.FWL_DIAG_W0_GEN 0, 255)])
def we10 : Nat := (cadTick cs.nowNs 0)
def we11 : State := (richW [(F.STR_GATE_W0_CHANGE 63, 1)])
def we12 : State := ({ richW [(F.STR_GATE_W0_CHANGE 63, 1)] with dp := { gatePend := [(127, some ⟨[(9, 1, 2)], 4, 5⟩)] } })
def we13 : GatePend := ⟨[(9, 1, 2)], 4, 5⟩
def we14 : State := ({ up.setEntry tStream 8191 (1 + 2 ^ (7 * 64 + 1) ) with dp := { rcv := [(8191, { takeAny := false })] } })

/-- Hypotheses of FirewallEngineKeepsItsState, clauses 1, 2, 3, 4, 5, 7, 8, 9. -/
theorem witness_FirewallEngineKeepsItsState :
    ((we0.dp.updQ = [Upd.flowNew 1 2 3 4 17 5 false false 9 none we2])
      ∧ (State.findFlow we0 (FlowKey.of 1 2 3 4 17 5 false false) = none)
      ∧ (State.freeFlow we0 (FlowKey.of 1 2 3 4 17 5 false false) = some we1))
    ∧ ((we3.dp.updQ = [Upd.cad 3 1 2 4 77777 0 0 3]) ∧ ((State.cadOf we3 3).seen = false))
    ∧ (rich.dp.sweeps = [])
    ∧ ((we4.dp.sweeps = [we5]) ∧ (we5.table = tFlow))
    ∧ ((we6.dp.sweeps = [we7]) ∧ (we7.table = tFlow) ∧ (we7.req = 3) ∧ (we7.flush = none) ∧ (we7.pos + 4 < 16384))
    ∧ ((15 < 16) ∧ (State.isF we8 (F.FWL_DIAG_W0_OPEN 15) = true)
      ∧ (State.getF we8 (F.FWL_DIAG_W0_EXPIRY 15) = State.getF we8 F.FWL_NOW_NOW))
    ∧ ((0 < 16) ∧ (State.pairUp we9 1 = true) ∧ (State.isF we9 (F.FWL_DIAG_W0_OPEN 0) = true))
    ∧ ((1 < 128) ∧ (State.rodPresent cs 1 = true) ∧ (State.cadBounds cs 2049 = some (0, 5, true, 0, 1, 1))
      ∧ ((State.cadOf cs 2049).seen = true) ∧ ((State.cadOf cs 2049).miss = false)
      ∧ (State.isF cs F.FWL_CFG_SUPPRESS_INACTIVE = false) ∧ (we10 = (cadTick (State.nowNs cs) 0 + 2 ^ 16 - (State.cadOf cs 2049).last) % 2 ^ 16) ∧ (5 ≠ 0) ∧ (5 < we10) ∧ (we10 < 32768)) := by
  refine ⟨?_, ?_, ?_, ?_, ?_, ?_, ?_, ?_⟩ <;> decide +kernel

/-- Hypotheses of MetersGatesAndRecoveryFollowTheirWrites, clauses 1, 2, 3, 4, 5, 6, 7. -/
theorem witness_MetersGatesAndRecoveryFollowTheirWrites :
    ((State.serving rich = true) ∧ (1023 < 1024) ∧ (1 < 2))
    ∧ (State.serving rich = true)
    ∧ ((State.serving rich = true) ∧ (1023 < 1024) ∧ (1 < 4))
    ∧ ((State.serving rich = true) ∧ (63 < 64) ∧ (State.isF rich (F.STR_GATE_W0_CHANGE 63) = false))
    ∧ ((State.serving we11 = true) ∧ (63 < 64) ∧ (State.isF we11 (F.STR_GATE_W0_CHANGE 63) = true))
    ∧ ((63 < 64) ∧ (State.pendOf we12 (gateKey true 63) = some we13) ∧ (we13.at40 ≤ we12.tb.clk))
    ∧ ((8191 < 8192) ∧ (bit (State.entry we14 tStream 8191) 0 = true)
      ∧ (ew (State.entry we14 tStream 8191) 7 1 2 ≠ 0) ∧ ((State.rcvOf we14 8191).takeAny = false)
      ∧ ((State.rcvOf we14 8191).lastAt + ew (State.entry we14 tStream 8191) 7 12 12 * cycMs ≤ we14.tb.fab)) := by
  refine ⟨?_, ?_, ?_, ?_, ?_, ?_, ?_⟩ <;> decide +kernel

end monitor

namespace egress

def q1 : QRef := { item := 1 }
def sx : State := { richW [(F.PRT_MAC_STAT_LINK 3, 1), (F.PRT_MAC_CFG_MODE 3, 1)] with dp := { rich.dp with queues := [(qkey 3 2, [q1]), (qkey 33 7, [q1])], tx := [(9, some ⟨1, q1, 88, true, false⟩)], gatePend := [(5, some ⟨[(9, 1, 2)], 4, 5⟩)], verifyTry := [(3, 2), (4, 3)] } }
def gx : State := sx.setF (F.SCH_PORT_CFG_GATE_EN 3) 1 |>.setF (F.SCH_PORT_STAT_OPER_LEN 3) 1 |>.setF (schOperGates 3 0) 9 |>.setF (schOperInt 3 0) 500 |>.setF (schOperOp 3 0) 1 |>.setF (F.SCH_OPER_CYCLE_CYCLE 3) 1000 |>.setF (F.SCH_FP_CFG_FP_EN 3) 1 |>.setF (F.SCH_FP_CFG_VERIFY_DIS 3) 1
def wf0 : State := ({ sx with dp := { sx.dp with ending := [(9, some ⟨1, q1, 88, true, false⟩)] } })
def wf1 : EthTx := ⟨1, q1, 88, true, false⟩
def wf2 : State := gx.setF (F.SCH_PORT_CFG_CHANGE 31) 1
def wf3 : State := gx.setF (F.SCH_PORT_CFG_CHANGE 5) 1
def wf4 : GatePend := ⟨[(9, 1, 2)], 4, 5⟩
def wf5 : State := (upW [(F.SCH_CLASS_W0_SHAPER 2 3, 1)]).setClassSt 2 3 { credit := 5 }
def wf6 : State := (upW [(F.PRT_MAC_CFG_MODE 3, 1)])
def wf7 : State := gx.setF (F.SCH_FP_STAT_VERIFY_STATUS 3) 2
def wf8 : State := sx.setF (F.SCH_FP_STAT_VERIFY_STATUS 3) 2
def wf9 : State := sx.setF (F.SCH_FP_STAT_VERIFY_STATUS 4) 2

/-- Hypotheses of PortsSendAndFollowTheirLists, clauses 1, 2, 3, 4, 5, 6, 7, 8, 9. -/
theorem witness_PortsSendAndFollowTheirLists :
    ((3 < 32) ∧ (2 < 8) ∧ (State.ethPresent sx 3 = true) ∧ (State.linkUp sx 3 = true)
      ∧ (State.txOf sx 3 = none) ∧ (State.preemptedOf sx 3 = none)
      ∧ (State.isF sx (F.SCH_PORT_CFG_GATE_EN 3) = false) ∧ (State.tooLong sx 3 2 q1 = false)
      ∧ (State.msecTx sx 3 = false) ∧ (State.isF sx (F.SCH_PORT_STAT_HOLD_NOW 3) = false)
      ∧ (State.queue sx 3 2 = [q1]) ∧ (∀ (d : Nat), d < 8 → d ≠ 2 → State.queue sx 3 d = [])
      ∧ (State.item sx q1.item = some it0) ∧ (it0.complete = true) ∧ (it0.ts.mode = 0)
      ∧ (it0.ts.twoStep = false) ∧ (State.held sx 3 2 q1.elig = false))
    ∧ ((1 < 2) ∧ (State.pairUp sx 1 = true) ∧ (State.queue sx (32 + 1) 7 = [q1])
      ∧ (State.item sx q1.item = some it0) ∧ (it0.complete = true) ∧ (it0.refs = 1))
    ∧ ((State.endingOf wf0 9 = some wf1) ∧ (State.item wf0 wf1.ref.item = some it0) ∧ (it0.refs = 1))
    ∧ ((State.endingOf sx 9 = none) ∧ (State.txOf sx 9 = some wf1) ∧ (wf1.stomped = false)
      ∧ (State.item sx wf1.ref.item = some it0) ∧ (it0.complete = true) ∧ (it0.refs = 1))
    ∧ ((3 < 32) ∧ (State.ethPresent gx 3 = true) ∧ (State.gatesOn gx 3 = true))
    ∧ ((State.serving gx = true) ∧ (3 < 32) ∧ (State.ethPresent gx 3 = true)
      ∧ (State.isF gx (F.SCH_PORT_CFG_CHANGE 3) = false))
    ∧ ((State.serving wf2 = true) ∧ (31 < 32) ∧ (State.ethPresent wf2 31 = true)
      ∧ (State.isF wf2 (F.SCH_PORT_CFG_CHANGE 31) = true))
    ∧ ((5 < 32) ∧ (State.ethPresent wf3 5 = true) ∧ (State.pendOf wf3 5 = some wf4) ∧ (wf4.at40 ≤ wf3.tb.clk)
      ∧ (List.length wf4.entries < 2 ^ 11) ∧ (wf4.cycle < 2 ^ 30))
    ∧ ((State.serving wf5 = true) ∧ (State.ethPresent wf5 2 = true)
      ∧ (State.getF wf5 (F.SCH_CLASS_W0_SHAPER 2 3) = 1) ∧ (nearest [(1, 25000000)] (0 % 2 ^ 25) ≠ State.getF wf5 (F.SCH_CLASS_IDLE_IDLE 2 3))) := by
  refine ⟨?_, ?_, ?_, ?_, ?_, ?_, ?_, ?_, ?_⟩ <;> decide +kernel

/-- Hypotheses of LinksAndPreemptionFollowTheirEvents, clauses 1, 2, 3, 4, 5, 6, 7. -/
theorem witness_LinksAndPreemptionFollowTheirEvents :
    ((3 < 32) ∧ (State.ethPresent sx 3 = true) ∧ (State.isF sx F.RNG_STAT_EPLEN_EN = false))
    ∧ ((3 < 16) ∧ (State.ethPresent wf6 3 = true) ∧ (State.linkUp wf6 3 = false)
      ∧ (State.portHeld wf6 3 = false) ∧ (State.getF wf6 (F.PRT_MAC_CFG_MODE 3) ≠ 0)
      ∧ (State.getF wf6 (F.PRT_MAC_CFG_MODE 3) < 2 ^ (F.PRT_MAC_STAT_MODE_NOW 3).w)
      ∧ (State.getF wf6 F.PWR_MODE_MODE < 2) ∧ (State.isF wf6 (F.SCH_FP_CFG_VERIFY_DIS 3) = false))
    ∧ ((3 < 16) ∧ (State.ethPresent wf7 3 = true) ∧ (State.linkUp wf7 3 = true)
      ∧ (State.getF wf7 (F.SCH_FP_STAT_VERIFY_STATUS 3) = 2))
    ∧ ((3 < 16) ∧ (State.ethPresent wf8 3 = true) ∧ (State.getF wf8 (F.SCH_FP_STAT_VERIFY_STATUS 3) = 2)
      ∧ (sget (fun _ => 0) wf8.dp.verifyTry 3 = 2) ∧ (2 < 3))
    ∧ ((4 < 16) ∧ (State.ethPresent wf9 4 = true) ∧ (State.getF wf9 (F.SCH_FP_STAT_VERIFY_STATUS 4) = 2)
      ∧ (sget (fun _ => 0) wf9.dp.verifyTry 4 = 3))
    ∧ ((3 < 16) ∧ (State.ethPresent gx 3 = true) ∧ (State.linkUp gx 3 = true)
      ∧ (State.isF gx (F.SCH_FP_CFG_FP_EN 3) = true))
    ∧ ((3 < 16) ∧ (State.ethPresent gx 3 = true) ∧ (State.fpActive gx 3 = true) ∧ (State.gatesOn gx 3 = true)
      ∧ ((State.schList gx 3)[0]? = some (500, 9, 1)) ∧ (State.pendOf gx 3 = none)
      ∧ (State.isF gx (F.SCH_PORT_STAT_HOLD_NOW 3) = false) ∧ (entryStart (State.schList gx 3) 0 < ns40 (State.getF gx (F.SCH_OPER_CYCLE_CYCLE 3))) ∧ ((cyclePos gx.tb.clk (sget (fun _ => 0) gx.dp.gateBase 3) (ns40 (State.getF gx (F.SCH_OPER_CYCLE_CYCLE 3))) + ns40 (State.getF gx (F.SCH_FP_TIME_HOLD_ADV 3)) + ns40 (State.getF gx (F.SCH_OPER_CYCLE_CYCLE 3)) - entryStart (State.schList gx 3) 0) % ns40 (State.getF gx (F.SCH_OPER_CYCLE_CYCLE 3)) < ns40 (State.getF gx (F.SCH_FP_TIME_HOLD_ADV 3)) + ns40 500)) := by
  refine ⟨?_, ?_, ?_, ?_, ?_, ?_, ?_⟩ <;> decide +kernel

end egress

namespace rods

def rs (n st md : Nat) (l : List (Fld × Nat) := []) : State := richW ([(F.ROD_STAT_STATE n, st), (F.ROD_STAT_MODE n, md)] ++ l)
def rec0 : List Byte := ({ id := 5, fmt := 0, w1 := 32, w2 := 0 } : RecHdr).bytes ++ [1, 2]
def recL : List Byte := ({ id := 5, fmt := 5, w1 := 0, w2 := 0 } : RecHdr).bytes ++ [1, 2]
def ri : Item := { bytes := rec0, isRod := true, ingress := 64, t := 5, refs := 1, shBeads := 1 }
def withQ (s : State) (n q : Nat) (r : QRef) (it : Item) : State := { s with dp := { s.dp with items := [(r.item, some it)], queues := [(qkey (64 + n) q, [r])] } }
def fr : CanFrame := { fmt := 0, id := 5, dlc := 2, data := [1, 2] }
def rx : State := (rs 5 3 2).setEntry tRodDirect (5 * 2048 + 5) (1 + 2 ^ 1)
def lh : State := (rs 5 3 4)
def lhi : Nat := (ways (lh.bucketOf tRodHashed (rodKey 7 5 1))).headD 0
def lh2 : State := lh.setEntry tRodHashed lhi (rodKey 7 5 1 + 2 ^ 64)
def tk : Nat := 2 ^ 63 + 1500 * 2 ^ (64 + 48) + 5 * 2 ^ (3 * 64 + 16) + 9 * 2 ^ (3 * 64)
def ac : State := { rich.setEntry tTalker 3 tk with dp := { rich.dp with items := [(1, some ri)], acfQ := [⟨1, 3, 6 * 2 ^ 10 + 2 ^ 18⟩] } }
def ab : State := { rich.setEntry tTalker 3 tk with dp := { rich.dp with batch := [(3, some ⟨[[1,2,3,4]], 1, 5, 0, 7, 1⟩)] }, tb := { fab := 100000 } }
def wg0 : State := rs 127 1 0 [(F.ROD_CMD_STAT_BUSY 127, 1)]
def wg1 : Instr := (.setMode 127 4)
def wg4 : State := withQ (rs 5 3 2) 5 4 { item := 9 } ri
def wg5 : State := rs 5 6 2 [(F.ROD_CMD_STAT_BUSY 5, 1)]
def wg6 : State := ((rs 5 1 2).setRod 5 { resetting := true, stb := true, en := false })
def wg7 : State := ((rs 5 5 2).setRod 5 { tec := 77 })
def wg8 : List Byte := (((rx.rodRecord 5 fr false).getD none).getD ([], 0)).1
def wg9 : Nat := (((rx.rodRecord 5 fr false).getD none).getD ([], 0)).2
def wg10 : State := rs 5 3 2 [(F.ROD_ERR_REC 5, 94)]
def wg11 : State := ((withQ (rs 5 3 2) 5 4 { item := 9 } ri).setRod 5 { tx := some ⟨4, { item := 9, attempts := 1 }, rec0, false⟩ })
def wg12 : RodTx := ⟨4, { item := 9, attempts := 1 }, rec0, false⟩
def wg13 : State := ((withQ (rs 5 3 2) 5 4 { item := 9, attempts := 1 } ri).setRod 5 { tec := 9, tx := some ⟨4, { item := 9, attempts := 1 }, rec0, false⟩ })
def wg14 : State := rs 5 3 2 [(F.TST_ROD_CFG_GEN_EN 5, 1)]
def wg15 : QRef := { item := 9 }
def wg16 : State := withQ (rs 5 3 2) 5 8 { item := 9, launch := 0 } ri
def wg17 : QRef := { item := 9, launch := 0 }
def wg18 : State := withQ (rs 5 3 2 [(F.ROD_LAUNCH_LATE_MAX 5, 1)]) 5 8 { item := 9, launch := 2 ^ 32 - 2000000 } ri
def wg19 : QRef := { item := 9, launch := 2 ^ 32 - 2000000 }
def wg20 : State := (rs 5 3 3).setEntry tRodDirect (5 * 2048 + 0) (1 + 2 * 7)
def wg21 : State := (rs 5 3 3).setRod 5 { wakePulses := 2, linSlot := 4 }
def wg22 : State := (rs 5 8 4).setRod 5 { wakePulses := 2, linSlot := 4 }
def wg23 : State := (rs 5 3 3).setRod 5 { linWait := some (1, 2, false) }
def wg24 : Nat × Nat × Bool := (1, 2, false)
def wg25 : RodHit := (lh2.rodLookup 5 5 7).getD ⟨0,0,0⟩
def wg26 : AcfMsg := ⟨1, 3, 6 * 2 ^ 10 + 2 ^ 18⟩
def wg27 : List Byte := (match convert ri.bytes (6 * 2 ^ 10 + 2 ^ 18) 0 true false with | .ok r => r | _ => [])
def wg28 : Batch := ⟨[[1,2,3,4]], 1, 5, 0, 7, 1⟩
def wg29 : State := { ab with dp := { ab.dp with items := [(1, some { ri with bad := true })], splitQ := [(1, 3)] } }
def wg30 : Item := { ri with bad := true }
def wg31 : State := { ab with dp := { ab.dp with items := [(1, some ri)], splitQ := [(1, 3)] } }

/-- Hypotheses of RodCommandWhileBusyIsDiscarded, clause whole. -/
theorem witness_RodCommandWhileBusyIsDiscarded :
    ((127 < 128) ∧ (State.serving wg0 = true) ∧ (State.rodPresent wg0 127 = true)
      ∧ (State.isF wg0 (F.ROD_CMD_STAT_BUSY 127) = true) ∧ (wg1 ∈ [Instr.rodNop 127, Instr.setMode 127 4, Instr.start 127, Instr.stop 127 true, Instr.recover 127, Instr.flush 127 4, Instr.rodStandby 127, Instr.rodWake 127])) := by
  decide +kernel

/-- Hypotheses of RodCommandsMoveTheRod, clauses 1, 2, 3, 4, 5, 6, 7, 8, 9, 10. -/
theorem witness_RodCommandsMoveTheRod :
    ((State.RodTakes (rs 127 5 2) 127) ∧ (1 ≤ State.rodState (rs 127 5 2) 127)
      ∧ (State.rodState (rs 127 5 2) 127 ≤ 8))
    ∧ ((State.RodTakes (rs 127 1 2) 127) ∧ (State.rodState (rs 127 1 2) 127 = 1))
    ∧ ((State.RodTakes (rs 127 3 2) 127) ∧ (State.rodState (rs 127 3 2) 127 = 3))
    ∧ ((State.RodTakes (rs 127 1 2) 127) ∧ (State.rodState (rs 127 1 2) 127 = 1)
      ∧ (State.rodMode (rs 127 1 2) 127 ≤ 2) ∧ (State.isF (rs 127 1 2) (F.ROD_CTL_PWM_EN 127) = false))
    ∧ ((State.RodTakes wg4 5) ∧ (State.rodState wg4 5 = 3) ∧ ((State.rod wg4 5).tx = none)
      ∧ ((State.rod wg4 5).linWait = none))
    ∧ ((State.RodTakes wg4 5) ∧ (State.rodState wg4 5 = 3))
    ∧ ((State.RodTakes (rs 5 4 2) 5) ∧ (State.rodState (rs 5 4 2) 5 = 4))
    ∧ ((State.RodTakes wg4 5) ∧ (1 ≤ State.rodState wg4 5) ∧ (State.rodState wg4 5 ≤ 8) ∧ (4 < 9)
      ∧ ((State.rod wg4 5).tx = none))
    ∧ ((State.RodTakes (rs 5 1 2) 5) ∧ (State.rodState (rs 5 1 2) 5 = 1))
    ∧ ((State.RodTakes (rs 5 7 2) 5) ∧ (State.rodState (rs 5 7 2) 5 = 7)) := by
  simp only [State.RodTakes]
  refine ⟨?_, ?_, ?_, ?_, ?_, ?_, ?_, ?_, ?_, ?_⟩ <;> decide +kernel

/-- Hypotheses of RodsFollowTheirBusAndReset, clauses 1, 2, 3, 4, 5, 6, 7, 8. -/
theorem witness_RodsFollowTheirBusAndReset :
    ((5 < 128) ∧ (State.rodPresent wg5 5 = true) ∧ (State.rodState wg5 5 = 6) ∧ ((State.rod wg5 5).tx = none)
      ∧ (wg5.pwr.leanRods = []))
    ∧ ((5 < 128) ∧ (State.serving wg4 = true) ∧ (State.rodPresent wg4 5 = true))
    ∧ ((5 < 128) ∧ (State.rodPresent wg6 5 = true) ∧ ((State.rod wg6 5).resetting = true)
      ∧ (State.isF wg6 (F.ROD_CTL_AUTOSTART 5) = false))
    ∧ ((5 < 128) ∧ (State.rodPresent (rs 5 2 2) 5 = true) ∧ (State.rodState (rs 5 2 2) 5 = 2)
      ∧ ((State.rod (rs 5 2 2) 5).released = none))
    ∧ ((5 < 128) ∧ (State.rodPresent wg7 5 = true) ∧ (State.rodState wg7 5 = 5))
    ∧ ((State.serving (rs 5 1 2) = true) ∧ (State.rodPresent (rs 5 1 2) 5 = true) ∧ (State.pinClaims (rs 5 1 2) = []))
    ∧ ((5 < 128) ∧ (State.rodPresent (rs 5 3 3) 5 = true) ∧ (State.isLin (rs 5 3 3) 5 = true)
      ∧ (State.rodState (rs 5 3 3) 5 = 3))
    ∧ ((5 < 128) ∧ (State.rodPresent (rs 5 8 4) 5 = true) ∧ (State.isLin (rs 5 8 4) 5 = true)
      ∧ (State.rodState (rs 5 8 4) 5 = 8)) := by
  refine ⟨?_, ?_, ?_, ?_, ?_, ?_, ?_, ?_⟩ <;> decide +kernel

/-- Hypotheses of RodsReceiveAndEndTheirFrames, clauses 1, 2, 3, 4, 5. -/
theorem witness_RodsReceiveAndEndTheirFrames :
    ((5 < 128) ∧ (State.rodPresent rx 5 = true) ∧ (State.receives rx = true) ∧ (State.rodState rx 5 = 3)
      ∧ ((State.rod rx 5).tx = none) ∧ (State.looped rx 5 = false) ∧ (CanFrame.sound fr = true)
      ∧ (State.isLin rx 5 = false) ∧ (List.contains (modeFormats (State.rodMode rx 5)) fr.fmt = true)
      ∧ (fr.fmt ≠ 4) ∧ (State.isF rx (F.TST_ROD_CFG_CHK_EN 5) = false) ∧ (rx.dp.poison = [])
      ∧ (State.getF rx (F.ROD_ERR_REC 5) < 96) ∧ ((State.rod rx 5).tec < 96)
      ∧ (State.rodRecord rx 5 fr false = some (some (wg8, wg9)))
      ∧ (Option.isSome (State.claim rx (64 + 5) (beadsOf (List.length wg8))) = true)
      ∧ (State.anyPlane rx = true) ∧ (rx.dp.held = false))
    ∧ ((5 < 128) ∧ (State.rodPresent wg10 5 = true) ∧ (State.rodState wg10 5 = 3)
      ∧ (State.isLin wg10 5 = false) ∧ ((State.rod wg10 5).tx = none) ∧ (1 ≤ 6) ∧ (6 ≤ 6)
      ∧ (State.isF wg10 (F.ROD_CTL_LISTEN_ONLY 5) = false) ∧ (State.getF wg10 (F.ROD_ERR_REC 5) < 95)
      ∧ ((State.rod wg10 5).tec < 96))
    ∧ ((5 < 128) ∧ ((State.rod wg11 5).tx = some wg12) ∧ (wg12.q < 8) ∧ (wg12.final = false)
      ∧ (State.rodPresent wg11 5 = true))
    ∧ ((5 < 128) ∧ (State.rodPresent wg13 5 = true) ∧ ((State.rod wg13 5).tx = some wg12) ∧ (wg12.q < 8)
      ∧ ((recHdr wg12.record).fmt = 0) ∧ (State.isLin wg13 5 = false)
      ∧ (State.queue wg13 (64 + 5) wg12.q = [wg12.ref]) ∧ (State.item wg13 wg12.ref.item = some ri) ∧ (ri.refs = 1))
    ∧ ((5 < 128) ∧ (State.rodPresent wg14 5 = true) ∧ (State.rodState wg14 5 = 3)
      ∧ (State.isF wg14 (F.TST_ROD_CFG_GEN_EN 5) = true) ∧ (∀ (q : Nat), q < 9 →
      State.queue wg14 (64 + 5) q = []) ∧ ((State.rod wg14 5).tx = none) ∧ (State.rodMode wg14 5 = 2)
      ∧ (State.getF wg14 (F.TST_ROD_CFG_FMT 5) = 0) ∧ (State.isF wg14 (F.ROD_CTL_LISTEN_ONLY 5) = false)
      ∧ (State.looped wg14 5 = false) ∧ (State.wakeWait wg14 5 = false) ∧ (State.gapOver wg14 5 = true)) := by
  refine ⟨?_, ?_, ?_, ?_, ?_⟩ <;> decide +kernel

/-- Hypotheses of RodsStartWhatIsDue, clauses 1, 2, 3, 4, 5, 6, 7, 8. -/
theorem witness_RodsStartWhatIsDue :
    ((5 < 128) ∧ (4 < 8) ∧ (State.mayStart wg4 5 = true) ∧ (State.isLin wg4 5 = false)
      ∧ (State.looped wg4 5 = false) ∧ (State.queue wg4 (64 + 5) 8 = []) ∧ (∀ (k : Nat), k < 8 → 4 < k →
      State.queue wg4 (64 + 5) k = []) ∧ (State.queue wg4 (64 + 5) 4 = [wg15])
      ∧ (State.held wg4 (64 + 5) 4 wg15.elig = false) ∧ (State.item wg4 wg15.item = some ri)
      ∧ (State.txRecord wg4 5 ri wg15 = Conv.ok rec0) ∧ (State.getF wg4 (F.SCH_RODQ_W0_SHAPER 5 4) = 0))
    ∧ ((5 < 128) ∧ (State.mayStart wg16 5 = true) ∧ (State.isLin wg16 5 = false)
      ∧ (State.looped wg16 5 = false) ∧ (State.queue wg16 (64 + 5) 8 = [wg17])
      ∧ (dueAt wg17.launch (State.now32 wg16) = true) ∧ (State.launchLate wg16 5 wg17 = false)
      ∧ (State.item wg16 wg17.item = some ri) ∧ (State.txRecord wg16 5 ri wg17 = Conv.ok rec0))
    ∧ ((5 < 128) ∧ (State.rodPresent wg18 5 = true) ∧ (State.queue wg18 (64 + 5) 8 = [wg19])
      ∧ (State.launchLate wg18 5 wg19 = true) ∧ (State.onBus wg18 5 8 = none)
      ∧ (State.item wg18 wg19.item = some ri) ∧ (ri.refs = 1))
    ∧ ((5 < 128) ∧ (State.mayStart wg20 5 = true) ∧ (State.rodMode wg20 5 = 3) ∧ (State.inSlot wg20 5 = false)
      ∧ (State.queue wg20 (64 + 5) 8 = []) ∧ ((State.rod wg20 5).linSlot = 0) ∧ (0 < 255)
      ∧ (bit (State.slotEntry wg20 5 0) 0 = true) ∧ (bit (State.slotEntry wg20 5 0) 7 = false))
    ∧ ((5 < 128) ∧ (State.rodPresent wg21 5 = true) ∧ (State.rodMode wg21 5 = 3)
      ∧ (0 < (State.rod wg21 5).wakePulses))
    ∧ ((5 < 128) ∧ (State.rodPresent wg22 5 = true) ∧ (State.rodMode wg22 5 = 4)
      ∧ (0 < (State.rod wg22 5).wakePulses) ∧ ((State.rod wg22 5).wakePulses < 3) ∧ (State.rodState wg22 5 = 8)
      ∧ (State.isF wg22 (F.ROD_CTL_LISTEN_ONLY 5) = false))
    ∧ ((5 < 128) ∧ (State.rodPresent wg23 5 = true) ∧ (State.rodMode wg23 5 = 3)
      ∧ ((State.rod wg23 5).linWait = some wg24))
    ∧ ((5 < 128) ∧ (State.syncOk lh2 5 (State.linDiv lh2 5) = true) ∧ (7 < 60)
      ∧ (State.rodPresent lh2 5 = true) ∧ (State.rodMode lh2 5 = 4) ∧ (State.rodState lh2 5 = 3)
      ∧ ((State.rod lh2 5).tx = none) ∧ (∀ (q : Nat), q < 8 → State.queue lh2 (64 + 5) q = [])
      ∧ (State.rodLookup lh2 5 5 7 = some wg25)) := by
  refine ⟨?_, ?_, ?_, ?_, ?_, ?_, ?_, ?_⟩ <;> decide +kernel

/-- Hypotheses of AcfEnginesBatchAndSplit, clauses 1, 2, 3, 4, 5, 6. -/
theorem witness_AcfEnginesBatchAndSplit :
    ((ac.dp.acfQ = [wg26]) ∧ (wg26.ctx < 256) ∧ (State.item ac wg26.item = some ri) ∧ (ri.complete = true)
      ∧ (ri.refs = 1) ∧ (ew (State.entry ac tTalker wg26.ctx) 0 63 1 = 1)
      ∧ (convert ri.bytes (wg26.target % 2 ^ 64) (wg26.target / 2 ^ 64) true false = Conv.ok wg27)
      ∧ (State.batchOf ac wg26.ctx = none) ∧ (List.length (acfMessage wg27 (wg26.target / 2 ^ 64) (State.getF ac F.CRY_CFG_XL_GPC_TAG) (ew (State.entry ac tTalker wg26.ctx) 1 63 1 == 1) (ri.t / 2 ^ 40 % 2 ^ 64)) ≤ batchCap (State.entry ac tTalker wg26.ctx)) ∧ (ac.dp.shUsed + 64 ≤ State.sharedPool ac) ∧ (bit (wg26.target % 2 ^ 64) 22 = false) ∧ (2 ≤ ew (State.entry ac tTalker wg26.ctx) 3 16 8) ∧ (ew (State.entry ac tTalker wg26.ctx) 3 0 16 ≠ 0))
    ∧ ((3 < 256) ∧ (State.batchOf ab 3 = some wg28) ∧ (wg28.openAt + 800 * ew (State.entry ab tTalker 3) 3 0 16 ≤ ab.tb.fab) ∧ (State.anyPlane ab = true) ∧ (ab.dp.held = false))
    ∧ ((3 < 256) ∧ (State.serving ab = true) ∧ (State.batchOf ab 3 = some wg28) ∧ (State.anyPlane ab = true)
      ∧ (ab.dp.held = false))
    ∧ ((4 < 256) ∧ (State.serving ab = true) ∧ (State.batchOf ab 4 = none))
    ∧ ((wg29.dp.splitQ = [(1, 3)]) ∧ (State.item wg29 1 = some wg30) ∧ (wg30.complete = true) ∧ (wg30.bad = true))
    ∧ ((wg31.dp.splitQ = [(1, 3)]) ∧ (State.item wg31 1 = some ri) ∧ (ri.complete = true) ∧ (ri.bad = false)
      ∧ (State.entry wg31 tListener 3 = 0) ∧ (ri.refs = 1) ∧ (3 < 256)) := by
  refine ⟨?_, ?_, ?_, ?_, ?_, ?_⟩ <;> decide +kernel

end rods

namespace keys

def kv (r : Nat) (l : List (Fld × Nat)) (sl : List (Nat × KeySlot)) : State :=
  let s := upW ([(F.KEY_STORE_STAT_READY, 1), (F.GLB_KEY_SLOTS_COUNT, 1023), (reqF r F.KEY_USES_USES, 5), (reqF r F.KEY_ATTR_TYPE, 1),
    (F.SAF_PAIR_STAT_STATE 0, 1), (F.SAF_PAIR_STAT_STATE 1, 1)] ++ l.map (fun e => (reqF r e.1, e.2)))
  { s with tb := { fab := 400 }, key := { root := some 5, slots := sl } }
def ks (uses usage : Nat) (ty : Nat := 1) : KeySlot := { key := 77, state := 1, ty := ty, level := 1, parent := 1023, usage := usage, perm := 7, uses := uses, gen := 65535 }
def jr : State := kv 2 [(F.KEY_STORE_STAT_READY, 0), (F.GLB_KEY_SLOTS_SCRAMBLE, 0)] [(3, ks 5 1)]
def ch (c : Nat) : State := { kv 2 ([(F.KEY_SLOT_SLOT, 1022), (F.KEY_LEN_LEN, 68)] ++ (beBytes 68 (2 ^ (67 * 8) + 2 ^ (16 * 8) * c)).toArray.toList.zipIdx.filterMap (fun e => if e.2 % 4 = 0 then some (F.KEY_IN_DATA (e.2 / 4), leAt (beBytes 68 (2 ^ (67 * 8) + 2 ^ (16 * 8) * c)) e.2 4) else none)) [] with boot := { debugEn := true }, key := { root := some 5, slots := [(1022, ks 0xFFFFFF 64)], challenge := [(2, some (c, 400 - 0))] } }
def wh0 : State := kv 2 [(F.KEY_STAT_BUSY, 1)] []
def wh1 : State := kv 2 [(F.KEY_STORE_STAT_READY, 0)] []
def wh2 : State := { kv 2 [(F.KEY_STORE_STAT_READY, 0), (F.GLB_KEY_SLOTS_SCRAMBLE, 0)] [(3, ks 5 1)] with key := { slots := [(3, ks 5 1)] } }
def wh3 : State := kv 2 [(F.KEY_STORE_STAT_READY, 0), (F.GLB_KEY_SLOTS_SCRAMBLE, 0)] [(3, ks 5 1)]
def wh4 : State := { jr with key := { jr.key with journal := ⟨[⟨some 8, ks 5 1, jr.entryCrc (some 8) (ks 5 1)⟩], 1⟩ } }
def wh5 : State := { kv 2 [] [] with key := { slots := [(1022, { ks 5 1 with state := 2 })], sweeps := [1022] } }
def wh6 : State := kv 2 [(F.KEY_STORE_STAT_TAMPER_N_EN, 1)] [(3, ks 5 1)]
def wh7 : State := kv 2 [(F.KEY_STORE_STAT_TAMPER_N_EN, 0)] [(3, ks 5 1)]
def wh8 : State := kv 0 [(F.KEY_SLOT_SLOT, 1022), (F.KEY_SLOT_AUX, 1023)] []
def wh10 : State := kv 2 [(F.KEY_SLOT_SLOT, 1022), (F.KEY_SLOT_AUX, 4), (F.KEY_LEN_LEN, 4), (F.KEY_IN_DATA 0, 1)] [(4, ks 5 1)]
def wh11 : State := kv 2 [(F.KEY_SLOT_SLOT, 1022), (F.KEY_SLOT_AUX, 4), (F.KEY_LEN_LEN, 40)] [(4, ks 5 2)]
def wh12 : State := kv 2 [(F.KEY_SLOT_SLOT, 1022), (F.KEY_SLOT_AUX, 4)] [(4, ks 0xFFFFFF 2), (1022, ks 1 4)]
def wh13 : State := kv 2 [(F.KEY_SLOT_SLOT, 1022)] [(4, ks 0xFFFFFF 2), (1022, ks 0xFFFFFF 8)]
def wh14 : State := kv 2 [(F.KEY_SLOT_SLOT, 1022)] [(4, ks 0xFFFFFF 2), (1022, ks 5 8 2)]
def wh15 : State := (kv 2 [(F.KEY_SLOT_SLOT, 1022), (F.KEY_SLOT_AUX, 3)] [(1022, ks 5 16 1)]).setEntry tSa 3 5
def wh16 : State := kv 1 [(F.KEY_SLOT_SLOT, 1022), (F.KEY_SLOT_AUX, 3)] [(1022, ks 0xFFFFFF 32 1)]
def wh17 : State := kv 1 [(F.KEY_SLOT_SLOT, 1022), (F.KEY_SLOT_AUX, 3)] []
def wh18 : List Byte := (List.range 32).map (fun i => BitVec.ofNat 8 i)
def wh19 : State := { ch 9 with key := { (ch 9).key with challenge := [] } }

/-- Hypotheses of KeyStoreAnswersSweepsAndEmpties, clauses 1, 2, 3, 4, 5, 6, 7, 9, 10. -/
theorem witness_KeyStoreAnswersSweepsAndEmpties :
    (State.KeyTakes (kv 2 [] []) 2)
    ∧ ((State.serving wh0 = true) ∧ (State.isF wh0 F.KEY_STAT_BUSY = true)
      ∧ (Instr.keyMac 2 1 ∈ [Instr.keyNop 2, Instr.generate 2, Instr.deriveKey 2, Instr.importWrapped 2, Instr.exportWrapped 2, Instr.keyMac 2 0, Instr.keyMac 2 1, Instr.bindSa 2, Instr.bindImage 2, Instr.invalidate 2, Instr.info 2, Instr.authorizeChallenge 2, Instr.authorizeToken 2, Instr.attestStatement 2, Instr.attestPublicKeys 2]))
    ∧ ((State.serving wh1 = true) ∧ (State.isF wh1 F.KEY_STAT_BUSY = false)
      ∧ (State.isF wh1 F.KEY_STORE_STAT_READY = false))
    ∧ ((State.isF wh2 F.KEY_STORE_STAT_READY = false) ∧ (wh2.key.tamperHold = false)
      ∧ (5 ≤ State.getF wh2 F.GLB_RST_STAT_STAGE) ∧ (wh2.key.root = none)
      ∧ (State.isF wh2 F.KEY_STORE_STAT_DRBG_FAIL = false) ∧ (State.isF wh2 F.GLB_KEY_SLOTS_SCRAMBLE = false))
    ∧ ((State.isF wh3 F.KEY_STORE_STAT_READY = false) ∧ (wh3.key.tamperHold = false)
      ∧ (5 ≤ State.getF wh3 F.GLB_RST_STAT_STAGE) ∧ (wh3.key.root = some 5)
      ∧ (State.isF wh3 F.GLB_KEY_SLOTS_SCRAMBLE = false) ∧ (State.jValid wh3 = false)
      ∧ (∀ (e : Nat × KeySlot), e ∈ wh3.key.slots → e.snd.expire = false))
    ∧ ((State.isF wh4 F.KEY_STORE_STAT_READY = false) ∧ (wh4.key.tamperHold = false)
      ∧ (5 ≤ State.getF wh4 F.GLB_RST_STAT_STAGE) ∧ (wh4.key.root = some 5)
      ∧ (State.isF wh4 F.GLB_KEY_SLOTS_SCRAMBLE = false) ∧ (wh4.key.journal = { entries := [{ slot := some 8, image := ks 5 1, crc := State.entryCrc wh4 (some 8) (ks 5 1) : JEntry }], commit := 1 : Journal }) ∧ ((ks 5 1).expire = false) ∧ (∀ (e : Nat × KeySlot), e ∈ wh4.key.slots → e.snd.expire = false))
    ∧ ((wh5.key.sweeps = [1022]) ∧ (List.map (fun x => x.fst) wh5.key.slots = [1022])
      ∧ ((State.slot wh5 1022).state = 2) ∧ (∀ (e : Nat × Nat), e ∈ State.entriesOf wh5 tSa → bit e.snd 1 = false))
    ∧ ((State.isF wh6 F.KEY_STORE_STAT_TAMPER_N_EN = true) ∧ (2 ≤ State.getF wh6 F.GLB_RST_STAT_STAGE)
      ∧ (State.powerMode wh6 = 0))
    ∧ (State.isF wh7 F.KEY_STORE_STAT_TAMPER_N_EN = false) := by
  simp only [State.KeyTakes]
  refine ⟨?_, ?_, ?_, ?_, ?_, ?_, ?_, ?_, ?_⟩ <;> first | decide +kernel | (and_intros <;> first | decide +kernel | simp [wh4, State.entryCrc, State.icvWord])

/-- Hypotheses of KeyCommandsCreateSlots, clauses 1, 2, 3. -/
theorem witness_KeyCommandsCreateSlots :
    ((State.KeyTakes wh8 0) ∧ ((State.keyArgs wh8 0).fst = 1022) ∧ (1022 < 1023)
      ∧ (State.slotThere wh8 1022 = true) ∧ ((State.slot wh8 1022).state = 0)
      ∧ (State.source wh8 0 (State.keyArgs wh8 0).snd none true = none)
      ∧ (State.isF wh8 F.KEY_STORE_STAT_DRBG_FAIL = false) ∧ ((State.parentOf wh8 (State.keyArgs wh8 0).snd).level < 4))
    ∧ ((State.KeyTakes wh10 2) ∧ ((State.keyArgs wh10 2).fst = 1022) ∧ (1022 < 1023)
      ∧ (State.slotThere wh10 1022 = true) ∧ ((State.slot wh10 1022).state = 0)
      ∧ ((State.keyArgs wh10 2).snd = 4) ∧ (4 ≠ 1023) ∧ (State.source wh10 2 4 (some 0) true = none)
      ∧ ((State.slot wh10 4).level < 4) ∧ ((State.slot wh10 4).uses ≠ 16777215)
      ∧ (List.length (State.keyIn wh10 2) = 4) ∧ (byteAt (State.keyIn wh10 2) 0 = 1))
    ∧ ((State.KeyTakes wh11 2) ∧ ((State.keyArgs wh11 2).fst = 1022) ∧ (1022 < 1023)
      ∧ (State.slotThere wh11 1022 = true) ∧ ((State.slot wh11 1022).state = 0)
      ∧ ((State.keyArgs wh11 2).snd = 4) ∧ (State.source wh11 2 4 (some 1) false = none)
      ∧ ((State.slot wh11 4).level < 4) ∧ (List.length (State.keyIn wh11 2) = keyBits (State.getF wh11 (reqF 2 F.KEY_ATTR_TYPE)) / 8 + 8)) := by
  simp only [State.KeyTakes]
  refine ⟨?_, ?_, ?_⟩ <;> decide +kernel

/-- Hypotheses of KeyCommandsUseSlots, clauses 1, 2, 3, 4, 5, 6, 7, 8. -/
theorem witness_KeyCommandsUseSlots :
    ((State.KeyTakes wh12 2) ∧ ((State.keyArgs wh12 2).fst = 1022) ∧ ((State.keyArgs wh12 2).snd = 4)
      ∧ (1022 ≠ 4) ∧ (State.source wh12 2 1022 (some 2) false = none)
      ∧ (State.source wh12 2 4 (some 1) false = none) ∧ ((State.slot wh12 1022).uses ≠ 16777215)
      ∧ ((State.slot wh12 4).uses = 16777215))
    ∧ ((State.KeyTakes wh13 2) ∧ ((State.keyArgs wh13 2).fst = 1022)
      ∧ (State.source wh13 2 1022 (some 3) false = none) ∧ ((State.slot wh13 1022).ty ≠ 2)
      ∧ ((State.slot wh13 1022).uses = 16777215))
    ∧ ((State.KeyTakes wh14 2) ∧ ((State.keyArgs wh14 2).fst = 1022)
      ∧ (State.source wh14 2 1022 (some 3) false = none) ∧ ((State.slot wh14 1022).ty = 2)
      ∧ ((State.slot wh14 1022).uses ≠ 16777215))
    ∧ ((State.KeyTakes wh15 2) ∧ (State.keyArgs wh15 2 = (1022, 3)) ∧ (1022 < 1023)
      ∧ (State.source wh15 2 1022 (some 4) false = none) ∧ (State.entryThere wh15 tSa 3 = true)
      ∧ (bit (State.entry wh15 tSa 3) 0 = true) ∧ (bit (State.entry wh15 tSa 3) 1 = false)
      ∧ ((State.slot wh15 1022).ty ≠ 2) ∧ (keyBits (State.slot wh15 1022).ty = if ew (State.entry wh15 tSa 3) 0 2 1 = 0 then 128 else 256))
    ∧ ((State.KeyTakes wh16 1) ∧ ((State.keyArgs wh16 1).fst = 1022)
      ∧ (State.source wh16 1 1022 (some 5) false = none) ∧ ((State.slot wh16 1022).uses = 16777215))
    ∧ ((State.KeyTakes wh16 1) ∧ ((State.keyArgs wh16 1).fst = 1022) ∧ (State.slotThere wh16 1022 = true)
      ∧ ((State.slot wh16 1022).state = 1) ∧ (bit (State.slot wh16 1022).perm 1 = true)
      ∧ (State.orphan wh16 1022 = false) ∧ (State.badPath wh16 1022 = false))
    ∧ ((State.KeyTakes wh17 1) ∧ ((State.keyArgs wh17 1).fst = 1022) ∧ (1022 < 1023)
      ∧ (State.slotThere wh17 1022 = true) ∧ ((State.slot wh17 1022).state = 0)
      ∧ (State.slotBad wh17 1022 (State.slot wh17 1022) = false))
    ∧ (List.length wh18 = 8 * 4) := by
  simp only [State.KeyTakes]
  refine ⟨?_, ?_, ?_, ?_, ?_, ?_, ?_, ?_⟩ <;> decide +kernel

/-- Hypotheses of TokensAndAttestation, clauses 1, 2, 3, 4, 5. -/
theorem witness_TokensAndAttestation :
    ((State.KeyTakes (kv 2 [] []) 2) ∧ (State.isF (kv 2 [] []) F.KEY_STORE_STAT_DRBG_FAIL = false))
    ∧ ((State.KeyTakes (ch 9) 2) ∧ ((State.keyArgs (ch 9) 2).fst = 1022)
      ∧ (State.source (ch 9) 2 1022 (some 6) false = none) ∧ ((State.slot (ch 9) 1022).uses = 16777215)
      ∧ (sget (fun _ => none) (ch 9).key.challenge 2 = some (9, 400)) ∧ ((ch 9).tb.fab - 400 ≤ 60 * cycS)
      ∧ (List.length (State.keyIn (ch 9) 2) = 68) ∧ (List.take 16 (List.drop 4 (State.keyIn (ch 9) 2)) = State.uid (ch 9)) ∧ (beAt (State.keyIn (ch 9) 2) 36 16 = 9) ∧ (byteAt (State.keyIn (ch 9) 2) 0 = 1) ∧ ((ch 9).boot.debugEn = true) ∧ (State.pairUp (ch 9) 0 = true))
    ∧ ((State.KeyTakes wh19 2) ∧ ((State.keyArgs wh19 2).fst = 1022)
      ∧ (State.source wh19 2 1022 (some 6) false = none) ∧ (sget (fun _ => none) wh19.key.challenge 2 = none))
    ∧ ((State.KeyTakes (kv 2 [] []) 2) ∧ (State.pairUp (kv 2 [] []) 1 = true))
    ∧ ((State.KeyTakes (kv 2 [] []) 2) ∧ (State.pairUp (kv 2 [] []) 1 = true)) := by
  simp only [State.KeyTakes]
  refine ⟨?_, ?_, ?_, ?_, ?_⟩ <;> decide +kernel

end keys

namespace power

def pw (m : Nat) (l : List (Fld × Nat) := []) : State := richW ([(F.PWR_MODE_MODE, m), (F.GLB_CLK_STAT_ROOT_LOCK, 1), (F.SAF_PAIR_STAT_STATE 0, 1), (F.SAF_PAIR_STAT_STATE 1, 1)] ++ l)
def en (s : State) (e : Nat) (since : Option Nat := none) : State := { s with pwr := { s.pwr with energy := e, since := since } }
def dr (m : Nat) (e : Bool := false) : State := { pw m with pwr := { (pw m).pwr with drain := true, early := e, phySlp := 7 } }
def lp (s : State) (l : List (Nat × List Byte)) : State := { s with boot := { s.boot with params := l } }
def l1 : State := lp (pw 0 [(F.ROD_STAT_STATE 0, 1)]) [(0x40, [0,0,0,0]), (0x41, [1])]
def l2 : State := lp (pw 0 [(F.PRT_MAC_STAT_LINK 31, 1)]) [(0x40, [0,0,0,128])]
def sl (m : Nat) (l : List (Fld × Nat)) (hot : Bool := false) : State := { pw m l with pwr := { (pw m).pwr with phySlp := 2 ^ 16 - 1, hot := hot } }
def wi0 : State := en (pw 1) 180000000
def wi1 : State := en (pw 1) 100
def wi4 : Instr := .watchdogExpiry 1 false
def wi10 : State := en (pw 1 [(F.PWR_THERM_STAT_LEVEL, 4)]) 0 (some 3)
def wi11 : State := en (pw 1 [(F.TRC_STAT_STATE, 1)]) 0
def wi12 : State := en (pw 1 [(F.PWR_THERM_STAT_LEVEL, 3)]) 180000000 (some 10000)
def wi13 : State := pw 1 [(F.GLB_BOOT_STAT_SNAP_VALID, 1)]
def wi14 : State := { pw 1 [(F.ROD_STAT_STATE 127, 7), (F.ROD_CTL_AUTOSTART 127, 0)] with pwr := { leanRods := [127] } }
def wi15 : State := sl 2 [(F.PWR_WAKE_CFG_PIN_EN, 255), (F.PWR_WAKE_CFG_PIN_POL, 255)]
def wi17 : State := sl 2 [(F.PWR_WAKE_CFG_PIN_EN, 0), (F.PWR_WAKE_CFG_PIN_POL, 1)]
def wi18 : State := sl 2 [(F.PWR_WAKE_CFG_PIN_EN, 1), (F.PWR_WAKE_CFG_PIN_POL, 1)] true
def wi19 : State := sl 2 [(F.PWR_WAKE_SRC_PHYWK_EN, 2^15)]
def wi20 : State := sl 3 [(F.PWR_WAKE_SRC_T1S_EN, 2^15), (F.GLB_RST_STAT_STAGE, 1)]
def wi21 : State := sl 2 [(F.PWR_WAKE_TIMER_SEC, 9)]
def wi22 : State := (dr 1).setF F.PWR_WAKE_TIMER_SEC 9
def wi23 : State := sl 2 [(F.KEY_STORE_STAT_TAMPER_N_EN, 1)]

/-- Hypotheses of EnergyBucketFollowsPower, clauses 1, 3. -/
theorem witness_EnergyBucketFollowsPower :
    ((State.powerMode wi0 < 2) ∧ (State.isF wi0 F.GLB_CLK_STAT_ROOT_LOCK = true))
    ∧ (wi4 ∈ [Instr.porstNAssert, Instr.wrstNAssert, Instr.clockMonitorFault true, Instr.clockMonitorFault false, Instr.softwareWarmReset 199 true, Instr.watchdogExpiry 0, Instr.watchdogExpiry 1, Instr.watchdogExpiry 0 true, Instr.watchdogExpiry 1 true, Instr.restart false, Instr.restart true, Instr.rodReset 0, Instr.rodReset 127]) := by
  refine ⟨?_, ?_⟩ <;> decide +kernel

/-- Hypotheses of GovernorRaisesAndLowersTheLevel, clauses 1, 2, 3, 4, 5. -/
theorem witness_GovernorRaisesAndLowersTheLevel :
    ((State.powerMode wi1 < 2) ∧ (State.isF wi1 F.GLB_CLK_STAT_ROOT_LOCK = true)
      ∧ (State.getF wi1 F.PWR_THERM_STAT_LEVEL < 4) ∧ (List.length [1, 2, 3, 214] = 4)
      ∧ (214 ≤ List.foldl max 0 [1, 2, 3, 214]) ∧ (List.foldl max 0 [1, 2, 3, 214] ≤ 255))
    ∧ ((State.powerMode wi10 < 2) ∧ (State.isF wi10 F.GLB_CLK_STAT_ROOT_LOCK = true)
      ∧ (State.getF wi10 F.PWR_THERM_STAT_LEVEL = 4) ∧ (List.foldl max 0 [209, 2, 3, 14] ≤ 209))
    ∧ ((State.powerMode wi11 < 2) ∧ (State.isF wi11 F.GLB_CLK_STAT_ROOT_LOCK = true)
      ∧ (State.getF wi11 F.PWR_THERM_STAT_LEVEL = 0) ∧ (List.foldl max 0 [213, 2, 3, 14] < 214)
      ∧ (wi11.pwr.energy = 0) ∧ (16000 < 16001) ∧ (wi11.pwr.raised = none)
      ∧ (State.getF wi11 F.TRC_STAT_STATE = 1) ∧ (∀ (k : Nat), k < 4 → State.getF wi11 (F.TRC_TRIG_W0_KIND k) = 0))
    ∧ ((State.powerMode wi12 < 2) ∧ (State.isF wi12 F.GLB_CLK_STAT_ROOT_LOCK = true)
      ∧ (State.getF wi12 F.PWR_THERM_STAT_LEVEL = 3) ∧ (wi12.pwr.since = some 10000)
      ∧ (10 * State.getF wi12 F.PWR_THERM_CFG_STEP_MS ≤ 10000) ∧ (15000 ≤ 16000)
      ∧ (wi12.pwr.energy ≤ 180000000) ∧ (State.getF wi12 F.PWR_RESTORE_RESTORE * 10000 ≤ wi12.pwr.energy)
      ∧ (List.foldl max 0 [20, 2, 3, 14] + State.getF wi12 F.PWR_THERM_CFG_HYST ≤ State.getF wi12 F.PWR_THERM_CFG_TJ_LIMIT + 64) ∧ (List.foldl max 0 [20, 2, 3, 14] < State.getF wi12 F.PWR_THERM_CFG_TJ_LIMIT + 64) ∧ (List.foldl max 0 [20, 2, 3, 14] < 214))
    ∧ ((State.powerMode (en (pw 1) 0) < 2) ∧ (3 < 4) ∧ (224 ≤ 224) ∧ (224 ≤ 255)) := by
  refine ⟨?_, ?_, ?_, ?_, ?_⟩ <;> decide +kernel

/-- Hypotheses of PowerCommandsChangeTheMode, clauses 1, 2, 3, 4, 5, 6, 7, 8, 9. -/
theorem witness_PowerCommandsChangeTheMode :
    ((0 < 3) ∧ (State.serving (pw 1) = true) ∧ (State.requesterUp (pw 1) 0 = true)
      ∧ (State.isF (pw 1) F.PWR_CMD_STAT_BUSY = false) ∧ (State.powerMode (pw 1) ≤ 1))
    ∧ ((State.serving (pw 1) = true) ∧ (1 < 3) ∧ (State.requesterUp (pw 1) 1 = true)
      ∧ (State.isF (pw 1) F.PWR_CMD_STAT_BUSY = false) ∧ (State.powerMode (pw 1) ≤ 1) ∧ ((pw 1).pwr.drain = false))
    ∧ ((State.serving (pw 1) = true) ∧ (1 < 3) ∧ (State.requesterUp (pw 1) 1 = true)
      ∧ (State.isF (pw 1) F.PWR_CMD_STAT_BUSY = false) ∧ (State.powerMode (pw 1) ≤ 1) ∧ (91 % 256 ≠ 90))
    ∧ ((State.serving wi13 = true) ∧ (1 < 3) ∧ (State.requesterUp wi13 1 = true)
      ∧ (State.isF wi13 F.PWR_CMD_STAT_BUSY = false) ∧ (State.powerMode wi13 ≤ 1)
      ∧ (State.isF wi13 F.GLB_BOOT_STAT_SNAP_VALID = true) ∧ (State.getF wi13 F.UPD_STAT_STATE = 0)
      ∧ (State.isF wi13 F.SAF_CMD_STAT_BUSY = false) ∧ (wi13.ring.bypBoot = false))
    ∧ (((dr 1).pwr.drain = true) ∧ ((dr 1).pwr.early = false))
    ∧ ((State.serving l1 = true) ∧ (2 < 3) ∧ (State.requesterUp l1 2 = true)
      ∧ (State.isF l1 F.PWR_CMD_STAT_BUSY = false) ∧ (State.powerMode l1 = 0) ∧ (State.leanSet l1 = (0, [0]))
      ∧ (State.rodState l1 0 = 1) ∧ (State.param l1 66 0 = 0))
    ∧ ((State.serving l2 = true) ∧ (2 < 3) ∧ (State.requesterUp l2 2 = true)
      ∧ (State.isF l2 F.PWR_CMD_STAT_BUSY = false) ∧ (State.powerMode l2 = 0) ∧ (31 < 32)
      ∧ (State.leanSet l2 = (2 ^ 31, [])) ∧ (State.param l2 66 0 = 0))
    ∧ ((State.serving wi14 = true) ∧ (2 < 3) ∧ (State.requesterUp wi14 2 = true)
      ∧ (State.isF wi14 F.PWR_CMD_STAT_BUSY = false) ∧ (State.powerMode wi14 = 1) ∧ (127 < 128)
      ∧ (wi14.pwr.leanRods = [127]) ∧ (State.rodState wi14 127 = 7)
      ∧ (State.isF wi14 (F.ROD_CTL_AUTOSTART 127) = false))
    ∧ ((State.serving (pw 0) = true) ∧ (2 < 3) ∧ (State.requesterUp (pw 0) 2 = true)
      ∧ (State.isF (pw 0) F.PWR_CMD_STAT_BUSY = false) ∧ (State.powerMode (pw 0) = 0)) := by
  refine ⟨?_, ?_, ?_, ?_, ?_, ?_, ?_, ?_, ?_⟩ <;> decide +kernel

/-- Hypotheses of WakeSourcesEndTheMode, clauses 1, 2, 3, 4, 5, 6, 7, 8, 10. -/
theorem witness_WakeSourcesEndTheMode :
    ((State.powerMode wi15 = 2) ∧ (wi15.pwr.drain = false) ∧ (wi15.pwr.hot = false) ∧ (7 < 8)
      ∧ (State.getF wi15 F.PWR_WAKE_CFG_FILT ≤ 255) ∧ (bit (State.getF wi15 F.PWR_WAKE_CFG_PIN_EN) 7 = true)
      ∧ (bit (State.getF wi15 F.PWR_WAKE_CFG_PIN_POL) 7 = true))
    ∧ (State.getF wi17 F.PWR_WAKE_CFG_PIN_EN = 0 ∨ 7 < State.getF wi17 F.PWR_WAKE_CFG_FILT)
    ∧ ((State.getF wi18 F.PWR_WAKE_CFG_FILT ≤ 255) ∧ (State.powerMode wi18 = 2) ∧ (wi18.pwr.drain = false)
      ∧ (wi18.pwr.hot = true) ∧ (194 < 195) ∧ (0 < 8) ∧ (bit (State.getF wi18 F.PWR_WAKE_CFG_PIN_EN) 0 = true)
      ∧ (bit (State.getF wi18 F.PWR_WAKE_CFG_PIN_POL) 0 = true))
    ∧ ((15 < 16) ∧ (State.powerMode wi19 = 2) ∧ (wi19.pwr.drain = false) ∧ (wi19.pwr.hot = false)
      ∧ (bit wi19.pwr.phySlp 15 = true) ∧ (bit (State.getF wi19 F.PWR_WAKE_SRC_PHYWK_EN) 15 = true))
    ∧ ((15 < 16) ∧ (50 ≤ 50) ∧ (State.powerMode wi20 = 3) ∧ (wi20.pwr.drain = false) ∧ (wi20.pwr.hot = false)
      ∧ (wi20.boot.po = false) ∧ (wi20.boot.porst = false) ∧ (State.getF wi20 F.GLB_RST_STAT_STAGE = 1)
      ∧ (bit (State.getF wi20 F.PWR_WAKE_SRC_T1S_EN) 15 = true))
    ∧ ((State.powerMode wi21 = 2) ∧ (wi21.pwr.drain = false) ∧ (wi21.pwr.hot = false)
      ∧ (State.getF wi21 F.PWR_WAKE_TIMER_SEC ≠ 0))
    ∧ ((wi22.pwr.drain = true) ∧ (State.getF wi22 F.PWR_WAKE_TIMER_SEC ≠ 0))
    ∧ ((State.powerMode wi23 = 2) ∧ (wi23.pwr.drain = false) ∧ (wi23.pwr.hot = false)
      ∧ (State.isF wi23 F.KEY_STORE_STAT_TAMPER_N_EN = true))
    ∧ ((2 ≤ State.powerMode (sl 3 [])) ∧ (15 < 16) ∧ (bit (sl 3 []).pwr.phySlp 15 = true)
      ∧ (¬15 ∈ (sl 3 []).pwr.noAck)) := by
  refine ⟨?_, ?_, ?_, ?_, ?_, ?_, ?_, ?_, ?_⟩ <;> decide +kernel

end power

namespace diagnostics

def mw (l : List (Fld × Nat) := []) : State := richW ([(F.SAF_PAIR_STAT_STATE 0, 1), (F.SAF_PAIR_STAT_STATE 1, 1)] ++ l)
def md (l : List (Fld × Nat) := []) : State := mw ([(F.MEM_STAT_PRESENT, 1), (F.MEM_STAT_TRAINED, 1), (F.MEM_STAT_SIZE, 8)] ++ l)
def tr (l : List (Fld × Nat) := []) : State := { md ([(F.TRC_STAT_STATE, 1), (F.TRC_REGION_SIZE, 8), (F.TRC_SNAPLEN_SNAPLEN, 40)] ++ l) with dp := { rich.dp with items := [(1, some it0)], queues := [(qkey 35 0, [{ item := 1 }])] } }
def ln (k : Nat) (l : List (Fld × Nat) := []) : State := mw ([(F.TST_LANE_CFG_CHK_PAT k, 1)] ++ l)
def wj0 : State := { md with ddrFails := 1 }
def wj1 : State := { md with ddrFails := 2 }
def wj2 : State := md [(F.MEM_TEST_START_START, 131071), (F.MEM_TEST_LEN_LEN, 0)]
def wj3 : State := md [(F.MEM_TEST_START_START, 131071), (F.MEM_TEST_LEN_LEN, 2)]
def wj4 : State := md [(F.MEM_TEST_STAT_BUSY, 1)]
def wj5 : State := { md [(F.MEM_TEST_STAT_BUSY, 1)] with memTest := some (0, 0, 0, 5) }
def wj6 : State := { md [(F.MEM_TEST_STAT_BUSY, 1)] with memTest := some (2, 0, 0, 5) }
def wj7 : QRef := { item := 1 }
def wj9 : State := tr [(F.PWR_THERM_STAT_LEVEL, 1)]
def wj10 : State := tr [(F.TRC_STAT_STATE, 2)]
def wj11 : State := tr [(F.TRC_STAT_STATE, 3)]
def wj12 : State := tr [(F.TRC_STAT_STATE, 0)]
def wj13 : State := mw [(F.TST_LANE_ERR_ERR 15, 5)]
def wj14 : State := mw [(F.TST_ROD_CNT_GOOD 127, 5)]
def wj15 : List Bool := patternBits 1 1 0 70
def wj16 : List Bool := (patternBits 1 1 0 70).drop 6
def wj18 : State := ln 15 [(F.TST_LANE_STAT_LOCK 15, 1), (F.TST_LANE_ERR_ERR 15, 2 ^ 32 - 2)]
def wj19 : List Nat := [9, 10, 11, 12, 13, 14, 15, 16, 17, 18, 19, 20, 21, 22, 23, 1032]
def wj20 : Nat := tapResetOnly.headD 0
def wj21 : State := { mw with boot := { porst := true } }
def wj23 : State := { mw with tly := [(0x100, 4)] }
def wj24 : State := { mw with boot := { params := [(0x63, [1, 0, 0, 0])] } }

/-- Hypotheses of MemoryTrainingAndTest, clauses 1, 2, 3, 4, 5, 6, 7, 8, 9, 10, 11. -/
theorem witness_MemoryTrainingAndTest :
    ((5 ≤ State.getF mw F.GLB_RST_STAT_STAGE) ∧ (State.isF mw F.MEM_STAT_TRAINED = false)
      ∧ (State.getF mw F.MEM_STAT_CAUSE = 0))
    ∧ ((5 ≤ State.getF mw F.GLB_RST_STAT_STAGE) ∧ (State.isF mw F.MEM_STAT_TRAINED = false)
      ∧ (State.getF mw F.MEM_STAT_CAUSE = 0))
    ∧ (State.ddrUp md = true)
    ∧ ((State.ddrUp wj0 = true) ∧ (wj0.ddrFails < 2))
    ∧ ((State.ddrUp wj1 = true) ∧ (wj1.ddrFails = 2))
    ∧ (State.serving md = true)
    ∧ ((State.serving wj2 = true) ∧ (State.isF wj2 F.MEM_TEST_STAT_BUSY = false)
      ∧ (State.isF wj2 F.MEM_STAT_PRESENT = true) ∧ (State.isF wj2 F.MEM_STAT_FAILED = false)
      ∧ (State.getF wj2 F.MEM_TEST_START_START = 131071) ∧ (State.getF wj2 F.MEM_TEST_LEN_LEN = 0)
      ∧ ((131071 + 0) * 65536 ≤ State.ddrBytes wj2) ∧ (State.testMeets wj2 (131071 * 65536) (0 * 65536) = false))
    ∧ ((State.serving wj3 = true) ∧ (State.isF wj3 F.MEM_TEST_STAT_BUSY = false)
      ∧ (State.ddrBytes wj3 < (State.getF wj3 F.MEM_TEST_START_START + State.getF wj3 F.MEM_TEST_LEN_LEN) * 65536))
    ∧ ((State.serving wj4 = true) ∧ (State.isF wj4 F.MEM_TEST_STAT_BUSY = true))
    ∧ (wj5.memTest = some (0, 0, 0, 5))
    ∧ ((wj6.memTest = some (2, 0, 0, 5)) ∧ (2 ^ 33 - 1 < 2 ^ 33) ∧ (List.length [3, 4] < 65535)) := by
  refine ⟨?_, ?_, ?_, ?_, ?_, ?_, ?_, ?_, ?_, ?_, ?_⟩ <;> decide +kernel

/-- Hypotheses of TraceRecorderFollowsItsStates, clauses 1, 2, 3, 4, 5, 6, 7, 8. -/
theorem witness_TraceRecorderFollowsItsStates :
    ((State.getF tr F.TRC_STAT_STATE = 1) ∧ (State.ddrUp tr = true) ∧ (State.traceHead tr = some (0, wj7))
      ∧ (State.queue tr 35 0 = [wj7]) ∧ (State.item tr wj7.item = some it0) ∧ (it0.complete = true)
      ∧ (it0.bad = false) ∧ (it0.refs = 1) ∧ (State.getF tr F.PWR_THERM_STAT_LEVEL = 0)
      ∧ (40 = min (Item.len it0) (State.getF tr F.TRC_SNAPLEN_SNAPLEN)) ∧ (96 = 32 + ceilDiv 40 32 * 32)
      ∧ (State.getF tr F.TRC_REGION_SIZE ≤ 8192) ∧ (State.wrPtr tr + 96 ≤ State.getF tr F.TRC_REGION_SIZE * 2 ^ 20) ∧ (∀ (k : Nat), k < 4 → State.getF tr (F.TRC_TRIG_W0_KIND k) = 0))
    ∧ ((State.getF wj9 F.TRC_STAT_STATE = 1) ∧ (State.ddrUp wj9 = true) ∧ (State.traceHead wj9 = some (0, wj7))
      ∧ (State.queue wj9 35 0 = [wj7]) ∧ (State.item wj9 wj7.item = some it0) ∧ (it0.complete = true)
      ∧ (it0.bad = false) ∧ (it0.refs = 1) ∧ (1 ≤ State.getF wj9 F.PWR_THERM_STAT_LEVEL))
    ∧ ((State.serving tr = true) ∧ (State.getF tr F.TRC_STAT_STATE = 1))
    ∧ ((State.serving wj10 = true) ∧ (State.getF wj10 F.TRC_STAT_STATE ≠ 1))
    ∧ ((State.serving wj11 = true) ∧ (State.getF wj11 F.TRC_STAT_STATE = 3))
    ∧ ((State.serving wj10 = true) ∧ (State.getF wj10 F.TRC_STAT_STATE ≠ 3))
    ∧ ((State.serving wj12 = true) ∧ (State.getF wj12 F.TRC_STAT_STATE = 0) ∧ (State.ddrUp wj12 = true)
      ∧ (State.getF wj12 F.TRC_REGION_SIZE ≠ 0))
    ∧ ((State.serving tr = true) ∧ (State.getF tr F.TRC_STAT_STATE = 1)) := by
  refine ⟨?_, ?_, ?_, ?_, ?_, ?_, ?_, ?_⟩ <;> decide +kernel

/-- Hypotheses of TestsScansAndSnapshots, clauses 1, 2, 3, 4, 5, 7, 8, 9, 11, 13, 14, 15. -/
theorem witness_TestsScansAndSnapshots :
    ((State.serving wj13 = true) ∧ (15 < 16) ∧ (State.ethPresent wj13 15 = true))
    ∧ ((State.serving wj14 = true) ∧ (127 < 128) ∧ (State.rodPresent wj14 127 = true))
    ∧ ((State.laneChecks (ln 15) 15 = true) ∧ (State.isF (ln 15) (F.TST_LANE_STAT_LOCK 15) = false)
      ∧ (64 ≤ List.length (State.laneReceives (ln 15) 15 wj15))
      ∧ (wj16 = List.drop (List.length (State.laneReceives (ln 15) 15 wj15) - 64) (State.laneReceives (ln 15) 15 wj15)))
    ∧ ((State.laneChecks wj18 15 = true) ∧ (State.isF wj18 (F.TST_LANE_STAT_LOCK 15) = true)
      ∧ (sget (fun _ => []) wj18.laneMiss 15 = []) ∧ (List.length wj19 = 16)
      ∧ (List.getD wj19 15 0 < List.getD wj19 0 0 + 1024))
    ∧ ((State.laneChecks wj18 15 = true) ∧ (State.isF wj18 (F.TST_LANE_STAT_LOCK 15) = true)
      ∧ (List.length (sget (fun _ => []) wj18.laneMiss 15) < 15))
    ∧ (¬119 ∈ tapCodes)
    ∧ ((wj20 ∈ tapResetOnly) ∧ (mw.boot.porst = false))
    ∧ ((wj20 ∈ tapResetOnly) ∧ (wj21.boot.porst = true))
    ∧ (wj21.boot.porst = true)
    ∧ ((State.serving wj23 = true) ∧ (State.isF wj23 F.TLY_SNAP_STAT_BUSY = false))
    ∧ ((State.serving mw = true) ∧ (State.isF mw F.TLY_SNAP_STAT_BUSY = false))
    ∧ ((State.pairUp wj24 1 = true) ∧ (State.param wj24 99 0 ≠ 0)
      ∧ (State.isF wj24 F.TLY_SNAP_STAT_BUSY = false)) := by
  refine ⟨?_, ?_, ?_, ?_, ?_, ?_, ?_, ?_, ?_, ?_, ?_, ?_⟩ <;> decide +kernel

end diagnostics

namespace image

def busOn (s : State) : State := { s with host := { s.host with link := true, cfg := [(4, 6)] } }
def im (st : Nat) (l : List (Fld × Nat) := []) : State := busOn <| richW ([(F.GLB_RST_STAT_STAGE, st), (F.MEM_STAT_CAUSE, 1), (F.SAF_PAIR_STAT_STATE 0, 1), (F.SAF_PAIR_STAT_STATE 1, 1)] ++ l)
def bd (s : State) : State := { s with boot := { s.boot with loaded := true, tested := true }, saf := { s.saf with pairPass := [(0, some 1), (1, some 1)] } }
def wk0 : State := im 7 [(F.GLB_HL_CTL_BUSY, 1), (F.GLB_HL_LEN_LEN, 4)]
def wk1 : List Byte := [0x4C, 0x5A, 0x44, 0x4E]
def wk2 : State := im 7 [(F.GLB_HL_CTL_BUSY, 1), (F.GLB_HL_LEN_LEN, 3)]
def wk3 : List Byte := [0x4E, 0x44, 0x5A, 0x4C]
def wk4 : State := im 7 [(F.GLB_BOOT_STAT_SOURCE, 2)]
def wk5 : State := im 9 [(F.GLB_BOOT_STAT_SOURCE, 2)]
def wk6 : State := im 7 [(F.GLB_BOOT_STAT_SOURCE, 1)]
def wk7 : State := im 7 [(F.GLB_HL_CTL_BUSY, 1)]
def wk8 : State := bd (im 8 [(F.GLB_STRAP_CODE, 1)])
def wk9 : State := im 9 [(F.GLB_RST_STAT_FWD_HELD, 1), (F.ROD_STAT_STATE 127, 1), (F.ROD_CTL_AUTOSTART 127, 1)]
def wk10 : State := { im 9 [(F.BKP_BOOT_PENDING, 1), (F.BKP_BOOT_TRIES, 1)] with boot := { since := some 5, arv := 7 }, tb := { fab := 60 * cycS + 5 } }
def wk11 : State := { im 9 with boot := { full := true, snapOk := true } }
def wk12 : State := im 7 [(F.GLB_BOOT_STAT_SOURCE, 3)]

/-- Hypotheses of ImageIsAcceptedOrAbandoned, clauses 1, 2, 3, 4, 5, 6. -/
theorem witness_ImageIsAcceptedOrAbandoned :
    ((State.getF wk0 F.GLB_RST_STAT_STAGE = 7) ∧ (wk0.boot.loaded = false) ∧ (State.releasing wk0 = true)
      ∧ (State.ddrSettled wk0 = true) ∧ (anyEnc wk1 = false) ∧ (anyEnc [] = false) ∧ (wk0.boot.snap = none)
      ∧ (State.isF wk0 F.GLB_HL_CTL_BUSY = true) ∧ (State.memReads wk0 = true)
      ∧ (List.length wk1 ≤ State.getF wk0 F.GLB_HL_LEN_LEN))
    ∧ ((State.getF wk2 F.GLB_RST_STAT_STAGE = 7) ∧ (wk2.boot.loaded = false) ∧ (State.releasing wk2 = true)
      ∧ (State.ddrSettled wk2 = true) ∧ (anyEnc wk3 = false) ∧ (anyEnc [] = false) ∧ (wk2.boot.snap = none)
      ∧ (State.isF wk2 F.GLB_HL_CTL_BUSY = true) ∧ (State.memReads wk2 = true)
      ∧ (beAt (List.take (State.getF wk2 F.GLB_HL_LEN_LEN) wk3) 0 4 ≠ 1313102412))
    ∧ ((State.getF wk4 F.GLB_RST_STAT_STAGE = 7) ∧ (State.isF wk4 F.GLB_HL_CTL_BUSY = false)
      ∧ (State.getF wk4 F.GLB_BOOT_STAT_SOURCE = 2))
    ∧ (State.getF wk5 F.GLB_RST_STAT_STAGE ≠ 7)
    ∧ ((State.getF wk6 F.GLB_RST_STAT_STAGE = 7) ∧ (State.isF wk6 F.GLB_HL_CTL_BUSY = false)
      ∧ (State.getF wk6 F.GLB_BOOT_STAT_SOURCE ≠ 2) ∧ (State.isF wk6 F.GLB_BOOT_STAT_BOOT_FAIL = false))
    ∧ ((State.getF wk7 F.GLB_RST_STAT_STAGE = 7) ∧ (State.isF wk7 F.GLB_HL_CTL_BUSY = true)) := by
  refine ⟨?_, ?_, ?_, ?_, ?_, ?_⟩ <;> decide +kernel

/-- Hypotheses of BootEndsInService, clauses 1, 2, 3, 4, 5, 6, 7. -/
theorem witness_BootEndsInService :
    ((State.releasing (bd (im 8)) = true) ∧ ((bd (im 8)).boot.loaded = true) ∧ ((bd (im 8)).boot.tested = true)
      ∧ (State.coresDone (bd (im 8)) = true) ∧ (bit (State.getF (bd (im 8)) F.GLB_STRAP_CODE) 0 = false))
    ∧ ((State.releasing wk8 = true) ∧ (wk8.boot.loaded = true) ∧ (wk8.boot.tested = true)
      ∧ (State.coresDone wk8 = true) ∧ (bit (State.getF wk8 F.GLB_STRAP_CODE) 0 = true)
      ∧ (State.isF wk8 F.GLB_START_FWD_GO = false))
    ∧ (State.serving (im 8) = false)
    ∧ ((State.serving wk9 = true) ∧ (State.isF wk9 F.GLB_RST_STAT_FWD_HELD = true) ∧ (127 < 128)
      ∧ (State.rodPresent wk9 127 = true) ∧ ((State.rod wk9 127).resetting = false)
      ∧ (State.rodState wk9 127 = 1) ∧ (State.isF wk9 (F.ROD_CTL_AUTOSTART 127) = true)
      ∧ (State.isF wk9 (F.ROD_CTL_PWM_EN 127) = false))
    ∧ ((State.serving wk10 = true) ∧ (State.isF wk10 F.BKP_BOOT_PENDING = true)
      ∧ (State.getF wk10 F.PWR_MODE_MODE < 2) ∧ (60 * cycS ≤ State.ranFor wk10))
    ∧ ((State.serving wk11 = true) ∧ (State.snapDue wk11 = true))
    ∧ ((State.getF wk12 F.GLB_RST_STAT_STAGE = 7) ∧ (wk12.boot.loaded = false) ∧ (wk12.boot.asking = false)
      ∧ (State.getF wk12 F.GLB_BOOT_STAT_SOURCE = 3) ∧ (State.isF wk12 F.GLB_HL_CTL_BUSY = false)
      ∧ (State.askAgain wk12 = true)) := by
  refine ⟨?_, ?_, ?_, ?_, ?_, ?_, ?_⟩ <;> decide +kernel

end image

namespace ring

def fr (h : EplenHdr) (body : List Byte) : List Byte :=
  List.replicate 14 0 ++ [0x4B, 0x10] ++ beBytes 1 h.msg ++ beBytes 1 (h.dir + 2 * b2n h.head) ++ beBytes 1 h.hopsLeft ++ beBytes 1 h.hopsDone
    ++ beBytes 2 body.length ++ beBytes 8 h.origin ++ body ++ [0, 0, 0, 0]
def busOn (s : State) : State := { s with host := { s.host with link := true, cfg := [(4, 2)] } }
def ep (l : List (Fld × Nat) := []) : State := busOn <| richW ([(F.RNG_STAT_EPLEN_EN, 1), (F.RNG_STAT_EPLEN_PAIR, 3), (F.SAF_PAIR_STAT_STATE 0, 1), (F.SAF_PAIR_STAT_STATE 1, 1), (F.RNG_SELF_TAG_LO_TAG, 77)] ++ l)
def hd (msg left done org : Nat) (dir : Nat := 0) : EplenHdr := { msg := msg, dir := dir, head := true, hopsLeft := left, hopsDone := done, origin := org }
def nb : List (Fld × Nat) := [(F.RNG_NBR_INFO_VALID 0, 1), (F.RNG_NBR_INFO_VALID 1, 1)]
def h1 := hd 1 0 0 (2 ^ 64 - 1)
def h2 := hd 0x3C 255 255 5
def h3 := hd 2 0 255 5 1
def pr (l : List (Fld × Nat) := []) : State := { ep (nb ++ l) with ring := { probing := true, ans := [(0, 1), (0, 2), (1, 1)] } }
def wn (h : Nat) (q : List Acc) (l : List (Fld × Nat) := []) : State := { ep ([(F.RNG_WIN_CFG_EN (h - 1), 1), (F.RNG_REACH_REACH0, 15), (F.RNG_WIN_SEQ_NEXT (h - 1), 2 ^ 32 - 1)] ++ l) with host := { link := true, cfg := [(4, 2)], wins := if q = [] then [] else [(h, { q := q })] } }
def ac (k c : Nat) : Acc := { rseq := 2 ^ 32 - 2, kind := k, off := 4, count := c, data := [7], sent := true }
def ha := hd 0x11 0 14 5 1
def bo : List Byte := [255, 255, 255, 254, 0, 1, 1, 2, 3, 4]
def he := hd 0x12 0 14 5 1
def eb : List Byte := [255, 255, 255, 254, 0x1F, 0xF5, 0xF3, 255, 255, 255, 255, 1, 2, 3, 4]
def hv := hd 0x20 0 14 5 1
def wl0 : State := ep [(F.PRT_MAC_STAT_LINK 6, 1), (F.PRT_MAC_STAT_LINK 7, 1)]
def wl1 : List Byte := fr h1 [1, 2, 255, 4]
def wl2 : List Byte := [1, 2, 255, 4]
def wl3 : State := ep (nb ++ [(F.RNG_REACH_CHANGES, 255)])
def wl4 : Instr := .ans 1 [1, 2]
def wl5 : List Byte := fr { h2 with origin := 77 } [9]
def wl6 : EplenHdr := { h2 with origin := 77 }
def wl7 : List Byte := fr { h3 with origin := 77 } [9]
def wl8 : EplenHdr := { h3 with origin := 77 }
def wl9 : List Byte := fr { h3 with msg := 3 } [9]
def wl10 : EplenHdr := { h3 with msg := 3 }
def wl11 : List Byte := fr { h3 with msg := 3 } [1]
def wl13 : State := wn 15 [] [(F.RNG_EVT_SUB_WIN, 2 ^ 14)]
def wl14 : State := ep [(F.RNG_REL_STAT_UNREAD, 31), (F.RNG_REL_STAT_WRITTEN, 255)]
def wl15 : State := wn 15 [ac 2 1]
def wl16 : State := wn 15 [ac 1 1] [(F.RNG_REL_STAT_UNREAD, 31)]
def wl17 : State := wn 15 [ac 2 1] [(F.RNG_REL_STAT_UNREAD, 31)]
def wl18 : State := wn 15 [] [(F.RNG_REL_STAT_UNREAD, 31), (F.RNG_REL_STAT_WRITTEN, 255)]
def wl19 : State := wn 15 [] [(F.RNG_REL_STAT_UNREAD, 32), (F.RNG_REL_STAT_LOST, 65534)]
def wl20 : State := ep [(F.DMA_EVR_CFG_EN, 1), (F.DMA_EVR_HEAD_HEAD, 65535), (F.DMA_EVR_TAIL_TAIL, 65000)]

/-- Hypotheses of NeighboursAndRelayedFrames, clauses 1, 2, 3, 4, 5, 6, 7, 8. -/
theorem witness_NeighboursAndRelayedFrames :
    ((State.eplenUp wl0 = true) ∧ (State.linkUp wl0 (State.eplenPort wl0 0) = true)
      ∧ (State.linkUp wl0 (State.eplenPort wl0 1) = true))
    ∧ ((State.eplenUp ep = true) ∧ (State.linkUp ep (State.eplenPort ep 0) = false)
      ∧ (State.linkUp ep (State.eplenPort ep 1) = false))
    ∧ ((1 < 2) ∧ (State.Got ep wl1 1 h1 wl2))
    ∧ ((1 < 2) ∧ (State.eplenUp wl3 = true) ∧ (State.hasNbr wl3 1 = true))
    ∧ ((State.eplenUp ep = true) ∧ (ep.host.held = []) ∧ (eplenParse [1, 2] = none)
      ∧ (wl4 ∈ [Instr.hello 1 [1, 2], Instr.probeReceived 1 [1, 2], Instr.probeAns 1 [1, 2], Instr.eplenRelay 1 [1, 2], Instr.event 1 [1, 2], Instr.ans 1 [1, 2], Instr.err 1 [1, 2]]))
    ∧ ((1 < 2) ∧ (60 ∈ eplenRelayed) ∧ (State.Got (ep nb) (fr h2 [9]) 60 h2 [9]) ∧ (0 < h2.hopsLeft)
      ∧ (h2.origin ≠ State.selfTag (ep nb)) ∧ (State.hasNbr (ep nb) (1 - 1) = true))
    ∧ ((60 ∈ eplenRelayed) ∧ (State.Got (ep nb) wl5 60 wl6 [9]) ∧ (0 < wl6.hopsLeft)
      ∧ (wl6.origin = State.selfTag (ep nb)))
    ∧ ((1 < 2) ∧ (60 ∈ eplenRelayed) ∧ (State.Got ep (fr h2 [9]) 60 h2 [9]) ∧ (0 < h2.hopsLeft)
      ∧ (h2.origin ≠ State.selfTag ep) ∧ (State.hasNbr ep (1 - 1) = false)) := by
  simp only [State.Got]
  refine ⟨?_, ?_, ?_, ?_, ?_, ?_, ?_, ?_⟩ <;> decide +kernel

/-- Hypotheses of ProbesFindTheRing, clauses 1, 2, 3, 4, 5. -/
theorem witness_ProbesFindTheRing :
    (State.eplenUp (ep nb) = true)
    ∧ ((1 < 2) ∧ (State.Got (ep nb) (fr h3 [9]) 2 h3 [9]) ∧ (h3.hopsLeft = 0) ∧ (h3.origin ≠ State.selfTag (ep nb)))
    ∧ ((State.Got pr wl7 2 wl8 [9]) ∧ (wl8.origin = State.selfTag pr) ∧ (pr.ring.probing = true))
    ∧ ((State.Got pr wl9 3 wl10 [9]) ∧ (wl10.hopsLeft = 0) ∧ (pr.ring.probing = true) ∧ (byteAt [9] 0 ≠ 1))
    ∧ ((State.Got pr wl11 3 wl10 [1]) ∧ (wl10.hopsLeft = 0) ∧ (pr.ring.probing = true) ∧ (byteAt [1] 0 = 1)) := by
  simp only [State.Got]
  refine ⟨?_, ?_, ?_, ?_, ?_⟩ <;> decide +kernel

/-- Hypotheses of RemoteAccessesLeaveAsRequests, clauses 1, 2, 3, 4, 5, 6, 7, 8, 9. -/
theorem witness_RemoteAccessesLeaveAsRequests :
    ((State.WinFree (wn 15 []) 15) ∧ (State.memOn (wn 15 []) = true) ∧ ((wn 15 []).host.held = [])
      ∧ ((2 ^ 19 - 4) % 4 = 0) ∧ (2 ^ 19 - 4 < 2 ^ 19))
    ∧ ((State.WinFree (wn 15 []) 15) ∧ (State.memOn (wn 15 []) = true) ∧ ((wn 15 []).host.held = [])
      ∧ ((2 ^ 19 - 4) % 4 = 0) ∧ (2 ^ 19 - 4 < 2 ^ 19))
    ∧ ((State.WinFree (wn 15 []) 15) ∧ (State.memOn (wn 15 []) = true) ∧ ((2 ^ 19 - 4) % 4 = 0)
      ∧ (2 ^ 19 - 4 < 2 ^ 19))
    ∧ ((State.WinFree (wn 15 []) 15) ∧ (State.memOn (wn 15 []) = true) ∧ ((2 ^ 19 - 4) % 4 = 0)
      ∧ (2 ^ 19 - 4 < 2 ^ 19))
    ∧ ((State.WinFree (wn 15 []) 15) ∧ (State.memOn (wn 15 []) = true) ∧ (State.serving (wn 15 []) = true))
    ∧ ((State.WinFree wl13 15) ∧ (State.getF wl13 F.RNG_EVT_SUB_WIN = 2 ^ (15 - 1)))
    ∧ (((wn 15 []).host.link = true) ∧ (2 < 3))
    ∧ (((wn 15 []).host.link = true) ∧ (64 ≠ 32))
    ∧ ((State.memOn wl14 = true) ∧ (wl14.host.held = []) ∧ (1 ≤ 15) ∧ (15 < 16)
      ∧ (State.winReaches wl14 15 = false) ∧ (State.ackQueued wl14 15 < 32)
      ∧ (State.getF wl14 F.RNG_REL_STAT_UNREAD < 32)) := by
  simp only [State.WinFree]
  refine ⟨?_, ?_, ?_, ?_, ?_, ?_, ?_, ?_, ?_⟩ <;> decide +kernel

/-- Hypotheses of RemoteAccessesEndOrAreRecorded, clauses 1, 2, 3, 4, 5, 6, 7. -/
theorem witness_RemoteAccessesEndOrAreRecorded :
    ((wl15.host.held = []) ∧ (State.Got wl15 (fr ha bo) 17 ha bo) ∧ (ha.hopsLeft = 0) ∧ (15 = ha.hopsDone + 1)
      ∧ (15 < 16) ∧ ((State.win wl15 15).q = [ac 2 1]) ∧ ((ac 2 1).sent = true) ∧ ((ac 2 1).rseq = beAt bo 0 4)
      ∧ ((ac 2 1).kind = 2) ∧ ((ac 2 1).count = 1) ∧ (State.winDir wl15 15 + ha.dir = 1) ∧ (byteAt bo 4 = 0)
      ∧ (byteAt bo 5 = 1))
    ∧ ((State.Got (wn 15 []) (fr ha bo) 17 ha bo) ∧ ((wn 15 []).host.held = []) ∧ (ha.hopsLeft = 0)
      ∧ (15 = ha.hopsDone + 1) ∧ (15 < 16) ∧ ((State.win (wn 15 []) 15).q = []))
    ∧ ((1 ≤ 15) ∧ (15 < 16) ∧ ((State.win wl16 15).q = [ac 1 1]) ∧ ((ac 1 1).sent = true) ∧ ((ac 1 1).kind = 1)
      ∧ (wl16.host.held = []) ∧ (State.getF wl16 F.RNG_REL_STAT_UNREAD < 32))
    ∧ ((1 ≤ 15) ∧ (15 < 16) ∧ ((State.win wl17 15).q = [ac 2 1]) ∧ ((ac 2 1).sent = true) ∧ ((ac 2 1).kind = 2)
      ∧ ((ac 2 1).count = 1) ∧ (wl17.host.held = []) ∧ (State.getF wl17 F.RNG_REL_STAT_UNREAD < 32))
    ∧ ((State.Got wl18 (fr he eb) 18 he eb) ∧ (he.hopsLeft = 0) ∧ (byteAt eb 4 % 16 ≠ 0)
      ∧ (State.getF wl18 F.RNG_REL_STAT_UNREAD < 32) ∧ (31 = State.getF wl18 F.RNG_REL_STAT_WRITTEN % 32))
    ∧ ((State.Got wl19 (fr he eb) 18 he eb) ∧ (he.hopsLeft = 0) ∧ (byteAt eb 4 % 16 ≠ 0)
      ∧ (State.getF wl19 F.RNG_REL_STAT_UNREAD = 32) ∧ (State.getF wl19 F.RNG_REL_STAT_LOST < 65535))
    ∧ ((State.serving wl19 = true) ∧ (State.getF wl19 F.RNG_REL_STAT_UNREAD ≤ 32)) := by
  simp only [State.Got]
  refine ⟨?_, ?_, ?_, ?_, ?_, ?_, ?_⟩ <;> decide +kernel

/-- Hypotheses of FarContextsSubscribersAndEvents, clauses 3, 4. -/
theorem witness_FarContextsSubscribersAndEvents :
    ((State.Got wl20 (fr hv eb) 32 hv eb) ∧ (hv.hopsLeft = 0) ∧ (State.isF wl20 F.DMA_EVR_CFG_EN = true)
      ∧ ((State.getF wl20 F.DMA_EVR_HEAD_HEAD + 2 ^ 16 - State.getF wl20 F.DMA_EVR_TAIL_TAIL) % 2 ^ 16 ≠ 1024))
    ∧ ((State.Got ep (fr hv eb) 32 hv eb) ∧ (hv.hopsLeft = 0) ∧ (State.isF ep F.DMA_EVR_CFG_EN = false)) := by
  simp only [State.Got]
  refine ⟨?_, ?_⟩ <;> decide +kernel

end ring

namespace update

def fr (h : EplenHdr) (body : List Byte) : List Byte :=
  List.replicate 14 0 ++ [0x4B, 0x10] ++ beBytes 1 h.msg ++ beBytes 1 (h.dir + 2 * b2n h.head) ++ beBytes 1 h.hopsLeft ++ beBytes 1 h.hopsDone
    ++ beBytes 2 body.length ++ beBytes 8 h.origin ++ body ++ [0, 0, 0, 0]
def hd (msg left done org : Nat) (dir : Nat := 0) : EplenHdr := { msg := msg, dir := dir, head := true, hopsLeft := left, hopsDone := done, origin := org }
def ud (l : List (Fld × Nat)) (u : Update := {}) (b : Boot := { src := 0, stageMib := 16 }) : State :=
  { richW ([(F.RNG_STAT_EPLEN_EN, 1), (F.RNG_STAT_EPLEN_PAIR, 3), (F.SAF_PAIR_STAT_STATE 0, 1), (F.SAF_PAIR_STAT_STATE 1, 1), (F.RNG_SELF_TAG_LO_TAG, 77),
   (F.MEM_STAT_PRESENT, 1), (F.MEM_STAT_TRAINED, 1), (F.MEM_STAT_SIZE, 8), (F.UPD_SESSION_SESSION, 0x01020304)] ++ l) with upd := u, boot := b, host := { link := true, cfg := [(4, 6)] } }
def hs : List (Fld × Nat) := [(F.UPD_STAT_STATE, 3), (F.TIM_STAT_SYNCED, 1), (F.GLB_STRAP_CODE, 2), (F.RNG_REACH_REACH0, 1)]
def ho := hd 0x31 0 0 5 1
def ob : List Byte := beBytes 4 5 ++ beBytes 4 16777216 ++ beBytes 2 4096 ++ beBytes 48 7
def ob2 : List Byte := beBytes 4 0x01020304 ++ beBytes 4 16777216 ++ beBytes 2 4096 ++ beBytes 48 7
def hp := hd 0x32 0 0 5 1
def pb (st : Nat) : List Byte := beBytes 4 9 ++ beBytes 1 st
def hq := hd 0x30 0 0 5 1
def hb := hd 0x33 0 0 5 1
def bb (k : Nat) (data : List Byte) (bad : Nat := 0) : List Byte := beBytes 4 0x01020304 ++ beBytes 2 k ++ beBytes 2 data.length ++ beBytes 4 (crc32c data + bad) ++ data
def hk := hd 0x34 0 0 5 1
def kb : List Byte := beBytes 4 0x01020304 ++ beBytes 2 1 ++ beBytes 2 0
def hl := hd 0x38 0 3 5 1
def hvo := hd 0x39 0 14 5 1
def vb (st c : Nat) : List Byte := beBytes 4 0x01020304 ++ beBytes 1 st ++ beBytes 1 c
def hm := hd 0x3A 0 14 5 1
def mb : List Byte := beBytes 4 0x01020304 ++ beBytes 6 (2 ^ 48 - 1) ++ beBytes 4 (2 ^ 32 - 1)
def hn := hd 0x3B 0 14 5 1
def ar : List (Fld × Nat) := [(F.UPD_STAT_STATE, 4), (F.GLB_STRAP_CODE, 2), (F.RNG_REACH_REACH0, 1)]
def wm0 : State := ud [(F.UPD_HOST_LEN_LEN, 5000)]
def wm2 : State := { ud [(F.UPD_HOST_LEN_LEN, 5000)] with host := {} }
def wm3 : State := ud [(F.UPD_STAT_STATE, 6)]
def wm4 : State := ud [(F.UPD_STAT_STATE, 3), (F.RNG_NBR_INFO_VALID 0, 1)] { here := true, len := 5000 }
def wm5 : State := ud hs { votes := [(77, 3, 0), (5, 3, 0)] } { params := [(0x28, [0])] }
def wm6 : State := ud [(F.RNG_REACH_REACH0, 1)]
def wm7 : State := ud hs { votes := [(77, 3, 0), (5, 3, 0)], held := [0], active := [1, 2] }
def wm8 : State := ud [(F.UPD_STAT_STATE, 6), (F.UPD_PROGRESS_NBLK, 9), (F.UPD_VOTES_FAIL_STATUS, 4)]
def wm9 : State := ud [(F.UPD_STAT_STATE, 1)]
def wm10 : State := ud [(F.UPD_STAT_STATE, 4)]
def wm11 : State := ud [(F.UPD_STAT_STATE, 1), (F.UPD_PROGRESS_NBLK, 1)] { len := 3, held := [0], flows := [(1, { state := 1, session := 9 })] }
def wm12 : State := ud [] { flows := [(1, { state := 1, session := 9 })] }
def wm13 : State := ud [] { active := [1, 2, 3] }
def wm14 : State := ud [(F.UPD_STAT_STATE, 1), (F.UPD_PROGRESS_NBLK, 2)] { len := 4098, rxDir := some 1 }
def wm15 : List Byte := fr hb (bb 1 [8, 9])
def wm16 : State := ud [(F.UPD_STAT_STATE, 1), (F.UPD_PROGRESS_NBLK, 1)] { len := 2, rxDir := some 1 }
def wm17 : List Byte := fr hb (bb 0 [8, 9])
def wm18 : List Byte := fr hb (bb 0 [8, 9] 1)
def wm19 : List Byte := bb 0 [8, 9] 1
def wm20 : State := ud [(F.UPD_STAT_STATE, 1), (F.UPD_PROGRESS_NBLK, 1)] { flows := [(1, { state := 2, session := 0x01020304, sent := [0], open_ := [(0, 0)] })] }
def wm21 : State := ud [(F.UPD_STAT_STATE, 1), (F.UPD_PROGRESS_NBLK, 1)] { len := 2, held := [0], flows := [(1, { state := 2, session := 0x01020304, sent := [0], open_ := [(0, 7)] })] }
def wm22 : State := ud [(F.UPD_STAT_STATE, 1), (F.UPD_PROGRESS_NBLK, 1)] { len := 2, held := [0], flows := [(1, { state := 2, session := 0x01020304, sent := [0], open_ := [(0, 8)] })] }
def wm23 : State := ud [(F.UPD_STAT_STATE, 1)] { rxDir := some 1, held := [3] }
def wm24 : State := ud [(F.UPD_STAT_STATE, 2)] { held := [3] }
def wm25 : State := ud [(F.UPD_STAT_STATE, 1), (F.RNG_REACH_REACH0, 1), (F.GLB_STRAP_CODE, 2)]
def wm26 : List Byte := fr hl (beBytes 4 0x01020304)
def wm27 : List Byte := beBytes 4 0x01020304
def wm28 : List Byte := fr hvo (vb 3 0)
def wm29 : List Byte := fr hvo (vb 6 7)
def wm30 : State := ud hs { votes := [(77, 3, 0)], held := [3] }
def wm31 : State := ud [(F.UPD_STAT_STATE, 3)]
def wm32 : State := ud ((F.UPD_ACT_SL_T_ACT, 1000) :: ar) { arming := true, armed := [77] }
def wm33 : State := ud ar { arming := true, armed := [77] }
def wm34 : List Byte := fr { hn with msg := 0x3C } mb
def wm35 : EplenHdr := { hn with msg := 0x3C }
def wm36 : State := ud ar { arming := true, armed := [77, 5], commits := 2 }
def wm37 : State := ud ar { commit := true, len := 2, held := [0] }
def wm38 : State := ud ar { len := 2, held := [0], arming := true }
def wm39 : State := ud ar { len := 2, held := [0] }
def wm40 : List Byte := fr { hn with msg := 0x3D } mb
def wm41 : EplenHdr := { hn with msg := 0x3D }
def wm42 : State := ud [] { len := 2, held := [0] }

/-- Hypotheses of UpdateCommandsMoveTheSession, clauses 1, 2, 3, 4, 5, 6, 7, 8, 9, 10. -/
theorem witness_UpdateCommandsMoveTheSession :
    (State.UpdTakes (ud []))
    ∧ ((State.UpdTakes wm0) ∧ (State.updState wm0 = 0) ∧ (State.canStage wm0 = true)
      ∧ (State.ddrStage wm0 = true) ∧ (State.memReads wm0 = true) ∧ (State.getF wm0 F.UPD_HOST_LEN_LEN ≤ 16777216))
    ∧ ((State.UpdTakes wm2) ∧ (State.updState wm2 = 0) ∧ (State.canStage wm2 = true) ∧ (State.memReads wm2 = false))
    ∧ ((State.UpdTakes wm3) ∧ (State.updState wm3 ≠ 0))
    ∧ ((State.UpdTakes wm4) ∧ (State.updState wm4 = 3) ∧ (wm4.upd.here = true) ∧ (State.eplenUp wm4 = true)
      ∧ (State.hasNbr wm4 0 = true) ∧ (State.hasNbr wm4 1 = false))
    ∧ ((State.UpdTakes wm5) ∧ (State.actsHead wm5 = true) ∧ (State.param wm5 40 1 = 0)
      ∧ (State.mayArm wm5 = true) ∧ (wm5.upd.arming = false) ∧ (State.ringDevices wm5 ≤ State.stagedVotes wm5))
    ∧ ((State.UpdTakes wm6) ∧ (State.actsHead wm6 = false))
    ∧ ((State.UpdTakes wm7) ∧ (State.inSession wm7 = true))
    ∧ ((State.UpdTakes (ud [])) ∧ (State.inSession (ud []) = false))
    ∧ ((State.UpdTakes wm8) ∧ (State.updState wm8 = 6)) := by
  simp only [State.UpdTakes]
  refine ⟨?_, ?_, ?_, ?_, ?_, ?_, ?_, ?_, ?_, ?_⟩ <;> decide +kernel

/-- Hypotheses of OffersBeginSessionsAndFlows, clauses 1, 2, 3, 4, 5, 6, 7, 8, 9. -/
theorem witness_OffersBeginSessionsAndFlows :
    ((1 < 2) ∧ (State.UpdGot (ud []) (fr ho ob) 49 ho ob) ∧ (State.updState (ud []) = 0)
      ∧ (State.canStage (ud []) = true) ∧ (beAt ob 4 4 ≤ 16777216) ∧ (beAt ob 4 4 ≠ 0)
      ∧ (beAt ob 8 2 = ceilDiv (beAt ob 4 4) 4096))
    ∧ ((1 < 2) ∧ (State.UpdGot wm9 (fr ho ob) 49 ho ob) ∧ (State.inSession wm9 = true)
      ∧ (State.session wm9 ≠ beAt ob 0 4))
    ∧ ((1 < 2) ∧ (State.UpdGot wm10 (fr ho ob2) 49 ho ob2) ∧ (State.inSession wm10 = true)
      ∧ (State.session wm10 = beAt ob2 0 4))
    ∧ ((1 < 2) ∧ (State.UpdGot wm11 (fr hp (pb 0)) 50 hp (pb 0)) ∧ ((State.flow wm11 1).state = 1)
      ∧ ((State.flow wm11 1).session = beAt (pb 0) 0 4) ∧ ((State.flow wm11 1).serve = false)
      ∧ ((State.flow wm11 1).sent = []) ∧ ((State.flow wm11 1).open_ = []) ∧ (byteAt (pb 0) 4 = 0)
      ∧ (State.getF wm11 F.UPD_PROGRESS_NBLK = 1) ∧ (wm11.upd.held = [0]) ∧ (State.eplenPort wm11 1 < 8)
      ∧ (State.ethPresent wm11 (State.eplenPort wm11 1) = true))
    ∧ ((1 < 2) ∧ (State.UpdGot wm12 (fr hp (pb 1)) 50 hp (pb 1)) ∧ ((State.flow wm12 1).state = 1)
      ∧ ((State.flow wm12 1).session = beAt (pb 1) 0 4) ∧ (byteAt (pb 1) 4 = 1))
    ∧ ((1 < 2) ∧ (State.UpdGot wm12 (fr hp (pb 2)) 50 hp (pb 2)) ∧ ((State.flow wm12 1).state = 1)
      ∧ ((State.flow wm12 1).session = beAt (pb 2) 0 4) ∧ (1 < byteAt (pb 2) 4)
      ∧ ((State.flow wm12 1).serve = false) ∧ (wm12.upd.nbrFail = none))
    ∧ ((1 < 2) ∧ ((State.flow wm12 1).state = 1) ∧ ((State.flow wm12 1).serve = false) ∧ (wm12.upd.nbrFail = none))
    ∧ ((1 < 2) ∧ (State.UpdGot (ud []) (fr hq []) 48 hq []) ∧ ((ud []).upd.active = []))
    ∧ ((0 < 2) ∧ (State.UpdGot wm13 (fr hq []) 48 hq []) ∧ (wm13.upd.active ≠ [])) := by
  simp only [State.UpdGot, State.Got]
  refine ⟨?_, ?_, ?_, ?_, ?_, ?_, ?_, ?_, ?_⟩ <;> decide +kernel

/-- Hypotheses of BlocksCrossOneHop, clauses 1, 2, 3, 4, 5, 6, 7. -/
theorem witness_BlocksCrossOneHop :
    ((1 < 2) ∧ (State.UpdGot wm14 wm15 51 hb (bb 1 [8, 9])) ∧ (State.updState wm14 = 1)
      ∧ (beAt (bb 1 [8, 9]) 0 4 = State.session wm14) ∧ (wm14.upd.rxDir = some 1)
      ∧ (beAt (bb 1 [8, 9]) 4 2 = 1) ∧ (beAt (bb 1 [8, 9]) 6 2 = 2)
      ∧ (List.length (List.take 2 (List.drop 12 (bb 1 [8, 9]))) = 2)
      ∧ (crc32c (List.take 2 (List.drop 12 (bb 1 [8, 9]))) = beAt (bb 1 [8, 9]) 8 4)
      ∧ (1 < State.getF wm14 F.UPD_PROGRESS_NBLK) ∧ (1 < State.getF wm14 F.UPD_PROGRESS_NBLK)
      ∧ (2 = min 4096 (wm14.upd.len - 4096 * 1)) ∧ (wm14.upd.held = [])
      ∧ (State.isF wm14 F.UPD_STAT_NOR_STAGE = false) ∧ (State.hasNbr wm14 (1 - 1) = false))
    ∧ ((1 < 2) ∧ (State.UpdGot wm16 wm17 51 hb (bb 0 [8, 9])) ∧ (State.updState wm16 = 1)
      ∧ (beAt (bb 0 [8, 9]) 0 4 = State.session wm16) ∧ (wm16.upd.rxDir = some 1)
      ∧ (beAt (bb 0 [8, 9]) 4 2 = 0) ∧ (beAt (bb 0 [8, 9]) 6 2 = 2)
      ∧ (List.length (List.take 2 (List.drop 12 (bb 0 [8, 9]))) = 2)
      ∧ (crc32c (List.take 2 (List.drop 12 (bb 0 [8, 9]))) = beAt (bb 0 [8, 9]) 8 4)
      ∧ (State.getF wm16 F.UPD_PROGRESS_NBLK = 1) ∧ (2 = min 4096 wm16.upd.len) ∧ (wm16.upd.held = [])
      ∧ (State.hasNbr wm16 (1 - 1) = false))
    ∧ ((1 < 2) ∧ (State.UpdGot wm16 wm18 51 hb wm19) ∧ (State.updState wm16 = 1)
      ∧ (beAt wm19 0 4 = State.session wm16) ∧ (wm16.upd.rxDir = some 1)
      ∧ (crc32c (List.take (beAt wm19 6 2) (List.drop 12 wm19)) ≠ beAt wm19 8 4))
    ∧ ((1 < 2) ∧ (State.UpdGot wm20 (fr hk kb) 52 hk kb) ∧ ((State.flow wm20 1).state = 2)
      ∧ ((State.flow wm20 1).session = beAt kb 0 4) ∧ ((State.flow wm20 1).serve = false)
      ∧ ((State.flow wm20 1).sent = [0]) ∧ ((State.flow wm20 1).open_ = [(0, 0)]) ∧ (beAt kb 4 2 = 1)
      ∧ (State.getF wm20 F.UPD_PROGRESS_NBLK = 1))
    ∧ ((1 < 2) ∧ (State.updUp wm21 = true) ∧ ((State.flow wm21 1).state = 2)
      ∧ ((State.flow wm21 1).serve = false) ∧ ((State.flow wm21 1).open_ = [(0, 7)]) ∧ (7 < 8)
      ∧ (0 ∈ wm21.upd.held) ∧ (State.eplenPort wm21 1 < 8) ∧ (State.ethPresent wm21 (State.eplenPort wm21 1) = true))
    ∧ ((1 < 2) ∧ (State.updUp wm22 = true) ∧ ((State.flow wm22 1).state = 2)
      ∧ ((State.flow wm22 1).serve = false) ∧ ((State.flow wm22 1).open_ = [(0, 8)]) ∧ (wm22.upd.nbrFail = none))
    ∧ ((State.updState wm23 = 1) ∧ (wm23.upd.rxDir = some 1)) := by
  simp only [State.UpdGot, State.Got]
  refine ⟨?_, ?_, ?_, ?_, ?_, ?_, ?_⟩ <;> decide +kernel

/-- Hypotheses of VotesDecideTheSession, clauses 1, 2, 3, 4, 5, 6. -/
theorem witness_VotesDecideTheSession :
    ((State.updState wm24 = 2) ∧ (State.pairUp wm24 1 = true))
    ∧ ((State.updUp wm25 = true) ∧ (State.actsHead wm25 = true) ∧ (State.updState wm25 = 1)
      ∧ (wm25.boot.src ≠ 2) ∧ (wm25.upd.nbrFail = none) ∧ (wm25.upd.rejected = false) ∧ (wm25.upd.votes = [])
      ∧ (State.isF wm25 F.RNG_STAT_CLOSED = false) ∧ (State.isF wm25 F.RNG_STAT_MULTI_HEAD = false)
      ∧ (State.getF wm25 F.RNG_REACH_REACH0 = 1) ∧ (State.getF wm25 F.RNG_REACH_REACH1 = 0))
    ∧ ((1 < 2) ∧ (State.UpdGot wm9 wm26 56 hl wm27) ∧ (hl.hopsLeft = 0))
    ∧ ((State.UpdGot (ud hs) wm28 57 hvo (vb 3 0)) ∧ (hvo.hopsLeft = 0) ∧ (State.actsHead (ud hs) = true)
      ∧ (State.inSession (ud hs) = true) ∧ (beAt (vb 3 0) 0 4 = State.session (ud hs))
      ∧ (byteAt (vb 3 0) 4 = 3) ∧ (byteAt (vb 3 0) 5 = 0) ∧ ((ud hs).upd.votes = [])
      ∧ (State.isF (ud hs) F.RNG_STAT_MULTI_HEAD = false) ∧ (State.ringDevices (ud hs) = 2))
    ∧ ((State.UpdGot (ud hs) wm29 57 hvo (vb 6 7)) ∧ (hvo.hopsLeft = 0) ∧ (State.actsHead (ud hs) = true)
      ∧ (State.inSession (ud hs) = true) ∧ (beAt (vb 6 7) 0 4 = State.session (ud hs))
      ∧ (byteAt (vb 6 7) 4 = 6) ∧ (State.getF (ud hs) F.UPD_VOTES_FAIL_STATUS = 0))
    ∧ ((State.updUp wm30 = true) ∧ (State.actsHead wm30 = true) ∧ (State.inSession wm30 = true)
      ∧ (wm30.upd.arming = false) ∧ (wm30.upd.votes ≠ []) ∧ (State.stagedVotes wm30 < State.ringDevices wm30)) := by
  simp only [State.UpdGot, State.Got]
  refine ⟨?_, ?_, ?_, ?_, ?_, ?_⟩ <;> decide +kernel

/-- Hypotheses of ArmedDevicesActivateTogether, clauses 1, 2, 3, 4, 5, 6, 7, 8, 9, 10. -/
theorem witness_ArmedDevicesActivateTogether :
    ((1 < 2) ∧ (State.UpdGot (ud hs) (fr hm mb) 58 hm mb) ∧ (hm.hopsLeft = 0)
      ∧ (beAt mb 0 4 = State.session (ud hs)) ∧ (State.mayArm (ud hs) = true))
    ∧ ((1 < 2) ∧ (State.UpdGot wm31 (fr hm mb) 58 hm mb) ∧ (hm.hopsLeft = 0) ∧ (State.updState wm31 ≠ 4)
      ∧ (State.mayArm wm31 = false))
    ∧ ((State.UpdGot wm32 (fr hn mb) 59 hn mb) ∧ (hn.hopsLeft = 0) ∧ (wm32.upd.arming = true)
      ∧ (wm32.upd.commits = 0) ∧ (beAt mb 0 4 = State.session wm32) ∧ (State.ringDevices wm32 = 2)
      ∧ (wm32.upd.armed = [State.selfTag wm32]) ∧ (hn.origin ≠ State.selfTag wm32) ∧ (State.beforeGuard wm32 = true))
    ∧ ((State.updUp wm33 = true) ∧ (wm33.upd.arming = true) ∧ (wm33.upd.commits = 0)
      ∧ (State.inSession wm33 = true) ∧ (State.beforeGuard wm33 = false)
      ∧ (List.length wm33.upd.armed < State.ringDevices wm33))
    ∧ ((State.UpdGot (ud ar) wm34 60 wm35 mb) ∧ (wm35.hopsLeft = 0) ∧ (beAt mb 0 4 = State.session (ud ar))
      ∧ (State.updState (ud ar) = 4))
    ∧ ((State.updUp wm36 = true) ∧ (wm36.upd.arming = true) ∧ (1 ≤ wm36.upd.commits) ∧ (wm36.upd.commits < 3)
      ∧ (State.getF wm36 F.RNG_REACH_REACH0 = 1) ∧ (State.getF wm36 F.RNG_REACH_REACH1 = 0))
    ∧ ((State.updState wm37 = 4) ∧ (State.pairUp wm37 1 = true) ∧ (wm37.upd.commit = true)
      ∧ (wm37.boot.src ≠ 3) ∧ (State.powerMode wm37 < 2) ∧ (State.tAct wm37 ≤ wm37.tb.clk))
    ∧ ((State.updState wm38 = 4) ∧ (State.pairUp wm38 1 = true) ∧ (wm38.upd.commit = false)
      ∧ (State.tAct wm38 ≤ wm38.tb.clk))
    ∧ ((State.UpdGot wm39 wm40 61 wm41 mb) ∧ (wm41.hopsLeft = 0) ∧ (beAt mb 0 4 = State.session wm39)
      ∧ (State.inSession wm39 = true))
    ∧ ((State.UpdGot wm42 wm40 61 wm41 mb) ∧ (wm41.hopsLeft = 0) ∧ (State.inSession wm42 = false)) := by
  simp only [State.UpdGot, State.Got]
  refine ⟨?_, ?_, ?_, ?_, ?_, ?_, ?_, ?_, ?_, ?_⟩ <;> decide +kernel

end update

namespace bridge

def busOn (s : State) : State := { s with host := { s.host with link := true, cfg := [(4, 6)] } }
def hw (l : List (Fld × Nat)) : State := busOn <| richW ([(F.SAF_PAIR_STAT_STATE 0, 1), (F.SAF_PAIR_STAT_STATE 1, 1), (F.SAF_PLANE_STAT_STATE_A, 1), (F.SAF_PLANE_STAT_STATE_B, 1), (F.MEM_STAT_PRESENT, 1), (F.MEM_STAT_TRAINED, 1), (F.MEM_STAT_SIZE, 8)] ++ l)
def qn : List (Fld × Nat) := [(F.DMA_Q_CFG_EN 63, 1), (F.DMA_Q_CFG_SIZE_LOG2 63, 3), (F.DMA_Q_STAT_HEAD 63, 65535)]
def de (len : Nat) : List Byte := leBytes 8 0 ++ leBytes 4 (len + len * 2 ^ 16) ++ leBytes 4 0 ++ leBytes 16 0
def rn (it : Item) (l : List (Fld × Nat)) : State := { hw ([(F.DMA_RXMAP_BASE 7, 63)] ++ l) with dp := { rich.dp with items := [(1, some it)], queues := [(qkey 34 7, [{ item := 1 }])] } }
def ir (v src n : Nat) (l : List (Fld × Nat)) : State := { hw ([(F.DMA_IRQ_MAP_EN src, 1), (F.DMA_IRQ_MAP_VEC src, v), (F.MSIX_DATA_DATA v, 77)] ++ l) with host := { irq := [(src, (n, 0))] } }
def wn0 : State := hw [(F.DMA_Q_STAT_HEAD 127, 65530), (F.DMA_Q_CFG_SIZE_LOG2 127, 3)]
def wn1 : State := hw [(F.DMA_Q_STAT_HEAD 63, 65530), (F.DMA_Q_CFG_SIZE_LOG2 63, 3)]
def wn2 : State := hw [(F.DMA_Q_STAT_HEAD 127, 65530), (F.DMA_Q_ERR_STOPPED 127, 1), (F.DMA_Q_CFG_EN 127, 0)]
def wn3 : State := hw [(F.DMA_Q_STAT_HEAD 63, 65530), (F.DMA_Q_CFG_EN 63, 1)]
def wn4 : State := hw [(F.DMA_Q_CFG_EN 64, 1)]
def wn5 : List Byte := List.replicate 64 5
def wn6 : State := rn it0 [(F.DMA_Q_CFG_EN 127, 1), (F.DMA_Q_STAT_TAIL 127, 1)]
def wn7 : QRef := { item := 1 }
def wn8 : State := rn it0 [(F.DMA_Q_CFG_EMPTY_ACT 127, 1)]
def wn9 : State := ir 255 130 1 [(F.MSIX_CTL_MASK 255, 0), (F.DMA_IRQ_MAP_MOD_COUNT 130, 1)]
def wn10 : State := ir 255 130 1 [(F.MSIX_CTL_MASK 255, 1), (F.DMA_IRQ_MAP_MOD_COUNT 130, 1)]
def wn11 : State := hw [(F.MSIX_PBA_PENDING 7, 2 ^ 31)]
def wn12 : State := hw [(F.DMA_B2_BASE_BASE, 3)]
def wn13 : State := hw [(F.DMA_B2_BASE_BASE, 497), (F.TRC_STAT_STATE, 2), (F.TRC_REGION_SIZE, 8191)]
def wn14 : State := hw [(F.DMA_B2_BASE_BASE, 497)]

/-- Hypotheses of QueuesStartRunAndStop, clauses 1, 2, 3, 4, 5. -/
theorem witness_QueuesStartRunAndStop :
    ((127 < 128) ∧ (State.serving wn0 = true) ∧ ((2 % 2 ^ 16 + 2 ^ 16 - State.getF wn0 (F.DMA_Q_STAT_HEAD 127)) % 2 ^ 16 ≤ 2 ^ State.getF wn0 (F.DMA_Q_CFG_SIZE_LOG2 127)))
    ∧ ((63 < 64) ∧ (State.serving wn1 = true) ∧ (2 ^ State.getF wn1 (F.DMA_Q_CFG_SIZE_LOG2 63) < (3 % 2 ^ 16 + 2 ^ 16 - State.getF wn1 (F.DMA_Q_STAT_HEAD 63)) % 2 ^ 16))
    ∧ ((127 < 128) ∧ (State.serving wn2 = true) ∧ (State.isF wn2 (F.DMA_Q_CFG_EN 127) = false) ∧ (3 ≤ 12) ∧ (12 ≤ 12))
    ∧ ((63 < 64) ∧ (State.serving wn3 = true) ∧ (State.isF wn3 (F.DMA_Q_CFG_EN 63) = true) ∧ (24 % 2 = 0))
    ∧ ((64 < 128) ∧ (State.isF wn4 (F.DMA_Q_CFG_EN 64) = true) ∧ (1 ≤ 5) ∧ (5 ≤ 5)) := by
  refine ⟨?_, ?_, ?_, ?_, ?_⟩ <;> decide +kernel

/-- Hypotheses of DescriptorsMoveItems, clauses 1, 2, 3, 4. -/
theorem witness_DescriptorsMoveItems :
    ((State.receives (hw qn) = true) ∧ (State.txQueue (hw qn) = some 63) ∧ (63 < 64)
      ∧ (bits (leAt (de 64) 8 4) 0 15 = 64) ∧ (bits (leAt (de 64) 8 4) 16 15 = 64)
      ∧ (bits (leAt (de 64) 12 4) 0 2 = 0) ∧ (Option.isSome (State.claim (hw qn) 34 (beadsOf (List.length (padTo 64 wn5 ++ fcsOf (padTo 64 wn5))))) = true) ∧ (State.anyPlane (hw qn) = true) ∧ ((hw qn).dp.held = false))
    ∧ ((State.receives (hw qn) = true) ∧ (State.txQueue (hw qn) = some 63) ∧ (63 < 64)
      ∧ (bits (leAt (de 0) 8 4) 0 15 = 0))
    ∧ ((7 < 8) ∧ (State.serving wn6 = true) ∧ (State.getF wn6 F.PWR_MODE_MODE < 2)
      ∧ (State.queue wn6 34 7 = [wn7]) ∧ (∀ (k : Nat), k < 8 → k ≠ 7 → State.queue wn6 34 k = [])
      ∧ (State.item wn6 wn7.item = some it0) ∧ (it0.complete = true) ∧ (it0.isRod = false) ∧ (it0.refs = 1)
      ∧ (127 = State.rxQueue wn6 7 it0) ∧ (State.qPending wn6 127 ≠ 0) ∧ (60 < 2 ^ 14) ∧ (60 ≠ 0)
      ∧ (Item.len it0 - 4 ≤ 60))
    ∧ ((7 < 8) ∧ (State.serving wn8 = true) ∧ (State.getF wn8 F.PWR_MODE_MODE < 2)
      ∧ (State.queue wn8 34 7 = [wn7]) ∧ (∀ (k : Nat), k < 8 → k ≠ 7 → State.queue wn8 34 k = [])
      ∧ (State.item wn8 wn7.item = some it0) ∧ (it0.complete = true) ∧ (it0.refs = 1)
      ∧ (127 = State.rxQueue wn8 7 it0) ∧ (State.qPending wn8 127 = 0)
      ∧ (State.isF wn8 (F.DMA_Q_CFG_EMPTY_ACT 127) = true)) := by
  refine ⟨?_, ?_, ?_, ?_⟩ <;> decide +kernel

/-- Hypotheses of InterruptsWindowAndPerst, clauses 1, 2, 3, 4, 5, 6. -/
theorem witness_InterruptsWindowAndPerst :
    ((130 < 131) ∧ ((sget (fun _ => (0, 0)) wn9.host.irq 130).fst ≠ 0)
      ∧ (State.isF wn9 (F.DMA_IRQ_MAP_EN 130) = true) ∧ (State.getF wn9 (F.DMA_IRQ_MAP_MOD_COUNT 130) ≤ (sget (fun _ => (0, 0)) wn9.host.irq 130).fst) ∧ (State.msixMasked wn9 (State.getF wn9 (F.DMA_IRQ_MAP_VEC 130)) = false))
    ∧ ((130 < 131) ∧ (255 < 256) ∧ ((sget (fun _ => (0, 0)) wn10.host.irq 130).fst ≠ 0)
      ∧ (State.isF wn10 (F.DMA_IRQ_MAP_EN 130) = true) ∧ (State.getF wn10 (F.DMA_IRQ_MAP_MOD_COUNT 130) ≤ (sget (fun _ => (0, 0)) wn10.host.irq 130).fst) ∧ (State.getF wn10 (F.DMA_IRQ_MAP_VEC 130) = 255) ∧ (State.msixMasked wn10 255 = true))
    ∧ ((255 < 256) ∧ (State.funcMask wn11 = false) ∧ (bit (State.getF wn11 (F.MSIX_PBA_PENDING (255 / 32))) (255 % 32) = true))
    ∧ ((State.ddrUp wn12 = true) ∧ (State.memOn wn12 = true) ∧ (wn12.host.held = []) ∧ (251658239 < 251658240)
      ∧ (∀ (i : Nat), i < List.length [7, 8] → State.b2Forbidden wn12 (State.b2Addr wn12 251658239 + i) = false))
    ∧ ((State.ddrUp wn13 = true) ∧ (State.memOn wn13 = true) ∧ (wn13.host.held = []) ∧ (251658239 < 251658240)
      ∧ (1 < List.length [7, 8]) ∧ (State.b2Forbidden wn13 (State.b2Addr wn13 251658239 + 1) = true))
    ∧ ((State.memOn wn14 = true) ∧ (State.ddrUp wn14 = true) ∧ (251658236 + 4 ≤ 251658240)
      ∧ (State.b2Addr wn14 251658236 + 4 ≤ State.ddrBytes wn14) ∧ (251658236 < 268435456)) := by
  refine ⟨?_, ?_, ?_, ?_, ?_, ?_⟩ <;> decide +kernel

end bridge

namespace bus

def fr (h : EplenHdr) (body : List Byte) : List Byte :=
  List.replicate 14 0 ++ [0x4B, 0x10] ++ beBytes 1 h.msg ++ beBytes 1 (h.dir + 2 * b2n h.head) ++ beBytes 1 h.hopsLeft ++ beBytes 1 h.hopsDone
    ++ beBytes 2 body.length ++ beBytes 8 h.origin ++ body ++ [0, 0, 0, 0]
def hd (msg left done org : Nat) (dir : Nat := 0) : EplenHdr := { msg := msg, dir := dir, head := true, hopsLeft := left, hopsDone := done, origin := org }
def busOn (s : State) : State := { s with host := { s.host with link := true, cfg := [(4, 6)] } }
def bw (l : List (Fld × Nat) := []) : State := busOn <| richW ([(F.PRT_MAC_STAT_LINK 7, 1), (F.RNG_STAT_EPLEN_EN, 1), (F.RNG_STAT_EPLEN_PAIR, 3), (F.SAF_PAIR_STAT_STATE 0, 1), (F.SAF_PAIR_STAT_STATE 1, 1), (F.RNG_SELF_TAG_LO_TAG, 77)] ++ l)
def nos (s : State) : State := s.setF F.GLB_RST_STAT_STAGE 8
def hr := hd 0x10 0 14 5 1
def rq (seq w kind at_ count off tgt : Nat) (d : List Nat) : List Byte := beBytes 4 seq ++ beBytes 1 w ++ beBytes 1 kind ++ beBytes 1 at_ ++ beBytes 1 count ++ beBytes 4 off ++ beBytes 8 tgt ++ d.flatMap (fun x => beBytes 4 x)
def rw_ (l : List (Fld × Nat) := []) : State := bw ([(F.RNG_RA_WR_SEG, 2 ^ 18 - 1), (F.RNG_RA_RD_SEG, 2 ^ 18 - 1)] ++ l)
def b1 := rq (2 ^ 32 - 1) 15 1 0 1 0x2C0000 0 [3]
def b2 := rq (2 ^ 32 - 1) 15 2 0 1 0x2C0000 77 []
def b3 := rq (2 ^ 32 - 1) 15 1 0 1 0x2C0000 78 [3]
def b4 := rq (2 ^ 32 - 1) 15 1 0 1 0x400000 0 [3]
def b4b := rq (2 ^ 32 - 1) 15 3 2 1 0x2C0000 0 [3, 4]
def b6 := rq (2 ^ 32 - 1) 15 5 0 0 0 0 []
def b7 := rq (2 ^ 32 - 1) 15 4 0 0 0 0 []
def wo0 : State := bw [(F.DMA_STAT_WARM_SEEN, 1)]
def wo1 : List (Nat × Bool) := List.replicate 33 (0, true)
def wo2 : State := bw [(F.ROD_STAT_STATE 127, 1), (F.ROD_STAT_MODE 127, 2)]
def wo3 : State := bw [(F.BKP_USER_DATA 8191, 2 ^ 32 - 1)]
def wo4 : State := { rw_ with ring := { ctxs := [⟨5, 15, 1, 0, 3⟩] } }
def wo5 : Ctx := ⟨5, 15, 1, 0, 3⟩
def wo6 : State := rw_ [(F.PRT_MAC_STAT_LINK 7, 0)]

/-- Hypotheses of RegisterWritesAndAtomics, clauses 1, 2, 3, 4, 5, 6, 7, 8, 9, 10, 11, 12. -/
theorem witness_RegisterWritesAndAtomics :
    ((State.HostOn bw) ∧ (State.serving bw = true))
    ∧ ((State.HostOn bw) ∧ (State.serving bw = true))
    ∧ ((State.HostOn bw) ∧ (State.serving bw = true))
    ∧ ((State.HostOn wo0) ∧ (State.serving wo0 = true) ∧ (State.isF wo0 F.DMA_STAT_WARM_SEEN = true))
    ∧ ((State.HostOn (nos bw)) ∧ (State.serving (nos bw) = false) ∧ (2 ^ 26 - 4 < 2 ^ 26)
      ∧ ((2 ^ 26 - 4) % 4 = 0) ∧ (alwaysOpen (2 ^ 26 - 4) = false))
    ∧ (State.HostOn (nos bw))
    ∧ ((State.HostOn bw) ∧ (32 < List.length wo1))
    ∧ ((State.HostOn bw) ∧ (State.serving bw = true))
    ∧ ((State.HostOn wo2) ∧ (State.serving wo2 = true) ∧ (127 < 128) ∧ (State.rodPresent wo2 127 = true))
    ∧ ((State.memOn wo3 = true) ∧ (8191 < 8192))
    ∧ ((State.memOn wo3 = true) ∧ (8191 < 8192) ∧ (State.getF wo3 (F.BKP_USER_DATA 8191) ≠ 2 % 2 ^ 32))
    ∧ ((bw.host.link = true) ∧ (2 ≠ 0 ∨ 32 ≠ 32)) := by
  simp only [State.HostOn]
  refine ⟨?_, ?_, ?_, ?_, ?_, ?_, ?_, ?_, ?_, ?_, ?_, ?_⟩ <;> decide +kernel

/-- Hypotheses of RequestsAreCheckedAndAnswered, clauses 1, 2, 3, 4, 6, 7, 5. -/
theorem witness_RequestsAreCheckedAndAnswered :
    ((1 < 2) ∧ (State.Got rw_ (fr hr b1) 16 hr b1) ∧ (State.PortFree rw_ 1) ∧ (hr.hopsLeft = 0)
      ∧ (20 ≤ List.length b1) ∧ (rw_.ring.ctxs = []) ∧ ((reqOf b1).kind = 1) ∧ ((reqOf b1).count = 1)
      ∧ ((reqOf b1).off = 2883584) ∧ ((reqOf b1).target = 0) ∧ ((reqOf b1).data = [3])
      ∧ (State.segClosed rw_ true 2883584 = false))
    ∧ ((1 < 2) ∧ (State.Got rw_ (fr hr b2) 16 hr b2) ∧ (State.PortFree rw_ 1) ∧ (hr.hopsLeft = 0)
      ∧ (20 ≤ List.length b2) ∧ (rw_.ring.ctxs = []) ∧ ((reqOf b2).kind = 2) ∧ ((reqOf b2).count = 1)
      ∧ ((reqOf b2).off = 2883584) ∧ ((reqOf b2).target = State.selfTag rw_)
      ∧ (State.segClosed rw_ false 2883584 = false))
    ∧ ((1 < 2) ∧ (State.Got rw_ (fr hr b3) 16 hr b3) ∧ (State.PortFree rw_ 1) ∧ (hr.hopsLeft = 0)
      ∧ (20 ≤ List.length b3) ∧ (rw_.ring.ctxs = []) ∧ (Req.sound (reqOf b3) = true) ∧ ((reqOf b3).kind ≠ 0)
      ∧ ((reqOf b3).target ≠ 0) ∧ ((reqOf b3).target ≠ State.selfTag rw_))
    ∧ ((1 < 2) ∧ (State.Got rw_ (fr hr b4) 16 hr b4) ∧ (State.PortFree rw_ 1) ∧ (hr.hopsLeft = 0)
      ∧ (20 ≤ List.length b4) ∧ (rw_.ring.ctxs = []) ∧ (Req.sound (reqOf b4) = true) ∧ ((reqOf b4).kind ≠ 0)
      ∧ ((reqOf b4).target = 0) ∧ (∃ o, o ∈ Req.offsets (reqOf b4)
      ∧ (closedBlock o = true ∨ State.segClosed rw_ ((reqOf b4).kind != 2) o = true)))
    ∧ ((State.Got wo4 (fr hr b1) 16 hr b1) ∧ (hr.hopsLeft = 0) ∧ (20 ≤ List.length b1)
      ∧ (wo4.ring.ctxs = [wo5]) ∧ (Ctx.isOf wo5 hr.origin (reqOf b1).win hr.dir = true)
      ∧ (2 ^ 31 ≤ ((reqOf b1).rseq + 2 ^ 32 - wo5.next) % 2 ^ 32))
    ∧ ((1 < 2) ∧ (State.Got rw_ (fr hr b6) 16 hr b6) ∧ (State.PortFree rw_ 1) ∧ (hr.hopsLeft = 0)
      ∧ (20 ≤ List.length b6) ∧ (rw_.ring.ctxs = []) ∧ (rw_.ring.subs = []) ∧ ((reqOf b6).kind = 5)
      ∧ ((reqOf b6).target = 0))
    ∧ ((1 < 2) ∧ (State.Got wo6 (fr hr b7) 16 hr b7) ∧ (State.eplenFree wo6 (State.eplenPort wo6 1) = false)
      ∧ (hr.hopsLeft = 0) ∧ (20 ≤ List.length b7) ∧ (wo6.ring.ctxs = []) ∧ ((reqOf b7).kind = 4)
      ∧ ((reqOf b7).target = 0)) := by
  simp only [State.Got, State.PortFree]
  refine ⟨?_, ?_, ?_, ?_, ?_, ?_, ?_⟩ <;> decide +kernel

end bus

/-- Hypotheses of ProbesFindTheRing, clause 6: hop 1 has answered in direction 0, none in direction 1. -/
theorem witness_ProbesFindTheRing_window :
    (ring.pr.eplenUp = true ∧ ring.pr.ring.probing = true ∧ (0, 3) ∉ ring.pr.ring.ans ∧ (1, 2) ∉ ring.pr.ring.ans)
    ∧ (∀ j, 1 ≤ j → j ≤ 2 → (0, j) ∈ ring.pr.ring.ans) ∧ ∀ j, 1 ≤ j → j ≤ 1 → (1, j) ∈ ring.pr.ring.ans := by
  refine ⟨by decide +kernel, fun j h1 h2 => ?_, fun j h1 h2 => ?_⟩
  · obtain rfl | rfl : j = 1 ∨ j = 2 := by omega
    all_goals decide +kernel
  · obtain rfl : j = 1 := by omega
    decide +kernel

/-- The invariants' premises: the state after reset meets them, and its step answers a next state. -/
theorem witness_invariants : State.reset.RingsFit ∧ State.reset.QueuesFit ∧ State.reset.MemoryFit
    ∧ step State.reset = .next State.reset.tick := by
  refine ⟨?_, ?_, ?_, rfl⟩
  · simp only [State.RingsFit]; decide
  · simp only [State.QueuesFit]; decide
  · simp only [State.MemoryFit]; decide

/-- MeaningsKeepQueue: a command that answers a next state. -/
theorem witness_MeaningsKeepQueue : exec .tapReset up = .next (doTapReset up) := rfl

/-- ClampStoresNearestLegalValue: a list of legal ranges that is not empty and whose ranges are in order. -/
theorem witness_ClampStoresNearestLegalValue : [(1, 3), (9, 9)] ≠ ([] : List (Nat × Nat))
    ∧ ∀ r ∈ [(1, 3), (9, 9)], r.1 ≤ r.2 := by decide

/-- A state whose event rings are full and whose host ring is enabled, with HEAD and TAIL as given. -/
def events (n en head tail : Nat) : State :=
  { upW [(F.DMA_EVR_CFG_EN, en), (F.DMA_EVR_HEAD_HEAD, head), (F.DMA_EVR_TAIL_TAIL, tail)] with
    evCtl := List.replicate n ⟨1, 2, 0, 3, 4⟩, evSvc := List.replicate n ⟨1, 2, 0, 3, 4⟩ }

/-- EventReachesEachReaderOrIsCounted: rings with room and full ones; the host's ring off, full, and with room. -/
theorem witness_EventReachesEachReaderOrIsCounted : (events 1023 0 0 0).evCtl.length < 1024
    ∧ 1024 ≤ (events 1024 0 0 0).evCtl.length ∧ (events 1023 0 0 0).evSvc.length < 1024
    ∧ 1024 ≤ (events 1024 0 0 0).evSvc.length ∧ (events 1 0 0 0).isF F.DMA_EVR_CFG_EN = false
    ∧ ((events 1 1 512 65024).isF F.DMA_EVR_CFG_EN = true ∧ ((events 1 1 512 65024).getF F.DMA_EVR_HEAD_HEAD + 2 ^ 16
      - (events 1 1 512 65024).getF F.DMA_EVR_TAIL_TAIL) % 2 ^ 16 = 1024)
    ∧ (events 1 1 512 65025).isF F.DMA_EVR_CFG_EN = true ∧ ((events 1 1 512 65025).getF F.DMA_EVR_HEAD_HEAD + 2 ^ 16
      - (events 1 1 512 65025).getF F.DMA_EVR_TAIL_TAIL) % 2 ^ 16 ≠ 1024 := by
  refine ⟨?_, ?_, ?_, ?_, ?_, ?_, ?_⟩ <;> decide +kernel


end Sys2Proof.Tests
end

section
/-! SUPPORT. What the proofs below need of the state: bits of a field, repetition, which fields an update may change, and what
posting an event leaves alone. -/

namespace Sys2Proof.Machine

variable (s : State)

/-- A command that answers `u` answers `t`, when `u` is `t`. -/
theorem answers {o : Host.Outcome State Fault Refusal} {u t : State} (h : o = .next u) (e : u = t) : o = .next t :=
  e ▸ h

/-! ### Bits of a field -/

theorem bit_eq_testBit (x i : Nat) : bit x i = x.testBit i := by
  rw [bit, Nat.testBit_eq_decide_div_mod_eq, Bool.beq_eq_decide_eq]

/-- Adding a bit that is clear sets that bit alone. -/
theorem testBit_add_two_pow {x b : Nat} (h : x.testBit b = false) (i : Nat) :
    (x + 2 ^ b).testBit i = (decide (i = b) || x.testBit i) := by
  rcases lt_trichotomy i b with hi | rfl | hi
  · rw [Nat.add_comm, Nat.testBit_two_pow_add_gt hi]; simp [hi.ne]
  · rw [Nat.add_comm, Nat.testBit_two_pow_add_eq, h]; simp
  · obtain ⟨k, rfl⟩ := Nat.exists_eq_add_of_lt hi
    have heven : x / 2 ^ b % 2 = 0 := by
      rw [Nat.testBit_eq_decide_div_mod_eq] at h; simp at h; omega
    have hdiv : (x + 2 ^ b) / 2 ^ (b + 1) = x / 2 ^ (b + 1) := by
      rw [Nat.pow_succ, ← Nat.div_div_eq_div_mul, ← Nat.div_div_eq_div_mul,
        Nat.add_div_right _ (Nat.two_pow_pos b)]
      omega
    have hk : b + k + 1 = k + (b + 1) := by omega
    rw [hk, ← Nat.testBit_div_two_pow, hdiv, Nat.testBit_div_two_pow]
    have hne : ¬ k + (b + 1) = b := by omega
    simp [hne]

/-- Taking away a bit that is set clears that bit alone. -/
theorem testBit_sub_two_pow {x b : Nat} (h : x.testBit b = true) (i : Nat) :
    (x - 2 ^ b).testBit i = (!decide (i = b) && x.testBit i) := by
  obtain ⟨y, rfl⟩ := Nat.exists_eq_add_of_le (Nat.ge_two_pow_of_testBit h)
  have hy : y.testBit b = false := by rw [Nat.testBit_two_pow_add_eq] at h; simpa using h
  rw [Nat.add_sub_cancel_left, Nat.add_comm, testBit_add_two_pow hy]
  by_cases hi : i = b <;> simp [hi, hy]

/-- Setting bit `b` of a field changes no other bit below its width. -/
theorem bit_orF (f : Fld) {b i : Nat} (hi : i < f.w) :
    bit ((s.orF f b).getF f) i = (decide (i = b) || bit (s.getF f) i) := by
  unfold State.orF
  simp only [bit_eq_testBit]
  split
  · rename_i h
    by_cases hb : i = b <;> simp [hb, h]
  · rename_i h
    rw [getF_setF_same, Nat.testBit_mod_two_pow, testBit_add_two_pow (by simpa using h)]
    simp [hi]

/-- Clearing bit `b` of a field changes no other bit below its width. -/
theorem bit_clrF (f : Fld) {b i : Nat} (hi : i < f.w) :
    bit ((s.clrF f b).getF f) i = (!decide (i = b) && bit (s.getF f) i) := by
  unfold State.clrF
  simp only [bit_eq_testBit]
  split
  · rename_i h
    rw [getF_setF_same, Nat.testBit_mod_two_pow, testBit_sub_two_pow h]
    simp [hi]
  · rename_i h
    by_cases hb : i = b <;> simp_all

theorem getF_orF_ne (f g : Fld) (b : Nat) (h : g.key ≠ f.key) : (s.orF f b).getF g = s.getF g := by
  unfold State.orF; split
  · rfl
  · exact getF_setF_ne s f g _ h

theorem getF_clrF_ne (f g : Fld) (b : Nat) (h : g.key ≠ f.key) : (s.clrF f b).getF g = s.getF g := by
  unfold State.clrF; split
  · exact getF_setF_ne s f g _ h
  · rfl

/-- Setting a bit of a field replaces the registers alone. -/
theorem orF_eq (f : Fld) (b : Nat) : s.orF f b = { s with regs := (s.orF f b).regs } := by
  unfold State.orF; split <;> rfl

/-- Clearing a bit of a field replaces the registers alone. -/
theorem clrF_eq (f : Fld) (b : Nat) : s.clrF f b = { s with regs := (s.clrF f b).regs } := by
  unfold State.clrF; split <;> rfl

/-! ### Repetition -/

theorem forN_succ (n : Nat) (g : Nat → State → State) : s.forN (n + 1) g = g n (s.forN n g) := by
  simp [State.forN, List.range_succ]

/-- A relation between states that is reflexive and transitive relates a state to one that a repeated update leaves, when
every round keeps to it. -/
theorem forN_rel {R : State → State → Prop} (refl : ∀ s, R s s) (trans : ∀ {s t u}, R s t → R t u → R s u) (n : Nat)
    (g : Nat → State → State) (hg : ∀ i t, i < n → R t (g i t)) : R s (s.forN n g) := by
  induction n with
  | zero => exact refl s
  | succ n ih => exact forN_succ s n g ▸ trans (ih fun i t hi => hg i t (by omega)) (hg n _ (by omega))

/-- What round `i` brings about from what the rounds before it keep, and the rounds after it keep, holds in the end. -/
theorem forN_reaches {s : State} {Q P : State → Prop} {n i : Nat} {g : Nat → State → State} (hi : i < n) (hs : Q s)
    (before : ∀ j t, j < i → Q t → Q (g j t)) (round : ∀ t, Q t → P (g i t))
    (after : ∀ j t, i < j → j < n → P t → P (g j t)) : P (s.forN n g) := by
  have start : ∀ m, m ≤ i → Q (s.forN m g) := by
    intro m
    induction m with
    | zero => exact fun _ => hs
    | succ m ih => exact fun hm => forN_succ s m g ▸ before m _ hm (ih (by omega))
  have rest : ∀ m, i < m → m ≤ n → P (s.forN m g) := by
    intro m
    induction m with
    | zero => intro h; omega
    | succ m ih =>
      intro him hmn
      rw [forN_succ]
      rcases Nat.lt_succ_iff_lt_or_eq.1 him with h | rfl
      · exact after m _ h hmn (ih h (by omega))
      · exact round _ (start _ le_rfl)
  exact rest n hi le_rfl

/-! ### Register fields of states that differ in other parts -/

/-- Register fields are read from the registers alone. -/
theorem getF_of_regs {s t : State} (h : t.regs = s.regs) (f : Fld) : t.getF f = s.getF f := by
  unfold State.getF; rw [h]

@[simp] theorem tallyN_regs (i n : Nat) : (s.tallyN i n).regs = s.regs := by rw [tallyN_eq]
@[simp] theorem tally_regs (i : Nat) : (s.tally i).regs = s.regs := tallyN_regs s i 1

/-! ### Which fields an update may change -/

namespace FieldsKept
variable {s t u : State} {l : List Fld}

theorem refl (s : State) (l : List Fld) : FieldsKept s s l := fun _ _ => rfl

theorem trans (h : FieldsKept s t l) (k : FieldsKept t u l) : FieldsKept s u l :=
  fun f hf => (k f hf).trans (h f hf)

theorem mono {l' : List Fld} (h : FieldsKept s t l) (hl : l ⊆ l') : FieldsKept s t l' :=
  fun f hf => h f (fun hm => hf (List.map_subset _ hl hm))

theorem of_regs (h : FieldsKept s t l) (e : u.regs = t.regs) : FieldsKept s u l :=
  fun f hf => (getF_of_regs e f).trans (h f hf)

theorem key_ne {f g : Fld} (hf : f ∈ l) (hg : g.key ∉ l.map Fld.key) : g.key ≠ f.key :=
  fun e => hg (e ▸ List.mem_map_of_mem hf)

theorem setF (h : FieldsKept s t l) {f : Fld} (v : Nat) (hf : f ∈ l) : FieldsKept s (t.setF f v) l :=
  fun g hg => (getF_setF_ne t f g v (key_ne hf hg)).trans (h g hg)

theorem setB (h : FieldsKept s t l) {f : Fld} (b : Bool) (hf : f ∈ l) : FieldsKept s (t.setB f b) l :=
  h.setF _ hf

theorem orF (h : FieldsKept s t l) {f : Fld} (b : Nat) (hf : f ∈ l) : FieldsKept s (t.orF f b) l :=
  fun g hg => (getF_orF_ne t f g b (key_ne hf hg)).trans (h g hg)

theorem clrF (h : FieldsKept s t l) {f : Fld} (b : Nat) (hf : f ∈ l) : FieldsKept s (t.clrF f b) l :=
  fun g hg => (getF_clrF_ne t f g b (key_ne hf hg)).trans (h g hg)

theorem foldl {α : Type} (g : State → α → State) (hg : ∀ t x, FieldsKept t (g t x) l) (xs : List α) :
    ∀ t, FieldsKept s t l → FieldsKept s (xs.foldl g t) l := by
  induction xs with
  | nil => exact fun _ h => h
  | cons x xs ih => exact fun t h => ih _ (h.trans (hg t x))

theorem isF (h : FieldsKept s t l) {f : Fld} (hf : f.key ∉ l.map Fld.key) : t.isF f = s.isF f := by
  unfold State.isF; rw [h f hf]

end FieldsKept

namespace OnlyFields
variable {s t u : State} {l : List Fld}

theorem refl (s : State) (l : List Fld) : OnlyFields s s l := ⟨rfl, FieldsKept.refl s l⟩

theorem trans (h : OnlyFields s t l) (k : OnlyFields t u l) : OnlyFields s u l := by
  refine ⟨?_, h.2.trans k.2⟩
  rw [k.1, h.1]

theorem mono {l' : List Fld} (h : OnlyFields s t l) (hl : l ⊆ l') : OnlyFields s t l' := ⟨h.1, h.2.mono hl⟩

theorem setF (h : OnlyFields s t l) {f : Fld} (v : Nat) (hf : f ∈ l) : OnlyFields s (t.setF f v) l :=
  h.trans ⟨rfl, (FieldsKept.refl t l).setF v hf⟩

theorem setB (h : OnlyFields s t l) {f : Fld} (b : Bool) (hf : f ∈ l) : OnlyFields s (t.setB f b) l :=
  h.setF _ hf

theorem orF (h : OnlyFields s t l) {f : Fld} (b : Nat) (hf : f ∈ l) : OnlyFields s (t.orF f b) l :=
  h.trans ⟨orF_eq t f b, (FieldsKept.refl t l).orF b hf⟩

/-- A repeated update whose rounds change fields of `l` alone. -/
theorem forN (n : Nat) (g : Nat → State → State) (hg : ∀ i t, i < n → OnlyFields t (g i t) l) :
    OnlyFields s (s.forN n g) l := forN_rel (R := fun s t => OnlyFields s t l) s (fun s => refl s l) trans n g hg

end OnlyFields

/-- A repeated update changes no field that none of its rounds changes. -/
theorem fieldsKept_forN {l : List Fld} (n : Nat) (g : Nat → State → State)
    (hg : ∀ i t, i < n → FieldsKept t (g i t) l) : FieldsKept s (s.forN n g) l :=
  forN_rel (R := fun s t => FieldsKept s t l) s (fun s => FieldsKept.refl s l) FieldsKept.trans n g hg

/-! ### What posting an event does to the registers -/

/-- The fields that posting an event may change: the head of the host's event ring, and what a trigger of the trace
recorder records (R30, R423). -/
def postFields : List Fld :=
  [F.DMA_EVR_HEAD_HEAD, F.TRC_STAT_STATE, F.TRC_STAT_TRIG_K, F.TRC_STAT_TRIG_SW, F.TRC_TRIG_SEQ_SEQ,
    F.TRC_TRIG_PTR_LO_PTR, F.TRC_TRIG_PTR_HI_PTR, F.TRC_TRIG_N32_N32]

/-- An Eplen frame of the relay changes no register. -/
theorem sendEplen_regs (p : Nat) (h : EplenHdr) (body : List Byte) : (s.sendEplen p h body).regs = s.regs := by
  obtain ⟨-, -, e⟩ | ⟨-, -, e⟩ | e := sendEplen_cases s p h body
  · rw [e]; rfl
  · rw [e, tally_regs]
  · rw [e]; rfl

/-- Relaying an event changes no register. -/
theorem relayEvent_regs (e : Event) : (s.relayEvent e).regs = s.regs := by
  unfold State.relayEvent
  split
  · rfl
  · clear * -
    generalize s.ring.subs = l
    induction l generalizing s with
    | nil => rfl
    | cons x l ih => rw [List.foldl_cons, ih, sendEplen_regs]

/-- Posting to the readers moves the head of the host's ring alone. -/
theorem fieldsKept_postRaw (e : Event) : FieldsKept s (s.postRaw e) [F.DMA_EVR_HEAD_HEAD] := by
  have host : ∀ t : State, FieldsKept t (t.hostEvent e) [F.DMA_EVR_HEAD_HEAD] := by
    intro t
    unfold State.hostEvent
    dsimp only
    split
    · exact ((FieldsKept.refl t _).setF (f := F.DMA_EVR_HEAD_HEAD) _ (by simp)).of_regs rfl
    · exact (FieldsKept.refl t _).of_regs (tally_regs ..)
  unfold State.postRaw
  extract_lets s₁ s₂
  have h₁ : s₁.regs = s.regs := by unfold s₁; split <;> simp
  have h₂ : s₂.regs = s₁.regs := by unfold s₂; split <;> simp
  exact (((FieldsKept.refl s _).of_regs (h₂.trans h₁)).trans (host s₂)).of_regs (relayEvent_regs _ e)

/-- Firing a trigger changes the fields that it records, and none while the recorder does not capture. -/
theorem fieldsKept_fireTrigger (k : Nat) : FieldsKept s (s.fireTrigger k) postFields ∧
    (s.getF F.TRC_STAT_STATE ≠ 1 → (s.fireTrigger k).regs = s.regs) := by
  unfold State.fireTrigger
  split
  · rename_i hst
    refine ⟨?_, fun h => absurd hst h⟩
    extract_lets s₁ s₂ s₃ s₄ s₅ s₆ s₇
    have h₂ : FieldsKept s s₂ postFields :=
      ((FieldsKept.refl s postFields).setF (f := F.TRC_STAT_STATE) 2 (by simp [postFields])).of_regs rfl
    have h₃ : FieldsKept s s₃ postFields := by
      unfold s₃; split
      · exact (h₂.setF _ (by simp [postFields])).setB _ (by simp [postFields])
      · exact h₂.setB _ (by simp [postFields])
    clear_value s₃
    have h₇ : FieldsKept s s₇ postFields := (((h₃.setF _ (by simp [postFields])).setF _ (by simp [postFields])).setF
      _ (by simp [postFields])).setF _ (by simp [postFields])
    clear_value s₇
    exact (h₇.of_regs (u := s₇.fresh.2) rfl).trans ((fieldsKept_postRaw _ _).mono (by simp [postFields]))
  · exact ⟨(FieldsKept.refl s _).of_regs (tally_regs ..), fun _ => tally_regs ..⟩

/-- Posting an event changes no field but those of `postFields`. -/
theorem fieldsKept_post (b c p : Nat) : FieldsKept s (s.post b c p) postFields := by
  unfold State.post
  dsimp only
  exact FieldsKept.foldl _ (fun t k => (fieldsKept_fireTrigger t k).1) _ _
    ((fieldsKept_postRaw s _).mono (by simp [postFields]))

/-- While the recorder does not capture, posting an event moves the head of the host's ring alone. -/
theorem fieldsKept_post_idle (b c p : Nat) (h : s.getF F.TRC_STAT_STATE ≠ 1) :
    FieldsKept s (s.post b c p) [F.DMA_EVR_HEAD_HEAD] := by
  have raw := fieldsKept_postRaw s ⟨b, c, 0, s.now32, p⟩
  have fire : ∀ (l : List Nat) (t : State), t.getF F.TRC_STAT_STATE ≠ 1 →
      (l.foldl State.fireTrigger t).regs = t.regs := by
    intro l
    induction l with
    | nil => exact fun _ _ => rfl
    | cons k l ih =>
      intro t ht
      have hk := (fieldsKept_fireTrigger t k).2 ht
      rw [List.foldl_cons, ih _ (by rw [getF_of_regs hk]; exact ht), hk]
  exact raw.of_regs (fire _ _ (by rw [raw _ (by decide)]; exact h))

theorem fieldsKept_postFree (b c : Nat) : FieldsKept s (s.postFree b c) postFields :=
  fieldsKept_post { s with freeCtr := s.freeCtr + 1 } b c _

theorem fieldsKept_postFree_idle (b c : Nat) (h : s.getF F.TRC_STAT_STATE ≠ 1) :
    FieldsKept s (s.postFree b c) [F.DMA_EVR_HEAD_HEAD] :=
  fieldsKept_post_idle { s with freeCtr := s.freeCtr + 1 } b c _ h

/-! ### What posting an event leaves alone -/

theorem withPosted_boot (r : State) : (s.withPosted r).boot = s.boot := rfl
theorem withPosted_ddr (r : State) : (s.withPosted r).ddr = s.ddr := rfl
theorem withPosted_memTest (r : State) : (s.withPosted r).memTest = s.memTest := rfl

@[simp] theorem post_boot (b c p : Nat) : (s.post b c p).boot = s.boot := by rw [post_posted, withPosted_boot]
@[simp] theorem postFree_ddr (b c : Nat) : (s.postFree b c).ddr = s.ddr := by rw [postFree_posted, withPosted_ddr]
@[simp] theorem postFree_memTest (b c : Nat) : (s.postFree b c).memTest = s.memTest := by
  rw [postFree_posted, withPosted_memTest]

@[simp] theorem orF_boot (f : Fld) (b : Nat) : (s.orF f b).boot = s.boot := by rw [orF_eq]

/-! ### LPDDR5 memory -/

/-- Writing bytes replaces the memory alone. -/
theorem writeDdr_eq (bs : List Byte) : ∀ (s : State) (a : Nat),
    s.writeDdr a bs = { s with ddr := (s.writeDdr a bs).ddr } := by
  induction bs with
  | nil => exact fun _ _ => rfl
  | cons b bs ih =>
    intro s a
    rw [State.writeDdr, ih]
    rfl

/-- Written bytes read back. -/
theorem writeDdr_inside (bs : List Byte) : ∀ (s : State) (a i : Nat), i < bs.length →
    (s.writeDdr a bs).ddrByte (a + i) = (bs.getD i 0).toNat := by
  induction bs with
  | nil => intro s a i h; simp at h
  | cons b bs ih =>
    intro s a i h
    rw [State.writeDdr]
    cases i with
    | zero =>
      rw [writeDdr_outside bs _ _ _ (by omega), Nat.add_zero, ddrByte_setDdr_same]
      exact Nat.mod_eq_of_lt b.isLt
    | succ i =>
      have e : a + (i + 1) = a + 1 + i := by omega
      rw [e, ih _ _ _ (by simpa using h)]
      simp

/-- Between `s` and `t` bytes of LPDDR5 in `[lo, hi)` may differ, and the free-value counter, and nothing else. -/
structure WritesOnly (s t : State) (lo hi : Nat) : Prop where
  frame : t = { s with ddr := t.ddr, freeCtr := t.freeCtr }
  outside : ∀ x, x < lo ∨ hi ≤ x → t.ddrByte x = s.ddrByte x

namespace WritesOnly
variable {s t u : State} {lo hi : Nat}

theorem refl (s : State) (lo hi : Nat) : WritesOnly s s lo hi := ⟨rfl, fun _ _ => rfl⟩

theorem trans (h : WritesOnly s t lo hi) (k : WritesOnly t u lo hi) : WritesOnly s u lo hi := by
  refine ⟨?_, fun x hx => (k.outside x hx).trans (h.outside x hx)⟩
  rw [k.frame, h.frame]

theorem setDdr (s : State) {a : Nat} (v : Nat) (h₁ : lo ≤ a) (h₂ : a < hi) : WritesOnly s (s.setDdr a v) lo hi :=
  ⟨rfl, fun _ _ => ddrByte_setDdr_ne _ _ _ _ (by omega)⟩

theorem writeDdr (s : State) {a : Nat} {bs : List Byte} (h₁ : lo ≤ a) (h₂ : a + bs.length ≤ hi) :
    WritesOnly s (s.writeDdr a bs) lo hi := by
  refine ⟨?_, fun _ _ => writeDdr_outside _ _ _ _ (by omega)⟩
  rw [writeDdr_eq]

theorem forN (n : Nat) (g : Nat → State → State) (hg : ∀ i t, i < n → WritesOnly t (g i t) lo hi) :
    WritesOnly s (s.forN n g) lo hi := 
  forN_rel (R := fun s t => WritesOnly s t lo hi) s (fun s => refl s lo hi) trans n g hg

theorem getF (h : WritesOnly s t lo hi) (f : Fld) : t.getF f = s.getF f := getF_of_regs (by rw [h.frame]) f

theorem dp (h : WritesOnly s t lo hi) : t.dp = s.dp := by rw [h.frame]

end WritesOnly

/-- A test that destroys a range writes in it alone. -/
theorem writesOnly_destroy (lo n : Nat) : WritesOnly s (s.destroy lo n) lo (lo + n) := by
  obtain ⟨hframe, hout⟩ := WritesOnly.forN (s := s) (lo := lo) (hi := lo + n) n
    (fun i t => t.setDdr (lo + i) (Config.free (s.freeCtr + i)).toNat)
    (fun i t hi => WritesOnly.setDdr t _ (by omega) (by omega))
  refine ⟨?_, hout⟩
  unfold State.destroy
  dsimp only
  rw [hframe]

end Sys2Proof.Machine
end

section
/-! PROOF of ClampStoresNearestLegalValue. -/

namespace Sys2Proof.Machine

/-- The distance by which `nearest` compares two values. -/
def distTo (v x : Nat) : Nat := if x < v then v - x else x - v

/-- `x` is at least as good a stored value for `v` as `y` (R14): nearer, or as near and not above it. -/
def AtLeastAsNear (v x y : Nat) : Prop := distTo v x < distTo v y ∨ (distTo v x = distTo v y ∧ x ≤ y)

theorem AtLeastAsNear.refl (v x : Nat) : AtLeastAsNear v x x := .inr ⟨rfl, le_refl x⟩

theorem AtLeastAsNear.trans {v x y z : Nat} (h : AtLeastAsNear v x y) (k : AtLeastAsNear v y z) :
    AtLeastAsNear v x z := by
  unfold AtLeastAsNear at *; omega

/-- The member of a range that is nearest to `v`. -/
def clampInto (v : Nat) (r : Nat × Nat) : Nat := if v < r.1 then r.1 else if r.2 < v then r.2 else v

theorem clampInto_mem {v : Nat} {r : Nat × Nat} (h : r.1 ≤ r.2) : r.1 ≤ clampInto v r ∧ clampInto v r ≤ r.2 := by
  unfold clampInto; split_ifs <;> omega

theorem clampInto_nearest {v x : Nat} {r : Nat × Nat} (h₁ : r.1 ≤ x) (h₂ : x ≤ r.2) :
    AtLeastAsNear v (clampInto v r) x := by
  unfold AtLeastAsNear clampInto distTo; split_ifs <;> omega

/-- One step of the search of `nearest`: the better of two candidates. -/
def nearer (v best x : Nat) : Nat :=
  if distTo v x < distTo v best ∨ (distTo v x = distTo v best ∧ x < best) then x else best

theorem nearer_atLeast (v best x : Nat) :
    AtLeastAsNear v (nearer v best x) best ∧ AtLeastAsNear v (nearer v best x) x := by
  unfold nearer AtLeastAsNear; split_ifs <;> omega

theorem nearer_eq (v best x : Nat) : nearer v best x = best ∨ nearer v best x = x := by
  unfold nearer; split_ifs <;> simp

theorem nearest_cons (r : Nat × Nat) (l : List (Nat × Nat)) (v : Nat) :
    nearest (r :: l) v = (l.map (clampInto v)).foldl (nearer v) (clampInto v r) := rfl

/-- The search ends at a candidate, and at one that is at least as near as every other. -/
theorem foldl_nearer (v : Nat) (l : List Nat) : ∀ c : Nat,
    l.foldl (nearer v) c ∈ c :: l ∧ ∀ y ∈ c :: l, AtLeastAsNear v (l.foldl (nearer v) c) y := by
  induction l with
  | nil => intro c; simp [AtLeastAsNear.refl]
  | cons x l ih =>
    intro c
    obtain ⟨hmem, hbest⟩ := ih (nearer v c x)
    obtain ⟨hc, hx⟩ := nearer_atLeast v c x
    have hstep := hbest _ List.mem_cons_self
    refine ⟨?_, ?_⟩
    · rcases List.mem_cons.1 hmem with h | h
      · rw [List.foldl_cons, h]
        rcases nearer_eq v c x with e | e <;> simp [e]
      · simp [h]
    · simp only [List.mem_cons, forall_eq_or_imp, List.foldl_cons]
      exact ⟨hstep.trans hc, hstep.trans hx, fun y hy => hbest y (List.mem_cons_of_mem _ hy)⟩

/-- `distTo` is the distance of the integers. -/
theorem distTo_eq_natAbs (v x : Nat) : distTo v x = ((x : Int) - v).natAbs := by
  unfold distTo; split_ifs <;> omega

/-- Settles O8: the search of `nearest` ends at a candidate that is at least as near as every other one, and the candidate
of a range is its member nearest to the written value. -/
theorem clampStoresNearestLegalValue : Obligations.ClampStoresNearestLegalValue := by
  unfold Obligations.ClampStoresNearestLegalValue
  intro l v hne hle
  obtain ⟨r₀, l, rfl⟩ := List.exists_cons_of_ne_nil hne
  obtain ⟨hmem, hbest⟩ := foldl_nearer v (l.map (clampInto v)) (clampInto v r₀)
  rw [← nearest_cons, ← List.map_cons] at hmem hbest
  refine ⟨?_, fun r hr x h₁ h₂ => ?_⟩
  · obtain ⟨r, hr, e⟩ := List.mem_map.1 hmem
    exact ⟨r, hr, e ▸ clampInto_mem (hle r hr)⟩
  · simp only [← distTo_eq_natAbs]
    exact (hbest _ (List.mem_map_of_mem hr)).trans (clampInto_nearest h₁ h₂)

end Sys2Proof.Machine
end

section
/-! REFUTATION of ResetsClearTheirReach. -/

namespace Sys2Proof.Machine

/-- A device in service whose trace recorder captures (R424): stage 9, TRC_STAT.STATE = 1, no reset source asserted. -/
def traceCapturing : State :=
  { (State.reset.setF F.GLB_RST_STAT_STAGE 9).setF F.TRC_STAT_STATE 1 with boot := {} }

/-- TRC_STAT.STATE is a field of chip reach, wider than warm. -/
theorem traceState_wider : 3 < (fieldReach F.TRC_STAT_STATE.key).level := by decide

/-- Refutes O10: TRC_STAT.STATE has chip reach, yet a reset of warm reach stops a capture (R425) and so sets it to 0: it is
a field of wider reach that the reset does not keep, and `WarmClears` does not except it. -/
theorem not_resetsClearTheirReach : ¬ Obligations.ResetsClearTheirReach := by
  unfold Obligations.ResetsClearTheirReach
  rintro ⟨-, -, -, -, hSoftware, -⟩
  obtain ⟨t, ht, -, hWider, -⟩ := hSoftware traceCapturing (by decide) (by decide)
  have hKept : t.getF F.TRC_STAT_STATE = 1 := (hWider _ traceState_wider (by decide)).trans (by decide)
  obtain rfl : doSoftwareWarmReset 0xC7 true traceCapturing = t := Host.Outcome.next.inj ht
  have hStopped : (doSoftwareWarmReset 0xC7 true traceCapturing).getF F.TRC_STAT_STATE = 0 := by decide +kernel
  omega

end Sys2Proof.Machine
end

section
/-! PROOF of StartStagesRecordTheirFindings. -/

namespace Sys2Proof.Machine
variable (s : State)

/-! ### OPTION_LOAD_DONE -/

/-- The arrays that the option load writes: unique ID, rod units, fuse words (Table 12.5). -/
def shadowArrays : List Fld :=
  (List.range 4).flatMap (fun i => [F.GLB_UID_UID i, F.GLB_PRESENT_ROD_RODS i, F.GLB_FUSE_FUSE i])

/-- The fields that the option load writes into the shadows (Table 12.5). -/
def shadowFields : List Fld :=
  [F.GLB_ID_PART, F.GLB_ID_DIE_REV, F.GLB_PRESENT_PORT_PORTS, F.GLB_KEY_SLOTS_COUNT, F.GLB_KEY_SLOTS_SCRAMBLE,
    F.GLB_BOOT_STAT_KEY_REVOKED, F.RNG_SELF_TAG_LO_TAG, F.RNG_SELF_TAG_HI_TAG] ++ shadowArrays

/-- Word `i` of each array is written. -/
def loadWord (uid rods fuse i : Nat) (s : State) : State :=
  ((s.setF (F.GLB_UID_UID i) (uid / 2 ^ (32 * i))).setF (F.GLB_PRESENT_ROD_RODS i) (rods / 2 ^ (32 * i))).setF
    (F.GLB_FUSE_FUSE i) (fuse / 2 ^ (32 * i))

/-- The four words of each array are written. -/
def loadWords (uid rods fuse : Nat) (s : State) : State := s.forN 4 (loadWord uid rods fuse)

theorem onlyFields_loadWord (uid rods fuse i : Nat) : OnlyFields s (loadWord uid rods fuse i s)
    [F.GLB_UID_UID i, F.GLB_PRESENT_ROD_RODS i, F.GLB_FUSE_FUSE i] :=
  (((OnlyFields.refl s _).setF _ (by simp)).setF _ (by simp)).setF _ (by simp)

theorem onlyFields_loadWords (uid rods fuse : Nat) : OnlyFields s (loadWords uid rods fuse s) shadowArrays :=
  OnlyFields.forN 4 _ (fun i t hi => (onlyFields_loadWord t uid rods fuse i).mono
    (fun _ hf => List.mem_flatMap.2 ⟨i, List.mem_range.2 hi, hf⟩))

/-- The words of the unique ID and of the rod units read back. -/
theorem getF_loadWords (uid rods fuse : Nat) {i : Nat} (hi : i < 4) :
    (loadWords uid rods fuse s).getF (F.GLB_PRESENT_ROD_RODS i) = rods / 2 ^ (32 * i) % 2 ^ 32
      ∧ (loadWords uid rods fuse s).getF (F.GLB_UID_UID i) = uid / 2 ^ (32 * i) % 2 ^ 32 := by
  refine forN_reaches (Q := fun _ => True) (P := fun t => t.getF (F.GLB_PRESENT_ROD_RODS i) = _
    ∧ t.getF (F.GLB_UID_UID i) = _) hi trivial (fun _ _ _ h => h) (fun t _ => ?_) (fun j t hij hj ht => ?_)
  · simp (disch := simp [Fld.key] <;> omega) [loadWord, getF_setF_ne]
  · obtain ⟨hr, hu⟩ := ht
    have other := (onlyFields_loadWord t uid rods fuse j).2
    exact ⟨(other _ (by simp [Fld.key]; omega)).trans hr, (other _ (by simp [Fld.key]; omega)).trans hu⟩

/-- The load of the shadows, array by array and field by field. -/
theorem loadShadows_eq (part rev uid : Nat) (v : Variant) (fuse revoked : Nat) (debug : Bool) :
    ∃ tag, s.loadShadows part rev uid v fuse revoked debug
      = (((((((loadWords uid v.rods fuse (({ s with
          boot := { s.boot with debugEn := debug }, key := { s.key with mesh := v.scramble } }.setF
            F.GLB_ID_PART part).setF F.GLB_ID_DIE_REV rev)).setF F.GLB_PRESENT_PORT_PORTS v.ports).setF
          F.GLB_KEY_SLOTS_COUNT v.slots).setB F.GLB_KEY_SLOTS_SCRAMBLE v.scramble).setF
          F.GLB_BOOT_STAT_KEY_REVOKED revoked).setF F.RNG_SELF_TAG_HI_TAG (tag / 2 ^ 32)).setF
          F.RNG_SELF_TAG_LO_TAG tag) := ⟨_, rfl⟩

/-- The load changes the shadows, the debug enable and the mesh alone. -/
theorem onlyFields_loadShadows (part rev uid : Nat) (v : Variant) (fuse revoked : Nat) (debug : Bool) :
    OnlyFields { s with boot := { s.boot with debugEn := debug }, key := { s.key with mesh := v.scramble } }
      (s.loadShadows part rev uid v fuse revoked debug) shadowFields := by
  obtain ⟨tag, e⟩ := loadShadows_eq s part rev uid v fuse revoked debug
  rw [e]
  have h := ((OnlyFields.refl { s with boot := { s.boot with debugEn := debug }
                                       key := { s.key with mesh := v.scramble } } shadowFields).setF
    (f := F.GLB_ID_PART) part (by decide)).setF (f := F.GLB_ID_DIE_REV) rev (by decide)
  have hw := h.trans ((onlyFields_loadWords _ uid v.rods fuse).mono (List.subset_append_right _ _))
  exact (((((hw.setF _ (by decide)).setF _ (by decide)).setB _ (by decide)).setF _ (by decide)).setF _
    (by decide)).setF _ (by decide)

/-- What the shadows read after the load. -/
theorem getF_loadShadows (part rev uid : Nat) (v : Variant) (fuse revoked : Nat) (debug : Bool) :
    let t := s.loadShadows part rev uid v fuse revoked debug
    t.getF F.GLB_ID_PART = part % 2 ^ 16 ∧ t.getF F.GLB_PRESENT_PORT_PORTS = v.ports % 2 ^ 32
      ∧ t.getF F.GLB_KEY_SLOTS_COUNT = v.slots % 2 ^ 10 ∧ t.isF F.GLB_KEY_SLOTS_SCRAMBLE = v.scramble
      ∧ ∀ i < 4, t.getF (F.GLB_PRESENT_ROD_RODS i) = v.rods / 2 ^ (32 * i) % 2 ^ 32
          ∧ t.getF (F.GLB_UID_UID i) = uid / 2 ^ (32 * i) % 2 ^ 32 := by
  obtain ⟨tag, e⟩ := loadShadows_eq s part rev uid v fuse revoked debug
  dsimp only
  rw [e]
  refine ⟨?_, ?_, ?_, ?_, fun i hi => ?_⟩
  · simp (disch := decide) only [getF_setF_ne, getF_setB_ne]
    rw [(onlyFields_loadWords _ _ _ _).2 _ (by decide), getF_setF_ne _ _ _ _ (by decide), getF_setF_same]
  · simp (disch := decide) only [getF_setF_ne, getF_setB_ne, getF_setF_same]
  · simp (disch := decide) only [getF_setF_ne, getF_setB_ne, getF_setF_same]
  · simp (disch := decide) only [isF_setF_ne, isF_setB_same]
  · simp (disch := simp [Fld.key] <;> omega) only [getF_setF_ne, getF_setB_ne]
    exact getF_loadWords _ uid v.rods fuse hi

/-- A load that succeeds, of an array that names a part of the family: the findings of the load, the shadows, stage 3. -/
theorem doOptionLoadDone_ok {part : Nat} {v : Variant} (attempts : Nat) (corr : Bool) (rev uid fuse revoked : Nat)
    (debug : Bool) (hstage : s.getF F.GLB_RST_STAT_STAGE = 2) (hfail : s.isF F.GLB_LOAD_STAT_LOAD_FAIL = false)
    (hv : variantOf part = some v) :
    doOptionLoadDone true attempts corr part rev uid v fuse revoked debug s
      = ((((s.setB F.GLB_LOAD_STAT_ECC_CORR corr).setF F.GLB_LOAD_STAT_ATTEMPTS (nearest [(1, 3)] attempts)).setB
          F.GLB_LOAD_STAT_LOAD_DONE true).loadShadows part rev uid v fuse revoked debug).setF F.GLB_RST_STAT_STAGE 3 := by
  simp [doOptionLoadDone, State.stage, State.setStageNo, hstage, hfail, hv]

/-- The fields that a successful option load changes. -/
def loadFields : List Fld :=
  [F.GLB_LOAD_STAT_LOAD_DONE, F.GLB_LOAD_STAT_ATTEMPTS, F.GLB_LOAD_STAT_ECC_CORR, F.GLB_RST_STAT_STAGE] ++ shadowFields

/-- What OPTION_LOAD_DONE leaves after a successful load (R317 to R319). -/
theorem optionLoadDone_ok {part : Nat} {v : Variant} {attempts : Nat} (corr : Bool) (rev uid fuse revoked : Nat)
    (debug : Bool) (hstage : s.getF F.GLB_RST_STAT_STAGE = 2) (hfail : s.isF F.GLB_LOAD_STAT_LOAD_FAIL = false)
    (hv : variantOf part = some v) (h₁ : 1 ≤ attempts) (h₃ : attempts ≤ 3) :
    let t := doOptionLoadDone true attempts corr part rev uid v fuse revoked debug s
    t = { s with regs := t.regs, boot := { s.boot with debugEn := debug }, key := { s.key with mesh := v.scramble } }
      ∧ FieldsKept s t loadFields ∧ t.getF F.GLB_RST_STAT_STAGE = 3 ∧ t.isF F.GLB_LOAD_STAT_LOAD_DONE = true
      ∧ t.getF F.GLB_LOAD_STAT_ATTEMPTS = attempts ∧ t.isF F.GLB_LOAD_STAT_ECC_CORR = corr
      ∧ t.getF F.GLB_ID_PART = part % 2 ^ 16 ∧ t.getF F.GLB_PRESENT_PORT_PORTS = v.ports % 2 ^ 32
      ∧ t.getF F.GLB_KEY_SLOTS_COUNT = v.slots % 2 ^ 10 ∧ t.isF F.GLB_KEY_SLOTS_SCRAMBLE = v.scramble
      ∧ ∀ i < 4, t.getF (F.GLB_PRESENT_ROD_RODS i) = v.rods / 2 ^ (32 * i) % 2 ^ 32
          ∧ t.getF (F.GLB_UID_UID i) = uid / 2 ^ (32 * i) % 2 ^ 32 := by
  dsimp only
  rw [doOptionLoadDone_ok s attempts corr rev uid fuse revoked debug hstage hfail hv]
  generalize hf : State.setB (State.setF _ F.GLB_LOAD_STAT_ATTEMPTS _) F.GLB_LOAD_STAT_LOAD_DONE true = found
  have hfound : OnlyFields s found loadFields := hf ▸ (((OnlyFields.refl s _).setB _ (by decide)).setF _
    (by decide)).setB _ (by decide)
  have hload := onlyFields_loadShadows found part rev uid v fuse revoked debug
  obtain ⟨hpart, hports, hcount, hscr, hwords⟩ := getF_loadShadows found part rev uid v fuse revoked debug
  generalize found.loadShadows part rev uid v fuse revoked debug = t at *
  have hkept : FieldsKept found t shadowFields := hload.2
  refine ⟨?_, ?_, by simp, ?_, ?_, ?_, ?_, ?_, ?_, ?_, fun i hi => ?_⟩
  · show { t with regs := _ } = _
    rw [hload.1, hfound.1]
    rfl
  · exact (hfound.2.trans (hkept.mono (by decide))).setF _ (by decide)
  · rw [isF_setF_ne _ _ _ _ (by decide), hkept.isF (by decide), ← hf, isF_setB_same _ _ _ rfl]
  · have ha : clampInto attempts (1, 3) % 2 ^ 2 = attempts := by unfold clampInto; split_ifs <;> omega
    rw [getF_setF_ne _ _ _ _ (by decide), hkept _ (by decide), ← hf, getF_setB_ne _ _ _ _ (by decide), getF_setF_same]
    exact ha
  · rw [isF_setF_ne _ _ _ _ (by decide), hkept.isF (by decide), ← hf, isF_setB_ne _ _ _ _ (by decide),
      isF_setF_ne _ _ _ _ (by decide), isF_setB_same _ _ _ rfl]
  · rw [getF_setF_ne _ _ _ _ (by decide), hpart]
  · rw [getF_setF_ne _ _ _ _ (by decide), hports]
  · rw [getF_setF_ne _ _ _ _ (by decide), hcount]
  · rw [isF_setF_ne _ _ _ _ (by decide), hscr]
  · rw [getF_setF_ne _ _ _ _ (by simp [Fld.key]; omega), getF_setF_ne _ _ _ _ (by simp [Fld.key]; omega)]
    exact hwords i hi

/-- What OPTION_LOAD_DONE leaves after a failed load. -/
theorem optionLoadDone_failed (attempts part rev uid : Nat) (v : Variant) (fuse revoked : Nat) (corr debug : Bool)
    (hstage : s.getF F.GLB_RST_STAT_STAGE = 2) (hfail : s.isF F.GLB_LOAD_STAT_LOAD_FAIL = false) :
    doOptionLoadDone false attempts corr part rev uid v fuse revoked debug s
      = ((s.setB F.GLB_LOAD_STAT_ECC_CORR corr).setF F.GLB_LOAD_STAT_ATTEMPTS 3).setB F.GLB_LOAD_STAT_LOAD_FAIL true := by
  simp [doOptionLoadDone, State.stage, hstage, hfail]

/-! ### STRAP_MEASURED -/

theorem mem_insertUp {x y : Nat} {l : List Nat} (h : y ∈ insertUp x l) : y = x ∨ y ∈ l := by
  induction l with
  | nil => simpa [insertUp] using h
  | cons z l ih =>
    unfold insertUp at h
    split at h
    · simpa using h
    · rcases List.mem_cons.1 h with rfl | h
      · simp
      · rcases ih h with rfl | h <;> simp [*]

theorem mem_foldr_insertUp {y : Nat} {l : List Nat} (h : y ∈ l.foldr insertUp []) : y ∈ l := by
  induction l with
  | nil => simp at h
  | cons x l ih =>
    rcases mem_insertUp h with rfl | h
    · simp
    · exact List.mem_cons_of_mem _ (ih h)

/-- The median lies within every bound of the values. -/
theorem medianOf_le {l : List Nat} {b : Nat} (h : ∀ x ∈ l, x ≤ b) : medianOf l ≤ b := by
  unfold medianOf
  rw [List.getD_eq_getElem?_getD]
  rcases hg : (l.foldr insertUp [])[(l.length - 1) / 2]? with _ | y
  · simp
  · exact h y (mem_foldr_insertUp (List.mem_of_getElem? hg))

/-- A median of conversions is a converter value. -/
theorem medianOf_conversion_le (mvs : List Nat) : medianOf (mvs.map conversion) ≤ 255 :=
  medianOf_le fun x hx => by
    obtain ⟨mv, -, rfl⟩ := List.mem_map.1 hx
    exact min_le_left _ _

theorem strapCode_lt {v : Nat} (h : v ≤ 255) : strapCode v < 2 ^ 4 := by
  unfold strapCode; split <;> omega

/-- STRAP_MEASURED in stage 3 stores the median, its code, OPEN and the source, and enters stage 4. -/
theorem doStrapMeasured_eq (mvs : List Nat) (hstage : s.getF F.GLB_RST_STAT_STAGE = 3) :
    let v := medianOf (mvs.map conversion)
    doStrapMeasured mvs s = ((((s.setF F.GLB_STRAP_CODE (strapCode v)).setF F.GLB_STRAP_RAW v).setB F.GLB_STRAP_OPEN
      (v == 255)).setF F.GLB_BOOT_STAT_SOURCE (strapCode v / 4)).setF F.GLB_RST_STAT_STAGE 4 := by
  simp [doStrapMeasured, State.stage, State.setStageNo, hstage]

/-! ### START_SELF_TESTS_DONE -/

/-- The presence of an Ethernet port is read from two fields. -/
theorem ethPresent_congr {s t : State} (hp : t.getF F.GLB_PRESENT_PORT_PORTS = s.getF F.GLB_PRESENT_PORT_PORTS)
    (hr : t.getF F.GLB_RETIRED_PORT_PORTS = s.getF F.GLB_RETIRED_PORT_PORTS) (p : Nat) :
    t.ethPresent p = s.ethPresent p := by
  unfold State.ethPresent; rw [hp, hr]

/-- The presence of a rod is read from two fields. -/
theorem rodPresent_congr {s t : State} {n : Nat}
    (hp : t.getF (F.GLB_PRESENT_ROD_RODS (n / 32)) = s.getF (F.GLB_PRESENT_ROD_RODS (n / 32)))
    (hr : t.getF (F.GLB_RETIRED_ROD_RODS (n / 32)) = s.getF (F.GLB_RETIRED_ROD_RODS (n / 32))) :
    t.rodPresent n = s.rodPresent n := by
  unfold State.rodPresent; rw [hp, hr]

/-- A retired port is absent; the others are as they were. -/
theorem ethPresent_retirePort (p : Nat) {q : Nat} (hq : q < 32) :
    (s.retirePort p).ethPresent q = (decide (q ≠ p) && s.ethPresent q) := by
  unfold State.retirePort
  split
  · unfold State.ethPresent
    rw [getF_orF_ne _ _ _ _ (by decide), bit_orF _ _ hq]
    by_cases h : q = p <;> simp [h]
  · rename_i hp
    by_cases h : q = p <;> simp_all

theorem onlyFields_retirePort (p : Nat) : OnlyFields s (s.retirePort p) [F.GLB_RETIRED_PORT_PORTS] := by
  unfold State.retirePort
  split
  · exact (OnlyFields.refl s _).orF _ (by simp)
  · exact OnlyFields.refl s _

/-- The fields that a change of the pin claims may change (R61, R64). -/
def pinFields : List Fld :=
  (List.range 64).map F.GLB_GPIO_CFG_OWNER ++ (List.range 128).map F.ROD_EVT_FLAGS ++ postFields

theorem owner_mem_pinFields {g : Nat} (hg : g < 64) : F.GLB_GPIO_CFG_OWNER g ∈ pinFields :=
  List.mem_append_left _ (List.mem_append_left _ (List.mem_map_of_mem (List.mem_range.2 hg)))

theorem flags_mem_pinFields {n : Nat} (hn : n < 128) : F.ROD_EVT_FLAGS n ∈ pinFields :=
  List.mem_append_left _ (List.mem_append_right _ (List.mem_map_of_mem (List.mem_range.2 hn)))

theorem fieldsKept_rodEvt {n : Nat} (b : Nat) (hn : n < 128) : FieldsKept s (s.rodEvt n b) pinFields :=
  ((FieldsKept.refl s _).orF b (flags_mem_pinFields hn)).trans
    ((fieldsKept_post _ _ _ _).mono (List.subset_append_right _ _))

theorem rodEvt_boot (n b : Nat) : (s.rodEvt n b).boot = s.boot := by
  rw [State.rodEvt, post_boot, orF_boot]

theorem fieldsKept_ownPins (old : List PinClaim) : FieldsKept s (s.ownPins old) pinFields := by
  refine (fieldsKept_forN s 64 _ fun g t hg => (FieldsKept.refl t _).setF _ (owner_mem_pinFields hg)).trans
    (fieldsKept_forN _ 128 _ fun n t hn => ?_)
  split
  · exact fieldsKept_rodEvt t 6 hn
  · exact FieldsKept.refl t _

theorem ownPins_boot (old : List PinClaim) : (s.ownPins old).boot = s.boot := by
  refine forN_keeps _ (fun t => t.boot = s.boot) 128 _ (fun n t ht => ?_)
    (forN_keeps s (fun t => t.boot = s.boot) 64 _ (fun _ _ ht => ht) rfl)
  split
  · exact (rodEvt_boot t n 6).trans ht
  · exact ht

/-- No field that says which units there are is among those of the pins. -/
theorem presence_notMem_pinFields : F.GLB_PRESENT_PORT_PORTS.key ∉ pinFields.map Fld.key
    ∧ F.GLB_RETIRED_PORT_PORTS.key ∉ pinFields.map Fld.key
    ∧ ∀ i < 4, (F.GLB_PRESENT_ROD_RODS i).key ∉ pinFields.map Fld.key
        ∧ (F.GLB_RETIRED_ROD_RODS i).key ∉ pinFields.map Fld.key := by
  decide +kernel

theorem retireCause_notMem_pinFields {n : Nat} : (F.ROD_STAT_RETIRE_CAUSE n).key ∉ pinFields.map Fld.key := by
  simp [pinFields, postFields, Fld.key]
  refine ⟨fun g _ => ?_, fun m _ => ?_, ?_⟩ <;> omega

/-- Retirement of a present rod: its cause, its bit, and the balls that it owned (R4, R61). -/
theorem retireRod_present {n : Nat} (c : Nat) (h : s.rodPresent n = true) :
    s.retireRod n c = ((s.setF (F.ROD_STAT_RETIRE_CAUSE n) (nearest [(1, 3)] c)).orF (F.GLB_RETIRED_ROD_RODS (n / 32))
      (n % 32)).ownPins s.pinClaims := by
  unfold State.retireRod; rw [if_pos h]

theorem retireRod_boot (n c : Nat) : (s.retireRod n c).boot = s.boot := by
  unfold State.retireRod
  split
  · rw [ownPins_boot, orF_boot, setF_boot]
  · rfl

/-- What the retirement of a present rod shows: its cause, the rod absent, the other units as they were. -/
theorem retireRod_shows {n : Nat} (hn : n < 128) (h : s.rodPresent n = true) :
    (s.retireRod n 2).getF (F.ROD_STAT_RETIRE_CAUSE n) = 2
      ∧ (∀ p, (s.retireRod n 2).ethPresent p = s.ethPresent p)
      ∧ ∀ m < 128, (s.retireRod n 2).rodPresent m = (decide (m ≠ n) && s.rodPresent m) := by
  rw [retireRod_present s 2 h]
  generalize hs' : State.orF _ (F.GLB_RETIRED_ROD_RODS (n / 32)) (n % 32) = s'
  obtain ⟨hpp, hrp, hrod⟩ := presence_notMem_pinFields
  have pins := fieldsKept_ownPins s' s.pinClaims
  have marked : ∀ f : Fld, f.key ≠ (F.ROD_STAT_RETIRE_CAUSE n).key → f.key ≠ (F.GLB_RETIRED_ROD_RODS (n / 32)).key →
      s'.getF f = s.getF f := fun f h₁ h₂ => by rw [← hs', getF_orF_ne _ _ _ _ h₂, getF_setF_ne _ _ _ _ h₁]
  refine ⟨?_, fun p => ?_, fun m hm => ?_⟩
  · rw [pins _ retireCause_notMem_pinFields, ← hs', getF_orF_ne _ _ _ _ (by simp [Fld.key]; omega), getF_setF_same]
    rfl
  · exact ethPresent_congr
      ((pins _ hpp).trans (marked _ (by simp [Fld.key]; omega) (by simp [Fld.key]; omega)))
      ((pins _ hrp).trans (marked _ (by simp [Fld.key]; omega) (by simp [Fld.key]; omega))) p
  · have hpresent := (pins _ (hrod (m / 32) (by omega)).1).trans
      (marked _ (by simp [Fld.key]; omega) (by simp [Fld.key]; omega))
    have hretired := pins _ (hrod (m / 32) (by omega)).2
    by_cases hw : m / 32 = n / 32
    · have hbit : bit (s'.getF (F.GLB_RETIRED_ROD_RODS (n / 32))) (m % 32)
          = (decide (m % 32 = n % 32) || bit (s.getF (F.GLB_RETIRED_ROD_RODS (n / 32))) (m % 32)) := by
        rw [← hs', bit_orF _ _ (Nat.mod_lt m (Nat.succ_pos 31)), getF_setF_ne _ _ _ _ (by simp [Fld.key]; omega)]
      have hmn : m = n ↔ m % 32 = n % 32 := by omega
      unfold State.rodPresent
      rw [hpresent, hretired, hw, hbit]
      by_cases h' : m = n
      · simp [h']
      · simp [h', mt hmn.2 h']
    · have hmn : m ≠ n := fun e => hw (by rw [e])
      rw [rodPresent_congr hpresent (hretired.trans (marked _ (by simp [Fld.key]; omega) (by simp [Fld.key]; omega)))]
      simp [hmn]

/-- The fields of the planes' claims and of DEGRADED (R233, R234, R240). -/
def claimFields : List Fld :=
  [F.SAF_STAT_DEGRADED, F.SAF_PLANE_STAT_CLAIM_A, F.SAF_PLANE_STAT_CLAIM_B, F.SAF_STAT_DRIVER]

theorem fieldsKept_degrade_claims : FieldsKept s s.degrade.claims claimFields :=
  ((((FieldsKept.refl s _).setB _ (by decide)).setF _ (by decide)).setF _ (by decide)).setF _ (by decide)

/-- The self-tests of stage 8 with planes and comparators that pass, port `p` and rod `n` that fail. -/
theorem doStartSelfTestsDone_one_port_one_rod (p n : Nat) (hstage : s.getF F.GLB_RST_STAT_STAGE = 8)
    (hwrst : s.boot.wrst = false) (htested : s.boot.tested = false) (hwaking : s.boot.waking = false) :
    let u := ((s.retirePort p).retireRod n 2).degrade.claims
    doStartSelfTestsDone [p] [(n, 2)] true true true true s = { u with boot := { u.boot with tested := true } } := by
  have hboot : ((s.retirePort p).retireRod n 2).boot.waking = false := by
    rw [retireRod_boot, (onlyFields_retirePort s p).1]; exact hwaking
  simp [doStartSelfTestsDone, State.releasing, State.stage, hstage, hwrst, htested, hwaking, State.startPlane, hboot,
    State.startCmp]

/-- What the self-tests show: port `p` and rod `n` are absent, the rod with its cause, every other unit as it was. -/
theorem retired_shows {n : Nat} (p : Nat) (hn : n < 128) (hrod : s.rodPresent n = true) :
    let u := ((s.retirePort p).retireRod n 2).degrade.claims
    u.getF (F.ROD_STAT_RETIRE_CAUSE n) = 2 ∧ (∀ q < 32, u.ethPresent q = (decide (q ≠ p) && s.ethPresent q))
      ∧ ∀ m < 128, u.rodPresent m = (decide (m ≠ n) && s.rodPresent m) := by
  have hport := (onlyFields_retirePort s p).2
  have hrods : ∀ m < 128, (s.retirePort p).rodPresent m = s.rodPresent m := fun m hm =>
    rodPresent_congr (hport _ (by simp [Fld.key]; omega)) (hport _ (by simp [Fld.key]; omega))
  obtain ⟨hcause, heth, hrest⟩ := retireRod_shows (s.retirePort p) hn ((hrods n hn).trans hrod)
  have hclaims := fieldsKept_degrade_claims ((s.retirePort p).retireRod n 2)
  generalize (s.retirePort p).retireRod n 2 = u at *
  refine ⟨?_, fun q hq => ?_, fun m hm => ?_⟩
  · rw [hclaims _ (by simp [claimFields, Fld.key]; omega), hcause]
  · rw [ethPresent_congr (hclaims _ (by decide)) (hclaims _ (by decide)), heth, ethPresent_retirePort s p hq]
  · rw [rodPresent_congr (hclaims _ (by simp [claimFields, Fld.key]; omega))
      (hclaims _ (by simp [claimFields, Fld.key]; omega)), hrest m hm, hrods m hm]

/-! ### The settled statement -/

/-- Settles O12: each stage is one equation for what it stores; reads go through the fields that the later updates of the
stage do not touch. -/
theorem startStagesRecordTheirFindings : Obligations.StartStagesRecordTheirFindings := by
  unfold Obligations.StartStagesRecordTheirFindings
  refine ⟨?_, ?_, ?_, ?_, ?_⟩
  · intro s attempts part rev uid fuse revoked corr debug hstage hfail h₁ h₃ hpart ports rods slots
    have hv : variantOf part = some ⟨ports, rods, slots, part == 0x7680⟩ := by
      rcases hpart with rfl | rfl | rfl <;> rfl
    have hcut : part % 2 ^ 16 = part ∧ ports % 2 ^ 32 = ports ∧ slots % 2 ^ 10 = slots := by
      rcases hpart with rfl | rfl | rfl <;> decide
    obtain ⟨hframe, hkept, hs, hdone, hatt, hcorr, hp, hports, hcount, hscr, hwords⟩ :=
      optionLoadDone_ok s corr rev uid fuse revoked debug hstage hfail hv h₁ h₃
    exact ⟨_, rfl, hframe, hkept.mono (by decide), hs, hdone, hatt, hcorr, hp.trans hcut.1, hports.trans hcut.2.1,
      hcount.trans hcut.2.2, hscr, hwords⟩
  · intro s attempts part rev uid ports rods slots fuse revoked corr scramble debug hstage hfail
    refine ⟨_, answers rfl (optionLoadDone_failed s attempts part rev uid ⟨ports, rods, slots, scramble⟩ fuse revoked corr
      debug hstage hfail), (((OnlyFields.refl s _).setB _ (by simp)).setF _ (by simp)).setB _ (by simp), ?_, ?_, ?_⟩
    · simp (disch := decide) only [getF_setF_ne, getF_setB_ne, hstage]
    · exact isF_setB_same _ _ _ rfl
    · rw [getF_setB_ne _ _ _ _ (by decide), getF_setF_same]
      rfl
  · intro s mvs hstage _ v
    have hv : v ≤ 255 := medianOf_conversion_le mvs
    refine ⟨_, answers rfl (doStrapMeasured_eq s mvs hstage), ((((((OnlyFields.refl s _).setF _ (by simp)).setF _
      (by simp)).setB _ (by simp)).setF _ (by simp)).setF _ (by simp)), ?_, ?_, ?_, ?_⟩
    · simp (disch := decide) only [getF_setF_ne, getF_setB_ne, getF_setF_same]
      exact Nat.mod_eq_of_lt (strapCode_lt hv)
    · simp (disch := decide) only [getF_setF_ne, getF_setB_ne, getF_setF_same]
      exact Nat.mod_eq_of_lt (by omega)
    · simp (disch := decide) only [isF_setF_ne, isF_setB_same]
      rfl
    · simp
  · intro s hstage hwrst htested hwaking p hp _ n hn hrod
    have e := doStartSelfTestsDone_one_port_one_rod s p n hstage hwrst htested hwaking
    obtain ⟨hcause, heth, hrods⟩ := retired_shows s p hn hrod
    generalize ((s.retirePort p).retireRod n 2).degrade.claims = u at e hcause heth hrods
    exact ⟨_, answers rfl e, rfl, (heth p hp).trans (by simp), (hrods n hn).trans (by simp), hcause,
      fun q hq hqp => (heth q hq).trans (by simp [hqp]), fun m hm hmn => (hrods m hm).trans (by simp [hmn])⟩
  · intro s xtal hpo
    have h : doVbatkRise xtal s = s.zeroVbatk.setB F.GLB_CLK_STAT_AON_XTAL xtal := if_pos hpo
    exact ⟨_, answers rfl h, isF_setB_same _ _ _ rfl, rfl, rfl, rfl, rfl⟩

end Sys2Proof.Machine
end

section
/-! PROOF of MemoryTrainingAndTest. -/

namespace Sys2Proof.Machine
variable (s : State)

/-! ### The device is lost (R412, R413) -/

/-- Releasing the items of a queue replaces nothing outside the data plane. -/
theorem releaseAll_eq (l : List QRef) (s : State) : l.foldl (fun u r => u.release r.item) s
    = { s with dp := (l.foldl (fun u r => u.release r.item) s).dp } := by
  induction l generalizing s with
  | nil => rfl
  | cons r l ih =>
    rw [List.foldl_cons, ih]
    dsimp only
    rw [release_eq]

/-- Releasing what waits for the recorder replaces nothing outside the data plane. -/
theorem dropTrace_eq : s.dropTrace = { s with dp := s.dropTrace.dp } := by
  refine forN_keeps s (fun t => t = { s with dp := t.dp }) 8 _ (fun c t ht => ?_) rfl
  unfold State.setQueue
  rw [releaseAll_eq, ht]

theorem dropTrace_regs : s.dropTrace.regs = s.regs := by rw [dropTrace_eq]
theorem dropTrace_ddr : s.dropTrace.ddr = s.ddr := by rw [dropTrace_eq]

/-- Stopping the recorder replaces its state, its stop cause and the data plane; it stands in IDLE. -/
theorem stopTrace_stops (c : Nat) : FieldsKept s (s.stopTrace c) [F.TRC_STAT_STATE, F.TRC_STAT_STOP_CAUSE]
    ∧ (s.stopTrace c).ddr = s.ddr ∧ (s.stopTrace c).getF F.TRC_STAT_STATE = 0 := by
  unfold State.stopTrace
  split
  · exact ⟨FieldsKept.refl s _, rfl, ‹_›⟩
  · have hkept : FieldsKept s ((s.setF F.TRC_STAT_STATE 0).setF F.TRC_STAT_STOP_CAUSE c)
        [F.TRC_STAT_STATE, F.TRC_STAT_STOP_CAUSE] := ((FieldsKept.refl s _).setF _ (by simp)).setF _ (by simp)
    refine ⟨hkept.of_regs (dropTrace_regs _), dropTrace_ddr _, ?_⟩
    rw [getF_of_regs (dropTrace_regs _), getF_setF_ne _ _ _ _ (by decide), getF_setF_same]
    rfl

/-- The fields that the loss of the device changes. -/
def ddrFailFields : List Fld :=
  [F.MEM_STAT_CAUSE, F.TRC_STAT_STATE, F.TRC_STAT_STOP_CAUSE, F.CRY_CFG_EXT_OK, F.DMA_EVR_HEAD_HEAD]

/-- The loss of the device: its cause is recorded, the recorder stands, the overflow tables are unavailable, and no byte of
the device changes. -/
theorem ddrFail_effect (c : Nat) : FieldsKept s (s.ddrFail c) ddrFailFields ∧ (s.ddrFail c).ddr = s.ddr
    ∧ (s.ddrFail c).getF F.MEM_STAT_CAUSE = c % 2 ^ 3 ∧ (s.ddrFail c).isF F.CRY_CFG_EXT_OK = false
    ∧ (s.ddrFail c).getF F.TRC_STAT_STATE = 0 := by
  unfold State.ddrFail
  dsimp only
  obtain ⟨hstop, hddr, hidle⟩ := stopTrace_stops (s.setF F.MEM_STAT_CAUSE c) 4
  have hcause : ((s.setF F.MEM_STAT_CAUSE c).stopTrace 4).getF F.MEM_STAT_CAUSE = c % 2 ^ 3 :=
    (hstop _ (by decide)).trans (getF_setF_same ..)
  have hkept : FieldsKept s ((s.setF F.MEM_STAT_CAUSE c).stopTrace 4) ddrFailFields :=
    ((FieldsKept.refl s _).setF _ (by decide)).trans (hstop.mono (by decide))
  generalize (s.setF F.MEM_STAT_CAUSE c).stopTrace 4 = u at *
  have hpost := fieldsKept_postFree_idle (u.setB F.CRY_CFG_EXT_OK false) 0x30 1
    (by rw [getF_setB_ne _ _ _ _ (by decide), hidle]; decide)
  refine ⟨(hkept.setB _ (by decide)).trans (hpost.mono (by decide)), by rw [postFree_ddr]; exact hddr, ?_, ?_, ?_⟩
  · rw [hpost _ (by decide), getF_setB_ne _ _ _ _ (by decide), hcause]
  · rw [hpost.isF (by decide), isF_setB_same _ _ _ rfl]
  · rw [hpost _ (by decide), getF_setB_ne _ _ _ _ (by decide), hidle]

/-! ### The memory test (R414) -/

/-- A test that may run: BUSY, no failures yet, its operands latched, and no byte outside its range changed. -/
theorem memTestRun_runs (alg : Nat) {a n : Nat} (hbusy : s.isF F.MEM_TEST_STAT_BUSY = false)
    (hpresent : s.isF F.MEM_STAT_PRESENT = true) (hfailed : s.isF F.MEM_STAT_FAILED = false)
    (ha : s.getF F.MEM_TEST_START_START = a) (hn : s.getF F.MEM_TEST_LEN_LEN = n)
    (hsize : (a + n) * 65536 ≤ s.ddrBytes) (hmeets : s.testMeets (a * 65536) (n * 65536) = false) :
    let t := s.memTestRun alg
    t.isF F.MEM_TEST_STAT_BUSY = true ∧ t.getF F.MEM_TEST_STAT_FAILS = 0
      ∧ t.memTest = some (min alg 2, a, n, s.getF F.MEM_TEST_PAT_PAT) ∧ t.dp = s.dp
      ∧ ∀ x, x < a * 65536 ∨ (a + n) * 65536 ≤ x → t.ddrByte x = s.ddrByte x := by
  dsimp only
  unfold State.memTestRun
  simp only [hbusy, hpresent, hfailed, ha, hn, hmeets, Nat.not_lt.2 hsize, decide_false, Bool.not_true, Bool.or_self,
    Bool.false_eq_true, if_false]
  generalize hu : State.setF _ F.MEM_TEST_FAIL_HI_ADDR 0 = u
  have hw : WritesOnly u (u.destroy (a * 65536) (n * 65536)) (a * 65536) ((a + n) * 65536) := by
    rw [Nat.add_mul]; exact writesOnly_destroy u _ _
  refine ⟨?_, ?_, ?_, ?_, fun x hx => ?_⟩
  · show ((u.destroy _ _).getF F.MEM_TEST_STAT_BUSY == 1) = true
    rw [hw.getF, ← hu]
    simp (disch := decide) only [getF_setF_ne]
    exact isF_setB_same s _ true rfl
  · show (u.destroy _ _).getF F.MEM_TEST_STAT_FAILS = 0
    rw [hw.getF, ← hu]
    simp (disch := decide) only [getF_setF_ne, getF_setF_same, Nat.zero_mod]
  · show some (min alg 2, a, n, u.getF F.MEM_TEST_PAT_PAT) = _
    rw [← hu]
    simp (disch := decide) only [getF_setF_ne, getF_setB_ne]
  · show (u.destroy _ _).dp = _
    rw [hw.dp, ← hu]
    rfl
  · show (u.destroy _ _).ddrByte x = _
    rw [hw.outside x hx, ← hu]
    rfl

/-- A word of zeros is written over the four bytes at its address. -/
theorem writeWord_zero {w x : Nat} (h₁ : w * 4 ≤ x) (h₂ : x < w * 4 + 4) :
    (s.writeDdr (w * 4) (leBytes 4 0)).ddrByte x = 0 := by
  obtain ⟨i, rfl⟩ := Nat.exists_eq_add_of_le h₁
  rw [writeDdr_inside _ s _ _ (by simp [leBytes]; omega)]
  obtain rfl | rfl | rfl | rfl : i = 0 ∨ i = 1 ∨ i = 2 ∨ i = 3 := by omega
  all_goals rfl

/-- The words that a completed test leaves in its range. -/
def fillRange (alg pat start len : Nat) (s : State) : State :=
  s.forN (len * 16384) (fun i s =>
    s.writeDdr ((start * 16384 + i) * 4) (leBytes 4 (testWord alg pat (start * 16384 + i))))

/-- The fill writes in its range alone. -/
theorem writesOnly_fillRange (alg pat a n : Nat) :
    WritesOnly s (fillRange alg pat a n s) (a * 65536) ((a + n) * 65536) :=
  WritesOnly.forN _ _ fun i t hi => WritesOnly.writeDdr t (by omega) (by simp [leBytes]; omega)

/-- March C− ends on zeros. -/
theorem fillRange_march (pat a n : Nat) {x : Nat} (h₁ : a * 65536 ≤ x) (h₂ : x < (a + n) * 65536) :
    (fillRange 0 pat a n s).ddrByte x = 0 := by
  refine forN_reaches (i := x / 4 - a * 16384) (Q := fun _ => True) (P := fun t => t.ddrByte x = 0) (by omega) trivial
    (fun _ _ _ h => h) (fun t _ => ?_) (fun j t hj _ ht => ?_)
  · exact writeWord_zero t (by omega) (by omega)
  · exact (writeDdr_outside _ t _ x (by simp [leBytes]; omega)).trans ht

/-- A test that ends without a failing word. -/
theorem doMemTestDone_nil {alg a n pat : Nat} (h : s.memTest = some (alg, a, n, pat)) :
    doMemTestDone [] s = ({ (((fillRange alg pat a n s).setB F.MEM_TEST_STAT_BUSY false).setF F.MEM_TEST_STAT_FAILS
      0).setF F.MEM_TEST_STAT_STATUS 0 with memTest := none }).postFree 0x30 2 := by
  unfold doMemTestDone; rw [h]; rfl

/-- What the failing words hold is a free value. -/
def destroyWords (fails : List Nat) (s : State) : State := fails.foldl (fun s a => s.destroy (a / 4 * 4) 4) s

/-- A test that ends with failing words, `x` the first. -/
theorem doMemTestDone_cons {alg a n pat : Nat} (x : Nat) (xs : List Nat) (h : s.memTest = some (alg, a, n, pat)) :
    doMemTestDone (x :: xs) s = ({ (((((destroyWords (x :: xs) (fillRange alg pat a n s)).setB
      F.MEM_TEST_STAT_BUSY false).setF F.MEM_TEST_STAT_FAILS (min 0xFFFF (xs.length + 1))).setF
      F.MEM_TEST_STAT_STATUS 5).setF F.MEM_TEST_FAIL_LO_ADDR x).setF F.MEM_TEST_FAIL_HI_ADDR (x / 2 ^ 32) with
        memTest := none }).postFree 0x30 2 := by
  unfold doMemTestDone; rw [h]; rfl

/-- The end of a test without a failing word: OK, no test runs, zeros after March C−, and no byte outside the range. -/
theorem memTestDone_nil {a n pat : Nat} (h : s.memTest = some (0, a, n, pat)) :
    let t := doMemTestDone [] s
    t.isF F.MEM_TEST_STAT_BUSY = false ∧ t.getF F.MEM_TEST_STAT_STATUS = 0 ∧ t.getF F.MEM_TEST_STAT_FAILS = 0
      ∧ t.memTest = none ∧ (∀ x, a * 65536 ≤ x → x < (a + n) * 65536 → t.ddrByte x = 0)
      ∧ ∀ x, x < a * 65536 ∨ (a + n) * 65536 ≤ x → t.ddrByte x = s.ddrByte x := by
  dsimp only
  rw [doMemTestDone_nil s h]
  have hzero := fun x => fillRange_march s pat a n (x := x)
  have hout := (writesOnly_fillRange s 0 pat a n).outside
  generalize fillRange 0 pat a n s = u at *
  generalize hv : ({ State.setF _ F.MEM_TEST_STAT_STATUS 0 with memTest := none } : State) = v
  have hpost := fieldsKept_postFree v 0x30 2
  have hfield : ∀ f, v.getF f = (((u.setB F.MEM_TEST_STAT_BUSY false).setF F.MEM_TEST_STAT_FAILS 0).setF
      F.MEM_TEST_STAT_STATUS 0).getF f := fun f => by rw [← hv]; rfl
  have hbyte : ∀ x, (v.postFree 0x30 2).ddrByte x = u.ddrByte x := fun x => by
    rw [State.ddrByte, postFree_ddr, ← hv]; rfl
  refine ⟨?_, ?_, ?_, ?_, fun x h₁ h₂ => (hbyte x).trans (hzero x h₁ h₂), fun x hx => (hbyte x).trans (hout x hx)⟩
  · rw [hpost.isF (by decide), State.isF, hfield]
    simp (disch := decide) only [getF_setF_ne]
    exact isF_setB_same u _ false rfl
  · rw [hpost _ (by decide), hfield, getF_setF_same, Nat.zero_mod]
  · rw [hpost _ (by decide), hfield, getF_setF_ne _ _ _ _ (by decide), getF_setF_same, Nat.zero_mod]
  · rw [postFree_memTest, ← hv]

/-- The end of a test with failing words: INTEGRITY_FAIL, their number and the address of the first. -/
theorem memTestDone_cons {alg a n pat x : Nat} {xs : List Nat} (h : s.memTest = some (alg, a, n, pat)) (hx : x < 2 ^ 33)
    (hxs : xs.length < 65535) :
    let t := doMemTestDone (x :: xs) s
    t.getF F.MEM_TEST_STAT_STATUS = 5 ∧ t.getF F.MEM_TEST_STAT_FAILS = xs.length + 1
      ∧ t.getF F.MEM_TEST_FAIL_LO_ADDR + t.getF F.MEM_TEST_FAIL_HI_ADDR * 2 ^ 32 = x := by
  dsimp only
  rw [doMemTestDone_cons s x xs h]
  generalize destroyWords (x :: xs) _ = u
  have hpost := fun v : State => fieldsKept_postFree { v with memTest := none } 0x30 2
  refine ⟨?_, ?_, ?_⟩
  · refine (hpost _ _ (by decide)).trans ?_
    show State.getF (State.setF _ F.MEM_TEST_FAIL_HI_ADDR _) _ = 5
    simp (disch := decide) only [getF_setF_ne, getF_setF_same]
    rfl
  · refine (hpost _ _ (by decide)).trans ?_
    show State.getF (State.setF _ F.MEM_TEST_FAIL_HI_ADDR _) _ = xs.length + 1
    simp (disch := decide) only [getF_setF_ne, getF_setF_same]
    omega
  · rw [hpost _ _ (by decide), hpost _ _ (by decide)]
    show State.getF (State.setF _ F.MEM_TEST_FAIL_HI_ADDR _) _
      + State.getF (State.setF _ F.MEM_TEST_FAIL_HI_ADDR _) _ * 2 ^ 32 = x
    simp (disch := decide) only [getF_setF_ne, getF_setF_same]
    omega

/-! ### The settled statement -/

/-- Settles O41: the loss of the device is one lemma about what it changes, a running test writes in its range alone, and
March C− writes zeros over every word of it. -/
theorem memoryTrainingAndTest : Obligations.MemoryTrainingAndTest := by
  unfold Obligations.MemoryTrainingAndTest
  refine ⟨?_, ?_, ?_, ?_, ?_, ?_, ?_, ?_, ?_, ?_, ?_⟩
  · intro s size hstage htrained hcause
    have e : doLpddr5Trained 0 size s = ((s.setB F.MEM_STAT_PRESENT true).setB F.MEM_STAT_TRAINED true).setF
        F.MEM_STAT_SIZE (min 8 size) := by simp [doLpddr5Trained, Nat.not_lt.2 hstage, htrained, hcause]
    exact answers rfl e
  · intro s size hstage htrained hcause
    have e : doLpddr5Trained 1 size s = (s.setB F.MEM_STAT_PRESENT false).ddrFail 1 := by
      simp [doLpddr5Trained, Nat.not_lt.2 hstage, htrained, hcause]
    obtain ⟨hkept, hddr, hone, hext, -⟩ := ddrFail_effect (s.setB F.MEM_STAT_PRESENT false) 1
    refine ⟨_, answers rfl e, ?_, ?_, hone, hext, hddr⟩
    · rw [hkept.isF (by decide), isF_setB_same _ _ _ rfl]
    · rw [hkept.isF (by decide), isF_setB_ne _ _ _ _ (by decide), htrained]
  · intro s hup
    exact answers rfl (by simp [doLpddr5Retrain, hup])
  · intro s hup hfails
    exact answers rfl (by simp [doLpddr5Retrain, hup, hfails])
  · intro s hup hfails
    have e : doLpddr5Retrain false s = ({ s with ddrFails := 0 }.setB F.MEM_STAT_FAILED true).ddrFail 3 := by
      simp [doLpddr5Retrain, hup, hfails]
    have htrained : s.isF F.MEM_STAT_TRAINED = true := by
      simp only [State.ddrUp, Bool.and_eq_true] at hup
      exact hup.1.1.2
    obtain ⟨hkept, -, hcause, hext, hidle⟩ := ddrFail_effect ({ s with ddrFails := 0 }.setB F.MEM_STAT_FAILED true) 3
    refine ⟨_, answers rfl e, ?_, ?_, hcause, hext, hidle⟩
    · rw [hkept.isF (by decide), isF_setB_same _ _ _ rfl]
    · rw [hkept.isF (by decide), isF_setB_ne _ _ _ _ (by decide)]
      exact htrained
  · intro s hserving
    exact answers rfl (by simp [doMemTestNop, State.busGate, hserving])
  · intro s alg a n hserving hbusy hpresent hfailed ha hn hsize hmeets
    exact ⟨_, answers rfl (if_pos hserving), memTestRun_runs s alg hbusy hpresent hfailed ha hn hsize hmeets⟩
  · intro s alg hserving hbusy hsize
    exact answers rfl (by simp [doMemTestRun, State.busGate, hserving, State.memTestRun, hbusy, hsize])
  · intro s hserving _
    exact answers rfl (if_pos hserving)
  · intro s a n pat h
    exact ⟨_, rfl, memTestDone_nil s h⟩
  · intro s alg a n pat x xs h hx hxs
    exact ⟨_, rfl, memTestDone_cons s h hx hxs⟩

end Sys2Proof.Machine
end

section
/-! PROOF of InterruptsWindowAndPerst. -/

namespace Sys2Proof.Machine
variable (s : State)

/-! ### MSIX_MESSAGE (R304) -/

/-- The pending announcements of a source are taken. -/
def takeIrq (src : Nat) (s : State) : State :=
  { s with host := { s.host with irq := sput (fun _ => (0, 0)) s.host.irq src (0, 0) } }

theorem takeIrq_irq (src : Nat) : sget (fun _ => (0, 0)) (takeIrq src s).host.irq src = (0, 0) :=
  sget_sput_same s.host.irq src (0, 0)

theorem takeIrq_msixMasked (src v : Nat) : (takeIrq src s).msixMasked v = s.msixMasked v := rfl

/-- A source with enough announcements: they are taken, and its vector sends or becomes pending. -/
theorem doMsixMessage_due {src : Nat} (hsrc : src < 131) (hany : (sget (fun _ => (0, 0)) s.host.irq src).1 ≠ 0)
    (hen : s.isF (F.DMA_IRQ_MAP_EN src) = true)
    (hdue : s.getF (F.DMA_IRQ_MAP_MOD_COUNT src) ≤ (sget (fun _ => (0, 0)) s.host.irq src).1) :
    doMsixMessage src s = (takeIrq src s).msixSend (s.getF (F.DMA_IRQ_MAP_VEC src)) := by
  simp only [doMsixMessage, Nat.mod_eq_of_lt hsrc, hany, hen, hdue, decide_false, decide_true, Bool.not_true,
    Bool.or_self, Bool.false_eq_true, if_false, Bool.true_or, if_true]
  rfl

/-- A masked vector sets its PBA bit. -/
theorem msixSend_masked {v : Nat} (h : s.msixMasked v = true) :
    s.msixSend v = s.orF (F.MSIX_PBA_PENDING (v / 32)) (v % 32) := if_pos h

/-- An unmasked vector sends its message. -/
theorem msixSend_unmasked {v : Nat} (h : s.msixMasked v = false) : s.msixSend v = s.msixEmit v := by
  simp [State.msixSend, h]

/-! ### MSIX_UNMASK (R304) -/

/-- Function Mask is a bit of configuration space. -/
theorem funcMask_eq : s.funcMask = bit (sget cfgReset s.host.cfg 0x50) 30 := rfl

/-- The message of vector `v`. -/
def msixMsg (s : State) (v : Nat) : Out :=
  .msix v (s.getF (F.MSIX_ADDR_LO_ADDR v) * 4 + s.getF (F.MSIX_ADDR_HI_ADDR v) * 2 ^ 32) (s.getF (F.MSIX_DATA_DATA v))

/-- Vector `v` sends what is pending, where it is unmasked: one round of `msixFlush`. -/
def flushOne (v : Nat) (s : State) : State :=
  let f := F.MSIX_PBA_PENDING (v / 32)
  if bit (s.getF f) (v % 32) && !s.msixMasked v then (s.clrF f (v % 32)).msixEmit v else s

theorem msixFlush_eq : s.msixFlush = s.forN 256 flushOne := rfl

/-- A round touches one PBA field, and the outward list only by appending. -/
theorem flushOne_keeps (w : Nat) : FieldsKept s (flushOne w s) [F.MSIX_PBA_PENDING (w / 32)]
    ∧ (flushOne w s).host = s.host ∧ (∀ o ∈ s.out, o ∈ (flushOne w s).out) := by
  unfold flushOne
  dsimp only
  split
  · refine ⟨((FieldsKept.refl s _).clrF _ (by simp)).of_regs rfl, ?_, fun o ho => ?_⟩
    · show (s.clrF _ _).host = _
      rw [clrF_eq]
    · show o ∈ (s.clrF _ _).out ++ _
      rw [clrF_eq]
      exact List.mem_append_left _ ho
  · exact ⟨FieldsKept.refl s _, rfl, fun _ h => h⟩

/-- A round leaves the pending bit of another vector alone. -/
theorem flushOne_bit {v w : Nat} (hne : w ≠ v) : bit ((flushOne w s).getF (F.MSIX_PBA_PENDING (v / 32))) (v % 32)
    = bit (s.getF (F.MSIX_PBA_PENDING (v / 32))) (v % 32) := by
  by_cases hw : v / 32 = w / 32
  · unfold flushOne
    dsimp only
    split
    · show bit (State.getF (s.clrF _ _) _) _ = _
      rw [hw, bit_clrF _ _ (Nat.mod_lt v (Nat.succ_pos 31))]
      have hbit : v % 32 ≠ w % 32 := by omega
      simp [hbit]
    · rfl
  · rw [(flushOne_keeps s w).1 _ (by simp [Fld.key]; omega)]

/-- What vector `v` needs to send in a flush that began in state `s`: its bit is pending, it is unmasked, and its message is
the one of `s`. -/
structure MsixPending (s : State) (v : Nat) (t : State) : Prop where
  pending : bit (t.getF (F.MSIX_PBA_PENDING (v / 32))) (v % 32) = true
  func : t.funcMask = false
  mask : t.isF (F.MSIX_CTL_MASK v) = false
  msg : msixMsg t v = msixMsg s v

/-- What a flush leaves of an unmasked vector that was pending: its bit clear, its mask clear, its message sent. -/
structure MsixFlushed (s : State) (v : Nat) (t : State) : Prop where
  pending : bit (t.getF (F.MSIX_PBA_PENDING (v / 32))) (v % 32) = false
  mask : t.isF (F.MSIX_CTL_MASK v) = false
  sent : msixMsg s v ∈ t.out

/-- No PBA word is a field of the table entry of vector `v`. -/
theorem entry_notMem_pba {v w : Nat} (hv : v < 256) : (F.MSIX_CTL_MASK v).key ∉ [F.MSIX_PBA_PENDING w].map Fld.key
    ∧ (F.MSIX_ADDR_LO_ADDR v).key ∉ [F.MSIX_PBA_PENDING w].map Fld.key
    ∧ (F.MSIX_ADDR_HI_ADDR v).key ∉ [F.MSIX_PBA_PENDING w].map Fld.key
    ∧ (F.MSIX_DATA_DATA v).key ∉ [F.MSIX_PBA_PENDING w].map Fld.key := by
  simp only [List.map_cons, List.map_nil, List.mem_singleton, Fld.key]
  omega

/-- A round of another vector keeps what vector `v` needs. -/
theorem MsixPending.other {s t : State} {v w : Nat} (hv : v < 256) (hne : w ≠ v) (h : MsixPending s v t) :
    MsixPending s v (flushOne w t) := by
  obtain ⟨hkept, hhost, -⟩ := flushOne_keeps t w
  obtain ⟨hmask, hlo, hhi, hdata⟩ := entry_notMem_pba (w := w / 32) hv
  refine ⟨(flushOne_bit t hne).trans h.pending, ?_, (hkept.isF hmask).trans h.mask, ?_⟩
  · rw [funcMask_eq, hhost, ← funcMask_eq]; exact h.func
  · rw [← h.msg, msixMsg, msixMsg, hkept _ hlo, hkept _ hhi, hkept _ hdata]

/-- The round of vector `v` sends its message. -/
theorem MsixPending.round {s t : State} {v : Nat} (hv : v < 256) (h : MsixPending s v t) :
    MsixFlushed s v (flushOne v t) := by
  have hmasked : t.msixMasked v = false := by rw [State.msixMasked, h.func, h.mask]; rfl
  have e : flushOne v t = (t.clrF (F.MSIX_PBA_PENDING (v / 32)) (v % 32)).msixEmit v :=
    if_pos (by rw [h.pending, hmasked]; rfl)
  obtain ⟨hmask, hlo, hhi, hdata⟩ := entry_notMem_pba (w := v / 32) hv
  have hkept : FieldsKept t (t.clrF (F.MSIX_PBA_PENDING (v / 32)) (v % 32)) [F.MSIX_PBA_PENDING (v / 32)] :=
    (FieldsKept.refl t _).clrF _ (by simp)
  refine ⟨?_, ((flushOne_keeps t v).1.isF hmask).trans h.mask, ?_⟩
  · rw [e]
    show bit (State.getF (t.clrF _ _) _) _ = _
    rw [bit_clrF _ _ (Nat.mod_lt v (Nat.succ_pos 31))]
    simp
  · rw [e, ← h.msg]
    show _ ∈ (t.clrF _ _).out ++ [msixMsg (t.clrF _ _) v]
    rw [msixMsg, hkept _ hlo, hkept _ hhi, hkept _ hdata]
    exact List.mem_append_right _ (List.mem_singleton.2 rfl)

/-- A round of another vector keeps what the flush has done for vector `v`. -/
theorem MsixFlushed.other {s t : State} {v w : Nat} (hv : v < 256) (hne : w ≠ v) (h : MsixFlushed s v t) :
    MsixFlushed s v (flushOne w t) := by
  obtain ⟨hkept, -, hout⟩ := flushOne_keeps t w
  exact ⟨(flushOne_bit t hne).trans h.pending, (hkept.isF (entry_notMem_pba hv).1).trans h.mask, hout _ h.sent⟩

/-- A flush sends the message of every unmasked vector that is pending. -/
theorem msixFlush_sends {v : Nat} (hv : v < 256) (h : MsixPending s v s) : MsixFlushed s v s.msixFlush := by
  rw [msixFlush_eq]
  exact forN_reaches (Q := MsixPending s v) hv h (fun _ _ hj ht => ht.other hv hj.ne) (fun _ ht => ht.round hv)
    (fun _ _ hj _ ht => ht.other hv hj.ne')

/-- Unmasking a pending vector with Function Mask clear: it may send at once. -/
theorem msixPending_of_unmask {v : Nat} (hfunc : s.funcMask = false)
    (hpend : bit (s.getF (F.MSIX_PBA_PENDING (v / 32))) (v % 32) = true) :
    let t := s.setB (F.MSIX_CTL_MASK v) false
    MsixPending t v t ∧ msixMsg t v = msixMsg s v := by
  have hkept : FieldsKept s (s.setB (F.MSIX_CTL_MASK v) false) [F.MSIX_CTL_MASK v] :=
    (FieldsKept.refl s _).setB _ (by simp)
  refine ⟨⟨?_, ?_, isF_setB_same _ _ _ rfl, rfl⟩, ?_⟩
  · rw [hkept _ (by simp [Fld.key]; omega)]; exact hpend
  · rw [funcMask_eq, setB_host, ← funcMask_eq]; exact hfunc
  · rw [msixMsg, msixMsg, hkept _ (by simp [Fld.key]; omega), hkept _ (by simp [Fld.key]), hkept _ (by simp [Fld.key])]

/-! ### BAR2_ACCESS (R288) -/

/-- A write of BAR2 that the endpoint takes at once. -/
theorem doBar2Access_write {x n : Nat} {bs : List Byte} (hmem : s.memOn = true) (hheld : s.host.held = [])
    (hx : x < 0xF000000) : doBar2Access x n (some bs) s = s.b2Write x bs := by
  have hmod : x % 0x10000000 = x := Nat.mod_eq_of_lt (by omega)
  simp [doBar2Access, State.posted, State.onWrite, hmem, hheld, State.noCredit, hmod]

/-- A write in the window, none of whose bytes is forbidden, stores its bytes. -/
theorem b2Write_stores {x : Nat} {bs : List Byte} (hup : s.ddrUp = true) (hx : x < 0xF000000)
    (hok : ∀ i < bs.length, s.b2Forbidden (s.b2Addr x + i) = false) :
    s.b2Write x bs = s.writeDdr (s.b2Addr x) bs := by
  have h₁ : ¬ 0xF800000 ≤ x := by omega
  have h₂ : ¬ 0xF000000 ≤ x := by omega
  have h₃ : (List.range bs.length).any (fun i => s.b2Forbidden (s.b2Addr x + i)) = false := by
    simpa using hok
  simp [State.b2Write, h₁, h₂, hup, h₃]

/-- A write in the window that touches a forbidden byte is counted and dropped whole. -/
theorem b2Write_drops {x i : Nat} {bs : List Byte} (hup : s.ddrUp = true) (hx : x < 0xF000000) (hi : i < bs.length)
    (hbad : s.b2Forbidden (s.b2Addr x + i) = true) : s.b2Write x bs = s.tally (T.dma 2) := by
  have h₁ : ¬ 0xF800000 ≤ x := by omega
  have h₂ : ¬ 0xF000000 ≤ x := by omega
  have h₃ : (List.range bs.length).any (fun i => s.b2Forbidden (s.b2Addr x + i)) = true :=
    List.any_eq_true.2 ⟨i, List.mem_range.2 hi, hbad⟩
  simp only [State.b2Write, h₁, h₂, hup, h₃, if_false, if_true, Bool.not_true, Bool.false_eq_true]

/-- A read within the window and the device answers the device's bytes. -/
theorem b2Read_window {x n : Nat} (hup : s.ddrUp = true) (hx : x + n ≤ 0xF000000) (hn : s.b2Addr x + n ≤ s.ddrBytes) :
    s.b2Read x n = ({ s with freeCtr := s.freeCtr + n }).emit (.completion
      (leNat ((List.range n).map (fun i => BitVec.ofNat 8 (s.ddrByte (s.b2Addr x + i)))))) := by
  unfold State.b2Read
  dsimp only
  congr 3
  refine List.map_congr_left fun i hi => ?_
  have hin : i < n := List.mem_range.1 hi
  have haddr : s.b2Addr (x + i) = s.b2Addr x + i := by unfold State.b2Addr; omega
  have hlt : s.b2Addr x + i < s.ddrBytes := by omega
  rw [if_pos (by omega), haddr]
  simp [State.b2Byte, hup, hlt]

/-! ### PCIE_PERST (R285) -/

/-- A field of a register file from which keys have been dropped: its reset value if its key was dropped. -/
theorem sget_filter_key {α : Type} (d : Nat → α) (p : Nat → Bool) (m : Sparse α) (k : Nat) :
    sget d (m.filter (fun e => p e.1)) k = if p k then sget d m k else d k := by
  induction m with
  | nil => simp [sget]
  | cons e m ih =>
    obtain ⟨k', v⟩ := e
    by_cases hk : k = k'
    · subst hk
      by_cases hp : p k = true
      · simp [hp, sget]
      · simp [hp, ih]
    · by_cases hp : p k' = true <;> simp [hp, sget, hk, ih]

theorem win_setWin_ne {h j : Nat} (w : Win) (hne : h ≠ j) : (s.setWin j w).win h = s.win h :=
  sget_sput_ne _ _ hne

/-- PERST before the windows: link, configuration space, waiting writes, and the registers of `perstReg`. -/
def perstBase (s : State) : State :=
  { s with
    regs := s.regs.filter (fun e => !perstReg (e.1 / 32))
    host := { s.host with link := false, cfg := [], held := [], txNext := 0 } }

theorem doPciePerst_eq : doPciePerst s = (perstBase s).forN 16 (fun h s => s.setWin h (s.win h).dropReads) := rfl

/-- The windows are all that PERST changes after that. -/
theorem doPciePerst_frame : doPciePerst s
    = { perstBase s with host := { (perstBase s).host with wins := (doPciePerst s).host.wins } } := by
  rw [doPciePerst_eq]
  refine forN_keeps _ (fun t => t = { perstBase s with host := { (perstBase s).host with wins := t.host.wins } }) 16 _
    (fun h t ht => ?_) rfl
  rw [State.setWin, ht]

/-- Each window keeps its writes and subscriptions, and loses the host's reads. -/
theorem doPciePerst_win {h : Nat} (hh : h < 16) : ((doPciePerst s).win h).q = (s.win h).dropReads.q := by
  rw [doPciePerst_eq]
  refine forN_reaches (Q := fun t => t.win h = s.win h) (P := fun t => (t.win h).q = (s.win h).dropReads.q) hh rfl
    (fun j t hj ht => (win_setWin_ne t _ hj.ne').trans ht) (fun t ht => ?_) (fun j t hj _ ht => ?_)
  · rw [win_setWin_same, ht]
  · rw [win_setWin_ne t _ hj.ne, ht]

/-! ### The settled statement -/

/-- Settles O58: a flush of the MSI-X vectors is followed round by round; the window's writes and reads are those of the
device's bytes; PERST drops keys of the register file and then changes windows alone. -/
theorem interruptsWindowAndPerst : Obligations.InterruptsWindowAndPerst := by
  unfold Obligations.InterruptsWindowAndPerst
  refine ⟨?_, ?_, ?_, ?_, ?_, ?_, ?_⟩
  · intro s src hsrc hany hen hdue hmask
    exact ⟨_, answers rfl ((doMsixMessage_due s hsrc hany hen hdue).trans (msixSend_unmasked _
      ((takeIrq_msixMasked s src _).trans hmask))),
      takeIrq_irq s src, rfl, rfl⟩
  · intro s src v hsrc hv hany hen hdue hvec hmask
    subst hvec
    refine ⟨_, answers rfl ((doMsixMessage_due s hsrc hany hen hdue).trans (msixSend_masked _
      ((takeIrq_msixMasked s src _).trans hmask))), ?_, ?_,
      ?_⟩
    · rw [bit_orF _ _ (Nat.mod_lt _ (Nat.succ_pos 31))]
      simp
    · rw [orF_eq]
      rfl
    · have htaken : FieldsKept s (takeIrq src s) [F.MSIX_PBA_PENDING (s.getF (F.DMA_IRQ_MAP_VEC src) / 32)] :=
        (FieldsKept.refl s _).of_regs rfl
      exact htaken.orF _ (List.mem_singleton.2 rfl)
  · intro s v hv hfunc hpend
    obtain ⟨hpending, hmsg⟩ := msixPending_of_unmask s hfunc hpend
    obtain ⟨hbit, hmask, hsent⟩ := msixFlush_sends _ hv hpending
    have e : doMsixUnmask v s = (s.setB (F.MSIX_CTL_MASK v) false).msixFlush := by simp [doMsixUnmask, hv]
    rw [hmsg] at hsent
    exact ⟨_, answers rfl e, hmask, hbit, hsent⟩
  · intro s x n bs hup hmem hheld hx hok
    refine ⟨_, answers rfl ((doBar2Access_write s hmem hheld hx).trans (b2Write_stores s hup hx hok)), ?_, ?_, ?_⟩
    · exact writeDdr_eq _ _ _
    · exact fun i hi => writeDdr_inside _ _ _ _ hi
    · exact fun y hy => writeDdr_outside _ _ _ _ hy
  · intro s x n i bs hup hmem hheld hx hi hbad
    exact answers rfl ((doBar2Access_write s hmem hheld hx).trans (b2Write_drops s hup hx hi hbad))
  · intro s x n hmem hup hxn hn hx
    have e : doBar2Access x n none s = s.b2Read x n := by
      simp [doBar2Access, State.onRead, hmem, Nat.mod_eq_of_lt hx]
    exact ⟨_, answers rfl (e.trans (b2Read_window s hup hxn hn)), rfl, rfl⟩
  · intro s
    have hframe := doPciePerst_frame s
    have hfield : ∀ f : Fld, (doPciePerst s).getF f = if !perstReg (f.key / 32) then s.getF f else fieldReset f.key :=
      fun f => by rw [hframe]; exact sget_filter_key fieldReset (fun k => !perstReg (k / 32)) s.regs f.key
    have hcfg : (doPciePerst s).host.cfg = [] := by rw [hframe]; rfl
    refine ⟨_, rfl, ?_, ?_, hcfg, ?_, fun f hf => ?_, fun f hf => ?_, fun h hh => doPciePerst_win s hh, ?_, ?_⟩
    · rw [funcMask_eq, hcfg]; decide
    · rw [hframe]; rfl
    · rw [hframe]; rfl
    · rw [hfield]; simp [hf]
    · rw [hfield]; simp [hf]
    · rw [hframe]; rfl
    · rw [hframe]; rfl

end Sys2Proof.Machine
end

section
/-! PROOF of RegisterWritesAndAtomics. -/

namespace Sys2Proof.Machine
variable (s : State)

/-! ### A write of the host on its way to a register (R12, R287, R316) -/

/-- A posted write of the host to a register is taken at once. -/
theorem doRegisterWrite_host {off : Nat} (l : List (Nat × Bool)) (env : BusEnv) (h : s.HostOn) :
    doRegisterWrite 2 off l env s = s.hostWrites off l env := by
  obtain ⟨hmem, hheld⟩ := h
  simp [doRegisterWrite, State.posted, State.onWrite, hmem, hheld, State.noCredit]

/-- A write of one complete dword writes that register. -/
theorem hostWrites_one (off v : Nat) (env : BusEnv) : s.hostWrites off [(v, true)] env = s.busWrite 2 off v env := rfl

/-- A write of one incomplete dword is counted. -/
theorem hostWrites_partial (off v : Nat) (env : BusEnv) : s.hostWrites off [(v, false)] env = s.tally (T.dma 0) := rfl

/-- A long write is logged and counted. -/
theorem hostWrites_long {off : Nat} {l : List (Nat × Bool)} (env : BusEnv) (h : 32 < l.length) :
    s.hostWrites off l env = s.aerPosted.tally (T.dma 1) := if_pos h

/-- An aligned offset of BAR0 is the one that a register access names. -/
theorem busOff_eq {off : Nat} (h : off < 2 ^ 26) (h₄ : off % 4 = 0) : off % 2 ^ 26 / 4 * 4 = off := by omega

/-- A write behind the blocks that are always open goes through the gate of R316. -/
theorem busWrite_gated {off : Nat} (r v : Nat) (env : BusEnv) (h : off < 2 ^ 26) (h₄ : off % 4 = 0)
    (hopen : alwaysOpen off = false) :
    s.busWrite r off v env = s.busGate (fun s => s.writeServing r off v env) := by
  have hge : 0x10000 ≤ off := by
    simp only [alwaysOpen, Bool.or_eq_false_iff, decide_eq_false_iff_not] at hopen
    omega
  have h₁ : off ≠ 0x104 := by omega
  have h₂ : off ≠ 0x108 := by omega
  have h₃ : off ≠ 0x190 := by omega
  simp only [State.busWrite, busOff_eq h h₄, h₁, h₂, h₃, hopen, if_false, Bool.false_eq_true]

/-- A write to an open block stores the word. -/
theorem busWrite_open {off : Nat} (r v : Nat) (env : BusEnv) (h : off < 2 ^ 26) (h₄ : off % 4 = 0) (hge : 0x400000 ≤ off)
    (hlt : off < 0x410000) : s.busWrite r off v env = s.storeWord r off v := by
  have hopen : alwaysOpen off = true := by simp [alwaysOpen, hge, hlt]
  have h₁ : off ≠ 0x104 := by omega
  have h₂ : off ≠ 0x108 := by omega
  have h₃ : off ≠ 0x190 := by omega
  simp only [State.busWrite, busOff_eq h h₄, h₁, h₂, h₃, hopen, if_false, if_true]

/-- In service, the host's write of one dword reaches the register. -/
theorem registerWrite_serving {off : Nat} (v : Nat) (env : BusEnv) (h : s.HostOn) (hserving : s.serving = true)
    (hoff : off < 2 ^ 26) (h₄ : off % 4 = 0) (hopen : alwaysOpen off = false) :
    doRegisterWrite 2 off [(v, true)] env s = s.writeServing 2 off v env := by
  rw [doRegisterWrite_host s _ env h, hostWrites_one, busWrite_gated s 2 v env hoff h₄ hopen, State.busGate,
    if_pos hserving]

/-! ### The registers that the statement names (R13, R473) -/

/-- DMA_CFG.RO_EN is read-write. -/
theorem writeServing_dmaCfg (v : Nat) (env : BusEnv) :
    s.writeServing 2 0x2C0000 v env = s.setF F.DMA_CFG_RO_EN (bits v 0 1) := rfl

/-- DMA_B2_BASE.BASE is clamped to 0 to 497 (R14). -/
theorem writeServing_b2Base (v : Nat) (env : BusEnv) :
    s.writeServing 2 0x2C0010 v env = s.setF F.DMA_B2_BASE_BASE (clampInto (bits v 0 9) (0, 497)) := rfl

/-- RNG_STAT is read-only. -/
theorem writeServing_rngStat (v : Nat) (env : BusEnv) : s.writeServing 2 0x440000 v env = s := rfl

/-- DMA_STAT.WARM_SEEN is cleared by a write of 1. -/
theorem writeServing_dmaStat (v : Nat) (env : BusEnv) :
    s.writeServing 2 0x2C0004 v env = s.setF F.DMA_STAT_WARM_SEEN
      (s.getF F.DMA_STAT_WARM_SEEN - (s.getF F.DMA_STAT_WARM_SEEN &&& bits v 0 1)) := rfl

/-- What a write of 1 to a w1c bit leaves. -/
theorem w1c_bit (v : Nat) : ((1 - (1 &&& bits v 0 1)) % 2 ^ 1 == 1) = !bit v 0 := by
  have h : bits v 0 1 = v % 2 := by simp [bits]
  have hb : bit v 0 = (v % 2 == 1) := by simp [bit]
  rw [h, hb]
  obtain h₀ | h₁ : v % 2 = 0 ∨ v % 2 = 1 := by omega
  · rw [h₀]; rfl
  · rw [h₁]; rfl

/-! ### Registers of an array -/

/-- A register array answers at the offset of each of its registers, with its indices. -/
theorem hit_at (r : RegDesc) {i j : Nat} (hi : i < r.n1) (hj : j < r.n2) (hs : 0 < r.s2) (hfit : j * r.s2 < r.s1) :
    r.hit (r.base + i * r.s1 + j * r.s2) = some (i, j) := by
  have hs₁ : 0 < r.s1 := by omega
  have hd : r.base + i * r.s1 + j * r.s2 - r.base = j * r.s2 + r.s1 * i := by rw [Nat.mul_comm r.s1 i]; omega
  have hlt : ¬ r.base + i * r.s1 + j * r.s2 < r.base := by omega
  have h₁ : (j * r.s2 + r.s1 * i) / r.s1 = i := by
    rw [Nat.add_mul_div_left _ _ hs₁, Nat.div_eq_of_lt hfit, Nat.zero_add]
  have h₂ : (j * r.s2 + r.s1 * i) % r.s1 = j * r.s2 := by rw [Nat.add_mul_mod_self_left, Nat.mod_eq_of_lt hfit]
  simp only [RegDesc.hit, hlt, hd, h₁, h₂, Nat.mul_div_cancel _ hs, Nat.mul_mod_left]
  simp [hi, hj]

/-- A register array does not answer beyond its last register. -/
theorem hit_beyond (r : RegDesc) {off : Nat} (hs : 0 < r.s1) (h : r.base + r.n1 * r.s1 ≤ off) : r.hit off = none := by
  have hi : ¬ (off - r.base) / r.s1 < r.n1 := Nat.not_lt.2 ((Nat.le_div_iff_mul_le hs).2 (by omega))
  simp [RegDesc.hit, hi]

theorem findIn_miss {r : RegDesc} {off : Nat} (l : List RegDesc) (h : r.hit off = none) :
    findIn (r :: l) off = findIn l off := by
  simp [findIn, h]

theorem findIn_hit {r : RegDesc} {off i j : Nat} (l : List RegDesc) (h : r.hit off = some (i, j)) :
    findIn (r :: l) off = some (r, i, j) := by
  simp [findIn, h]

theorem blockRegs_rod {off : Nat} (h₁ : 0x180000 ≤ off) (h₂ : off < 0x200000) : blockRegs off = rodRegs := by
  unfold blockRegs
  iterate 9 rw [if_neg (by omega)]
  rw [if_pos h₂]

theorem blockRegs_bkp {off : Nat} (h₁ : 0x400000 ≤ off) (h₂ : off < 0x410000) : blockRegs off = bkpRegs := by
  unfold blockRegs
  iterate 18 rw [if_neg (by omega)]
  rw [if_pos h₂]

/-- ROD_CMD. -/
def rodCmdReg : RegDesc := regA "ROD_CMD" 0x180004 128 1024 (.rod) [fd 0 4 .wo 0 .none, fd 4 4 .wo 0 .none]

/-- BKP_USER. -/
def bkpUserReg : RegDesc := regA "BKP_USER" 0x408000 8192 4 (.none) [fd 0 32 .rw 0 .po]

theorem findReg_rodCmd {n : Nat} (hn : n < 128) : findReg (0x180004 + n * 0x400) = some (rodCmdReg, n, 0) := by
  unfold findReg
  rw [blockRegs_rod (by omega) (by omega)]
  refine (findIn_miss _ ?_).trans (findIn_hit (r := rodCmdReg) _
    (hit_at rodCmdReg (j := 0) hn (by decide) (by decide) (by decide)))
  simp [RegDesc.hit]
  omega

theorem findReg_bkpUser {k : Nat} (hk : k < 8192) : findReg (0x408000 + k * 4) = some (bkpUserReg, k, 0) := by
  unfold findReg
  rw [blockRegs_bkp (by omega) (by omega)]
  unfold bkpRegs
  iterate 10 rw [findIn_miss _ (hit_beyond _ (by decide) (Nat.le_add_right_of_le (by decide)))]
  exact findIn_hit _ (hit_at bkpUserReg (j := 0) hk (by decide) (by decide) (by decide))

/-- ROD_CMD of a present rod runs the rod's command. -/
theorem writeServing_rodCmd {n : Nat} (v : Nat) (env : BusEnv) (hn : n < 128) (hrod : s.rodPresent n = true) :
    s.writeServing 2 (0x180004 + n * 0x400) v env = s.writeRodCmd n v env := by
  unfold State.writeServing
  rw [findReg_rodCmd hn]
  have hthere : s.unitThere rodCmdReg.unit n = true := hrod
  simp only [hthere, Bool.not_true, Bool.false_eq_true, if_false]
  rfl

/-! ### BKP_USER (R289, R316) -/

/-- A read of BKP_USER answers the field. -/
theorem busRead_bkpUser {k : Nat} (env : BusEnv) (hk : k < 8192) :
    s.busRead 2 (0x408000 + k * 4) env = (s.getF (F.BKP_USER_DATA k), s) := by
  have hopen : alwaysOpen (0x408000 + k * 4) = true := by simp [alwaysOpen]; omega
  have hword : s.readWord 2 (0x408000 + k * 4) = s.regWord (0x408000 + k * 4) := by
    unfold State.readWord
    rw [findReg_bkpUser hk]
    rfl
  have hreg : s.regWord (0x408000 + k * 4) = s.getF (F.BKP_USER_DATA k) := by
    unfold State.regWord
    rw [Nat.mod_eq_of_lt (by unfold ownStep; omega), findReg_bkpUser hk]
    show 0 + _ * 2 ^ 0 = _
    simp
  have h₁ : 0x408000 + k * 4 ≠ 0x500 := by omega
  have h₂ : 0x408000 + k * 4 ≠ 0x504 := by omega
  have h₃ : 0x408000 + k * 4 ≠ 0x20010 := by omega
  have h₄ : 0x408000 + k * 4 ≠ 0x20240 := by omega
  simp only [State.busRead, busOff_eq (off := 0x408000 + k * 4) (by omega) (by omega), h₁, h₂, h₃, h₄, hopen, hword, hreg,
    if_false, Bool.not_true, Bool.and_false, Bool.false_eq_true]

/-- A write of BKP_USER stores the field. -/
theorem busWrite_bkpUser {k : Nat} (v : Nat) (env : BusEnv) (hk : k < 8192) :
    s.busWrite 2 (0x408000 + k * 4) v env = s.setF (F.BKP_USER_DATA k) (bits v 0 32) := by
  rw [busWrite_open s 2 v env (by omega) (by omega) (by omega) (by omega)]
  unfold State.storeWord
  rw [findReg_bkpUser hk]
  rfl

/-- An atomic on BKP_USER answers the old value and writes what the operation gives. -/
theorem doBar0Atomic_bkpUser {k : Nat} (op a b : Nat) (env : BusEnv) (hmem : s.memOn = true) (hk : k < 8192) :
    doBar0Atomic 0 (0x408000 + k * 4) op 32 a b env s
      = ((atomicValue op a b (s.getF (F.BKP_USER_DATA k))).elim s
          (fun w => s.setF (F.BKP_USER_DATA k) (bits w 0 32))).emit (.completion (s.getF (F.BKP_USER_DATA k))) := by
  have hfence : s.fenceAt (0x408000 + k * 4) = none := by
    simp only [State.fenceAt, busOff_eq (off := 0x408000 + k * 4) (by omega) (by omega)]
    rw [if_neg (by omega)]
  simp only [doBar0Atomic, State.onRead, hmem, if_true, ne_eq, not_true, or_self, if_false, hfence, State.busAtomic,
    busRead_bkpUser s env hk]
  cases h : atomicValue op a b (s.getF (F.BKP_USER_DATA k)) with
  | some w => simp only [busWrite_bkpUser s w env hk, Option.elim_some]
  | none => rfl

/-- An atomic that names BAR2 or BAR4, or more than 32 bits, is unsupported while the link is up. -/
theorem doBar0Atomic_unsupported {bar off op size a b : Nat} (env : BusEnv) (hlink : s.host.link = true)
    (h : bar ≠ 0 ∨ size ≠ 32) : doBar0Atomic bar off op size a b env s = s.emit .unsupported := by
  unfold doBar0Atomic State.onRead
  simp only [if_pos h, hlink, if_true, ite_self]

/-! ### The settled statement -/

/-- Settles O59: a write of the host is followed to its register, whose fields store by their access type; the offsets of an
array are found through its indices. -/
theorem registerWritesAndAtomics : Obligations.RegisterWritesAndAtomics := by
  unfold Obligations.RegisterWritesAndAtomics
  refine ⟨?_, ?_, ?_, ?_, ?_, ?_, ?_, ?_, ?_, ?_, ?_, ?_⟩
  · intro s v env hon hserving
    refine ⟨_, answers rfl ((registerWrite_serving s v env hon hserving (by decide) (by decide) (by decide)).trans
      (writeServing_dmaCfg s v env)), (OnlyFields.refl s _).setF _ (by simp), ?_⟩
    rw [getF_setF_same]
    simp [bits]
  · intro s v env hon hserving
    refine ⟨_, answers rfl ((registerWrite_serving s v env hon hserving (by decide) (by decide) (by decide)).trans
      (writeServing_b2Base s v env)), (OnlyFields.refl s _).setF _ (by simp), ?_⟩
    rw [getF_setF_same]
    have hcut : bits v 0 9 = v % 2 ^ 9 := by simp [bits]
    have hle : clampInto (v % 2 ^ 9) (0, 497) = min 497 (v % 2 ^ 9) := by
      unfold clampInto; split_ifs <;> omega
    rw [hcut, hle]
    exact Nat.mod_eq_of_lt (show _ < 2 ^ 9 by omega)
  · intro s v env hon hserving
    exact answers rfl ((registerWrite_serving s v env hon hserving (by decide) (by decide) (by decide)).trans
      (writeServing_rngStat s v env))
  · intro s v env hon hserving hseen
    have hone : s.getF F.DMA_STAT_WARM_SEEN = 1 := by simpa [State.isF] using hseen
    refine ⟨_, answers rfl ((registerWrite_serving s v env hon hserving (by decide) (by decide) (by decide)).trans
      (writeServing_dmaStat s v env)), (OnlyFields.refl s _).setF _ (by simp), ?_⟩
    rw [State.isF, getF_setF_same, hone]
    exact w1c_bit v
  · intro s off v env hon hserving hoff h₄ hopen
    refine answers rfl ?_
    rw [doRegisterWrite_host s _ env hon, hostWrites_one, busWrite_gated s 2 v env hoff h₄ hopen, State.busGate,
      if_neg (by simp [hserving])]
  · intro s off v env hon
    exact answers rfl ((doRegisterWrite_host s _ env hon).trans (hostWrites_partial s off v env))
  · intro s off l env hon hlong
    exact answers rfl ((doRegisterWrite_host s _ env hon).trans (hostWrites_long s env hlong))
  · intro s env hon hserving
    have run : ∀ (off v : Nat) (u : State), off < 2 ^ 26 → off % 4 = 0 → alwaysOpen off = false →
        s.writeServing 2 off v env = u → exec (.registerWrite 2 off [(v, true)] env) s = .next u :=
      fun off v u hoff h₄ hopen e => answers rfl ((registerWrite_serving s v env hon hserving hoff h₄ hopen).trans e)
    exact ⟨run 0x40000 0 (doTblNop 2 s) (by decide) (by decide) (by decide) rfl,
      run 0x240000 1 (doGenerate 2 s) (by decide) (by decide) (by decide) rfl,
      run 0x280000 4 (doUpdAbort s) (by decide) (by decide) (by decide) rfl,
      run 0x10008 0 (doSafNop s) (by decide) (by decide) (by decide) rfl,
      run 0x3C0004 3 (doPwrLean 2 s) (by decide) (by decide) (by decide) rfl,
      run 0x300010 0 (doMemTestNop s) (by decide) (by decide) (by decide) rfl⟩
  · intro s n env hon hserving hn hrod
    have hopen : alwaysOpen (0x180004 + n * 0x400) = false := by simp [alwaysOpen]; omega
    have hstart : s.writeRodCmd n 2 env = doStart n s := rfl
    exact answers rfl ((registerWrite_serving s 2 env hon hserving (by omega) (by omega) hopen).trans
      ((writeServing_rodCmd s 2 env hn hrod).trans hstart))
  · intro s k a env hmem hk
    rw [Nat.mul_comm 4 k]
    refine ⟨_, answers rfl (doBar0Atomic_bkpUser s 0 a 0 env hmem hk), ?_, rfl, ?_⟩
    · show State.getF (s.setF _ _) _ = _
      rw [getF_setF_same]
      simp [bits]
    · exact (OnlyFields.refl _ _).setF _ (by simp)
  · intro s k a b env hmem hk hne
    rw [Nat.mul_comm 4 k]
    have hnone : atomicValue 2 a b (s.getF (F.BKP_USER_DATA k)) = none := if_neg hne
    exact answers rfl ((doBar0Atomic_bkpUser s 2 a b env hmem hk).trans (by rw [hnone]; rfl))
  · intro s bar off op size a b env hlink h
    exact answers rfl (doBar0Atomic_unsupported s env hlink h)

end Sys2Proof.Machine
end

section
/-! SUPPORT. The parts of the state that the invariants of every step speak of, its `shape`, and which operations leave
them as they are: every function of the model that is not one of `Keeps` below. -/

namespace Sys2Proof.Machine

/-- Entries of the two event rings beyond the 1,024 of R30. -/
def ringExcess (ctl svc : List Event) : Nat := (ctl.length - 1024) + (svc.length - 1024)

/-- The parts of the state that the invariants of every step speak of: the queue of waiting commands, what the event
rings hold beyond their bound, the bounded queues and LPDDR5 memory. -/
def State.shape (s : State) : List Instr × Nat × List Ts2 × List TimeIn × List Sub × List Host.Cell :=
  (s.pending, ringExcess s.evCtl s.evSvc, s.tb.ts2, s.tb.tsIn, s.ring.subs, s.ddr)

section
variable (s t : State)

@[simp] theorem shape_mk (pending freeCtr regs tables tly tlyFrozen evCtl evSvc out dp rods saf tb key meas host ring
    boot upd pwr ddr ddrFails memTest laneFrac laneMiss trcPost) :
    State.shape ⟨pending, freeCtr, regs, tables, tly, tlyFrozen, evCtl, evSvc, out, dp, rods, saf, tb, key, meas, host,
      ring, boot, upd, pwr, ddr, ddrFails, memTest, laneFrac, laneMiss, trcPost⟩
        = (pending, ringExcess evCtl evSvc, tb.ts2, tb.tsIn, ring.subs, ddr) := rfl

@[simp] theorem shape_eta :
    (s.pending, ringExcess s.evCtl s.evSvc, s.tb.ts2, s.tb.tsIn, s.ring.subs, s.ddr) = s.shape := rfl

@[simp] theorem shape_ite {c : Prop} [Decidable c] :
    (if c then s else t).shape = if c then s.shape else t.shape := apply_ite _ _ _ _

@[simp] theorem shape_foldl {α : Type} (g : State → α → State) (l : List α) (hg : ∀ t x, (g t x).shape = t.shape) :
    (l.foldl g s).shape = s.shape := by
  induction l generalizing s with
  | nil => rfl
  | cons x l ih => rw [List.foldl_cons, ih, hg]

@[simp] theorem shape_forN (n : Nat) (f : Nat → State → State) (hf : ∀ i t, (f i t).shape = t.shape) :
    (s.forN n f).shape = s.shape :=
  shape_foldl _ _ _ fun t i => hf i t

@[simp] theorem shape_snd_ite {α : Type} {c : Prop} [Decidable c] (a b : α × State) :
    (if c then a else b).2.shape = if c then a.2.shape else b.2.shape := by split <;> rfl

/-! ### Shared operations -/

@[simp] theorem shape_setF (f : Fld) (v : Nat) : (s.setF f v).shape = s.shape := (rfl)

@[simp] theorem shape_setB (f : Fld) (b : Bool) : (s.setB f b).shape = s.shape := by simp [State.setB]

@[simp] theorem shape_satF (f : Fld) (n : Nat) : (s.satF f n).shape = s.shape := by simp [State.satF]

@[simp] theorem shape_incF (f : Fld) : (s.incF f).shape = s.shape := by simp [State.incF]

@[simp] theorem shape_orF (f : Fld) (b : Nat) : (s.orF f b).shape = s.shape := by simp [State.orF]

@[simp] theorem shape_clrF (f : Fld) (b : Nat) : (s.clrF f b).shape = s.shape := by simp [State.clrF]

@[simp] theorem shape_setEntry (code i v : Nat) : (s.setEntry code i v).shape = s.shape := (rfl)

@[simp] theorem shape_tallyN (i n : Nat) : (s.tallyN i n).shape = s.shape := by simp [State.tallyN]

@[simp] theorem shape_tally (i : Nat) : (s.tally i).shape = s.shape := by simp [State.tally]

@[simp] theorem shape_tallies (l : List Nat) : (s.tallies l).shape = s.shape := by simp [State.tallies]

@[simp] theorem shape_emit (o : Out) : (s.emit o).shape = s.shape := (rfl)

@[simp] theorem shape_fresh : (s.fresh).2.shape = s.shape := by simp [State.fresh]

@[simp] theorem shape_announce (src : Nat) : (s.announce src).shape = s.shape := by simp [State.announce]

@[simp] theorem shape_hostEvent (e : Event) : (s.hostEvent e).shape = s.shape := by simp [State.hostEvent]

@[simp] theorem shape_setSendQ (p : Nat) (q : List (EplenHdr × List Byte)) : (s.setSendQ p q).shape = s.shape := (rfl)

@[simp] theorem shape_sendEplen (p : Nat) (h : EplenHdr) (body : List Byte) : (s.sendEplen p h body).shape = s.shape := by
  simp [State.sendEplen]

@[simp] theorem shape_drainEplen (p : Nat) : (s.drainEplen p).shape = s.shape := by simp [State.drainEplen]

@[simp] theorem shape_relayEvent (e : Event) : (s.relayEvent e).shape = s.shape := by simp [State.relayEvent]

theorem ringExcess_ctl_append {ctl svc : List Event} (e : Event) (h : ctl.length < 1024) :
    ringExcess (ctl ++ [e]) svc = ringExcess ctl svc := by
  unfold ringExcess; rw [List.length_append, List.length_singleton]; omega

theorem ringExcess_svc_append {ctl svc : List Event} (e : Event) (h : svc.length < 1024) :
    ringExcess ctl (svc ++ [e]) = ringExcess ctl svc := by
  unfold ringExcess; rw [List.length_append, List.length_singleton]; omega

@[simp] theorem shape_postRaw (e : Event) : (s.postRaw e).shape = s.shape := by
  have ctl : ∀ t : State, (if t.evCtl.length < 1024 then { t with evCtl := t.evCtl ++ [e] } else t.tally (T.glb 3)).shape
      = t.shape := by
    intro t
    split
    · next h => rw [shape_mk, ringExcess_ctl_append e h, shape_eta]
    · simp
  have svc : ∀ t : State, (if t.evSvc.length < 1024 then { t with evSvc := t.evSvc ++ [e] } else t.tally (T.glb 4)).shape
      = t.shape := by
    intro t
    split
    · next h => rw [shape_mk, ringExcess_svc_append e h, shape_eta]
    · simp
  unfold State.postRaw
  rw [shape_relayEvent, shape_hostEvent, svc, ctl]

@[simp] theorem shape_fireTrigger (k : Nat) : (s.fireTrigger k).shape = s.shape := by simp [State.fireTrigger]

@[simp] theorem shape_post (block code payload : Nat) :
    (s.post block code payload).shape = s.shape := by simp [State.post]

@[simp] theorem shape_postFree (block code : Nat) : (s.postFree block code).shape = s.shape := by simp [State.postFree]

theorem shape_of_snd {α : Type} {x : α × State} {a : α} {u : State} (h : x = (a, u)) (hx : x.2.shape = s.shape) :
    u.shape = s.shape := by rw [← hx, h]

/-- Claiming beads changes the counts of used beads alone. -/
theorem shape_of_claim {p n r sh : Nat} {t : State} (h : s.claim p n = some (r, sh, t)) : t.shape = s.shape := by
  obtain ⟨-, -, -, -, e⟩ := claim_some s h
  rw [e]; rfl

@[simp] theorem shape_freeBeads (p r sh : Nat) : (s.freeBeads p r sh).shape = s.shape := (rfl)

@[simp] theorem shape_setItem (i : Nat) (it : Option Item) : (s.setItem i it).shape = s.shape := (rfl)

@[simp] theorem shape_newItem (it : Item) : (s.newItem it).2.shape = s.shape := by simp [State.newItem]

@[simp] theorem shape_testBeads (i : Nat) : (s.testBeads i).shape = s.shape := by simp [State.testBeads]

@[simp] theorem shape_dropItem (i : Nat) : (s.dropItem i).shape = s.shape := by
  unfold State.dropItem
  split <;> simp

@[simp] theorem shape_addRef (i : Nat) : (s.addRef i).shape = s.shape := by
  unfold State.addRef
  split <;> simp

@[simp] theorem shape_release (i : Nat) : (s.release i).shape = s.shape := by
  unfold State.release
  split <;> simp

@[simp] theorem shape_setQueue (p cls : Nat) (q : List QRef) : (s.setQueue p cls q).shape = s.shape := (rfl)

@[simp] theorem shape_setClassSt (p cls : Nat) (c : ClassSt) : (s.setClassSt p cls c).shape = s.shape := (rfl)

@[simp] theorem shape_bypass (cause : Nat) : (s.bypass cause).shape = s.shape := by simp [State.bypass]

@[simp] theorem shape_dropCpuQueues (i : Nat) : (s.dropCpuQueues i).shape = s.shape := by simp [State.dropCpuQueues]

@[simp] theorem shape_busGate (f : State → State) (hf : ∀ u, (f u).shape = u.shape) : (s.busGate f).shape = s.shape := by
  simp [State.busGate, hf]

@[simp] theorem shape_setRod (n : Nat) (r : Rod) : (s.setRod n r).shape = s.shape := (rfl)

/-! ### Configuration space -/

@[simp] theorem shape_setCfg (off v : Nat) : (s.setCfg off v).shape = s.shape := (rfl)

@[simp] theorem shape_cfgWrite (off v : Nat) : (s.cfgWrite off v).shape = s.shape := by
  unfold State.cfgWrite
  split <;> simp

@[simp] theorem shape_aerPosted : (s.aerPosted).shape = s.shape := by simp [State.aerPosted]

@[simp] theorem shape_onRead (f : State → State) (hf : ∀ u, (f u).shape = u.shape) : (s.onRead f).shape = s.shape := by
  simp [State.onRead, hf]

@[simp] theorem shape_onWrite (f : State → State) (hf : ∀ u, (f u).shape = u.shape) : (s.onWrite f).shape = s.shape := by
  simp [State.onWrite, hf]

/-! ### Rod flags -/

@[simp] theorem shape_rodEvt (n b : Nat) : (s.rodEvt n b).shape = s.shape := by simp [State.rodEvt]

@[simp] theorem shape_rodGo (n st : Nat) : (s.rodGo n st).shape = s.shape := by simp [State.rodGo]

@[simp] theorem shape_busOff (n : Nat) : (s.busOff n).shape = s.shape := by simp [State.busOff]

@[simp] theorem shape_errCounts (n tec rec_ : Nat) : (s.errCounts n tec rec_).shape = s.shape := by simp [State.errCounts]

@[simp] theorem shape_lec (n code : Nat) : (s.lec n code).shape = s.shape := by simp [State.lec]

end
end Sys2Proof.Machine
end

section
/-! SUPPORT. The shape through lookup, decisions, egress, safety and ingress. -/

namespace Sys2Proof.Machine

section
variable (s : State)

/-! ### Cadence states -/

@[simp] theorem shape_setCad (key : Nat) (c : Cad) : (s.setCad key c).shape = s.shape := (rfl)

/-! ### Egress -/

@[simp] theorem shape_fpUpdate (p : Nat) : (s.fpUpdate p).shape = s.shape := by simp [State.fpUpdate]

@[simp] theorem shape_wakeClass (p cls : Nat) : (s.wakeClass p cls).shape = s.shape := by simp [State.wakeClass]

@[simp] theorem shape_afterSend (p cls : Nat) : (s.afterSend p cls).shape = s.shape := by simp [State.afterSend]

@[simp] theorem shape_push (p cls : Nat) (r : QRef) : (s.push p cls r).shape = s.shape := by simp [State.push]

@[simp] theorem shape_enqueue (p cls : Nat) (r : QRef) : (s.enqueue p cls r).shape = s.shape := by
  unfold State.enqueue
  dsimp only
  (repeat' split) <;> simp

@[simp] theorem shape_txPending (n : Nat) : (s.txPending n).shape = s.shape := by simp [State.txPending]

@[simp] theorem shape_linPulse (n : Nat) : (s.linPulse n).shape = s.shape := by simp [State.linPulse]

@[simp] theorem shape_rodEnqueue (n q : Nat) (r : QRef) : (s.rodEnqueue n q r).shape = s.shape := by
  unfold State.rodEnqueue
  dsimp only
  (repeat' split) <;> simp

/-! ### Carries -/

@[simp] theorem shape_enterStream (i : Nat) : (s.enterStream i).shape = s.shape := by
  unfold State.enterStream
  split <;> simp

@[simp] theorem shape_injectItem (it : Item) : (s.injectItem it).shape = s.shape := by
  unfold State.injectItem
  split
  · simp
  · next h => simp [shape_of_claim s h]

@[simp] theorem shape_setBatch (c : Nat) (b : Option Batch) : (s.setBatch c b).shape = s.shape := (rfl)

@[simp] theorem shape_emitBatch (c e : Nat) : (s.emitBatch c e).shape = s.shape := by
  unfold State.emitBatch
  split <;> simp

@[simp] theorem shape_appendMsg (c e : Nat) (msg : List Byte) (it : Item) (urgent : Bool) :
    (s.appendMsg c e msg it urgent).shape = s.shape := by
  unfold State.appendMsg
  split <;> simp

@[simp] theorem shape_acfAppend : (s.acfAppend).shape = s.shape := by
  unfold State.acfAppend
  dsimp only
  (repeat' split) <;> simp

@[simp] theorem shape_splitMsgs (it : Item) (c e : Nat) (avtpTs : Option Nat) (fuel : Nat) (bs : List Byte) :
    (State.splitMsgs it c e avtpTs fuel bs s).shape = s.shape := by
  induction fuel generalizing bs s with
  | zero => rfl
  | succ fuel ih =>
    unfold State.splitMsgs
    split
    · rfl
    · dsimp only
      split
      · simp
      · rw [ih]
        split
        · simp
        · simp
        · split
          · rfl
          · split <;> simp

@[simp] theorem shape_splitFrame (it : Item) (c : Nat) : (s.splitFrame it c).shape = s.shape := by
  unfold State.splitFrame
  split
  · rfl
  · extract_lets e p bs sub tscf hdr dlen seq ok last s₁ _ s₂
    split
    · simp
    · have h₁ : s₁.shape = s.shape := by
        unfold s₁
        clear_value last
        split
        · split <;> simp
        · rfl
      rw [shape_splitMsgs]
      exact h₁

@[simp] theorem shape_acfSplit : (s.acfSplit).shape = s.shape := by
  unfold State.acfSplit
  dsimp only
  (repeat' split) <;> simp

/-! ### Output stages -/

@[simp] theorem shape_fwlMeter (m len : Nat) : (s.fwlMeter m len).2.shape = s.shape := by simp [State.fwlMeter]

@[simp] theorem shape_flowMeter (m len : Nat) (dei : Bool) : (s.flowMeter m len dei).2.shape = s.shape := by
  unfold State.flowMeter
  dsimp only
  split <;> simp

@[simp] theorem shape_setRcv (k : Nat) (r : Rcv) : (s.setRcv k r).shape = s.shape := (rfl)

@[simp] theorem shape_recover (i k e : Nat) (tag : Option Nat) : (s.recover i k e tag).2.shape = s.shape := by
  unfold State.recover
  dsimp only
  (repeat' split) <;> simp

@[simp] theorem shape_generate (i k e : Nat) : (s.generate i k e).2.shape = s.shape := by simp [State.generate]

@[simp] theorem shape_traceItem (i : Nat) (it : Item) (d : Decision) (rank : Nat) :
    (s.traceItem i it d rank).shape = s.shape := by simp [State.traceItem]

@[simp] theorem shape_passUpdates (us : List Upd) (drop4 : Bool) : (s.passUpdates us drop4).shape = s.shape := by
  simp [State.passUpdates]

@[simp] theorem shape_queueLearn (l : Option LearnReq) : (s.queueLearn l).shape = s.shape := by
  cases l <;> simp [State.queueLearn]

@[simp] theorem shape_streamMarks (d : Decision) : (s.streamMarks d).shape = s.shape := by
  unfold State.streamMarks
  dsimp only
  (repeat' split) <;> simp

@[simp] theorem shape_recordRef (d : Decision) (r : QRef) : (s.recordRef d r).shape = s.shape := by simp [State.recordRef]

@[simp] theorem shape_toPorts (it : Item) (d : Decision) (r : QRef) : (s.toPorts it d r).shape = s.shape := by
  simp [State.toPorts]

@[simp] theorem shape_toSplitter (i : Nat) (it : Item) (c : Nat) : (s.toSplitter i it c).shape = s.shape := by
  simp [State.toSplitter]

@[simp] theorem shape_serveTarget (i : Nat) (it : Item) (r : QRef) (tix t : Nat) :
    (s.serveTarget i it r tix t).shape = s.shape := by
  unfold State.serveTarget
  dsimp only
  (repeat' split) <;> simp

@[simp] theorem shape_toTargets (i : Nat) (it : Item) (d : Decision) (r : QRef) :
    (s.toTargets i it d r).shape = s.shape := by
  simp [State.toTargets]

@[simp] theorem shape_settle (i : Nat) : (s.settle i).shape = s.shape := by
  unfold State.settle
  split <;> simp

@[simp] theorem shape_applyMeters (it : Item) (d : Decision) : (s.applyMeters it d).2.2.shape = s.shape := by
  unfold State.applyMeters
  extract_lets strOk
  split
  next rank yel u h =>
  have hu : u.shape = s.shape := by
    clear_value strOk
    split at h
    · cases h; rfl
    · dsimp only at h
      split at h <;> cases h <;> simp
  extract_lets fwOk
  split
  · exact hu
  · simp [hu]

@[simp] theorem shape_sequence (it : Item) (d : Decision) : (s.sequence it d).2.2.2.shape = s.shape := by
  unfold State.sequence
  dsimp only
  split
  · rfl
  · split
    · simp
    · split <;> simp

@[simp] theorem shape_accept (i : Nat) (d : Decision) : (s.accept i d).shape = s.shape := by
  unfold State.accept
  split
  · rfl
  · split
    · simp
    · split
      · simp
      · split
        · simp
        · next it _ _ _ _ =>
          extract_lets s₁
          have h₁ : s₁.shape = s.shape := by simp [s₁]
          clear_value s₁
          split
          next mrank yel s₂ h =>
          have h₂ : s₂.shape = s.shape := by
            have := shape_applyMeters s₁ it d
            rwa [h, h₁] at this
          extract_lets drop rank early s₃ s₄
          have h₄ : s₄.shape = s.shape := by
            have h₃ : s₃.shape = s.shape := by rw [shape_passUpdates, h₂]
            unfold s₄
            split
            · rw [shape_queueLearn, shape_tallies, h₃]
            · exact h₃
          clear_value s₄ s₃
          split
          next keep rtag seqNo s₅ h =>
          have h₅ : s₅.shape = s.shape := by
            split at h
            · cases h; exact h₄
            · have := shape_sequence s₄ it d
              rwa [h, h₄] at this
          extract_lets s₆ r s' s₇
          have h₆ : s₆.shape = s.shape := by rw [shape_traceItem, h₅]
          have h₇ : s₇.shape = s.shape := by
            unfold s₇
            clear_value s₆
            split
            · exact h₆
            · split
              · simp [h₆]
              · split <;> simp [h₆]
              · split <;> simp [h₆]
              · simp [h₆]
              · unfold s'
                split <;> simp [h₆]
              · exact h₆
          rw [shape_settle, h₇]

@[simp] theorem shape_dropWaiting (i : Nat) (bad : Bool) : (s.dropWaiting i bad).shape = s.shape := by
  simp [State.dropWaiting]

@[simp] theorem shape_stomp (i : Nat) : (s.stomp i).shape = s.shape := by
  unfold State.stomp
  rw [shape_foldl, shape_foldl]
  · intro t e
    split
    · split <;> simp
    · rfl
  · intro t e
    split
    · split <;> simp
    · rfl

@[simp] theorem shape_unsplit (i : Nat) : (s.unsplit i).shape = s.shape := by simp [State.unsplit]

@[simp] theorem shape_failItem (i : Nat) (bad : Bool) : (s.failItem i bad).shape = s.shape := by simp [State.failItem]

/-! ### Planes and pairs -/

@[simp] theorem shape_degrade : (s.degrade).shape = s.shape := by simp [State.degrade]

@[simp] theorem shape_setPlane (b : Bool) (st : Nat) : (s.setPlane b st).shape = s.shape := by simp [State.setPlane]

@[simp] theorem shape_claims : (s.claims).shape = s.shape := by simp [State.claims]

@[simp] theorem shape_takeover (oldDriver : Nat) : (s.takeover oldDriver).shape = s.shape := by simp [State.takeover]

@[simp] theorem shape_restartPlane (b : Bool) : (s.restartPlane b).shape = s.shape := by simp [State.restartPlane]

@[simp] theorem shape_withdraw (b : Bool) (cause : Nat) (restart : Bool) :
    (s.withdraw b cause restart).shape = s.shape := by
  simp [State.withdraw]

@[simp] theorem shape_autoRestart : (s.autoRestart).shape = s.shape := by simp [State.autoRestart]

@[simp] theorem shape_raiseClaim (b : Bool) : (s.raiseClaim b).shape = s.shape := by simp [State.raiseClaim]

@[simp] theorem shape_popStream : (s.popStream).shape = s.shape := (rfl)

@[simp] theorem shape_discardFront : (s.discardFront).shape = s.shape := by
  unfold State.discardFront
  dsimp only
  (repeat' split) <;> simp

@[simp] theorem shape_checkStart (b : Bool) : (s.checkStart b).shape = s.shape := by simp [State.checkStart]

@[simp] theorem shape_startCheck (missA missB : Bool) : (s.startCheck missA missB).shape = s.shape := by
  simp [State.startCheck]

@[simp] theorem shape_mismatch (missA missB : Bool) : (s.mismatch missA missB).shape = s.shape := by simp [State.mismatch]

@[simp] theorem shape_silentDiv (op groups : Nat) : (s.silentDiv op groups).1.shape = s.shape := by
  unfold State.silentDiv
  extract_lets k s₁ s₂ s₃ s₄ times saf s₅
  have h₄ : s₄.shape = s.shape := by
    unfold s₄ s₃ s₂ s₁
    split <;> simp
  clear_value s₄
  split
  · simp [s₅, h₄]
  · exact h₄

@[simp] theorem shape_acceptFront (d : Decision) : (s.acceptFront d).shape = s.shape := by
  unfold State.acceptFront
  split
  · rfl
  · extract_lets s₁ s₂ s₃
    have h₂ : s₂.shape = s.shape := by
      unfold s₂ s₁
      split <;> simp
    rw [shape_accept]
    exact h₂

@[simp] theorem shape_poisonEntry (code i : Nat) : (s.poisonEntry code i).shape = s.shape := by simp [State.poisonEntry]

@[simp] theorem shape_memUe (u : MemUe) : (s.memUe u).shape = s.shape := by
  cases u with
  | bead i bad =>
    unfold State.memUe
    dsimp only
    split <;> simp
  | queue p c broken => simp [State.memUe]
  | _ => simp [State.memUe]

@[simp] theorem shape_onMemUe (u : MemUe) : (s.onMemUe u).shape = s.shape := by
  simp [State.onMemUe]

@[simp] theorem shape_doPlaneDecision (b : Bool) (ue : Option MemUe) (diff : Nat) (op : Option Nat) (ce : Nat) :
    (doPlaneDecision b ue diff op ce s).shape = s.shape := by
  unfold doPlaneDecision
  dsimp only
  (repeat' split) <;> simp

@[simp] theorem shape_doDecisionCompare (split_ : Bool) (minority : Option Bool) :
    (doDecisionCompare split_ minority s).shape = s.shape := by
  unfold doDecisionCompare
  split
  · rfl
  · extract_lets ca cb da db s' s₁
    split
    · rfl
    · have h₁ : s₁.shape = s.shape := by
        unfold s₁ s'
        cases minority <;> simp
      clear_value s₁ da db
      split
      · split
        · simp [h₁]
        · split
          · simp [h₁]
          · split
            · simp [h₁]
            · split <;> simp [h₁]
      all_goals simp [h₁]

@[simp] theorem shape_doMissingDecision : (doMissingDecision s).shape = s.shape := by simp [doMissingDecision]

@[simp] theorem shape_checkPlane (b miss pass : Bool) : (s.checkPlane b miss pass).shape = s.shape := by
  simp [State.checkPlane]

@[simp] theorem shape_noPlane : (s.noPlane).shape = s.shape := by simp [State.noPlane]

@[simp] theorem shape_evaluateAgain : (s.evaluateAgain).shape = s.shape := (rfl)

@[simp] theorem shape_parityDue : (s.parityDue).shape = s.shape := by simp [State.parityDue]

@[simp] theorem shape_doSelfCheckComplete (passA passB cmpA cmpB : Bool) :
    (doSelfCheckComplete passA passB cmpA cmpB s).shape = s.shape := by simp [doSelfCheckComplete]

@[simp] theorem shape_doPlaneParityError (b : Bool) : (doPlaneParityError b s).shape = s.shape := by
  simp [doPlaneParityError]

@[simp] theorem shape_doClaimChange : (doClaimChange s).shape = s.shape := by simp [doClaimChange]

@[simp] theorem shape_doPlaneLogicTestDone (b pass : Bool) : (doPlaneLogicTestDone b pass s).shape = s.shape := by
  simp [doPlaneLogicTestDone]

@[simp] theorem shape_doRejoinEnd (b : Bool) : (doRejoinEnd b s).shape = s.shape := by simp [doRejoinEnd]

@[simp] theorem shape_safCmd (run : State → Nat × State) (hrun : ∀ u, (run u).2.shape = u.shape) :
    (s.safCmd run).shape = s.shape := by simp [State.safCmd, hrun]

@[simp] theorem shape_doSafNop : (doSafNop s).shape = s.shape := by simp [doSafNop]

@[simp] theorem shape_doWithdraw (b : Bool) : (doWithdraw b s).shape = s.shape := by simp [doWithdraw]

@[simp] theorem shape_doRestart (b : Bool) : (doRestart b s).shape = s.shape := by simp [doRestart]

@[simp] theorem shape_doDrill : (doDrill s).shape = s.shape := by simp [doDrill]

@[simp] theorem shape_doDrillDeadline (accepted : Bool) : (doDrillDeadline accepted s).shape = s.shape := by
  unfold doDrillDeadline
  split <;> simp

@[simp] theorem shape_doClearLatent (b : Bool) : (doClearLatent b s).shape = s.shape := by simp [doClearLatent]

@[simp] theorem shape_clearStage (r : Nat) : (s.clearStage r).shape = s.shape := (rfl)

@[simp] theorem shape_pairDown (i st cause : Nat) : (s.pairDown i st cause).shape = s.shape := by simp [State.pairDown]

@[simp] theorem shape_doLockstepMismatch (i cause : Nat) : (doLockstepMismatch i cause s).shape = s.shape := by
  simp [doLockstepMismatch]

@[simp] theorem shape_doPairInjectionTestDone (i : Nat) (pass : Bool) :
    (doPairInjectionTestDone i pass s).shape = s.shape :=
  by simp [doPairInjectionTestDone]

@[simp] theorem shape_doPairRestartDone (i : Nat) (fw : Option (List Byte)) :
    (doPairRestartDone i fw s).shape = s.shape := by
  simp [doPairRestartDone]

@[simp] theorem shape_doOrphanBeadReclaim : (doOrphanBeadReclaim s).shape = s.shape := by simp [doOrphanBeadReclaim]

/-! ### Ingress -/

@[simp] theorem shape_msecVerify (p : Nat) (frame : List Byte) : (s.msecVerify p frame).2.shape = s.shape := by
  unfold State.msecVerify
  extract_lets strict bs mac et tci sl sc hdr pn an sa xpn n body icv clear enc
  split
  · rfl
  · split
    · exact shape_tally ..
    · split
      · exact shape_tally ..
      · split
        · exact shape_tally ..
        · extract_lets e suite limit done next pn' key ok plain s₁
          split
          · exact shape_tally ..
          · split
            · split <;> exact shape_tally ..
            · have h₁ : s₁.shape = s.shape := by
                unfold s₁
                split
                · rfl
                · split
                  · rfl
                  · exact shape_setEntry ..
              exact (shape_tally ..).trans h₁

@[simp] theorem shape_tallyBad (p code : Nat) : (s.tallyBad p code).shape = s.shape := by simp [State.tallyBad]

@[simp] theorem shape_inReception (p i code : Nat) : (s.inReception p i code).shape = s.shape := (rfl)

@[simp] theorem shape_receive (p : Nat) (late : Bool) (bytes : List Byte) (t code : Nat) :
    (s.receive p late bytes t code).shape = s.shape := by
  unfold State.receive
  split
  · cases late <;> simp
  · next h => cases late <;> simp [shape_of_claim s h]

@[simp] theorem shape_doParseWindowComplete (p : Nat) (bytes : List Byte) (fcsOk : Bool) (ago : Nat) :
    (doParseWindowComplete p bytes fcsOk ago s).shape = s.shape := by
  unfold doParseWindowComplete
  split
  · rfl
  · split
    · simp
    · split
      · rfl
      · extract_lets code t late
        split
        · simp
        · split
          · split
            · next h => split <;> simp [shape_of_snd s h]
            · next h => simp [shape_of_snd s h]
          · simp

@[simp] theorem shape_mmReceive (p frags mm : Nat) : (s.mmReceive p frags mm).shape = s.shape := by
  unfold State.mmReceive
  dsimp only
  (repeat' split) <;> simp

@[simp] theorem shape_claimRest (i : Nat) (it : Item) : (s.claimRest i it).shape = s.shape := by
  unfold State.claimRest
  extract_lets n
  split
  · next r sh u h =>
    split at h
    · cases h; simp
    · simp [shape_of_claim s h]
  · simp

@[simp] theorem shape_doFrameRxEnd (p frags mm : Nat) : (doFrameRxEnd p frags mm s).shape = s.shape := by
  unfold doFrameRxEnd
  dsimp only
  (repeat' split) <;> simp

@[simp] theorem shape_doCpuInjection (i : Nat) (isRod : Bool) (bytes : List Byte) (mode domain refT : Nat)
    (twoStep : Bool) (tag : Nat) :
    (doCpuInjection i isRod bytes mode domain refT twoStep tag s).shape = s.shape := by simp [doCpuInjection]

end
end Sys2Proof.Machine
end

section
/-! SUPPORT. The shape through tables, registers, monitors and the scheduler. -/

namespace Sys2Proof.Machine

section
variable (s : State)

/-! ### Tables -/

@[simp] theorem shape_learnedBy (p : Option Nat) (up : Bool) : (s.learnedBy p up).shape = s.shape := by
  unfold State.learnedBy
  split <;> simp

@[simp] theorem shape_clearCad (key : Nat) : (s.clearCad key).shape = s.shape := by simp [State.clearCad]

@[simp] theorem shape_clearStream (i : Nat) : (s.clearStream i).shape = s.shape := by simp [State.clearStream]

@[simp] theorem shape_putEntry (code i e : Nat) : (s.putEntry code i e).shape = s.shape := by
  unfold State.putEntry
  dsimp only
  split <;> simp

@[simp] theorem shape_writeEntry (code i e : Nat) : (s.writeEntry code i e).shape = s.shape := by simp [State.writeEntry]

@[simp] theorem shape_setTblData (r v : Nat) : (s.setTblData r v).shape = s.shape := by simp [State.setTblData]

@[simp] theorem shape_tblEnd (r st : Nat) : (s.tblEnd r st).shape = s.shape := by
  unfold State.tblEnd
  split <;> simp

@[simp] theorem shape_tblCmd (r op : Nat) (run : State → Option Nat × State) (hrun : ∀ u, (run u).2.shape = u.shape) :
    (s.tblCmd r op run).shape = s.shape := by
  unfold State.tblCmd
  extract_lets go
  have hgo : ∀ t, (go t).shape = t.shape := by
    intro t
    unfold go
    split
    · simp
    · split
      · next h => simp [shape_of_snd t h (by simp [hrun])]
      · next h => simp [shape_of_snd t h (by simp [hrun])]
  split
  · rfl
  · split <;> simp [hgo]

@[simp] theorem shape_setStage (r : Nat) (b : Stage) : (s.setStage r b).shape = s.shape := (rfl)

@[simp] theorem shape_doTblNop (r : Nat) : (doTblNop r s).shape = s.shape := by simp [doTblNop]

@[simp] theorem shape_tblRead (r : Nat) (slow : Bool) : (s.tblRead r slow).2.shape = s.shape := by simp [State.tblRead]

@[simp] theorem shape_tblWrite (r : Nat) (slow : Bool) : (s.tblWrite r slow).2.shape = s.shape := by simp [State.tblWrite]

@[simp] theorem shape_tblInsert (r : Nat) (evict slow : Bool) : (s.tblInsert r evict slow).2.shape = s.shape := by
  unfold State.tblInsert
  dsimp only
  (repeat' split) <;> simp

@[simp] theorem shape_tblDelete (r : Nat) (slow : Bool) : (s.tblDelete r slow).2.shape = s.shape := by
  unfold State.tblDelete
  dsimp only
  (repeat' split) <;> simp

@[simp] theorem shape_tblSearch (r : Nat) (slow : Bool) : (s.tblSearch r slow).2.shape = s.shape := by
  unfold State.tblSearch
  dsimp only
  (repeat' split) <;> simp

@[simp] theorem shape_doInsert (r : Nat) (evict slow : Bool) : (doInsert r evict slow s).shape = s.shape := by
  simp [doInsert]

@[simp] theorem shape_doDelete (r : Nat) (slow : Bool) : (doDelete r slow s).shape = s.shape := by simp [doDelete]

@[simp] theorem shape_doSearch (r : Nat) (slow : Bool) : (doSearch r slow s).shape = s.shape := by simp [doSearch]

@[simp] theorem shape_startSweep (w : Sweep) : (s.startSweep w).2.shape = s.shape := by simp [State.startSweep]

@[simp] theorem shape_doFlushMasked (r : Nat) : (doFlushMasked r s).shape = s.shape := by simp [doFlushMasked]

@[simp] theorem shape_doAgeSweep (r : Nat) : (doAgeSweep r s).shape = s.shape := by simp [doAgeSweep]

@[simp] theorem shape_sweepVisit (w : Sweep) (i : Nat) : (s.sweepVisit w i).2.shape = s.shape := by
  unfold State.sweepVisit
  dsimp only
  (repeat' split) <;> simp

@[simp] theorem shape_backSweep (code : Nat) : (s.backSweep code).shape = s.shape := by simp [State.backSweep]

@[simp] theorem shape_sweepEnd (w : Sweep) (st : Nat) : (s.sweepEnd w st).shape = s.shape := by simp [State.sweepEnd]

/-- A fold over a pair keeps the shape of its state when every round does. -/
theorem shape_foldl_snd {α β : Type} (g : β × State → α → β × State) (l : List α)
    (hg : ∀ a x, (g a x).2.shape = a.2.shape) (a : β × State) : (l.foldl g a).2.shape = a.2.shape := by
  induction l generalizing a with
  | nil => rfl
  | cons x l ih => rw [List.foldl_cons, ih, hg]

@[simp] theorem shape_doSweepSlot (slow : Bool) : (doSweepSlot slow s).shape = s.shape := by
  unfold doSweepSlot
  split
  · rfl
  · next w _ =>
    extract_lets _ s₁ size last
    have h₁ : s₁.shape = s.shape := rfl
    clear_value s₁
    split
    · simp [h₁]
    · split
      · simp [h₁]
      · split
        next n s₂ h =>
        have h₂ : s₂.shape = s₁.shape := shape_of_snd s₁ h (shape_foldl_snd _ _ (fun a x => by simp) _)
        extract_lets w'
        split
        · simp [h₂, h₁]
        · exact h₂.trans h₁

@[simp] theorem shape_doLearnApply : (doLearnApply s).shape = s.shape := by
  unfold doLearnApply
  dsimp only
  (repeat' split) <;> simp

@[simp] theorem shape_doAgingPass : (doAgingPass s).shape = s.shape := by simp [doAgingPass]

@[simp] theorem shape_doAgeNowTick : (doAgeNowTick s).shape = s.shape := by simp [doAgeNowTick]

/-! ### Registers -/

@[simp] theorem shape_storeFields (fs : List FieldDesc) (at_ word : Nat) :
    (s.storeFields fs at_ word).shape = s.shape := by
  unfold State.storeFields
  refine shape_foldl _ _ _ fun t f => ?_
  dsimp only
  split <;> simp

@[simp] theorem shape_storeReg (off word : Nat) : (s.storeReg off word).shape = s.shape := by
  unfold State.storeReg
  split <;> simp

/-! ### Firewall monitor, meters and stream gates -/

@[simp] theorem shape_flowApply (i : Nat) (fromB : Bool) (g : Seg) : (s.flowApply i fromB g).shape = s.shape := by
  unfold State.flowApply
  dsimp only
  split <;> simp

@[simp] theorem shape_cadTally (src num m : Nat) : (s.cadTally src num m).shape = s.shape := by simp [State.cadTally]

@[simp] theorem shape_cadApply (key unit cmin cmax t64 src num ident : Nat) :
    (s.cadApply key unit cmin cmax t64 src num ident).shape = s.shape := by simp [State.cadApply]

@[simp] theorem shape_applyUpd (u : Upd) : (s.applyUpd u).shape = s.shape := by
  cases u with
  | flowNew =>
    unfold State.applyUpd
    dsimp only
    split
    · simp
    · split <;> simp
  | flowSeg =>
    unfold State.applyUpd
    dsimp only
    split <;> simp
  | cad => simp [State.applyUpd]

@[simp] theorem shape_doStateUpdateApply : (doStateUpdateApply s).shape = s.shape := by
  unfold doStateUpdateApply
  split <;> simp

@[simp] theorem shape_doFlowSweep : (doFlowSweep s).shape = s.shape := by simp [doFlowSweep]

@[simp] theorem shape_doFwlNowTick : (doFwlNowTick s).shape = s.shape := by simp [doFwlNowTick]

@[simp] theorem shape_closeSlot (k cause : Nat) : (s.closeSlot k cause).shape = s.shape := by simp [State.closeSlot]

theorem shape_of_openSlot {k ip dur : Nat} {t : State} (h : s.openSlot k ip dur = some t) : t.shape = s.shape := by
  unfold State.openSlot at h
  extract_lets soon s₁ s₂ at h
  split at h
  · simp at h
  · rw [← Option.some.inj h]
    simp [s₂, s₁]

@[simp] theorem shape_doDiagSlotExpiry (k : Nat) : (doDiagSlotExpiry k s).shape = s.shape := by simp [doDiagSlotExpiry]

@[simp] theorem shape_doDiagClose (k : Nat) : (doDiagClose k s).shape = s.shape := by simp [doDiagClose]

@[simp] theorem shape_doCadenceScan (key : Nat) : (doCadenceScan key s).shape = s.shape := by
  unfold doCadenceScan
  dsimp only
  split <;> simp

@[simp] theorem shape_fwlMeterStore (m word v : Nat) : (s.fwlMeterStore m word v).shape = s.shape := by
  simp [State.fwlMeterStore]

@[simp] theorem shape_doFwlMeterWrite (m word v : Nat) : (doFwlMeterWrite m word v s).shape = s.shape := by
  simp [doFwlMeterWrite]

@[simp] theorem shape_strMeterStore (m word v : Nat) : (s.strMeterStore m word v).shape = s.shape := by
  simp [State.strMeterStore]

@[simp] theorem shape_doStrMeterWrite (m word v : Nat) : (doStrMeterWrite m word v s).shape = s.shape := by
  simp [doStrMeterWrite]

@[simp] theorem shape_setPend (key : Nat) (g : Option GatePend) : (s.setPend key g).shape = s.shape := (rfl)

@[simp] theorem shape_setGateBase (key t : Nat) : (s.setGateBase key t).shape = s.shape := (rfl)

@[simp] theorem shape_openNow (g : Nat) : (s.openNow g).shape = s.shape := by simp [State.openNow]

@[simp] theorem shape_streamChange (g : Nat) : (s.streamChange g).shape = s.shape := by simp [State.streamChange]

@[simp] theorem shape_doStreamGateChange (g : Nat) :
    (doStreamGateChange g s).shape = s.shape := by simp [doStreamGateChange]

@[simp] theorem shape_swapStream (g : Nat) : (s.swapStream g).shape = s.shape := by
  unfold State.swapStream
  split <;> simp

@[simp] theorem shape_doStreamGateSwap (g : Nat) : (doStreamGateSwap g s).shape = s.shape := by
  unfold doStreamGateSwap
  dsimp only
  split <;> simp

@[simp] theorem shape_doRecoveryReset (i : Nat) : (doRecoveryReset i s).shape = s.shape := by simp [doRecoveryReset]

/-! ### Scheduling -/

@[simp] theorem shape_msecSend (p : Nat) (bs : List Byte) : (s.msecSend p bs).2.shape = s.shape := by
  unfold State.msecSend
  split
  · rfl
  · extract_lets i e suite limit pn out _ s₁ x thr _ s₂
    have h₁ : s₁.shape = s.shape := by
      unfold s₁
      split
      · rfl
      · simp
    clear_value s₁
    have h₂ : s₂.shape = s.shape := by unfold s₂; split <;> simp [h₁]
    split
    · simp
    · split
      · simp
      · simp [h₂]

@[simp] theorem shape_dropLong (p c : Nat) (l : List QRef) : (State.dropLong p c l s).shape = s.shape := by
  induction l generalizing s with
  | nil => rfl
  | cons r rs ih =>
    unfold State.dropLong
    split
    · rw [ih]; simp
    · rfl

@[simp] theorem shape_dropAllLong (p : Nat) : (s.dropAllLong p).shape = s.shape := by
  simp [State.dropAllLong]

@[simp] theorem shape_onSelect (p c lenC : Nat) : (s.onSelect p c lenC).shape = s.shape := by simp [State.onSelect]

@[simp] theorem shape_setTx (p : Nat) (t : Option EthTx) : (s.setTx p t).shape = s.shape := (rfl)

@[simp] theorem shape_setEnding (p : Nat) (t : Option EthTx) : (s.setEnding p t).shape = s.shape := (rfl)

@[simp] theorem shape_setPreempted (p : Nat) (t : Option EthTx) : (s.setPreempted p t).shape = s.shape := (rfl)

@[simp] theorem shape_preempt (p : Nat) (t : EthTx) : (s.preempt p t).shape = s.shape := by simp [State.preempt]

@[simp] theorem shape_selectCpu (p : Nat) : (s.selectCpu p).shape = s.shape := by
  unfold State.selectCpu
  dsimp only
  (repeat' split) <;> simp

@[simp] theorem shape_doEgressFrameEnd (p : Nat) : (doEgressFrameEnd p s).shape = s.shape := by
  unfold doEgressFrameEnd
  dsimp only
  (repeat' split) <;> simp

@[simp] theorem shape_setHold (p : Nat) (on : Bool) : (s.setHold p on).shape = s.shape := by simp [State.setHold]

@[simp] theorem shape_gatesNow (p : Nat) : (s.gatesNow p).shape = s.shape := by simp [State.gatesNow]

@[simp] theorem shape_doGateEntryBoundary (p : Nat) : (doGateEntryBoundary p s).shape = s.shape := by
  simp [doGateEntryBoundary]

@[simp] theorem shape_overrun (p : Nat) : (s.overrun p).shape = s.shape := by
  unfold State.overrun
  (repeat' split) <;> simp

@[simp] theorem shape_schChange (p : Nat) : (s.schChange p).shape = s.shape := by simp [State.schChange]

@[simp] theorem shape_doSchChange (p : Nat) : (doSchChange p s).shape = s.shape := by simp [doSchChange]

@[simp] theorem shape_swapSch (p : Nat) : (s.swapSch p).shape = s.shape := by
  unfold State.swapSch
  dsimp only
  (repeat' split) <;> simp

@[simp] theorem shape_doSchSwap (p : Nat) : (doSchSwap p s).shape = s.shape := by
  unfold doSchSwap
  split <;> simp

@[simp] theorem shape_stepPort (p : Nat) : (s.stepPort p).shape = s.shape := by
  unfold State.stepPort
  split <;> simp

@[simp] theorem shape_stepGates : s.stepGates.shape = s.shape := by
  unfold State.stepGates
  dsimp only
  rw [shape_forN, shape_forN]
  · simp
  · intro g t
    split
    · split <;> simp
    · rfl

@[simp] theorem shape_reshape (p c : Nat) (old new : Nat × Nat × Nat × Nat) :
    (s.reshape p c old new).shape = s.shape := by
  simp [State.reshape]

@[simp] theorem shape_schParam (p c w v : Nat) : (s.schParam p c w v).shape = s.shape := by simp [State.schParam]

@[simp] theorem shape_doShaperParamWrite (p c w v : Nat) : (doShaperParamWrite p c w v s).shape = s.shape := by
  simp [doShaperParamWrite]

@[simp] theorem shape_setVerify (p st : Nat) : (s.setVerify p st).shape = s.shape := by simp [State.setVerify]

@[simp] theorem shape_setTries (p n : Nat) : (s.setTries p n).shape = s.shape := (rfl)

@[simp] theorem shape_startVerify (p : Nat) : (s.startVerify p).shape = s.shape := by simp [State.startVerify]

@[simp] theorem shape_topoChange : (s.topoChange).shape = s.shape := by simp [State.topoChange]

@[simp] theorem shape_clearNbr (d : Nat) : (s.clearNbr d).shape = s.shape := by simp [State.clearNbr]

@[simp] theorem shape_dropLink (p : Nat) : (s.dropLink p).shape = s.shape := by simp [State.dropLink]

@[simp] theorem shape_doLinkDown (p : Nat) : (doLinkDown p s).shape = s.shape := by simp [doLinkDown]

@[simp] theorem shape_doLinkUp (p : Nat) : (doLinkUp p s).shape = s.shape := by simp [doLinkUp]

@[simp] theorem shape_doVerifyResponse (p : Nat) : (doVerifyResponse p s).shape = s.shape := by simp [doVerifyResponse]

@[simp] theorem shape_doVerifyTimeout (p : Nat) : (doVerifyTimeout p s).shape = s.shape := by simp [doVerifyTimeout]

@[simp] theorem shape_doVerifyMpacketReceived (p : Nat) : (doVerifyMpacketReceived p s).shape = s.shape := by
  simp [doVerifyMpacketReceived]

@[simp] theorem shape_holdOp (p op : Nat) : (s.holdOp p op).shape = s.shape := by simp [State.holdOp]

@[simp] theorem shape_doMacMergeHold (p k : Nat) : (doMacMergeHold p k s).shape = s.shape := by
  unfold doMacMergeHold
  dsimp only
  (repeat' split) <;> simp

end
end Sys2Proof.Machine
end

section
/-! SUPPORT. The shape through the time base and the rods. -/

namespace Sys2Proof.Machine

section
variable (s : State)

/-! ### The time base -/

@[simp] theorem shape_moveClk (d : Int) : (s.moveClk d).shape = s.shape := (rfl)

@[simp] theorem shape_advanceClk : (s.advanceClk).shape = s.shape := by
  unfold State.advanceClk
  split <;> simp

@[simp] theorem shape_shapeTick (p c : Nat) : (s.shapeTick p c).shape = s.shape := by simp [State.shapeTick]

@[simp] theorem shape_shapeTicks : (s.shapeTicks).shape = s.shape := by simp [State.shapeTicks]

/-- The fractions of checked bits are no part of the shape. -/
theorem shape_laneFrac (l : Sparse Nat) : ({ s with laneFrac := l } : State).shape = s.shape := rfl

@[simp] theorem shape_laneTicks : s.laneTicks.shape = s.shape := by
  unfold State.laneTicks
  refine shape_forN _ _ _ fun l t => ?_
  dsimp only
  split
  · rw [shape_laneFrac]; simp
  · rfl

@[simp] theorem shape_stageTick : (s.stageTick).shape = s.shape := by simp [State.stageTick]

@[simp] theorem shape_drainTick : (s.drainTick).shape = s.shape := by simp [State.drainTick]

@[simp] theorem shape_tick : (s.tick).shape = s.shape := by simp [State.tick]

@[simp] theorem shape_dropLate (n : Nat) : (s.dropLate n).shape = s.shape := by simp [State.dropLate]

@[simp] theorem shape_stepEffects (d : Int) : (s.stepEffects d).shape = s.shape := by simp [State.stepEffects]

@[simp] theorem shape_noteStep (d : Int) : (s.noteStep d).shape = s.shape := by simp [State.noteStep]

@[simp] theorem shape_applyStep (d : Int) : (s.applyStep d).shape = s.shape := by simp [State.applyStep]

@[simp] theorem shape_setView (d : Nat) (v : View) : (s.setView d v).shape = s.shape := (rfl)

@[simp] theorem shape_applySelect (d : Nat) : (s.applySelect d).shape = s.shape := by simp [State.applySelect]

@[simp] theorem shape_pendStep (p : Pending) : (s.pendStep p).shape = s.shape := by simp [State.pendStep]

@[simp] theorem shape_ownerWrite : (s.ownerWrite).shape = s.shape := by simp [State.ownerWrite]

@[simp] theorem shape_timeRead (r : Nat) : (s.timeRead r).2.shape = s.shape := by simp [State.timeRead]

@[simp] theorem shape_slewTo (adj : Int) (dur : Nat) : (s.slewTo adj dur).shape = s.shape := by simp [State.slewTo]

@[simp] theorem shape_tryStep (d : Int) : (s.tryStep d).shape = s.shape := by simp [State.tryStep]

@[simp] theorem shape_timeEffect (r i v : Nat) : (s.timeEffect r i v).2.shape = s.shape := by
  unfold State.timeEffect
  dsimp only
  (repeat' split) <;> simp

@[simp] theorem shape_timeWrite (r : Nat) : (s.timeWrite r).2.shape = s.shape := by simp [State.timeWrite]

@[simp] theorem shape_doTblRead (r : Nat) (slow : Bool) (ce : Nat) : (doTblRead r slow ce s).shape = s.shape := by
  simp [doTblRead]

@[simp] theorem shape_doTblWrite (r : Nat) (slow : Bool) : (doTblWrite r slow s).shape = s.shape := by simp [doTblWrite]

@[simp] theorem shape_loadTime (r i v : Nat) : (s.loadTime r i v).shape = s.shape := by simp [State.loadTime]

@[simp] theorem shape_timeCmd (r i v : Nat) : (s.timeCmd r i v).shape = s.shape := by simp [State.timeCmd]

@[simp] theorem shape_doTimeBaseRead (r i : Nat) : (doTimeBaseRead r i s).shape = s.shape := by simp [doTimeBaseRead]

@[simp] theorem shape_doClockSet (r sec ns frac : Nat) :
    (doClockSet r sec ns frac s).shape = s.shape := by simp [doClockSet]

@[simp] theorem shape_doRateWrite (r rate : Nat) : (doRateWrite r rate s).shape = s.shape := by simp [doRateWrite]

@[simp] theorem shape_doSlew (r adj dur : Nat) : (doSlew r adj dur s).shape = s.shape := by simp [doSlew]

@[simp] theorem shape_doSlewEnd : (doSlewEnd s).shape = s.shape := by
  unfold doSlewEnd
  split <;> simp

@[simp] theorem shape_doStep (r ns frac : Nat) : (doStep r ns frac s).shape = s.shape := by simp [doStep]

@[simp] theorem shape_doSelect (r d : Nat) : (doSelect r d s).shape = s.shape := by simp [doSelect]

@[simp] theorem shape_doAccept (r : Nat) : (doAccept r s).shape = s.shape := by simp [doAccept]

@[simp] theorem shape_doViewWrite (r d ofs frac vrate ref : Nat) :
    (doViewWrite r d ofs frac vrate ref s).shape = s.shape :=
  by simp [doViewWrite]

@[simp] theorem shape_doTimHoldoverOn : (doTimHoldoverOn s).shape = s.shape := by simp [doTimHoldoverOn]

@[simp] theorem shape_servo (d kind v : Nat) : (s.servo d kind v).shape = s.shape := by simp [State.servo]

@[simp] theorem shape_setLocked (d : Nat) (on : Bool) : (s.setLocked d on).shape = s.shape := by simp [State.setLocked]

@[simp] theorem shape_doDomainFailover (lost : Nat) : (doDomainFailover lost s).shape = s.shape := by
  unfold doDomainFailover
  dsimp only
  (repeat' split) <;> simp

@[simp] theorem shape_doPtpFrameTrapped (p dn kind v : Nat) (locked : Bool) :
    (doPtpFrameTrapped p dn kind v locked s).shape = s.shape := by
  unfold doPtpFrameTrapped
  split <;> simp

@[simp] theorem shape_sendSync (d : Nat) : (s.sendSync d).shape = s.shape := by simp [State.sendSync]

@[simp] theorem shape_doSyncInterval (d kind v : Nat) (locked : Bool) :
    (doSyncInterval d kind v locked s).shape = s.shape :=
  by simp [doSyncInterval]

/-- The latches of TIM_NOW are no part of the shape. -/
theorem shape_nowLatch (l : Sparse Nat) : ({ s with tb := { s.tb with nowLatch := l } } : State).shape = s.shape := rfl

@[simp] theorem shape_nowRead (r age : Nat) : (s.nowRead r age).2.shape = s.shape := shape_nowLatch s _

@[simp] theorem shape_hostReads (f : State → Nat × State) (hf : ∀ u, (f u).2.shape = u.shape) :
    (s.hostReads f).shape = s.shape := by simp [State.hostReads, hf]

@[simp] theorem shape_outAssert (t g : Nat) (u : Nat × Nat × Nat) : (s.outAssert t g u).shape = s.shape := (rfl)

@[simp] theorem shape_doTimeOutAssert : (doTimeOutAssert s).shape = s.shape := by
  unfold doTimeOutAssert
  (repeat' split) <;> simp

@[simp] theorem shape_doTimeOutDeassert : (doTimeOutDeassert s).shape = s.shape := by simp [doTimeOutDeassert]

@[simp] theorem shape_outWritten (was : Bool) : (s.outWritten was).shape = s.shape := by simp [State.outWritten]

/-! ### Rods -/

@[simp] theorem shape_rodDrop (n q : Nat) (r : QRef) : (s.rodDrop n q r).shape = s.shape := by simp [State.rodDrop]

@[simp] theorem shape_flushQueue (n q : Nat) : (s.flushQueue n q).shape = s.shape := by
  unfold State.flushQueue
  dsimp only
  split <;> simp

@[simp] theorem shape_flushRod (n : Nat) : (s.flushRod n).shape = s.shape := by simp [State.flushRod]

@[simp] theorem shape_busFree (n : Nat) : (s.busFree n).shape = s.shape := by simp [State.busFree]

@[simp] theorem shape_rodCmd (n op : Nat) (legal : List Nat) (run : State → Nat × State)
    (hrun : ∀ u, (run u).2.shape = u.shape) :
    (s.rodCmd n op legal run).shape = s.shape := by simp [State.rodCmd, hrun]

@[simp] theorem shape_doRodNop (n : Nat) : (doRodNop n s).shape = s.shape := by simp [doRodNop]

@[simp] theorem shape_doSetMode (n arg : Nat) : (doSetMode n arg s).shape = s.shape := by simp [doSetMode]

theorem shape_of_rodStart {n : Nat} {t : State} (h : s.rodStart n = some t) : t.shape = s.shape := by
  unfold State.rodStart at h
  extract_lets mode nbrp dbrp nq dq can nbrp' dbrp' int frac slow pwm raised s₁ s₂ s₃ base latch _ s₄ at h
  have h₂ : s₂.shape = s.shape := by unfold s₂ s₁; split <;> simp
  have h₃ : s₃.shape = s.shape := by unfold s₃; split <;> simp [h₂]
  split at h
  · cases h
  · cases h; simp [s₄, h₃]

@[simp] theorem shape_rodStart_getD (n : Nat) : ((s.rodStart n).getD s).shape = s.shape := by
  cases h : s.rodStart n with
  | none => rfl
  | some t => exact shape_of_rodStart s h

@[simp] theorem shape_doStart (n : Nat) : (doStart n s).shape = s.shape := by
  unfold doStart
  refine shape_rodCmd _ _ _ _ _ fun t => ?_
  split
  · rfl
  · next h => exact shape_of_rodStart t h

@[simp] theorem shape_doStop (n : Nat) (rx : Bool) : (doStop n rx s).shape = s.shape := by simp [doStop]

@[simp] theorem shape_doStoppingEnd (n : Nat) : (doStoppingEnd n s).shape = s.shape := by simp [doStoppingEnd]

@[simp] theorem shape_doRecover (n : Nat) : (doRecover n s).shape = s.shape := by simp [doRecover]

@[simp] theorem shape_doFlush (n arg : Nat) : (doFlush n arg s).shape = s.shape := by simp [doFlush]

@[simp] theorem shape_doRodStandby (n : Nat) : (doRodStandby n s).shape = s.shape := by simp [doRodStandby]

@[simp] theorem shape_doRodWake (n : Nat) : (doRodWake n s).shape = s.shape := by simp [doRodWake]

@[simp] theorem shape_restoreRod (n : Nat) : (s.restoreRod n).shape = s.shape := by simp [State.restoreRod]

@[simp] theorem shape_resetRod (n : Nat) : (s.resetRod n).shape = s.shape := by simp [State.resetRod]

@[simp] theorem shape_doRodReset (n : Nat) : (doRodReset n s).shape = s.shape := by simp [doRodReset]

@[simp] theorem shape_rodReady (n : Nat) : (s.rodReady n).shape = s.shape := by
  simp [State.rodReady]

@[simp] theorem shape_doRodResetComplete (n : Nat) :
    (doRodResetComplete n s).shape = s.shape := by simp [doRodResetComplete]

@[simp] theorem shape_ownPins (old : List PinClaim) : (s.ownPins old).shape = s.shape := by simp [State.ownPins]

@[simp] theorem shape_xcvrStore (n v : Nat) : (s.xcvrStore n v).shape = s.shape := by simp [State.xcvrStore]

@[simp] theorem shape_doRodXcvrWrite (n v : Nat) : (doRodXcvrWrite n v s).shape = s.shape := by simp [doRodXcvrWrite]

@[simp] theorem shape_doIntegrationComplete (n : Nat) : (doIntegrationComplete n s).shape = s.shape := by
  simp [doIntegrationComplete]

@[simp] theorem shape_doRecoveryComplete (n : Nat) :
    (doRecoveryComplete n s).shape = s.shape := by simp [doRecoveryComplete]

@[simp] theorem shape_testCheck (n : Nat) (data : List Byte) : (s.testCheck n data).shape = s.shape := by
  simp [State.testCheck]

@[simp] theorem shape_putOnBus (n : Nat) (t : RodTx) : (s.putOnBus n t).shape = s.shape := by simp [State.putOnBus]

@[simp] theorem shape_doRodTestFrame (n : Nat) : (doRodTestFrame n s).shape = s.shape := by simp [doRodTestFrame]

@[simp] theorem shape_rodReceive (n : Nat) (f : CanFrame) (t : Nat) (classic : Bool) :
    (s.rodReceive n f t classic).shape = s.shape := by
  unfold State.rodReceive
  split
  · simp
  · split
    · rfl
    · split
      · simp
      · simp
      · split
        · simp
        · next h => simp [shape_of_claim s h]

@[simp] theorem shape_flagError (n code : Nat) (sending heavy : Bool) :
    (s.flagError n code sending heavy).shape = s.shape :=
  by simp [State.flagError]

@[simp] theorem shape_doRodFrameRx (n : Nat) (f : CanFrame) (ago : Nat) : (doRodFrameRx n f ago s).shape = s.shape := by
  unfold doRodFrameRx
  dsimp only
  (repeat' split) <;> simp

@[simp] theorem shape_sendRef (n q : Nat) (r : QRef) (rec : List Byte) : (s.sendRef n q r rec).shape = s.shape := by
  unfold State.sendRef
  dsimp only
  (repeat' split) <;> simp

@[simp] theorem shape_tryRef (n q : Nat) (r : QRef) : (s.tryRef n q r).2.shape = s.shape := by
  unfold State.tryRef
  (repeat' split) <;> simp

@[simp] theorem shape_serveRod (n fuel : Nat) : (State.serveRod n fuel s).shape = s.shape := by
  induction fuel generalizing s with
  | zero => rfl
  | succ fuel ih =>
    unfold State.serveRod
    split
    · rfl
    · split
      · next h => exact shape_of_snd s h (by simp)
      · next h => rw [ih]; exact shape_of_snd s h (by simp)

@[simp] theorem shape_doRodTxSelect (n : Nat) : (doRodTxSelect n s).shape = s.shape := by
  simp [doRodTxSelect]

@[simp] theorem shape_doLaunchInstant (n : Nat) (idle : Bool) : (doLaunchInstant n idle s).shape = s.shape := by
  unfold doLaunchInstant
  dsimp only
  (repeat' split) <;> simp

@[simp] theorem shape_doLaunchLate (n : Nat) : (doLaunchLate n s).shape = s.shape := by simp [doLaunchLate]

@[simp] theorem shape_arbLog (n : Nat) (t : RodTx) (bitpos winId winIde : Nat) :
    (s.arbLog n t bitpos winId winIde).shape = s.shape := by simp [State.arbLog]

@[simp] theorem shape_attemptFailed (n : Nat) (t : RodTx) : (s.attemptFailed n t).shape = s.shape := by
  simp [State.attemptFailed]

@[simp] theorem shape_doArbitrationLoss (n winId : Nat) (winIde : Bool) (bitpos : Nat) :
    (doArbitrationLoss n winId winIde bitpos s).shape = s.shape := by
  unfold doArbitrationLoss
  split <;> simp

@[simp] theorem shape_tdcMeas (n m : Nat) : (s.tdcMeas n m).shape = s.shape := by
  unfold State.tdcMeas
  dsimp only
  split <;> simp

@[simp] theorem shape_tdcOf (n : Nat) (t : RodTx) (m : Nat) : (s.tdcOf n t m).shape = s.shape := by simp [State.tdcOf]

@[simp] theorem shape_doRodBusError (n code : Nat) (dataPhase heavy : Bool) (tdc : Option Nat) :
    (doRodBusError n code dataPhase heavy tdc s).shape = s.shape := by
  unfold doRodBusError
  dsimp only
  (repeat' split) <;> simp

@[simp] theorem shape_doRodTxComplete (n tdc : Nat) : (doRodTxComplete n tdc s).shape = s.shape := by
  unfold doRodTxComplete
  split <;> simp

@[simp] theorem shape_linPurge (n : Nat) : (s.linPurge n).shape = s.shape := by
  unfold State.linPurge
  refine shape_forN _ _ _ fun q t => shape_foldl _ _ _ fun u r => ?_
  split
  · simp
  · split <;> simp

@[simp] theorem shape_doLinSleepEntry (n : Nat) : (doLinSleepEntry n s).shape = s.shape := by simp [doLinSleepEntry]

@[simp] theorem shape_doLinWake (n : Nat) : (doLinWake n s).shape = s.shape := by simp [doLinWake]

@[simp] theorem shape_doLinScheduleRestart (n : Nat) : (doLinScheduleRestart n s).shape = s.shape := by
  simp [doLinScheduleRestart]

@[simp] theorem shape_doLinWakeRetry (n : Nat) : (doLinWakeRetry n s).shape = s.shape := by simp [doLinWakeRetry]

@[simp] theorem shape_runSlot (n k e : Nat) : (s.runSlot n k e).shape = s.shape := by
  unfold State.runSlot
  dsimp only
  (repeat' split) <;> simp

@[simp] theorem shape_doLinSlotStart (n : Nat) : (doLinSlotStart n s).shape = s.shape := by
  unfold doLinSlotStart
  dsimp only
  (repeat' split) <;> simp

@[simp] theorem shape_doLinNoResp (n : Nat) : (doLinNoResp n s).shape = s.shape := by simp [doLinNoResp]

@[simp] theorem shape_doLinHeaderReceived (n fid err sync : Nat) :
    (doLinHeaderReceived n fid err sync s).shape = s.shape := by
  unfold doLinHeaderReceived
  dsimp only
  (repeat' split) <;> simp

@[simp] theorem shape_doAcfAppend : (doAcfAppend s).shape = s.shape := by simp [doAcfAppend]

@[simp] theorem shape_doAcfHoldExpiry (c : Nat) : (doAcfHoldExpiry c s).shape = s.shape := by
  unfold doAcfHoldExpiry
  dsimp only
  split <;> simp

@[simp] theorem shape_doCryEmit (c : Nat) : (doCryEmit c s).shape = s.shape := by simp [doCryEmit]

@[simp] theorem shape_doAcfSplit : (doAcfSplit s).shape = s.shape := by simp [doAcfSplit]

end
end Sys2Proof.Machine
end

section
/-! SUPPORT. The shape through the key store, measurements and tests. -/

namespace Sys2Proof.Machine

section
variable (s : State)

/-! ### The key store -/

@[simp] theorem shape_putSlot (i : Nat) (k : KeySlot) : (s.putSlot i k).shape = s.shape := (rfl)

@[simp] theorem shape_jWrite (l : List (Option Nat × KeySlot)) : (s.jWrite l).shape = s.shape := (rfl)

@[simp] theorem shape_jCommit : (s.jCommit).shape = s.shape := (rfl)

@[simp] theorem shape_jImage (slot : Option Nat) (k : KeySlot) : (s.jImage slot k).shape = s.shape := by
  unfold State.jImage
  split <;> simp

@[simp] theorem shape_jStore : (s.jStore).shape = s.shape := by simp [State.jStore]

@[simp] theorem shape_jEmpty : (s.jEmpty).shape = s.shape := (rfl)

@[simp] theorem shape_examineJournal : (s.examineJournal).shape = s.shape := by simp [State.examineJournal]

@[simp] theorem shape_countFree : (s.countFree).shape = s.shape := by simp [State.countFree]

@[simp] theorem shape_commitGroup (l : List (Option Nat × KeySlot)) : (s.commitGroup l).shape = s.shape := by
  simp [State.commitGroup]

@[simp] theorem shape_setSlot (i : Nat) (k : KeySlot) : (s.setSlot i k).shape = s.shape := by simp [State.setSlot]

@[simp] theorem shape_setArc (v : Nat) : (s.setArc v).shape = s.shape := by simp [State.setArc]

@[simp] theorem shape_useSlot (i : Nat) : (s.useSlot i).shape = s.shape := by simp [State.useSlot]

@[simp] theorem shape_keyOut (r : Nat) (bs : List Byte) : (s.keyOut r bs).shape = s.shape := by simp [State.keyOut]

@[simp] theorem shape_keyResult (r i : Nat) : (s.keyResult r i).shape = s.shape := by simp [State.keyResult]

@[simp] theorem shape_keyCmd (r op : Nat) (run : State → Nat × State) (hrun : ∀ u, (run u).2.shape = u.shape) :
    (s.keyCmd r op run).shape = s.shape := by simp [State.keyCmd, hrun]

@[simp] theorem shape_guard (checks : List (Option Nat)) (act : State → Nat × State)
    (hact : ∀ u, (act u).2.shape = u.shape) :
    (guard checks s act).2.shape = s.shape := by
  unfold guard
  split <;> simp [hact]

@[simp] theorem shape_draw : (s.draw).2.shape = s.shape := by simp [State.draw]

@[simp] theorem shape_makeSlot (r t aux k : Nat) (derived : Bool) : (s.makeSlot r t aux k derived).shape = s.shape := by
  simp [State.makeSlot]

@[simp] theorem shape_keyGenerate (r : Nat) : (s.keyGenerate r).2.shape = s.shape := by simp [State.keyGenerate]

@[simp] theorem shape_keyDerive (r : Nat) : (s.keyDerive r).2.shape = s.shape := by simp [State.keyDerive]

@[simp] theorem shape_keyImport (r : Nat) : (s.keyImport r).2.shape = s.shape := by simp [State.keyImport]

@[simp] theorem shape_keyExport (r : Nat) : (s.keyExport r).2.shape = s.shape := by simp [State.keyExport]

@[simp] theorem shape_keyMac (r sub : Nat) : (s.keyMac r sub).2.shape = s.shape := by simp [State.keyMac]

@[simp] theorem shape_keyBindSa (r : Nat) : (s.keyBindSa r).2.shape = s.shape := by simp [State.keyBindSa]

@[simp] theorem shape_keyBindImage (r : Nat) : (s.keyBindImage r).2.shape = s.shape := by simp [State.keyBindImage]

@[simp] theorem shape_keyInvalidate (r : Nat) : (s.keyInvalidate r).2.shape = s.shape := by simp [State.keyInvalidate]

@[simp] theorem shape_keyInfo (r : Nat) : (s.keyInfo r).2.shape = s.shape := by simp [State.keyInfo]

@[simp] theorem shape_keyChallenge (r : Nat) : (s.keyChallenge r).2.shape = s.shape := by simp [State.keyChallenge]

@[simp] theorem shape_debugSplit (i : Nat) : (s.debugSplit i).shape = s.shape := by simp [State.debugSplit]

theorem shape_of_tokenEffect {tok : List Byte} {t : State} (h : s.tokenEffect tok = some t) : t.shape = s.shape := by
  unfold State.tokenEffect at h
  split at h
  · split at h <;> cases h; simp
  · split at h <;> cases h; simp
  · split at h
    · cases h
    · exact shape_of_openSlot s h

@[simp] theorem shape_keyToken (r : Nat) : (s.keyToken r).2.shape = s.shape := by
  unfold State.keyToken
  dsimp only
  rw [shape_guard]
  · simp
  · intro t
    split
    · rfl
    · next h => simp [shape_of_tokenEffect t h]

@[simp] theorem shape_keyAttest (r : Nat) : (s.keyAttest r).2.shape = s.shape := by simp [State.keyAttest]

@[simp] theorem shape_keyPublic (r : Nat) : (s.keyPublic r).2.shape = s.shape := by simp [State.keyPublic]

@[simp] theorem shape_doKeyNop (r : Nat) : (doKeyNop r s).shape = s.shape := by simp [doKeyNop]

@[simp] theorem shape_doGenerate (r : Nat) : (doGenerate r s).shape = s.shape := by simp [doGenerate]

@[simp] theorem shape_doDerive (r : Nat) : (doDerive r s).shape = s.shape := by simp [doDerive]

@[simp] theorem shape_doImportWrapped (r : Nat) : (doImportWrapped r s).shape = s.shape := by simp [doImportWrapped]

@[simp] theorem shape_doExportWrapped (r : Nat) : (doExportWrapped r s).shape = s.shape := by simp [doExportWrapped]

@[simp] theorem shape_doKeyMac (r sub : Nat) : (doKeyMac r sub s).shape = s.shape := by simp [doKeyMac]

@[simp] theorem shape_doBindSa (r : Nat) : (doBindSa r s).shape = s.shape := by simp [doBindSa]

@[simp] theorem shape_doBindImage (r : Nat) : (doBindImage r s).shape = s.shape := by simp [doBindImage]

@[simp] theorem shape_doInvalidate (r : Nat) : (doInvalidate r s).shape = s.shape := by simp [doInvalidate]

@[simp] theorem shape_doInfo (r : Nat) : (doInfo r s).shape = s.shape := by simp [doInfo]

@[simp] theorem shape_doAuthorizeChallenge (r : Nat) : (doAuthorizeChallenge r s).shape = s.shape := by
  simp [doAuthorizeChallenge]

@[simp] theorem shape_doAuthorizeToken (r : Nat) : (doAuthorizeToken r s).shape = s.shape := by simp [doAuthorizeToken]

@[simp] theorem shape_doAttestStatement (r : Nat) : (doAttestStatement r s).shape = s.shape := by simp [doAttestStatement]

@[simp] theorem shape_doAttestPublicKeys (r : Nat) :
    (doAttestPublicKeys r s).shape = s.shape := by simp [doAttestPublicKeys]

@[simp] theorem shape_clearSas (i : Nat) : (s.clearSas i).shape = s.shape := by simp [State.clearSas]

@[simp] theorem shape_sweepPass : s.sweepPass.2.shape = s.shape := by
  unfold State.sweepPass
  rw [shape_foldl_snd]
  intro a i
  dsimp only
  split <;> simp

@[simp] theorem shape_sweepAll (fuel : Nat) (a : List Nat × State) : (State.sweepAll fuel a).2.shape = a.2.shape := by
  induction fuel generalizing a with
  | zero => rfl
  | succ fuel ih =>
    unfold State.sweepAll
    split
    · next h => exact shape_of_snd _ h (by simp)
    · next h =>
      rw [ih]
      exact shape_of_snd _ h (by simp)

@[simp] theorem shape_reclaim (i : Nat) : (s.reclaim i).shape = s.shape := by
  unfold State.reclaim
  split
  next l u h =>
  have hu : u.shape = s.shape := shape_of_snd s h (by simp)
  simp [hu]

@[simp] theorem shape_doReclaimSweepDone : (doReclaimSweepDone s).shape = s.shape := by
  unfold doReclaimSweepDone
  split <;> simp

@[simp] theorem shape_expireSlots : (s.expireSlots).shape = s.shape := by simp [State.expireSlots]

@[simp] theorem shape_otherMask : (s.otherMask).shape = s.shape := by simp [State.otherMask]

@[simp] theorem shape_remask : (s.remask).shape = s.shape := by simp [State.remask]

@[simp] theorem shape_takeFound (f : KeyFound) : (s.takeFound f).shape = s.shape := by
  unfold State.takeFound
  split <;> simp

@[simp] theorem shape_resumeSweeps : (s.resumeSweeps).shape = s.shape := by simp [State.resumeSweeps]

@[simp] theorem shape_doKeyStoreReady (found : KeyFound) : (doKeyStoreReady found s).shape = s.shape := by
  unfold doKeyStoreReady
  dsimp only
  (repeat' split) <;> simp

@[simp] theorem shape_doDrbgHealthFail : (doDrbgHealthFail s).shape = s.shape := by simp [doDrbgHealthFail]

@[simp] theorem shape_zeroVbatk : (s.zeroVbatk).shape = s.shape := by simp [State.zeroVbatk]

@[simp] theorem shape_tamper (src : Nat) : (s.tamper src).shape = s.shape := by simp [State.tamper]

/-! ### Test and diagnostics -/

@[simp] theorem shape_dropTrace : (s.dropTrace).shape = s.shape := by simp [State.dropTrace]

@[simp] theorem shape_stopTrace (cause : Nat) : (s.stopTrace cause).shape = s.shape := by simp [State.stopTrace]

@[simp] theorem shape_startTrace : (s.startTrace).shape = s.shape := by simp [State.startTrace]

@[simp] theorem shape_freezeTrace : (s.freezeTrace).shape = s.shape := by simp [State.freezeTrace]

@[simp] theorem shape_setWrPtr (p : Nat) : (s.setWrPtr p).shape = s.shape := by simp [State.setWrPtr]

@[simp] theorem shape_freezeNow : (s.freezeNow).shape = s.shape := by simp [State.freezeNow]

@[simp] theorem shape_doFreezeNow : (doFreezeNow s).shape = s.shape := by simp [doFreezeNow]

@[simp] theorem shape_armTrace : (s.armTrace).shape = s.shape := by simp [State.armTrace]

@[simp] theorem shape_doTrcArm : (doTrcArm s).shape = s.shape := by simp [doTrcArm]

@[simp] theorem shape_trcEn (on : Bool) : (s.trcEn on).shape = s.shape := by simp [State.trcEn]

@[simp] theorem shape_storeTrcCtl (v : Nat) : (s.storeTrcCtl v).shape = s.shape := by simp [State.storeTrcCtl]

@[simp] theorem shape_doTrcEnable (on : Bool) : (doTrcEnable on s).shape = s.shape := by simp [doTrcEnable]

@[simp] theorem shape_ddrFail (cause : Nat) : (s.ddrFail cause).shape = s.shape := by simp [State.ddrFail]

@[simp] theorem shape_doLpddr5Trained (result size : Nat) : (doLpddr5Trained result size s).shape = s.shape := by
  simp [doLpddr5Trained]

@[simp] theorem shape_doLpddr5Retrain (ok : Bool) : (doLpddr5Retrain ok s).shape = s.shape := by simp [doLpddr5Retrain]

@[simp] theorem shape_memTestAbort : (s.memTestAbort).shape = s.shape := by simp [State.memTestAbort]

@[simp] theorem shape_doMemTestNop : (doMemTestNop s).shape = s.shape := by simp [doMemTestNop]

@[simp] theorem shape_doMemTestAbort : (doMemTestAbort s).shape = s.shape := by simp [doMemTestAbort]

@[simp] theorem shape_doCheckerLock (l : Nat) (bits : List Bool) : (doCheckerLock l bits s).shape = s.shape := by
  simp [doCheckerLock]

@[simp] theorem shape_laneMismatch (l : Nat) (at_ : Nat) : (State.laneMismatch l s at_).shape = s.shape := by
  unfold State.laneMismatch
  dsimp only
  (repeat' split) <;> simp

@[simp] theorem shape_doCheckerLockLoss (l : Nat) (errs : List Nat) : (doCheckerLockLoss l errs s).shape = s.shape := by
  simp [doCheckerLockLoss]

@[simp] theorem shape_clearLane (l : Nat) : (s.clearLane l).shape = s.shape := by simp [State.clearLane]

@[simp] theorem shape_doTstLaneClr (l : Nat) : (doTstLaneClr l s).shape = s.shape := by simp [doTstLaneClr]

@[simp] theorem shape_clearRodTest (n : Nat) : (s.clearRodTest n).shape = s.shape := by simp [State.clearRodTest]

@[simp] theorem shape_doTstRodClr (n : Nat) : (doTstRodClr n s).shape = s.shape := by simp [doTstRodClr]

@[simp] theorem shape_tapLoad (code : Nat) : (s.tapLoad code).shape = s.shape := by simp [State.tapLoad]

@[simp] theorem shape_tapScan (len tdi balls : Nat) : (s.tapScan len tdi balls).shape = s.shape := by simp [State.tapScan]

@[simp] theorem shape_doJtagInstructionLoad (code : Nat) (scan : Option (Nat × Nat × Nat)) :
    (doJtagInstructionLoad code scan s).shape = s.shape := by
  unfold doJtagInstructionLoad
  split <;> simp

@[simp] theorem shape_tapReset : (s.tapReset).shape = s.shape := (rfl)

@[simp] theorem shape_doTapReset : (doTapReset s).shape = s.shape := by simp [doTapReset]

@[simp] theorem shape_snapshot (clear : Bool) : (s.snapshot clear).shape = s.shape := by simp [State.snapshot]

@[simp] theorem shape_snapGo (clear : Bool) : (s.snapGo clear).shape = s.shape := by simp [State.snapGo]

@[simp] theorem shape_doTlySnapshot (clear : Bool) : (doTlySnapshot clear s).shape = s.shape := by simp [doTlySnapshot]

@[simp] theorem shape_doTlyAutoSnapshot : (doTlyAutoSnapshot s).shape = s.shape := by simp [doTlyAutoSnapshot]

end
end Sys2Proof.Machine
end

section
/-! SUPPORT. The shape through start-up, stores and images. -/

namespace Sys2Proof.Machine

section
variable (s : State)

/-! ### Resets and start-up -/

@[simp] theorem shape_restore (lvl : Nat) : (s.restore lvl).shape = s.shape := (rfl)

@[simp] theorem shape_cutOff : (s.cutOff).shape = s.shape := by simp [State.cutOff]

@[simp] theorem shape_cause (c : Nat) : (s.cause c).shape = s.shape := by simp [State.cause]

@[simp] theorem shape_setStageNo (n : Nat) : (s.setStageNo n).shape = s.shape := by simp [State.setStageNo]

@[simp] theorem shape_enterOptions : (s.enterOptions).shape = s.shape := by simp [State.enterOptions]

@[simp] theorem shape_proceed : (s.proceed).shape = s.shape := by simp [State.proceed]

@[simp] theorem shape_toStart : (s.toStart).shape = s.shape := by simp [State.toStart]

@[simp] theorem shape_doSupplyMonitorRelease :
    (doSupplyMonitorRelease s).shape = s.shape := by simp [doSupplyMonitorRelease]

@[simp] theorem shape_doPorstNRelease : (doPorstNRelease s).shape = s.shape := by simp [doPorstNRelease]

@[simp] theorem shape_doWrstNRelease : (doWrstNRelease s).shape = s.shape := by simp [doWrstNRelease]

@[simp] theorem shape_failedTrial : (s.failedTrial).shape = s.shape := by simp [State.failedTrial]

@[simp] theorem shape_loadShadows (part rev uid : Nat) (v : Variant) (fuse revoked : Nat) (debug : Bool) :
    (s.loadShadows part rev uid v fuse revoked debug).shape = s.shape := by simp [State.loadShadows]

@[simp] theorem shape_doOptionLoadDone (ok : Bool) (attempts : Nat) (corr : Bool) (part rev uid : Nat) (v : Variant)
    (fuse revoked : Nat) (debug : Bool) :
    (doOptionLoadDone ok attempts corr part rev uid v fuse revoked debug s).shape = s.shape := by simp [doOptionLoadDone]

@[simp] theorem shape_doStrapMeasured (mvs : List Nat) :
    (doStrapMeasured mvs s).shape = s.shape := by simp [doStrapMeasured]

@[simp] theorem shape_doClocksLocked (pcie ddr : Bool) (serdes : Nat) :
    (doClocksLocked pcie ddr serdes s).shape = s.shape :=
  by simp [doClocksLocked]

@[simp] theorem shape_retirePort (p : Nat) : (s.retirePort p).shape = s.shape := by simp [State.retirePort]

@[simp] theorem shape_retireRod (n cause : Nat) : (s.retireRod n cause).shape = s.shape := by simp [State.retireRod]

@[simp] theorem shape_startPlane (b pass : Bool) : (s.startPlane b pass).shape = s.shape := by simp [State.startPlane]

@[simp] theorem shape_startCmp (k : Nat) (pass : Bool) : (s.startCmp k pass).shape = s.shape := by simp [State.startCmp]

@[simp] theorem shape_doStartSelfTestsDone (ports : List Nat) (rods : List (Nat × Nat)) (planeA planeB cmp0 cmp1 : Bool) :
    (doStartSelfTestsDone ports rods planeA planeB cmp0 cmp1 s).shape = s.shape := by simp [doStartSelfTestsDone]

@[simp] theorem shape_doVbatkRise (xtal : Bool) : (doVbatkRise xtal s).shape = s.shape := by simp [doVbatkRise]

/-! ### Stores of registers -/

@[simp] theorem shape_capF (f : Fld) (top : Nat) : (s.capF f top).shape = s.shape := by simp [State.capF]

@[simp] theorem shape_storeGate (g v : Nat) : (s.storeGate g v).shape = s.shape := by simp [State.storeGate]

@[simp] theorem shape_storePortCfg (p v : Nat) : (s.storePortCfg p v).shape = s.shape := by simp [State.storePortCfg]

@[simp] theorem shape_storeFpCfg (p v : Nat) : (s.storeFpCfg p v).shape = s.shape := by simp [State.storeFpCfg]

@[simp] theorem shape_storeMacCfg (p v : Nat) : (s.storeMacCfg p v).shape = s.shape := by simp [State.storeMacCfg]

@[simp] theorem shape_storeLane (l v : Nat) : (s.storeLane l v).shape = s.shape := by simp [State.storeLane]

@[simp] theorem shape_storeT1s (i v : Nat) : (s.storeT1s i v).shape = s.shape := by simp [State.storeT1s]

@[simp] theorem shape_storeRodTest (n v : Nat) : (s.storeRodTest n v).shape = s.shape := by simp [State.storeRodTest]

@[simp] theorem shape_storeTiming (off v : Nat) (sjw tseg2 : Fld) : (s.storeTiming off v sjw tseg2).shape = s.shape := by
  simp [State.storeTiming]

@[simp] theorem shape_storeRodCtl (n v : Nat) : (s.storeRodCtl n v).shape = s.shape := by simp [State.storeRodCtl]

@[simp] theorem shape_storeTblAddr (at_ v : Nat) : (s.storeTblAddr at_ v).shape = s.shape := by
  unfold State.storeTblAddr
  split <;> simp

@[simp] theorem shape_lockedStore (lock : Bool) (tally off v : Nat) :
    (s.lockedStore lock tally off v).shape = s.shape := by
  simp [State.lockedStore]

@[simp] theorem shape_storeWord (r off v : Nat) : (s.storeWord r off v).shape = s.shape := by
  unfold State.storeWord
  (repeat' split) <;> simp

/-! ### The image -/

@[simp] theorem shape_layDdr (stage ovf ext : Nat) : (s.layDdr stage ovf ext).shape = s.shape := by simp [State.layDdr]

@[simp] theorem shape_applyDevice (d : List Byte) : (s.applyDevice d).shape = s.shape := by
  unfold State.applyDevice
  extract_lets s₁ s₂ _ s₃
  have h₁ : s₁.shape = s.shape := shape_forN _ _ _ fun p t => by
    dsimp only
    split <;> rfl
  have h₂ : s₂.shape = s₁.shape := shape_forN _ _ _ fun k t => rfl
  rw [shape_layDdr]
  clear_value s₂
  exact h₂.trans h₁

@[simp] theorem shape_applyRegs (x : Section) : (s.applyRegs x).shape = s.shape := by simp [State.applyRegs]

@[simp] theorem shape_placeEntry (code e : Nat) : (s.placeEntry code e).2.shape = s.shape := by
  unfold State.placeEntry
  dsimp only
  (repeat' split) <;> simp

@[simp] theorem shape_applyRecord (code i e : Nat) : (s.applyRecord code i e).2.shape = s.shape := by
  simp [State.applyRecord]

theorem shape_of_applyTable (x : Section) {n : Nat} : ∀ {s t : State} {k : Nat}, State.applyTable x n k s = .ok t →
    t.shape = s.shape := by
  induction n with
  | zero => rintro s t k ⟨⟩; rfl
  | succ n ih =>
    intro s t k h
    unfold State.applyTable at h
    dsimp only at h
    split at h
    · simpa using ih h
    · split at h
      · simpa using ih h
      · simp at h

@[simp] theorem shape_applyParams (bs : List Byte) : (s.applyParams bs).shape = s.shape := by
  unfold State.applyParams
  refine shape_foldl _ _ _ fun t it => ?_
  split <;> simp

@[simp] theorem shape_showParams : (s.showParams).shape = s.shape := by
  unfold State.showParams
  dsimp only
  (repeat' split) <;> simp

theorem shape_of_applySection {s t : State} {x : Section} (h : s.applySection x = .ok t) : t.shape = s.shape := by
  unfold State.applySection at h
  split at h
  · rw [← Except.ok.inj h]; simp
  · exact shape_of_applyTable x h
  · rw [← Except.ok.inj h]; simp
  · rw [← Except.ok.inj h]

theorem shape_of_applySections {s t : State} {l : List Section} (h : s.applySections l = .ok t) : t.shape = s.shape := by
  have all : ∀ (l : List Section) (r : Except Nat State) (u : State), (∀ v, r = .ok v → v.shape = s.shape) →
      l.foldl (fun (r : Except Nat State) x => match r with
        | .ok s => s.applySection x
        | .error e => .error e) r = .ok u → u.shape = s.shape := by
    intro l
    induction l with
    | nil => exact fun r u hr h => hr u h
    | cons x l ih =>
      intro r u hr h
      refine ih _ u (fun v hv => ?_) h
      cases r with
      | ok w => exact (shape_of_applySection hv).trans (hr w rfl)
      | error e => simp at hv
  unfold State.applySections at h
  extract_lets s₁ at h
  have h₁ : s₁.shape = s.shape := by unfold s₁; split <;> simp
  split at h
  · next u hu =>
    rw [← Except.ok.inj h, shape_showParams]
    exact all l _ u (fun v hv => by rw [← Except.ok.inj hv, h₁]) hu
  · simp at h

theorem shape_of_acceptBody {s t : State} {img : List Byte} (h : s.acceptBody img = .ok t) : t.shape = s.shape := by
  unfold State.acceptBody at h
  split at h
  · simp at h
  · split at h
    · simp at h
    · dsimp only at h
      split at h
      · simp at h
      · split at h
        · simp at h
        · next u hu =>
          rw [← Except.ok.inj h]
          exact (rfl : _ = u.shape).trans (shape_of_applySections hu)

theorem shape_of_acceptImage {s t : State} {img : List Byte} (h : s.acceptImage img = .ok t) : t.shape = s.shape := by
  unfold State.acceptImage at h
  split at h
  · simp at h
  · exact shape_of_acceptBody h

@[simp] theorem shape_bootFail (step result : Nat) : (s.bootFail step result).shape = s.shape := by simp [State.bootFail]

@[simp] theorem shape_bootDone (src slot : Nat) (active : List Byte) : (s.bootDone src slot active).shape = s.shape := by
  unfold State.bootDone
  dsimp only
  split <;> simp

@[simp] theorem shape_checkFallback (img0 img1 : List Byte) : (s.checkFallback img0 img1).shape = s.shape := by
  simp [State.checkFallback]

@[simp] theorem shape_bootNor (src : Nat) (img0 img1 : List Byte) : (s.bootNor src img0 img1).shape = s.shape := by
  unfold State.bootNor
  extract_lets ok0 ok1 s₁ pref img
  have h₁ : s₁.shape = s.shape := by simp [s₁]
  clear_value s₁
  split
  · next h => simp [shape_of_acceptImage h, h₁]
  · generalize (if pref = 1 then ok0 else ok1) = ok
    split
    · simp [h₁]
    · split
      · next h => simp [shape_of_acceptImage h, h₁]
      · simp [h₁]

@[simp] theorem shape_bootSnap (p : Snap) (img0 img1 : List Byte) : (s.bootSnap p img0 img1).shape = s.shape := by
  simp [State.bootSnap]

theorem shape_of_snapState {s t : State} {img0 img1 : List Byte} {p : Snap} (h : s.snapState img0 img1 = some (p, t)) :
    t.shape = s.shape := by
  unfold State.snapState at h
  split at h
  · simp at h
  · split at h
    · next hu =>
      obtain ⟨rfl, rfl⟩ := Prod.mk.inj (Option.some.inj h)
      exact shape_of_applySections hu
    · simp at h

@[simp] theorem shape_doImageAccept (img0 img1 : List Byte) : (doImageAccept img0 img1 s).shape = s.shape := by
  unfold doImageAccept
  split
  · rfl
  · split
    · rfl
    · split
      · next h => simp [shape_of_snapState h]
      · split
        · split
          · rfl
          · dsimp only
            split
            · next h => simp [shape_of_acceptImage h]
            · simp
        · split
          · split <;> simp
          · split
            · split
              · next h => simp [shape_of_acceptImage h]
              · simp
            · rfl

@[simp] theorem shape_doImageBlockTimeout : (doImageBlockTimeout s).shape = s.shape := by simp [doImageBlockTimeout]

@[simp] theorem shape_doHostLoadGo : (doHostLoadGo s).shape = s.shape := by simp [doHostLoadGo]

@[simp] theorem shape_doNeighbourBootRequest :
    (doNeighbourBootRequest s).shape = s.shape := by simp [doNeighbourBootRequest]

@[simp] theorem shape_gpioInit : (s.gpioInit).shape = s.shape := by simp [State.gpioInit]

@[simp] theorem shape_startRods : s.startRods.shape = s.shape := by
  unfold State.startRods
  refine shape_forN _ _ _ fun n t => ?_
  split
  · exact shape_rodStart_getD ..
  · rfl

@[simp] theorem shape_doServiceEntry : (doServiceEntry s).shape = s.shape := by simp [doServiceEntry]

@[simp] theorem shape_doFwdGo : (doFwdGo s).shape = s.shape := by simp [doFwdGo]

@[simp] theorem shape_doImageConfirmed : (doImageConfirmed s).shape = s.shape := by
  unfold doImageConfirmed
  dsimp only
  (repeat' split) <;> simp

@[simp] theorem shape_doSnapshotWritten : (doSnapshotWritten s).shape = s.shape := by simp [doSnapshotWritten]

end
end Sys2Proof.Machine
end

section
/-! SUPPORT. The shape through the ring, the update engine, the power modes and the bus. -/

namespace Sys2Proof.Machine

section
variable (s : State)

/-! ### The ring -/

@[simp] theorem shape_eplenIn (frame : List Byte) (msg : Nat) (act : EplenHdr → List Byte → State → State)
    (hact : ∀ h b u, (act h b u).shape = u.shape) :
    (s.eplenIn frame msg act).shape = s.shape := by
  unfold State.eplenIn
  (repeat' split) <;> simp [hact]

@[simp] theorem shape_relay (d : Nat) (h : EplenHdr) (body : List Byte) : (s.relay d h body).shape = s.shape := by
  simp [State.relay]

@[simp] theorem shape_answer (d : Nat) (h : EplenHdr) (msg : Nat) (body : List Byte) :
    (s.answer d h msg body).shape = s.shape := by simp [State.answer]

@[simp] theorem shape_doEplenRelay (d : Nat) (frame : List Byte) : (doEplenRelay d frame s).shape = s.shape := by
  unfold doEplenRelay
  (repeat' split) <;> simp

@[simp] theorem shape_doHelloTimer : (doHelloTimer s).shape = s.shape := by simp [doHelloTimer]

@[simp] theorem shape_doHello (d : Nat) (frame : List Byte) : (doHello d frame s).shape = s.shape := by simp [doHello]

@[simp] theorem shape_doNeighbourLost (d : Nat) : (doNeighbourLost d s).shape = s.shape := by simp [doNeighbourLost]

@[simp] theorem shape_doProbe : (doProbe s).shape = s.shape := by simp [doProbe]

@[simp] theorem shape_doProbeReceived (d : Nat) (frame : List Byte) : (doProbeReceived d frame s).shape = s.shape := by
  simp [doProbeReceived]

@[simp] theorem shape_doProbeAns (d : Nat) (frame : List Byte) : (doProbeAns d frame s).shape = s.shape := by
  simp [doProbeAns]

@[simp] theorem shape_doProbeWindowEnd : (doProbeWindowEnd s).shape = s.shape := by
  unfold doProbeWindowEnd
  dsimp only
  (repeat' split) <;> simp

@[simp] theorem shape_setWin (h : Nat) (w : Win) : (s.setWin h w).shape = s.shape := (rfl)

@[simp] theorem shape_relRecord (r : RelRec) : (s.relRecord r).shape = s.shape := by simp [State.relRecord]

@[simp] theorem shape_relAck (n : Nat) : (s.relAck n).shape = s.shape := by simp [State.relAck]

@[simp] theorem shape_doRngRelAck (n : Nat) : (doRngRelAck n s).shape = s.shape := by simp [doRngRelAck]

@[simp] theorem shape_reportAcc (h : Nat) (a : Acc) (st : Nat) (far : Bool) :
    (s.reportAcc h a st far).shape = s.shape := by
  simp [State.reportAcc]

@[simp] theorem shape_sendReq (h : Nat) (a : Acc) : (s.sendReq h a).shape = s.shape := by simp [State.sendReq]

@[simp] theorem shape_issueAll (h : Nat) (l : List Acc) : (s.issueAll h l).2.shape = s.shape := by
  induction l generalizing s with
  | nil => rfl
  | cons a l ih =>
    unfold State.issueAll
    extract_lets s₁
    have h₁ : s₁.shape = s.shape := by unfold s₁; split <;> simp
    split
    · exact h₁
    · simp [ih, h₁]

@[simp] theorem shape_issue (h : Nat) : (s.issue h).shape = s.shape := by simp [State.issue]

@[simp] theorem shape_ansReq (d : Nat) (hdr : EplenHdr) (rseq st : Nat) (data : List Nat) :
    (s.ansReq d hdr rseq st data).shape = s.shape := by simp [State.ansReq]

@[simp] theorem shape_fenceDone (h : Nat) (a : Acc) (late : Bool) : (s.fenceDone h a late).shape = s.shape := by
  unfold State.fenceDone
  split <;> simp

@[simp] theorem shape_accEnd (h : Nat) (a : Acc) (st v : Nat) (far : Bool) : (s.accEnd h a st v far).shape = s.shape := by
  unfold State.accEnd
  dsimp only
  split <;> simp

@[simp] theorem shape_access (h kind atomic off count : Nat) (data : List Nat) (rep : Option Reply) (wide : Bool) :
    (s.access h kind atomic off count data rep wide).shape = s.shape := by simp [State.access]

@[simp] theorem shape_writeTlp (off : Nat) (dwords : List (Nat × Bool)) (act : Nat → List Nat → State → State)
    (hact : ∀ o l u, (act o l u).shape = u.shape) : (s.writeTlp off dwords act).shape = s.shape := by
  unfold State.writeTlp
  dsimp only
  split
  · simp
  · rw [shape_foldl]
    · split <;> simp
    · exact fun t r => hact r.1 r.2 t

@[simp] theorem shape_remoteWrite (h x kind : Nat) (dwords : List (Nat × Bool)) :
    (s.remoteWrite h x kind dwords).shape = s.shape := by
  unfold State.remoteWrite
  refine shape_writeTlp _ _ _ _ fun o l u => ?_
  split <;> simp

@[simp] theorem shape_hold (w : HeldWrite) : (s.hold w).shape = s.shape := (rfl)

@[simp] theorem shape_posted (w : HeldWrite) (take_ : State → State) (htake_ : ∀ u, (take_ u).shape = u.shape) :
    (s.posted w take_).shape = s.shape := by simp [State.posted, htake_]

@[simp] theorem shape_doRemotePostedWrite (h x : Nat) (dwords : List (Nat × Bool)) :
    (doRemotePostedWrite h x dwords s).shape = s.shape := by simp [doRemotePostedWrite]

@[simp] theorem shape_doRemoteAckWrite (h x : Nat) (dwords : List (Nat × Bool)) :
    (doRemoteAckWrite h x dwords s).shape = s.shape := by simp [doRemoteAckWrite]

@[simp] theorem shape_doRemoteRead (h x count : Nat) :
    (doRemoteRead h x count s).shape = s.shape := by simp [doRemoteRead]

@[simp] theorem shape_doRemoteAtomic (h x op size a b : Nat) : (doRemoteAtomic h x op size a b s).shape = s.shape := by
  simp [doRemoteAtomic]

@[simp] theorem shape_fence (h : Nat) (rep : Option Reply) (wide : Bool) : (s.fence h rep wide).shape = s.shape := by
  simp [State.fence]

@[simp] theorem shape_doRngWinFence (h : Nat) : (doRngWinFence h s).shape = s.shape := by simp [doRngWinFence]

@[simp] theorem shape_settleAcc (h : Nat) (a : Acc) (rest : List Acc) (st v : Nat) (far : Bool) :
    (s.settleAcc h a rest st v far).shape = s.shape := by simp [State.settleAcc]

@[simp] theorem shape_ansIn (d : Nat) (frame : List Byte) : (s.ansIn d frame).shape = s.shape := by
  unfold State.ansIn
  refine shape_eplenIn _ _ _ _ fun h b u => ?_
  split
  · simp
  · dsimp only
    split
    · rfl
    · split <;> simp

@[simp] theorem shape_tmoIn (h : Nat) : (State.tmoIn h s).shape = s.shape := by
  unfold State.tmoIn
  dsimp only
  split <;> simp

@[simp] theorem shape_doErr (d : Nat) (frame : List Byte) : (doErr d frame s).shape = s.shape := by simp [doErr]

@[simp] theorem shape_doRemoteContextIdle : (doRemoteContextIdle s).shape = s.shape := (rfl)

@[simp] theorem shape_doSubscribeRefresh : (doSubscribeRefresh s).shape = s.shape := by simp [doSubscribeRefresh]

@[simp] theorem shape_doEvent (d : Nat) (frame : List Byte) : (doEvent d frame s).shape = s.shape := by simp [doEvent]

/-! ### The update engine -/

@[simp] theorem shape_beginSession (session len hash : Nat) (here : Bool) (rx : Option Nat) :
    (s.beginSession session len hash here rx).shape = s.shape := by
  unfold State.beginSession
  dsimp only
  split <;> simp

@[simp] theorem shape_dropSession : (s.dropSession).shape = s.shape := (rfl)

@[simp] theorem shape_failUpd (st : Nat) : (s.failUpd st).shape = s.shape := by simp [State.failUpd]

@[simp] theorem shape_setFlow (d : Nat) (f : Flow) : (s.setFlow d f).shape = s.shape := (rfl)

@[simp] theorem shape_sendHop (d msg : Nat) (body : List Byte) : (s.sendHop d msg body).shape = s.shape := by
  simp [State.sendHop]

@[simp] theorem shape_sendBlock (d : Nat) (f : Flow) (k : Nat) (data : List Byte) :
    (s.sendBlock d f k data).shape = s.shape := by simp [State.sendBlock]

@[simp] theorem shape_pumpFlow (d : Nat) : (s.pumpFlow d).shape = s.shape := by
  unfold State.pumpFlow
  extract_lets f n s₁ f'
  have h₁ : s₁.shape = s.shape := shape_forN _ _ _ fun k t => by
    dsimp only
    split
    · rfl
    · split <;> simp
  split
  · rfl
  · split <;> simp [h₁]

@[simp] theorem shape_offer (d session len hash : Nat) (serve : Bool) :
    (s.offer d session len hash serve).shape = s.shape :=
  by simp [State.offer]

@[simp] theorem shape_offerOn (d : Nat) : (s.offerOn d).shape = s.shape := by simp [State.offerOn]

@[simp] theorem shape_flowFails (d st : Nat) : (s.flowFails d st).shape = s.shape := by simp [State.flowFails]

@[simp] theorem shape_updCmd (op : Nat) (run : State → Nat × State) (hrun : ∀ u, (run u).2.shape = u.shape) :
    (s.updCmd op run).shape = s.shape := by simp [State.updCmd, hrun]

@[simp] theorem shape_doUpdNop : (doUpdNop s).shape = s.shape := by simp [doUpdNop]

@[simp] theorem shape_updRelay : (s.updRelay).2.shape = s.shape := by simp [State.updRelay]

@[simp] theorem shape_doRelay : (doRelay s).shape = s.shape := by simp [doRelay]

@[simp] theorem shape_toRing (msg : Nat) (body : List Byte) :
    (s.toRing msg body).shape = s.shape := by simp [State.toRing]

@[simp] theorem shape_abortRing : (s.abortRing).shape = s.shape := by simp [State.abortRing]

@[simp] theorem shape_arm (sec ns : Nat) : (s.arm sec ns).shape = s.shape := by simp [State.arm]

@[simp] theorem shape_tryCommit : (s.tryCommit).shape = s.shape := by simp [State.tryCommit]

@[simp] theorem shape_startArm : (s.startArm).shape = s.shape := by simp [State.startArm]

@[simp] theorem shape_takeVote (tag dir hop st status : Nat) : (s.takeVote tag dir hop st status).shape = s.shape := by
  simp [State.takeVote]

@[simp] theorem shape_updActivate : (s.updActivate).2.shape = s.shape := by simp [State.updActivate]

@[simp] theorem shape_doActivate : (doActivate s).shape = s.shape := by simp [doActivate]

@[simp] theorem shape_updAbort : (s.updAbort).2.shape = s.shape := by simp [State.updAbort]

@[simp] theorem shape_doUpdAbort : (doUpdAbort s).shape = s.shape := by simp [doUpdAbort]

@[simp] theorem shape_updClear : (s.updClear).2.shape = s.shape := by simp [State.updClear]

@[simp] theorem shape_doClear : (doClear s).shape = s.shape := by simp [doClear]

@[simp] theorem shape_updIn (frame : List Byte) (msg : Nat) (act : EplenHdr → List Byte → State → State)
    (hact : ∀ h b u, (act h b u).shape = u.shape) :
    (s.updIn frame msg act).shape = s.shape := by simp [State.updIn, hact]

@[simp] theorem shape_doOffer (d : Nat) (frame : List Byte) : (doOffer d frame s).shape = s.shape := by simp [doOffer]

@[simp] theorem shape_doOfferAns (d : Nat) (frame : List Byte) : (doOfferAns d frame s).shape = s.shape := by
  simp [doOfferAns]

@[simp] theorem shape_doOfferTimeout (d : Nat) : (doOfferTimeout d s).shape = s.shape := by simp [doOfferTimeout]

@[simp] theorem shape_doBlockAck (d : Nat) (frame : List Byte) : (doBlockAck d frame s).shape = s.shape := by
  simp [doBlockAck]

@[simp] theorem shape_doBlockResend (d k : Nat) : (doBlockResend d k s).shape = s.shape := by
  unfold doBlockResend
  dsimp only
  (repeat' split) <;> simp

@[simp] theorem shape_doBlockReceiveTimeout : (doBlockReceiveTimeout s).shape = s.shape := by simp [doBlockReceiveTimeout]

@[simp] theorem shape_doUpdStaged (readOk : Bool) : (doUpdStaged readOk s).shape = s.shape := by
  unfold doUpdStaged
  dsimp only
  (repeat' split) <;> simp

@[simp] theorem shape_doPoll (rx : Option (Nat × List Byte)) : (doPoll rx s).shape = s.shape := by
  unfold doPoll
  split <;> simp

@[simp] theorem shape_doVote (d : Nat) (frame : List Byte) : (doVote d frame s).shape = s.shape := by simp [doVote]

@[simp] theorem shape_doUpdRingTimeout : (doUpdRingTimeout s).shape = s.shape := by simp [doUpdRingTimeout]

@[simp] theorem shape_doArm (d : Nat) (frame : List Byte) : (doArm d frame s).shape = s.shape := by simp [doArm]

@[simp] theorem shape_doArmed (d : Nat) (frame : List Byte) : (doArmed d frame s).shape = s.shape := by simp [doArmed]

@[simp] theorem shape_doArmGuardDeadline : (doArmGuardDeadline s).shape = s.shape := by simp [doArmGuardDeadline]

@[simp] theorem shape_doCommitResend : (doCommitResend s).shape = s.shape := by simp [doCommitResend]

@[simp] theorem shape_doCommit (d : Nat) (frame : List Byte) : (doCommit d frame s).shape = s.shape := by simp [doCommit]

@[simp] theorem shape_doAbort (d : Nat) (frame : List Byte) : (doAbort d frame s).shape = s.shape := by simp [doAbort]

@[simp] theorem shape_doImgReq (d : Nat) (frame : List Byte) : (doImgReq d frame s).shape = s.shape := by simp [doImgReq]

/-! ### Power modes -/

@[simp] theorem shape_pwrCmd (r op : Nat) (run : State → Nat × State) (hrun : ∀ u, (run u).2.shape = u.shape) :
    (s.pwrCmd r op run).shape = s.shape := by simp [State.pwrCmd, hrun]

@[simp] theorem shape_doPwrNop (r : Nat) : (doPwrNop r s).shape = s.shape := by simp [doPwrNop]

@[simp] theorem shape_keepFields (o : State) (l : List Fld) : (s.keepFields o l).shape = s.shape := by
  simp [State.keepFields]

@[simp] theorem shape_keepRetired (o : State) : (s.keepRetired o).shape = s.shape := by simp [State.keepRetired]

@[simp] theorem shape_stopClocks : (s.stopClocks).shape = s.shape := by simp [State.stopClocks]

@[simp] theorem shape_pwrSleep (key : Nat) : (s.pwrSleep key).2.shape = s.shape := by simp [State.pwrSleep]

@[simp] theorem shape_doPwrSleep (r key : Nat) : (doPwrSleep r key s).shape = s.shape := by simp [doPwrSleep]

@[simp] theorem shape_leaveMode (woken : Nat) : (s.leaveMode woken).shape = s.shape := by simp [State.leaveMode]

@[simp] theorem shape_wake (aon woken : Nat) (rec : State → State) (hrec : ∀ u, (rec u).shape = u.shape) :
    (s.wake aon woken rec).shape = s.shape := by simp [State.wake, hrec]

@[simp] theorem shape_orBits (f : Fld) (v : Nat) : (s.orBits f v).shape = s.shape := by simp [State.orBits]

@[simp] theorem shape_doWakePin (levels held aon : Nat) : (doWakePin levels held aon s).shape = s.shape := by
  simp [doWakePin]

@[simp] theorem shape_doPhyWake (ports aon : Nat) : (doPhyWake ports aon s).shape = s.shape := by simp [doPhyWake]

@[simp] theorem shape_doT1sActivityWake (ports us aon : Nat) : (doT1sActivityWake ports us aon s).shape = s.shape := by
  simp [doT1sActivityWake]

@[simp] theorem shape_doWakeTimer (aon : Nat) : (doWakeTimer aon s).shape = s.shape := by simp [doWakeTimer]

@[simp] theorem shape_doTamperDetection (src aon : Nat) : (doTamperDetection src aon s).shape = s.shape := by
  simp [doTamperDetection]

@[simp] theorem shape_doPhywkRise (ports : Nat) : (doPhywkRise ports s).shape = s.shape := (rfl)

@[simp] theorem shape_doPhySleepNoack (p : Nat) : (doPhySleepNoack p s).shape = s.shape := by simp [doPhySleepNoack]

@[simp] theorem shape_leanRod (n : Nat) : (s.leanRod n).shape = s.shape := by simp [State.leanRod]

@[simp] theorem shape_pwrLean : (s.pwrLean).2.shape = s.shape := by simp [State.pwrLean]

@[simp] theorem shape_doPwrLean (r : Nat) : (doPwrLean r s).shape = s.shape := by simp [doPwrLean]

@[simp] theorem shape_unleanRod (n : Nat) : (s.unleanRod n).shape = s.shape := by simp [State.unleanRod]

@[simp] theorem shape_pwrRun : (s.pwrRun).2.shape = s.shape := by simp [State.pwrRun]

@[simp] theorem shape_doPwrRun (r : Nat) : (doPwrRun r s).shape = s.shape := by simp [doPwrRun]

@[simp] theorem shape_setLevel (l : Nat) : (s.setLevel l).shape = s.shape := by simp [State.setLevel]

@[simp] theorem shape_raiseLevel (fuel : Nat) : (State.raiseLevel fuel s).shape = s.shape := by
  induction fuel generalizing s with
  | zero => rfl
  | succ fuel ih =>
    unfold State.raiseLevel
    extract_lets l s₁
    split
    · rfl
    · split <;> simp [ih, s₁]

@[simp] theorem shape_bucketMs (p : Nat) : (s.bucketMs p).shape = s.shape := by simp [State.bucketMs]

@[simp] theorem shape_doGovernorTick (ts : List Nat) (p : Nat) : (doGovernorTick ts p s).shape = s.shape := by
  unfold doGovernorTick
  split
  · rfl
  · extract_lets ts tmax s₁ s₂ s₃ since raised _ s₄ l tj past mark markUp up down
    have h₃ : s₃.shape = s.shape := by simp [s₃, s₂, s₁]
    have h₄ : s₄.shape = s.shape := h₃
    have hmark : ∀ t, (mark t).shape = t.shape := fun _ => rfl
    have hmarkUp : ∀ t, (markUp t).shape = t.shape := fun _ => rfl
    clear_value mark markUp s₄
    (repeat' split) <;> simp [h₄, hmark, hmarkUp]

/-! ### Host DMA -/

@[simp] theorem shape_msixEmit (v : Nat) : (s.msixEmit v).shape = s.shape := by simp [State.msixEmit]

@[simp] theorem shape_msixSend (v : Nat) : (s.msixSend v).shape = s.shape := by simp [State.msixSend]

@[simp] theorem shape_msixFlush : (s.msixFlush).shape = s.shape := by simp [State.msixFlush]

@[simp] theorem shape_doMsixMessage (src : Nat) : (doMsixMessage src s).shape = s.shape := by simp [doMsixMessage]

@[simp] theorem shape_configWrite (off v : Nat) : (s.configWrite off v).shape = s.shape := by simp [State.configWrite]

@[simp] theorem shape_doMsixUnmask (v : Nat) : (doMsixUnmask v s).shape = s.shape := by simp [doMsixUnmask]

@[simp] theorem shape_doPciePerst : (doPciePerst s).shape = s.shape := by simp [doPciePerst]

@[simp] theorem shape_b2Read (x n : Nat) : (s.b2Read x n).shape = s.shape := by simp [State.b2Read]

@[simp] theorem shape_doorbell (q t : Nat) : (s.doorbell q t).shape = s.shape := by simp [State.doorbell]

@[simp] theorem shape_doDoorbell (q t : Nat) : (doDoorbell q t s).shape = s.shape := by simp [doDoorbell]

@[simp] theorem shape_queueCfg (q v : Nat) : (s.queueCfg q v).shape = s.shape := by simp [State.queueCfg]

@[simp] theorem shape_doQueueEnable (q v : Nat) : (doQueueEnable q v s).shape = s.shape := by simp [doQueueEnable]

@[simp] theorem shape_queueAddr (q off v : Nat) : (s.queueAddr q off v).shape = s.shape := by simp [State.queueAddr]

@[simp] theorem shape_descDone (q w : Nat) (words : List Nat) : (s.descDone q w words).shape = s.shape := by
  simp [State.descDone]

@[simp] theorem shape_doQueueStop (q cause : Nat) : (doQueueStop q cause s).shape = s.shape := by simp [doQueueStop]

@[simp] theorem shape_doTxDescriptorServe (desc buf : List Byte) : (doTxDescriptorServe desc buf s).shape = s.shape := by
  unfold doTxDescriptorServe
  split
  · rfl
  · split
    · rfl
    · extract_lets _ s₁ w len l rod clamped s₂ n s₃ s₄
      have h₁ : s₁.shape = s.shape := rfl
      have h₂ : s₂.shape = s.shape := by unfold s₂; split <;> simp [h₁]
      have h₄ : s₄.shape = s.shape := by unfold s₄; split <;> simp [s₃, h₂]
      (repeat' split) <;> simp [h₂, h₄]

@[simp] theorem shape_rxDesc (q : Nat) (l : List (Nat × Nat)) : (s.rxDesc q l).2.shape = s.shape := by
  induction l generalizing s with
  | nil => rfl
  | cons e l ih =>
    unfold State.rxDesc
    split
    · rfl
    · split
      · rw [ih]; simp
      · rfl

@[simp] theorem shape_doRxDelivery (descs : List (Nat × Nat)) : (doRxDelivery descs s).shape = s.shape := by
  unfold doRxDelivery
  split
  · rfl
  · split
    · rfl
    · split
      · rfl
      · dsimp only
        split
        · next h => split <;> simp [shape_of_snd s h]
        · next h => split <;> simp [shape_of_snd s h]

/-! ### The register bus -/

@[simp] theorem shape_writeTblCmd (r v : Nat) (env : BusEnv) : (s.writeTblCmd r v env).shape = s.shape := by
  unfold State.writeTblCmd
  split <;> simp

@[simp] theorem shape_writeKeyCmd (r v : Nat) : (s.writeKeyCmd r v).shape = s.shape := by
  unfold State.writeKeyCmd
  split <;> simp

@[simp] theorem shape_writeRodCmd (n v : Nat) (env : BusEnv) : (s.writeRodCmd n v env).shape = s.shape := by
  unfold State.writeRodCmd
  split <;> simp

@[simp] theorem shape_writeSafCmd (v : Nat) : (s.writeSafCmd v).shape = s.shape := by
  unfold State.writeSafCmd
  split <;> simp

@[simp] theorem shape_writeDma (base i off v : Nat) : (s.writeDma base i off v).shape = s.shape := by
  unfold State.writeDma
  split <;> simp

@[simp] theorem shape_gpioIn (k : Nat) : (s.gpioIn k).2.shape = s.shape := by simp [State.gpioIn]

/-! ### The far side -/

@[simp] theorem shape_sendErr (d : Nat) (h : EplenHdr) (rseq win cause kind off data : Nat) :
    (s.sendErr d h rseq win cause kind off data).shape = s.shape := by simp [State.sendErr]

/-- The contexts of the far side are no part of the shape. -/
theorem shape_ctxs (l : List Ctx) : ({ s with ring := { s.ring with ctxs := l } } : State).shape = s.shape := rfl

theorem shape_of_takeRseq {d : Nat} {h : EplenHdr} {q : Req} {t : State} (e : s.takeRseq d h q = some t) :
    t.shape = s.shape := by
  unfold State.takeRseq at e
  dsimp only at e
  split at e
  · rw [← Option.some.inj e, shape_ctxs]
  · split at e
    · simp at e
    · rw [← Option.some.inj e, shape_ctxs]
      simp

@[simp] theorem shape_refuseReq (d : Nat) (h : EplenHdr) (q : Req) (st : Nat) :
    (s.refuseReq d h q st).shape = s.shape := by
  simp [State.refuseReq]

end
end Sys2Proof.Machine
end

section
/-! SUPPORT. What every step keeps: `Keeps`, and the commands that change the shape themselves, first those that queue
timestamps and write memory. -/

namespace Sys2Proof.Machine

theorem ringExcess_eq_zero {ctl svc : List Event} :
    ringExcess ctl svc = 0 ↔ ctl.length ≤ 1024 ∧ svc.length ≤ 1024 := by
  unfold ringExcess; omega

/-- What a command's meaning keeps from `s` to `t`: the queue of waiting commands, the bounds of the event rings and of
the
bounded queues, and the canonical form of LPDDR5 memory. -/
structure Keeps (s t : State) : Prop where
  pending : t.pending = s.pending
  rings : s.RingsFit → t.RingsFit
  queues : s.QueuesFit → t.QueuesFit
  memory : s.MemoryFit → t.MemoryFit

section
variable {s t u : State}

theorem Keeps.of_shape (h : t.shape = s.shape) : Keeps s t := by
  simp only [State.shape, Prod.mk.injEq] at h
  obtain ⟨hpending, hrings, hts2, htsIn, hsubs, hddr⟩ := h
  refine ⟨hpending, fun hs => ?_, fun hs => ?_, fun hs => ?_⟩
  · exact ringExcess_eq_zero.1 (hrings.trans (ringExcess_eq_zero.2 hs))
  · unfold State.QueuesFit; rw [hts2, htsIn, hsubs]; exact hs
  · unfold State.MemoryFit; rw [hddr]; exact hs

theorem Keeps.refl (s : State) : Keeps s s := .of_shape rfl

theorem Keeps.trans (h : Keeps s t) (h' : Keeps t u) : Keeps s u :=
  ⟨h'.pending.trans h.pending, h'.rings ∘ h.rings, h'.queues ∘ h.queues, h'.memory ∘ h.memory⟩

/-- Work that leaves the shape alone may come before. -/
theorem Keeps.after (h : t.shape = s.shape) (h' : Keeps t u) : Keeps s u := (Keeps.of_shape h).trans h'

/-- Work that leaves the shape alone may come behind. -/
theorem Keeps.then (h : Keeps s t) (h' : u.shape = t.shape) : Keeps s u := h.trans (.of_shape h')

theorem Keeps.ite {c : Prop} [Decidable c] (ht : c → Keeps s t) (hu : ¬ c → Keeps s u) :
    Keeps s (if c then t else u) := by
  split
  · next h => exact ht h
  · next h => exact hu h

theorem Keeps.foldl {α : Type} {g : State → α → State} (hg : ∀ t x, Keeps t (g t x)) (l : List α) (s : State) :
    Keeps s (l.foldl g s) := by
  induction l generalizing s with
  | nil => exact .refl s
  | cons x l ih => exact (hg s x).trans (ih _)

theorem Keeps.forN {f : Nat → State → State} (hf : ∀ i t, Keeps t (f i t)) (n : Nat) (s : State) :
    Keeps s (s.forN n f) :=
  .foldl (fun t i => hf i t) _ s

/-- The queues may lose entries. -/
theorem Keeps.of_queues (hpending : t.pending = s.pending)
    (hrings : ringExcess t.evCtl t.evSvc = ringExcess s.evCtl s.evSvc)
    (hts2 : t.tb.ts2.length ≤ max 64 s.tb.ts2.length) (htsIn : t.tb.tsIn.length ≤ max 4 s.tb.tsIn.length)
    (hsubs : t.ring.subs.length ≤ max 4 s.ring.subs.length) (hddr : t.ddr = s.ddr) : Keeps s t := by
  refine ⟨hpending, fun hs => ?_, fun hs => ?_, fun hs => ?_⟩
  · exact ringExcess_eq_zero.1 (hrings.trans (ringExcess_eq_zero.2 hs))
  · obtain ⟨h₁, h₂, h₃⟩ := hs
    exact ⟨by omega, by omega, by omega⟩
  · unfold State.MemoryFit; rw [hddr]; exact hs

/-- A reset empties the rings and the queues and may empty memory. -/
theorem Keeps.of_cleared (hpending : t.pending = s.pending) (hctl : t.evCtl = []) (hsvc : t.evSvc = [])
    (hts2 : t.tb.ts2 = [])
    (htsIn : t.tb.tsIn = []) (hsubs : t.ring.subs = []) (hddr : t.ddr = s.ddr ∨ t.ddr = []) : Keeps s t := by
  refine ⟨hpending, fun _ => ?_, fun _ => ?_, fun hs => ?_⟩
  · unfold State.RingsFit; rw [hctl, hsvc]; simp
  · unfold State.QueuesFit; rw [hts2, htsIn, hsubs]; simp
  · obtain h | h := hddr
    · unfold State.MemoryFit; rw [h]; exact hs
    · unfold State.MemoryFit; rw [h]; rfl

end

section
variable (s : State)

/-! ### Sending and timestamps -/

theorem keeps_twoStep (it : Item) (p t : Nat) : Keeps s (s.twoStep it p t) := by
  unfold State.twoStep
  refine .ite (fun _ => .refl s) fun _ => .ite (fun _ => .of_shape (by simp)) fun _ => ?_
  refine .ite (fun h => .after (t := s.incF F.TIM_TS2_STAT_NEXT_QSEQ) (by simp) ?_) fun _ => .of_shape (by simp)
  exact .of_queues rfl rfl (by rw [List.length_append, List.length_singleton]; omega) (le_max_right _ _)
    (le_max_right _ _) rfl

theorem keeps_startFrame (p c sfd : Nat) : Keeps s (s.startFrame p c sfd) := by
  unfold State.startFrame
  split
  · exact .refl s
  next r rs _ =>
    split
    · exact .refl s
    next it _ =>
      extract_lets lenC pre s₁ t
      have h₁ : s₁.shape = s.shape := by simp [s₁]
      split
      next body found _ =>
      split
      next u e => exact .of_shape (by rw [shape_release, shape_of_snd _ e (shape_msecSend _ _ _), h₁])
      next body' u e =>
        have hu : u.shape = s.shape := (shape_of_snd _ e (shape_msecSend _ _ _)).trans h₁
        extract_lets s₂ bs s₃
        have h₂ : s₂.shape = s.shape := by rw [← hu]; unfold s₂; split <;> simp
        exact ((keeps_twoStep s₂ it p t).after h₂).then (by simp [s₃])

theorem keeps_selectPreempt (p sfd n : Nat) (t : EthTx) : Keeps s (s.selectPreempt p sfd n t) := by
  unfold State.selectPreempt
  split
  · exact .refl s
  · split
    · exact (keeps_startFrame _ _ _ _).after (by simp)
    · exact .of_shape (by simp)

theorem keeps_selectNext (p sfd : Nat) (t : EthTx) : Keeps s (s.selectNext p sfd t) := by
  unfold State.selectNext
  split
  · exact .refl s
  · dsimp only
    split
    · exact .of_shape (by simp)
    · exact (keeps_startFrame _ _ _ _).after (by simp)

theorem keeps_selectEth (p sfd : Nat) (sent : Option Nat) : Keeps s (s.selectEth p sfd sent) := by
  have h₀ : (s.dropAllLong p).shape = s.shape := by simp
  unfold State.selectEth
  dsimp only
  split
  · exact (keeps_selectPreempt _ _ _ _ _).after h₀
  · exact (keeps_selectNext _ _ _ _).after h₀
  · split
    · split
      · exact (keeps_startFrame _ _ _ _).after h₀
      · exact .of_shape (by simp)
    · split
      · exact (keeps_startFrame _ _ _ _).after h₀
      · exact .of_shape h₀

theorem keeps_doTxOpportunity (p sfd : Nat) (sent : Option Nat) : Keeps s (doTxOpportunity p sfd sent s) := by
  unfold doTxOpportunity
  refine .ite (fun _ => ?_) fun _ => .of_shape (by simp)
  exact .ite (fun _ => keeps_selectEth s p sfd sent) fun _ => .refl s

theorem keeps_busGate {f : State → State} (hf : ∀ u, Keeps u (f u)) : Keeps s (s.busGate f) :=
  .ite (fun _ => hf s) fun _ => .of_shape (by simp)

theorem keeps_onRead {f : State → State} (hf : ∀ u, Keeps u (f u)) : Keeps s (s.onRead f) :=
  .ite (fun _ => hf s) fun _ => .of_shape (by simp)

theorem keeps_ts2Pop : Keeps s s.ts2Pop :=
  .of_queues rfl rfl (by rw [State.ts2Pop, List.length_tail]; omega) (le_max_right _ _) (le_max_right _ _) rfl

theorem keeps_doTimTs2Ack (q : Nat) : Keeps s (doTimTs2Ack q s) := by
  unfold doTimTs2Ack
  refine keeps_busGate _ fun u => .ite (fun _ => .refl u) fun _ => ?_
  split
  · exact .of_shape (by simp)
  · exact .ite (fun _ => keeps_ts2Pop u) fun _ => .of_shape (by simp)

theorem keeps_ts2Read : Keeps s s.ts2Read.2 := by
  unfold State.ts2Read
  split
  · exact .refl s
  · split
    · exact .refl s
    · extract_lets w s₁
      exact ((keeps_ts2Pop s₁).after (by simp [s₁])).then (by simp)

theorem keeps_hostReads {f : State → Nat × State} (hf : ∀ u, Keeps u (f u).2) : Keeps s (s.hostReads f) :=
  keeps_onRead _ fun u => .ite (fun _ => (hf u).then (by simp)) fun _ => .of_shape (by simp)

theorem keeps_doTimTs2Pop : Keeps s (doTimTs2Pop s) := keeps_hostReads s keeps_ts2Read

theorem keeps_doTimInCapture (rising : Bool) (ago : Nat) : Keeps s (doTimInCapture rising ago s) := by
  unfold doTimInCapture
  refine .ite (fun _ => .refl s) fun _ => ?_
  extract_lets q tb s₁ e
  have h₁ : s₁.shape = s.shape := (rfl)
  refine .ite (fun h => .after h₁ (.then (t := { s₁ with tb := { s₁.tb with tsIn := s₁.tb.tsIn ++ [e] } }) ?_
    (shape_postFree _ _ _)))
    fun _ => .of_shape (by simp [h₁])
  exact .of_queues rfl rfl (le_max_right _ _) (by rw [List.length_append, List.length_singleton]; omega)
    (le_max_right _ _) rfl

theorem keeps_doTimInAck (q : Nat) : Keeps s (doTimInAck q s) := by
  unfold doTimInAck
  refine keeps_busGate _ fun u => ?_
  split
  · exact .of_shape (by simp)
  next e es he =>
    refine .ite (fun _ => ?_) fun _ => .of_shape (by simp)
    have hes : es.length ≤ max 4 u.tb.tsIn.length := by rw [he, List.length_cons]; omega
    exact .of_queues rfl rfl (le_max_right _ _) hes (le_max_right _ _) rfl

/-! ### Memory -/

theorem keeps_setDdr (a v : Nat) : Keeps s (s.setDdr a v) := ⟨rfl, id, id, setDdr_wf s a v⟩

theorem keeps_writeDdr (bs : List Byte) : ∀ (s : State) (a : Nat), Keeps s (s.writeDdr a bs) := by
  induction bs with
  | nil => exact fun s a => .refl s
  | cons b bs ih => exact fun s a => (keeps_setDdr s a b.toNat).trans (ih _ _)

theorem shape_setTrcPost (n : Nat) : ({ s with trcPost := n } : State).shape = s.shape := (rfl)

theorem keeps_padTrace (size : Nat) : Keeps s (s.padTrace size) := by
  unfold State.padTrace
  split
  next n s₁ e₁ =>
  split
  next m s₂ e₂ =>
  have h₂ : s₂.shape = s.shape :=
    (shape_of_snd _ e₂ (shape_fresh s₁)).trans (shape_of_snd _ e₁ (shape_fresh s))
  extract_lets p head s₃
  have h₃ : Keeps s s₃ := (keeps_writeDdr head s₂ _).after h₂
  exact h₃.then (by rw [shape_setB, shape_setWrPtr, shape_setTrcPost])

theorem keeps_doTraceRecordWrite (full : Bool) : Keeps s (doTraceRecordWrite full s) := by
  unfold doTraceRecordWrite
  extract_lets st level size p
  split
  · exact .refl s
  split
  · exact .of_shape (by simp)
  split
  · exact .refl s
  next c r _ =>
  extract_lets rest
  split
  · exact .of_shape (by simp)
  next it _ =>
  extract_lets cap total wrap s₁ p₁ s₂ s₃ s₄ s₅ s₆ s₇
  refine .ite (fun _ => .refl s) fun _ => .ite (fun _ => .of_shape (by simp)) fun _ =>
    .ite (fun _ => .of_shape (by simp)) fun _ => .ite (fun _ => .of_shape (by simp)) fun _ => ?_
  have h₁ : Keeps s s₁ := .ite (fun _ => keeps_padTrace s size) fun _ => .refl s
  have h₂ : Keeps s s₂ := h₁.trans (keeps_writeDdr _ _ _)
  have h₃ : s₃.shape = s₂.shape := by simp [s₃]
  have h₄ : s₄.shape = s₃.shape := shape_setTrcPost s₃ _
  have h₅ : s₅.shape = s₄.shape := by simp [s₅]
  have h₆ : s₆.shape = s₅.shape := by simp [s₆]
  have h₇ : s₇.shape = s₆.shape := by simp [s₇]
  exact h₂.then (by simp [h₃, h₄, h₅, h₆, h₇])

theorem keeps_destroy (lo n : Nat) : Keeps s (s.destroy lo n) :=
  (Keeps.forN (fun _ t => keeps_setDdr t _ _) n s).then rfl

theorem keeps_memTestRun (alg : Nat) : Keeps s (s.memTestRun alg) := by
  unfold State.memTestRun
  extract_lets start len alg s₁ s₂
  refine .ite (fun _ => .refl s) fun _ => .ite (fun _ => .of_shape (by simp)) fun _ =>
    .ite (fun _ => .of_shape (by simp)) fun _ => ?_
  exact ((keeps_destroy s₂ (start * 65536) (len * 65536)).after (by simp [s₂, s₁])).then rfl

theorem keeps_doMemTestRun (alg : Nat) : Keeps s (doMemTestRun alg s) := keeps_busGate s fun u => keeps_memTestRun u alg

theorem keeps_doMemTestDone (fails : List Nat) : Keeps s (doMemTestDone fails s) := by
  unfold doMemTestDone
  split
  · exact .refl s
  next alg start len pat _ =>
  extract_lets s₁ s₂ s₃ s₄
  have h₁ : Keeps s s₁ := .forN (fun _ t => keeps_writeDdr _ t _) _ s
  have h₂ : Keeps s s₂ := h₁.trans (.foldl (fun t _ => keeps_destroy t _ _) _ _)
  have h₄ : s₄.shape = s₂.shape := by unfold s₄; split <;> simp [s₃]
  exact h₂.then (by rw [shape_postFree]; exact h₄)

end
end Sys2Proof.Machine
end

section
/-! SUPPORT. What resets, the update engine, the power modes and the bus keep. -/

namespace Sys2Proof.Machine

section
variable (s : State)

/-! ### Resets -/

theorem keeps_warmClear : Keeps s s.warmClear := by
  unfold State.warmClear
  extract_lets byp hold s₁ s₂
  have h₂ : s₂.shape = s.shape := by simp [s₂, s₁]
  exact .after h₂ (.of_cleared rfl rfl rfl rfl rfl rfl (.inl rfl))

theorem keeps_chipClear : Keeps s s.chipClear := by
  unfold State.chipClear
  extract_lets s₁
  have h₁ : Keeps s s₁ := (keeps_warmClear s).then (by simp [s₁])
  exact h₁.trans (.of_queues rfl rfl (Nat.zero_le _) (Nat.zero_le _) (le_max_right _ _) rfl)

/-- An emptied memory is canonical. -/
theorem keeps_clearDdr : Keeps s { s with ddr := [] } := ⟨rfl, id, id, fun _ => rfl⟩

theorem keeps_powerClear : Keeps s s.powerClear := by
  unfold State.powerClear
  extract_lets s₁
  have h₁ : Keeps s s₁ := (keeps_chipClear s).then (by simp [s₁])
  exact (h₁.trans (keeps_clearDdr s₁)).then (shape_tapReset _)

theorem keeps_doPowerOnReset : Keeps s (doPowerOnReset s) := by
  unfold doPowerOnReset
  exact (keeps_powerClear s).then (by simp)

theorem keeps_doPorstNAssert : Keeps s (doPorstNAssert s) := by
  unfold doPorstNAssert
  exact .ite (fun _ => .refl s) fun _ => (keeps_chipClear s).then (by simp)

theorem keeps_warmReset (c : Nat) : Keeps s (s.warmReset c) := by
  unfold State.warmReset
  extract_lets s₁ mode
  have h₁ : s₁.shape = s.shape := by simp [s₁]
  refine .ite (fun _ => ?_) fun _ => .ite (fun _ => ?_) fun _ => .ite (fun _ => ?_) fun _ => .of_shape h₁
  · exact ((keeps_chipClear s₁).after h₁).then (by simp)
  · exact ((keeps_warmClear s₁).after h₁).then (by simp)
  · exact (keeps_warmClear s₁).after h₁

theorem keeps_doWrstNAssert : Keeps s (doWrstNAssert s) := by
  unfold doWrstNAssert
  exact .ite (fun _ => .refl s) fun _ => (keeps_warmReset s 3).then (by simp)

theorem keeps_doClockMonitorFault (pll : Bool) : Keeps s (doClockMonitorFault pll s) := by
  unfold doClockMonitorFault
  extract_lets s₁
  exact ((keeps_chipClear s₁).after (by simp [s₁])).then (by simp)

theorem keeps_doSoftwareWarmReset (key : Nat) (go : Bool) : Keeps s (doSoftwareWarmReset key go s) :=
  .ite (fun _ => keeps_warmReset s 4) fun _ => .of_shape (by simp)

theorem keeps_doWatchdogExpiry (i : Nat) (halted : Bool) : Keeps s (doWatchdogExpiry i halted s) := by
  unfold doWatchdogExpiry
  extract_lets i old s₁ fell s₂
  refine .ite (fun _ => .refl s) fun _ => ?_
  have h₂ : Keeps s s₂ := (keeps_warmReset s₁ _).after (by simp [s₁])
  exact h₂.then (by simp)

/-! ### The ring and the update engine -/

theorem keeps_doSubscriberExpiry : Keeps s (doSubscriberExpiry s) :=
  .of_queues rfl rfl (le_max_right _ _) (le_max_right _ _) (le_max_of_le_right (List.length_filter_le _ _)) rfl

theorem keeps_holdBlock (k : Nat) (data : List Byte) : Keeps s (s.holdBlock k data) := by
  unfold State.holdBlock
  extract_lets upd₁ s₁ upd₂ s₂ s₃
  refine .ite (fun _ => .refl s) fun _ => ?_
  have h₁ : s₁.shape = s.shape := (rfl)
  have h₂ : s₂.shape = s₁.shape := (rfl)
  have h₃ : Keeps s s₃ := by
    refine .ite (fun _ => .of_shape ?_) fun _ => (keeps_writeDdr _ _ _).after h₁
    split
    · exact h₂.trans h₁
    · simp [h₂, h₁]
  exact h₃.then (by simp)

theorem keeps_updCmd {run : State → Nat × State} (hrun : ∀ u, Keeps u (run u).2) (op : Nat) :
    Keeps s (s.updCmd op run) := by
  refine keeps_busGate s fun u => .ite (fun _ => .of_shape (by simp)) fun _ => ?_
  have h : Keeps u (if (u.setF F.UPD_STAT_LAST_OP op).pairUp 1 then run (u.setF F.UPD_STAT_LAST_OP op)
      else (stReject, u.setF F.UPD_STAT_LAST_OP op)).2 := by
    split
    · exact (hrun _).after (by simp)
    · exact .of_shape (by simp)
  exact h.then (by simp)

theorem keeps_updLoad (img : Option (List Byte)) : Keeps s (s.updLoad img).2 := by
  unfold State.updLoad
  split
  · exact .refl s
  split
  next n s₁ e =>
  extract_lets len bytes s₂ s₃
  have h₂ : s₂.shape = s.shape := by rw [← shape_of_snd _ e (shape_fresh s)]; simp [s₂]
  have h₃ : Keeps s s₃ := .after h₂ (.forN (fun _ t => keeps_holdBlock t _ _) _ s₂)
  split
  · exact .of_shape h₂
  · exact h₃.then (by simp)

theorem keeps_doLoad (img : List Byte) : Keeps s (doLoad img s) := keeps_updCmd s (fun u => keeps_updLoad u _) 1

theorem keeps_eplenIn {act : EplenHdr → List Byte → State → State} (hact : ∀ h b u, Keeps u (act h b u))
    (frame : List Byte) (msg : Nat) : Keeps s (s.eplenIn frame msg act) := by
  unfold State.eplenIn
  split
  · exact .refl s
  · split
    · exact .of_shape (by simp)
    · exact .ite (fun _ => hact _ _ s) fun _ => .refl s

theorem keeps_updIn {act : EplenHdr → List Byte → State → State} (hact : ∀ h b u, Keeps u (act h b u))
    (frame : List Byte) (msg : Nat) : Keeps s (s.updIn frame msg act) :=
  .ite (fun _ => keeps_eplenIn s hact frame msg) fun _ => .refl s

theorem keeps_doBlock (d : Nat) (frame : List Byte) : Keeps s (doBlock d frame s) := by
  unfold doBlock
  refine keeps_updIn s (fun h body u => ?_) _ _
  extract_lets k len data first s₁ s₂ s₃
  refine .ite (fun _ => .refl u) fun _ => .ite (fun _ => .of_shape (by simp)) fun _ => .ite (fun _ => .refl u) fun _ => ?_
  have h₁ : Keeps u s₁ := keeps_holdBlock u k data
  have h₃ : s₃.shape = s₁.shape := by simp [s₃, s₂]
  exact h₁.then (by simp [h₃])

theorem keeps_doActivationInstant : Keeps s (doActivationInstant s) := by
  unfold doActivationInstant
  refine .ite (fun _ => .refl s) fun _ => .ite (fun _ => ?_) fun _ => .of_shape (by simp)
  exact (keeps_warmReset _ 4).after (by simp)

/-! ### Power modes -/

theorem keeps_loseTime : Keeps s s.loseTime :=
  .of_queues rfl rfl (Nat.zero_le _) (Nat.zero_le _) (le_max_right _ _) rfl

theorem keeps_toSleep (failA failB : Bool) : Keeps s (s.toSleep failA failB) := by
  unfold State.toSleep
  extract_lets ports pins tb hold t₁ t₂
  have h₁ : Keeps s t₁ :=
    (((keeps_warmClear _).after (t := s.stopTrace 5) (by simp)).then (shape_keepRetired _ s)).trans (keeps_loseTime _)
      |>.then (shape_stopClocks _)
  have h₂ : t₂.shape = t₁.shape := by simp [t₂]
  exact (h₁.then h₂).then (t := t₂) (by simp)

theorem keeps_toStandby : Keeps s s.toStandby := by
  unfold State.toStandby
  extract_lets ports pins tb hold t
  have h : Keeps s t := ((keeps_chipClear _).after (t := s.stopTrace 5) (by simp)).then (by simp [t])
  exact h.then (by simp)

theorem keeps_pwrCmd {run : State → Nat × State} (hrun : ∀ u, Keeps u (run u).2) (r op : Nat) :
    Keeps s (s.pwrCmd r op run) := by
  unfold State.pwrCmd
  extract_lets go
  have hgo : ∀ u, Keeps u (go u) := fun u => by
    refine .ite (fun _ => .of_shape (by simp)) fun _ => ?_
    have h : Keeps u (run (u.setF F.PWR_CMD_STAT_LAST_OP op)).2 := (hrun _).after (by simp)
    exact h.then (by simp)
  exact .ite (fun _ => .refl s) fun _ => .ite (fun _ => keeps_busGate s hgo) fun _ => hgo s

theorem keeps_pwrStandby (key : Nat) : Keeps s (s.pwrStandby key).2 := by
  unfold State.pwrStandby
  split
  · exact .refl s
  · exact keeps_toStandby s

theorem keeps_doPwrStandby (r key : Nat) : Keeps s (doPwrStandby r key s) :=
  keeps_pwrCmd s (fun u => keeps_pwrStandby u key) _ _

theorem keeps_doSleepDrainEnd (passA passB : Bool) (aon : Nat) : Keeps s (doSleepDrainEnd passA passB aon s) := by
  unfold doSleepDrainEnd
  extract_lets early held s₁ t
  refine .ite (fun _ => .refl s) fun _ => ?_
  have h : Keeps s t := (keeps_toSleep s₁ _ _).after (by simp [s₁])
  exact .ite (fun _ => h.then (by simp)) fun _ => h

theorem keeps_doThermalShutdown (sensor tmax : Nat) : Keeps s (doThermalShutdown sensor tmax s) := by
  unfold doThermalShutdown
  extract_lets s₁ s₂ s₃
  refine .ite (fun _ => .refl s) fun _ => ?_
  have h₃ : Keeps s s₃ := (keeps_toStandby s₂).after (by simp [s₂, s₁])
  exact h₃.then (by simp)

/-! ### The bus -/

theorem keeps_onWrite {f : State → State} (hf : ∀ u, Keeps u (f u)) : Keeps s (s.onWrite f) :=
  .ite (fun _ => hf s) fun _ => .of_shape (by simp)

theorem keeps_posted {f : State → State} (hf : ∀ u, Keeps u (f u)) (w : HeldWrite) : Keeps s (s.posted w f) :=
  keeps_onWrite s fun u => .ite (fun _ => .of_shape (by simp)) fun _ => hf u

theorem keeps_b2Write (x : Nat) (data : List Byte) : Keeps s (s.b2Write x data) := by
  unfold State.b2Write
  refine .ite (fun _ => .refl s) fun _ => .ite (fun _ => .of_shape (by simp)) fun _ =>
    .ite (fun _ => .of_shape (by simp)) fun _ => ?_
  exact .ite (fun _ => .of_shape (by simp)) fun _ => keeps_writeDdr _ s _

theorem keeps_doBar2Access (x n : Nat) (data : Option (List Byte)) : Keeps s (doBar2Access x n data s) := by
  unfold doBar2Access
  cases data with
  | some bs => exact keeps_posted s (fun u => keeps_b2Write u _ bs) _
  | none => exact .of_shape (by simp)

theorem keeps_writeUpdCmd (v : Nat) (env : BusEnv) : Keeps s (s.writeUpdCmd v env) := by
  unfold State.writeUpdCmd
  split
  case h_2 => exact keeps_doLoad s _
  all_goals exact .of_shape (by simp)

theorem keeps_writePwrCmd (r v : Nat) : Keeps s (s.writePwrCmd r v) := by
  unfold State.writePwrCmd
  dsimp only
  split
  case h_2 => exact keeps_doPwrStandby s _ _
  all_goals exact .of_shape (by simp)

theorem keeps_writeMemCmd (v : Nat) : Keeps s (s.writeMemCmd v) := by
  unfold State.writeMemCmd
  split
  case h_2 => exact keeps_doMemTestRun s _
  all_goals exact .of_shape (by simp)

theorem keeps_writeServing (r off v : Nat) (env : BusEnv) : Keeps s (s.writeServing r off v env) := by
  unfold State.writeServing
  split
  · exact .refl s
  · refine .ite (fun _ => .refl s) fun _ => ?_
    split
    case h_3 => exact keeps_doTimTs2Ack s v
    case h_4 => exact keeps_doTimInAck s v
    case h_10 => exact keeps_writeUpdCmd s v env
    case h_11 => exact keeps_writeMemCmd s v
    case h_14 => exact keeps_writePwrCmd s r v
    all_goals exact .of_shape (by simp)

theorem keeps_busWrite (r off v : Nat) (env : BusEnv) : Keeps s (s.busWrite r off v env) := by
  unfold State.busWrite
  refine .ite (fun _ => keeps_doSoftwareWarmReset s _ _) fun _ => .ite (fun _ => .of_shape (by simp)) fun _ =>
    .ite (fun _ => .of_shape (by simp)) fun _ => .ite (fun _ => .of_shape (by simp)) fun _ => ?_
  exact keeps_busGate s fun u => keeps_writeServing u r _ v env

theorem keeps_busWrites (r : Nat) (env : BusEnv) (l : List Nat) :
    ∀ (s : State) (off : Nat), Keeps s (s.busWrites r env off l) := by
  induction l with
  | nil => exact fun s off => .refl s
  | cons v vs ih => exact fun s off => (keeps_busWrite s r off v env).trans (ih _ _)

theorem keeps_writeTlp {act : Nat → List Nat → State → State} (hact : ∀ o l u, Keeps u (act o l u)) (off : Nat)
    (dwords : List (Nat × Bool)) : Keeps s (s.writeTlp off dwords act) := by
  unfold State.writeTlp
  extract_lets part s₁
  have h₁ : s₁.shape = s.shape := by unfold s₁; split <;> simp
  exact .ite (fun _ => .of_shape (by simp)) fun _ => .after h₁ (.foldl (fun t (r : Nat × List Nat) => hact r.1 r.2 t) _ _)

theorem keeps_hostWrites (off : Nat) (dwords : List (Nat × Bool)) (env : BusEnv) :
    Keeps s (s.hostWrites off dwords env) :=
  keeps_writeTlp s (fun o l u => keeps_busWrites 2 env l u o) off dwords

theorem keeps_drainHeld (n : Nat) : ∀ s : State, Keeps s (s.drainHeld n) := by
  induction n with
  | zero => exact fun s => .refl s
  | succ n ih =>
    intro s
    unfold State.drainHeld
    split
    · exact .refl s
    next w ws _ =>
      extract_lets host s₁
      have h₁ : s₁.shape = s.shape := (rfl)
      refine .ite (fun _ => .refl s) fun _ => .trans (.after h₁ ?_) (ih _)
      cases w with
      | reg off dwords env => exact keeps_hostWrites s₁ off dwords env
      | window h x kind dwords => exact .of_shape (shape_remoteWrite s₁ h x kind dwords)
      | mem x data => exact keeps_b2Write s₁ x data

theorem keeps_doAns (d : Nat) (frame : List Byte) : Keeps s (doAns d frame s) :=
  (keeps_drainHeld _ _).after (shape_ansIn s d frame)

theorem keeps_doRemoteTimeout (h : Nat) : Keeps s (doRemoteTimeout h s) :=
  (keeps_drainHeld _ _).after (shape_tmoIn s h)

theorem keeps_doRegisterWrite (r off : Nat) (dwords : List (Nat × Bool)) (env : BusEnv) :
    Keeps s (doRegisterWrite r off dwords env s) := by
  unfold doRegisterWrite
  refine .ite (fun _ => keeps_posted s (fun u => keeps_hostWrites u _ _ _) _) fun _ => .ite (fun _ => ?_) fun _ =>
    .ite (fun _ => .refl s) fun _ => .foldl (fun t (e : Nat × List Nat) => keeps_busWrites r env e.2 t e.1) _ s
  split
  · exact .of_shape (by simp)
  · exact .refl s

theorem keeps_busRead (r off : Nat) (env : BusEnv) : Keeps s (s.busRead r off env).2 := by
  unfold State.busRead
  extract_lets off
  split
  · exact .of_shape (by simp)
  split
  · exact .of_shape (by simp)
  split
  · exact .refl s
  split
  · exact .of_shape (by simp)
  split
  · exact keeps_ts2Read s
  · exact .refl s

theorem keeps_busReads (r : Nat) (env : BusEnv) (n : Nat) :
    ∀ (s : State) (off : Nat), Keeps s (s.busReads r env off n).2 := by
  induction n with
  | zero => exact fun s off => .refl s
  | succ n ih => exact fun s off => (keeps_busRead s r off env).trans (ih _ _)

theorem keeps_hostRead (off count : Nat) (env : BusEnv) : Keeps s (s.hostRead off count env) := by
  unfold State.hostRead
  extract_lets off
  refine .ite (fun _ => .of_shape (by simp)) fun _ => ?_
  split
  · exact .of_shape (by simp)
  · exact (keeps_busReads 2 env count s off).then (by simp)

theorem keeps_doTimNowRead (r off count age : Nat) : Keeps s (doTimNowRead r off count age s) := by
  unfold doTimNowRead
  extract_lets env host s₁
  refine .ite (fun _ => keeps_onRead s fun u => keeps_hostRead u off count env) fun _ => .ite (fun _ => ?_) fun _ =>
    .ite (fun _ => .refl s) fun _ => ?_
  · exact .of_shape (by simp [s₁])
  · exact (keeps_busReads r env (min count 2) s off).then (by simp)

theorem keeps_busAtomic (r off op a b : Nat) (env : BusEnv) : Keeps s (s.busAtomic r off op a b env).2 := by
  unfold State.busAtomic
  have h := keeps_busRead s r off env
  dsimp only
  split
  · exact h.trans (keeps_busWrite _ _ _ _ _)
  · exact h

theorem keeps_doBar0Atomic (bar off op size a b : Nat) (env : BusEnv) :
    Keeps s (doBar0Atomic bar off op size a b env s) := by
  unfold doBar0Atomic
  refine keeps_onRead s fun u => .ite (fun _ => .of_shape (by simp)) fun _ => ?_
  split
  · exact .of_shape (by simp)
  · exact (keeps_busAtomic u 2 off op a b env).then (by simp)

/-! ### The far side -/

theorem keeps_subscribe (d : Nat) (h : EplenHdr) (q : Req) : Keeps s (s.subscribe d h q).2 := by
  unfold State.subscribe
  extract_lets new
  split
  · split
    · exact .of_queues rfl rfl (le_max_right _ _) (le_max_right _ _)
        (by rw [List.length_map]; exact le_max_right _ _) rfl
    · exact .refl s
  · split
    · exact .refl s
    next hroom =>
      exact .of_queues rfl rfl (le_max_right _ _) (le_max_right _ _)
        (by rw [List.length_append, List.length_singleton]; omega) rfl

theorem keeps_applyReq (d : Nat) (h : EplenHdr) (q : Req) (env : BusEnv) : Keeps s (s.applyReq d h q env) := by
  unfold State.applyReq
  split
  · exact keeps_busWrites 2 env _ s _
  · exact (keeps_busWrites 2 env (q.data.take q.count) s q.off).then (by simp)
  · split
    · exact .of_shape (by simp)
    · exact (keeps_busReads 2 env q.count s q.off).then (by simp)
  · split
    · exact .of_shape (by simp)
    · exact (keeps_busAtomic s 2 q.off q.atomic (q.data.getD 0 0) (q.data.getD 1 0) env).then (by simp)
  · exact (keeps_subscribe s d h q).then (by simp)
  · exact .of_shape (by simp)

theorem keeps_doReq (d : Nat) (frame : List Byte) (locked : Bool) (env : BusEnv) :
    Keeps s (doReq d frame locked env s) := by
  unfold doReq
  refine keeps_eplenIn s (fun h body u => .ite (fun _ => .of_shape (by simp)) fun _ =>
    .ite (fun _ => .of_shape (by simp)) fun _ => ?_) _ _
  extract_lets q
  split
  · exact .of_shape (by simp)
  next t e =>
    refine .after (shape_of_takeRseq u e) (.ite (fun _ => keeps_applyReq t _ _ _ _) fun _ => .of_shape (by simp))

end
end Sys2Proof.Machine
end

section
/-! PROOF of EventRingsStayBounded. -/

namespace Sys2Proof.Machine

theorem Keeps.of_next {s t u : State} (h : (.next u : Host.Outcome State Fault Refusal) = .next t) (hu : Keeps s u) :
    Keeps s t := Host.Outcome.next.inj h ▸ hu

/-- The step lemma of the invariants: every command keeps them. -/
theorem keeps_exec {c : Instr} {s t : State} (h : exec c s = .next t) : Keeps s t := by
  cases c
  case txOpportunity => exact .of_next h (keeps_doTxOpportunity s _ _ _)
  case timTs2Ack => exact .of_next h (keeps_doTimTs2Ack s _)
  case timTs2Pop => exact .of_next h (keeps_doTimTs2Pop s)
  case timInCapture => exact .of_next h (keeps_doTimInCapture s _ _)
  case timInAck => exact .of_next h (keeps_doTimInAck s _)
  case traceRecordWrite => exact .of_next h (keeps_doTraceRecordWrite s _)
  case memTestRun => exact .of_next h (keeps_doMemTestRun s _)
  case memTestDone => exact .of_next h (keeps_doMemTestDone s _)
  case powerOnReset => exact .of_next h (keeps_doPowerOnReset s)
  case porstNAssert => exact .of_next h (keeps_doPorstNAssert s)
  case wrstNAssert => exact .of_next h (keeps_doWrstNAssert s)
  case clockMonitorFault => exact .of_next h (keeps_doClockMonitorFault s _)
  case softwareWarmReset => exact .of_next h (keeps_doSoftwareWarmReset s _ _)
  case watchdogExpiry => exact .of_next h (keeps_doWatchdogExpiry s _ _)
  case subscriberExpiry => exact .of_next h (keeps_doSubscriberExpiry s)
  case load => exact .of_next h (keeps_doLoad s _)
  case block => exact .of_next h (keeps_doBlock s _ _)
  case activationInstant => exact .of_next h (keeps_doActivationInstant s)
  case pwrStandby => exact .of_next h (keeps_doPwrStandby s _ _)
  case sleepDrainEnd => exact .of_next h (keeps_doSleepDrainEnd s _ _ _)
  case thermalShutdown => exact .of_next h (keeps_doThermalShutdown s _ _)
  case bar2Access => exact .of_next h (keeps_doBar2Access s _ _ _)
  case ans => exact .of_next h (keeps_doAns s _ _)
  case remoteTimeout => exact .of_next h (keeps_doRemoteTimeout s _)
  case registerWrite => exact .of_next h (keeps_doRegisterWrite s _ _ _ _)
  case timNowRead => exact .of_next h (keeps_doTimNowRead s _ _ _ _)
  case bar0Atomic => exact .of_next h (keeps_doBar0Atomic s _ _ _ _ _ _ _)
  case req => exact .of_next h (keeps_doReq s _ _ _ _)
  all_goals exact .of_next h (.of_shape (by simp))

/-- A step keeps what every command keeps, but for the queue that it takes its command from. -/
theorem keeps_step {s t : State} (h : step s = .next t) : Keeps { s with pending := s.pending.tail } t := by
  unfold step at h
  split at h
  next e => exact .of_next h (.of_shape (by rw [shape_tick, e, List.tail_nil, ← e]))
  next c rest e => rw [e]; exact keeps_exec h

/-- Settles O4: every command keeps the bounds of the rings (`keeps_exec`), and so does an idle cycle. -/
theorem eventRingsStayBounded : Obligations.EventRingsStayBounded := by
  unfold Obligations.EventRingsStayBounded
  intro s t hs h
  exact (keeps_step h).rings hs

end Sys2Proof.Machine
end

section
/-! PROOF of EventReachesEachReaderOrIsCounted. Posting hands the event to the two rings, to the host and to the relay in
turn; each reader is left alone by the others. -/

namespace Sys2Proof.Machine

section
variable (s : State) (e : Event)

theorem tally_evCtl (i : Nat) : (s.tally i).evCtl = s.evCtl := by rw [State.tally, tallyN_eq]

theorem tally_evSvc (i : Nat) : (s.tally i).evSvc = s.evSvc := by rw [State.tally, tallyN_eq]

/-- The part of posting that serves the control pair's ring. -/
def State.toCtl : State := if s.evCtl.length < 1024 then { s with evCtl := s.evCtl ++ [e] } else s.tally (T.glb 3)

/-- The part of posting that serves the service pair's ring. -/
def State.toSvc : State := if s.evSvc.length < 1024 then { s with evSvc := s.evSvc ++ [e] } else s.tally (T.glb 4)

theorem postRaw_eq : s.postRaw e = (((s.toCtl e).toSvc e).hostEvent e).relayEvent e := rfl

/-- The event-overflow tallies of the three readers count in every variant. -/
theorem tallyOf_tally_glb {k : Nat} (hk : k < 6) (j : Nat) :
    (s.tally (T.glb k)).tallyOf j = if j = T.glb k then (s.tallyOf (T.glb k) + 1) % 2 ^ 64 else s.tallyOf j := by
  have hc : s.tallyCounts (T.glb k) = true := by interval_cases k <;> rfl
  rw [State.tally, tallyOf_tallyN]
  simp [hc]

theorem toCtl_room (h : s.evCtl.length < 1024) : s.toCtl e = { s with evCtl := s.evCtl ++ [e] } := if_pos h

theorem toCtl_full (h : 1024 ≤ s.evCtl.length) : s.toCtl e = s.tally (T.glb 3) := if_neg (by omega)

theorem toSvc_room (h : s.evSvc.length < 1024) : s.toSvc e = { s with evSvc := s.evSvc ++ [e] } := if_pos h

theorem toSvc_full (h : 1024 ≤ s.evSvc.length) : s.toSvc e = s.tally (T.glb 4) := if_neg (by omega)

theorem toCtl_regs : (s.toCtl e).regs = s.regs := by
  unfold State.toCtl; split
  · rfl
  · exact tally_regs ..

theorem toSvc_regs : (s.toSvc e).regs = s.regs := by
  unfold State.toSvc; split
  · rfl
  · exact tally_regs ..

/-- The service pair's ring does not depend on the control pair's. -/
theorem toCtl_evSvc : (s.toCtl e).evSvc = s.evSvc := by
  unfold State.toCtl; split
  · rfl
  · exact tally_evSvc s _

theorem toSvc_evCtl : (s.toSvc e).evCtl = s.evCtl := by
  unfold State.toSvc; split
  · rfl
  · exact tally_evCtl s _

theorem tallyOf_toCtl {j : Nat} (hj : j ≠ T.glb 3) : (s.toCtl e).tallyOf j = s.tallyOf j := by
  unfold State.toCtl; split
  · rfl
  · rw [tallyOf_tally_glb s (by omega), if_neg hj]

theorem tallyOf_toSvc {j : Nat} (hj : j ≠ T.glb 4) : (s.toSvc e).tallyOf j = s.tallyOf j := by
  unfold State.toSvc; split
  · rfl
  · rw [tallyOf_tally_glb s (by omega), if_neg hj]

/-! ### The host's ring and the relay -/

theorem hostEvent_rings : (s.hostEvent e).evCtl = s.evCtl ∧ (s.hostEvent e).evSvc = s.evSvc := by
  unfold State.hostEvent
  dsimp only
  split
  · exact ⟨rfl, rfl⟩
  · exact ⟨tally_evCtl s _, tally_evSvc s _⟩

theorem tallyOf_hostEvent {j : Nat} (hj : j ≠ T.glb 5) : (s.hostEvent e).tallyOf j = s.tallyOf j := by
  unfold State.hostEvent
  dsimp only
  split
  · rfl
  · rw [State.tally, tallyOf_tallyN, if_neg (fun h => hj h.1)]

/-- A disabled or full ring of the host counts the event. -/
theorem hostEvent_lost (h : s.isF F.DMA_EVR_CFG_EN = false ∨
    (s.getF F.DMA_EVR_HEAD_HEAD + 2 ^ 16 - s.getF F.DMA_EVR_TAIL_TAIL) % 2 ^ 16 = 1024) :
    s.hostEvent e = s.tally (T.glb 5) := by
  unfold State.hostEvent
  obtain h | h := h
  · simp [h]
  · exact if_neg (by rw [h]; simp)

/-- An enabled ring with room takes the event and counts nothing. -/
theorem hostEvent_taken (hen : s.isF F.DMA_EVR_CFG_EN = true)
    (hroom : (s.getF F.DMA_EVR_HEAD_HEAD + 2 ^ 16 - s.getF F.DMA_EVR_TAIL_TAIL) % 2 ^ 16 ≠ 1024) :
    (s.hostEvent e).tly = s.tly
      ∧ (s.hostEvent e).getF F.DMA_EVR_HEAD_HEAD = (s.getF F.DMA_EVR_HEAD_HEAD + 1) % 2 ^ 16 := by
  unfold State.hostEvent
  dsimp only
  rw [if_pos (by simpa [hen] using hroom)]
  exact ⟨rfl, by rw [getF_announce, getF_setF_same]⟩

/-- A frame toward a subscriber touches no ring and counts no lost event of the bus. -/
theorem sendEplen_readers (p : Nat) (h : EplenHdr) (body : List Byte) :
    (s.sendEplen p h body).evCtl = s.evCtl ∧ (s.sendEplen p h body).evSvc = s.evSvc
      ∧ ∀ j, j ≠ T.rng 5 → (s.sendEplen p h body).tallyOf j = s.tallyOf j := by
  obtain ⟨-, -, h⟩ | ⟨-, -, h⟩ | h := sendEplen_cases s p h body
  · rw [h]; exact ⟨rfl, rfl, fun _ _ => rfl⟩
  · rw [h]
    exact ⟨tally_evCtl s _, tally_evSvc s _, fun j hj => by
      rw [State.tally, tallyOf_tallyN, if_neg (fun h => hj h.1)]⟩
  · rw [h]; exact ⟨rfl, rfl, fun _ _ => rfl⟩

theorem relayEvent_readers : (s.relayEvent e).evCtl = s.evCtl ∧ (s.relayEvent e).evSvc = s.evSvc
    ∧ ∀ j, j ≠ T.rng 5 → (s.relayEvent e).tallyOf j = s.tallyOf j := by
  unfold State.relayEvent
  split
  · exact ⟨rfl, rfl, fun _ _ => rfl⟩
  · clear * -
    generalize s.ring.subs = l
    induction l generalizing s with
    | nil => exact ⟨rfl, rfl, fun _ _ => rfl⟩
    | cons x l ih =>
      rw [List.foldl_cons]
      obtain ⟨hctl, hsvc, htally⟩ := sendEplen_readers s (s.eplenPort x.port) (s.eplenHdr 0x20 (1 - x.dir) x.hops)
        (beBytes 2 e.code ++ beBytes 1 e.block ++ beBytes 4 e.n32 ++ beBytes 8 e.payload)
      obtain ⟨hctl', hsvc', htally'⟩ := ih (s.sendEplen _ _ _)
      exact ⟨hctl'.trans hctl, hsvc'.trans hsvc, fun j hj => (htally' j hj).trans (htally j hj)⟩

/-! ### Each reader after a post -/

theorem postRaw_evCtl : (s.postRaw e).evCtl = (s.toCtl e).evCtl := by
  rw [postRaw_eq, (relayEvent_readers _ e).1, (hostEvent_rings _ e).1, toSvc_evCtl]

theorem postRaw_evSvc : (s.postRaw e).evSvc = ((s.toCtl e).toSvc e).evSvc := by
  rw [postRaw_eq, (relayEvent_readers _ e).2.1, (hostEvent_rings _ e).2]

theorem tallyOf_postRaw_ctl : (s.postRaw e).tallyOf (T.glb 3) = (s.toCtl e).tallyOf (T.glb 3) := by
  rw [postRaw_eq, (relayEvent_readers _ e).2.2 _ (by decide), tallyOf_hostEvent _ e (by decide),
    tallyOf_toSvc _ e (by decide)]

theorem tallyOf_postRaw_svc : (s.postRaw e).tallyOf (T.glb 4) = ((s.toCtl e).toSvc e).tallyOf (T.glb 4) := by
  rw [postRaw_eq, (relayEvent_readers _ e).2.2 _ (by decide), tallyOf_hostEvent _ e (by decide)]

theorem tallyOf_postRaw_host :
    (s.postRaw e).tallyOf (T.glb 5) = (((s.toCtl e).toSvc e).hostEvent e).tallyOf (T.glb 5) := by
  rw [postRaw_eq, (relayEvent_readers _ e).2.2 _ (by decide)]

theorem getF_postRaw (f : Fld) : (s.postRaw e).getF f = (((s.toCtl e).toSvc e).hostEvent e).getF f :=
  getF_of_regs (relayEvent_regs _ e) f

/-- The host's registers and tally do not depend on the rings of the pairs. -/
theorem getF_toPairs (f : Fld) : ((s.toCtl e).toSvc e).getF f = s.getF f :=
  getF_of_regs ((toSvc_regs _ e).trans (toCtl_regs s e)) f

theorem tallyOf_toPairs_host : ((s.toCtl e).toSvc e).tallyOf (T.glb 5) = s.tallyOf (T.glb 5) := by
  rw [tallyOf_toSvc _ e (by decide), tallyOf_toCtl _ e (by decide)]

theorem isF_toPairs (f : Fld) : ((s.toCtl e).toSvc e).isF f = s.isF f := by rw [State.isF, getF_toPairs]; rfl

theorem postRaw_hostLost (h : s.isF F.DMA_EVR_CFG_EN = false ∨
    (s.getF F.DMA_EVR_HEAD_HEAD + 2 ^ 16 - s.getF F.DMA_EVR_TAIL_TAIL) % 2 ^ 16 = 1024) :
    (s.postRaw e).tallyOf (T.glb 5) = (s.tallyOf (T.glb 5) + 1) % 2 ^ 64
      ∧ (s.postRaw e).getF F.DMA_EVR_HEAD_HEAD = s.getF F.DMA_EVR_HEAD_HEAD := by
  have hhost := hostEvent_lost ((s.toCtl e).toSvc e) e (by rwa [isF_toPairs, getF_toPairs, getF_toPairs])
  refine ⟨?_, ?_⟩
  · rw [tallyOf_postRaw_host, hhost, tallyOf_tally_glb _ (by omega), if_pos rfl, tallyOf_toPairs_host]
  · rw [getF_postRaw, hhost, getF_of_regs (tally_regs ..), getF_toPairs]

theorem postRaw_hostTaken (hen : s.isF F.DMA_EVR_CFG_EN = true)
    (hroom : (s.getF F.DMA_EVR_HEAD_HEAD + 2 ^ 16 - s.getF F.DMA_EVR_TAIL_TAIL) % 2 ^ 16 ≠ 1024) :
    (s.postRaw e).tallyOf (T.glb 5) = s.tallyOf (T.glb 5)
      ∧ (s.postRaw e).getF F.DMA_EVR_HEAD_HEAD = (s.getF F.DMA_EVR_HEAD_HEAD + 1) % 2 ^ 16 := by
  obtain ⟨htly, hhead⟩ := hostEvent_taken ((s.toCtl e).toSvc e) e (by rwa [isF_toPairs])
    (by rwa [getF_toPairs, getF_toPairs])
  refine ⟨?_, ?_⟩
  · rw [tallyOf_postRaw_host, ← tallyOf_toPairs_host s e, State.tallyOf, htly]; rfl
  · rw [getF_postRaw, hhead, getF_toPairs]

end

/-- Settles O9: each reader's part of posting, seen through the others. -/
theorem eventReachesEachReaderOrIsCounted : Obligations.EventReachesEachReaderOrIsCounted := by
  unfold Obligations.EventReachesEachReaderOrIsCounted
  intro s e t
  refine ⟨?_, fun h => ?_, fun h => ⟨?_, ?_⟩, fun h => ?_, fun h => ⟨?_, ?_⟩, fun hen => ?_, fun _ hfull => ?_,
    fun hen hroom => ?_⟩
  · show (s.postRaw e).dp = s.dp
    rw [postRaw_posted]; rfl
  · rw [postRaw_evCtl, toCtl_room s e h]
  · rw [postRaw_evCtl, toCtl_full s e h]; exact tally_evCtl s _
  · rw [tallyOf_postRaw_ctl, toCtl_full s e h, tallyOf_tally_glb s (by omega), if_pos rfl]
  · rw [postRaw_evSvc, toSvc_room _ e (by rwa [toCtl_evSvc])]
    exact congrArg (· ++ [e]) (toCtl_evSvc s e)
  · rw [postRaw_evSvc, toSvc_full _ e (by rwa [toCtl_evSvc])]
    exact (tally_evSvc _ _).trans (toCtl_evSvc s e)
  · rw [tallyOf_postRaw_svc, toSvc_full _ e (by rwa [toCtl_evSvc]), tallyOf_tally_glb _ (by omega), if_pos rfl,
      tallyOf_toCtl s e (by decide)]
  · exact (postRaw_hostLost s e (.inl hen)).1
  · exact postRaw_hostLost s e (.inr hfull)
  · exact postRaw_hostTaken s e hen hroom

end Sys2Proof.Machine
end

section
/-! SUPPORT. What the data plane's own operations leave alone: items, queues and tallies may change, nothing else. -/

namespace Sys2Proof.Machine

/-- Between `s` and `t` the data plane and the tallies may differ and nothing else. -/
def OnlyDp (s t : State) : Prop := t = { s with dp := t.dp, tly := t.tly }

namespace OnlyDp
variable {s t u : State}

theorem refl (s : State) : OnlyDp s s := rfl

theorem trans (h : OnlyDp s t) (k : OnlyDp t u) : OnlyDp s u := by
  unfold OnlyDp at *; rw [k, h]

theorem regs (h : OnlyDp s t) : t.regs = s.regs := by rw [h]

theorem saf (h : OnlyDp s t) : t.saf = s.saf := by rw [h]

theorem getF (h : OnlyDp s t) (f : Fld) : t.getF f = s.getF f := getF_of_regs h.regs f

end OnlyDp

section
variable (s : State)

theorem onlyDp_tally (i : Nat) : OnlyDp s (s.tally i) := by
  unfold OnlyDp; rw [State.tally, tallyN_eq]

theorem onlyDp_addRef (i : Nat) : OnlyDp s (s.addRef i) := by
  unfold State.addRef
  split <;> rfl

theorem onlyDp_wakeClass (p cls : Nat) : OnlyDp s (s.wakeClass p cls) := by
  unfold State.wakeClass
  dsimp only
  split <;> rfl

theorem onlyDp_push (p cls : Nat) (r : QRef) : OnlyDp s (s.push p cls r) :=
  ((onlyDp_wakeClass s p cls).trans (u := (s.wakeClass p cls).setQueue p cls (s.queue p cls ++ [r])) rfl).trans
    (onlyDp_addRef _ r.item)

theorem onlyDp_dropItem (i : Nat) : OnlyDp s (s.dropItem i) := by
  have h := (dropItem_item s i).2
  unfold OnlyDp; rw [h]

theorem onlyDp_settle (i : Nat) : OnlyDp s (s.settle i) := by
  unfold State.settle
  split
  · split
    · exact onlyDp_dropItem s i
    · exact .refl s
  · exact .refl s

end
end Sys2Proof.Machine
end

section
/-! PROOF of DecisionsAreComparedBeforeAcceptance. A working plane's decision differs from itself in no group; a mismatch
discards the front item, which touches no plane, and starts the self-check of each plane whose decision came. -/

namespace Sys2Proof.Machine

/-! ### Decisions that agree -/

theorem groupDiff_self (d : Decision) : groupDiff d d = 0 := by simp [groupDiff, b2n]

theorem decisionsEqual_self {d : Decision} (h : d.op ≤ 6) : decisionsEqual d d = true := by
  simp [decisionsEqual, groupDiff_self, h]

theorem decisionsEqual_of_op_ne {a b : Decision} (h : a.op ≠ b.op) : decisionsEqual a b = false := by
  simp [decisionsEqual, h]

section
variable (s : State)

theorem front_cons {r : HdrRec} {rest : List HdrRec} (h : s.dp.stream = r :: rest) : s.front = some r := by
  rw [State.front, h]; rfl

theorem compared_of_inService {b : Bool} (h : s.planeSt b = 1) : s.compared b = true := by
  rw [State.compared, h]; rfl

/-- No lookup reads a poisoned entry while nothing is poisoned. -/
theorem readsPoison_nil (it : Item) (h : s.dp.poison = []) : s.readsPoison it = false := by
  rw [State.readsPoison, h]; rfl

/-! ### The self-check -/

theorem planeSt_setPlane_same (b : Bool) (st : Nat) : (s.setPlane b st).planeSt b = st % 2 ^ (safState b).w := by
  unfold State.setPlane State.planeSt
  cases b
  · exact (getF_setB_ne _ _ _ _ (by decide)).trans (getF_setF_same s _ st)
  · exact (getF_setB_ne _ _ _ _ (by decide)).trans (getF_setF_same s _ st)

theorem planeSt_setPlane_other (b : Bool) (st : Nat) : (s.setPlane b st).planeSt (!b) = s.planeSt (!b) := by
  unfold State.setPlane State.planeSt
  cases b
  · exact (getF_setB_ne _ _ _ _ (by decide)).trans (getF_setF_ne _ _ _ _ (by decide))
  · exact (getF_setB_ne _ _ _ _ (by decide)).trans (getF_setF_ne _ _ _ _ (by decide))

/-- A plane in service begins its self-check and counts as not rejoining. -/
theorem checkStart_inService {b : Bool} (h : s.planeSt b = 1) : s.checkStart b = { s.setPlane b 2 with
    saf := if b then { s.saf with rejB := false } else { s.saf with rejA := false } } := by
  unfold State.checkStart
  rw [if_pos (.inl h), h]
  cases b <;> rfl

theorem planeSt_checkStart_same {b : Bool} (h : s.planeSt b = 1) : (s.checkStart b).planeSt b = 2 := by
  rw [checkStart_inService s h]
  exact (planeSt_setPlane_same s b 2).trans (by cases b <;> rfl)

theorem planeSt_checkStart_other {b : Bool} (h : s.planeSt b = 1) : (s.checkStart b).planeSt (!b) = s.planeSt (!b) := by
  rw [checkStart_inService s h]
  exact planeSt_setPlane_other s b 2

theorem planeSt_postFree (b : Bool) (block code : Nat) : (s.postFree block code).planeSt b = s.planeSt b :=
  fieldsKept_postFree s block code _ (by cases b <;> decide)

/-- The hold of the stream: no decision waits, and the end of the self-check knows whose decision was missing. -/
structure StreamHeld (s : State) (ma mb : Bool) : Prop where
  held : s.dp.held = true
  decA : s.dp.decA = none
  decB : s.dp.decB = none
  checking : s.saf.checking = true
  missA : s.saf.missA = ma
  missB : s.saf.missB = mb

theorem StreamHeld.checkStart {s : State} {ma mb : Bool} (h : StreamHeld s ma mb) {b : Bool} (hb : s.planeSt b = 1) :
    StreamHeld (s.checkStart b) ma mb := by
  rw [checkStart_inService s hb]
  cases b <;> exact ⟨h.held, h.decA, h.decB, h.checking, h.missA, h.missB⟩

theorem StreamHeld.postFree {s : State} {ma mb : Bool} (h : StreamHeld s ma mb) (block code : Nat) :
    StreamHeld (s.postFree block code) ma mb := by
  rw [postFree_posted]
  exact ⟨h.held, h.decA, h.decB, h.checking, h.missA, h.missB⟩

/-- With both decisions there, both planes check themselves. -/
theorem startCheck_both (ha : s.planeSt false = 1) (hb : s.planeSt true = 1) :
    StreamHeld (s.startCheck false false) false false ∧ (s.startCheck false false).planeSt false = 2
      ∧ (s.startCheck false false).planeSt true = 2 := by
  unfold State.startCheck
  extract_lets dp saf s₀ s₁ s₂
  have h₀ : StreamHeld s₀ false false := ⟨rfl, rfl, rfl, rfl, rfl, rfl⟩
  have h₁ : StreamHeld s₁ false false := h₀.checkStart ha
  have hb₁ : s₁.planeSt true = 1 := (planeSt_checkStart_other s₀ (b := false) ha).trans hb
  refine ⟨(h₁.checkStart hb₁).postFree _ _, ?_, ?_⟩
  · rw [planeSt_postFree]
    exact (planeSt_checkStart_other s₁ (b := true) hb₁).trans (planeSt_checkStart_same s₀ ha)
  · rw [planeSt_postFree]
    exact planeSt_checkStart_same s₁ hb₁

/-- With plane A's decision missing, plane B alone checks itself. -/
theorem startCheck_missA (hb : s.planeSt true = 1) :
    StreamHeld (s.startCheck true false) true false ∧ (s.startCheck true false).planeSt false = s.planeSt false
      ∧ (s.startCheck true false).planeSt true = 2 := by
  unfold State.startCheck
  extract_lets dp saf s₀ s₁ s₂
  have h₀ : StreamHeld s₀ true false := ⟨rfl, rfl, rfl, rfl, rfl, rfl⟩
  refine ⟨(h₀.checkStart hb).postFree _ _, ?_, ?_⟩
  · rw [planeSt_postFree]
    exact planeSt_checkStart_other s₀ (b := true) hb
  · rw [planeSt_postFree]
    exact planeSt_checkStart_same s₀ hb

/-! ### Discarding the front item -/

theorem fieldsKept_traceItem (i : Nat) (it : Item) (d : Decision) (rank : Nat) :
    FieldsKept s (s.traceItem i it d rank) [F.TRC_SEQ_SEQ] := by
  have h₁ : FieldsKept s (s.incF F.TRC_SEQ_SEQ) [F.TRC_SEQ_SEQ] := (FieldsKept.refl s _).setF _ (by simp)
  unfold State.traceItem
  extract_lets rodMark reason st seq s₁
  split
  · exact .refl s _
  split
  · split
    · exact h₁
    split
    · exact h₁.of_regs (tally_regs _ _)
    split
    · exact h₁.of_regs (tally_regs _ _)
    · exact h₁.of_regs (onlyDp_push _ _ _ _).regs
  split
  · exact (FieldsKept.refl s _).of_regs (tally_regs _ _)
  · exact .refl s _

/-- Discarding the front item changes no register but the sequence of the trace records. -/
theorem fieldsKept_discardFront : FieldsKept s s.discardFront [F.TRC_SEQ_SEQ] := by
  unfold State.discardFront
  split
  · exact .refl s _
  next r _ =>
  extract_lets marked d s₁
  have h₁ : FieldsKept s s₁ [F.TRC_SEQ_SEQ] := by
    unfold s₁
    split
    · exact fieldsKept_traceItem _ _ _ _ _
    · exact .refl s _
  exact (h₁.of_regs (tally_regs _ _)).of_regs (onlyDp_settle _ r.item).regs

theorem planeSt_discardFront (b : Bool) : s.discardFront.planeSt b = s.planeSt b :=
  fieldsKept_discardFront s _ (by cases b <;> decide)

theorem mismatch_both (hA : s.planeSt false = 1) (hB : s.planeSt true = 1) :
    StreamHeld (s.mismatch false false) false false ∧ (s.mismatch false false).planeSt false = 2
      ∧ (s.mismatch false false).planeSt true = 2 :=
  startCheck_both s.discardFront ((planeSt_discardFront s _).trans hA) ((planeSt_discardFront s _).trans hB)

theorem mismatch_missA (hA : s.planeSt false = 1) (hB : s.planeSt true = 1) :
    StreamHeld (s.mismatch true false) true false ∧ (s.mismatch true false).planeSt false = 1
      ∧ (s.mismatch true false).planeSt true = 2 := by
  obtain ⟨hholds, hstA, hstB⟩ := startCheck_missA s.discardFront ((planeSt_discardFront s _).trans hB)
  exact ⟨hholds, hstA.trans ((planeSt_discardFront s _).trans hA), hstB⟩

end

/-! ### The commands -/

section
variable {s : State} {r : HdrRec} {rest : List HdrRec}

theorem doPlaneDecision_clean {b : Bool} {diff : Nat} {op : Option Nat} (hs : s.dp.stream = r :: rest)
    (hheld : s.dp.held = false) (hb : s.planeSt b = 1) (hpoison : s.dp.poison = []) :
    let d := { r.decision with diff := diff % 2 ^ 8, op := (op.map (· % 16)).getD r.decision.op }
    doPlaneDecision b none diff op 0 s =
      { s with dp := if b then { s.dp with decB := some d } else { s.dp with decA := some d } } := by
  intro d
  unfold doPlaneDecision
  cases hi : s.item r.item with
  | none =>
    simp only [if_true, front_cons s hs, hheld, compared_of_inService s hb, hi]
    cases b <;> rfl
  | some it =>
    simp only [if_true, front_cons s hs, hheld, compared_of_inService s hb, hi, readsPoison_nil s it hpoison]
    cases b <;> rfl

/-- Correctable errors are tallied and change nothing that the decision rests on. -/
theorem doPlaneDecision_inService {b : Bool} {diff ce : Nat} {op : Option Nat} (hs : s.dp.stream = r :: rest)
    (hheld : s.dp.held = false) (hb : s.planeSt b = 1) (hpoison : s.dp.poison = []) :
    let d := { r.decision with diff := diff % 2 ^ 8, op := (op.map (· % 16)).getD r.decision.op }
    doPlaneDecision b none diff op ce s = { (if ce = 0 then s else s.tallyN (T.glb 2) ce) with dp :=
      if b then { s.dp with decB := some d } else { s.dp with decA := some d } } := by
  intro d
  split
  next hce => rw [hce]; exact doPlaneDecision_clean hs hheld hb hpoison
  next hce =>
    have hdp : (s.tallyN (T.glb 2) ce).dp = s.dp := by rw [tallyN_eq]
    have hst : (s.tallyN (T.glb 2) ce).planeSt b = 1 := (getF_of_regs (tallyN_regs s _ _) _).trans hb
    have e : doPlaneDecision b none diff op ce s = doPlaneDecision b none diff op 0 (s.tallyN (T.glb 2) ce) := by
      unfold doPlaneDecision; rw [if_neg hce]; rfl
    rw [e, doPlaneDecision_clean (hdp ▸ hs) (hdp ▸ hheld) hst (hdp ▸ hpoison), hdp]

/-- With both planes in service, and comparators that agree, the two decisions that wait are compared. -/
theorem doDecisionCompare_inService {a b : Decision} (hs : s.dp.stream = r :: rest) (hheld : s.dp.held = false)
    (hA : s.planeSt false = 1) (hB : s.planeSt true = 1) (hok : s.getF F.SAF_STAT_CMP_OK = 3) (ha : s.dp.decA = some a)
    (hb : s.dp.decB = some b) :
    (a = b → a.op ≤ 6 → doDecisionCompare false none s = s.acceptFront a)
      ∧ (a.op ≠ b.op → doDecisionCompare false none s = s.mismatch false false) := by
  unfold doDecisionCompare
  simp only [hs, hheld, compared_of_inService s hA, compared_of_inService s hB, ha, hb, hok]
  refine ⟨?_, fun hne => ?_⟩
  · rintro rfl hop
    simp [decisionsEqual_self hop, groupDiff_self]
  · simp [decisionsEqual_of_op_ne hne]

theorem doMissingDecision_missA {b : Decision} (hs : s.dp.stream = r :: rest) (hheld : s.dp.held = false)
    (hA : s.planeSt false = 1) (ha : s.dp.decA = none) (hb : s.dp.decB = some b) :
    doMissingDecision s = s.mismatch true false := by
  unfold doMissingDecision
  simp [hs, hheld, compared_of_inService s hA, ha, hb]

end

/-- Settles O13: equal decisions differ in no group, and a mismatch begins the self-check (`mismatch_both`,
`mismatch_missA`). -/
theorem decisionsAreComparedBeforeAcceptance : Obligations.DecisionsAreComparedBeforeAcceptance := by
  unfold Obligations.DecisionsAreComparedBeforeAcceptance
  refine ⟨fun s b diff ce op r rest hs hheld hb hpoison => ?_, fun s d r rest hs hheld hA hB hok ha hb hop => ?_,
    fun s a b r rest hs hheld hA hB hok ha hb hne => ?_, fun s b r rest hs hheld hA hB ha hb => ?_⟩
  · exact answers rfl (doPlaneDecision_inService hs hheld hb hpoison)
  · exact answers rfl ((doDecisionCompare_inService hs hheld hA hB hok ha hb).1 rfl hop)
  · obtain ⟨⟨hheld', hA', hB', hchecking, hmissA, hmissB⟩, hstA, hstB⟩ := mismatch_both s hA hB
    exact ⟨s.mismatch false false, answers rfl ((doDecisionCompare_inService hs hheld hA hB hok ha hb).2 hne), hheld',
      hchecking, hmissA, hmissB, hstA, hstB, hA', hB'⟩
  · obtain ⟨⟨hheld', -, -, hchecking, hmissA, hmissB⟩, hstA, hstB⟩ := mismatch_missA s hA hB
    exact ⟨s.mismatch true false, answers rfl (doMissingDecision_missA hs hheld hA ha hb), hheld', hchecking,
      hmissA, hmissB, hstA, hstB⟩

end Sys2Proof.Machine
end

section
/-! PROOF of the refutation of ItemsEnterTheHeaderStream. An item holds at most 16,384 bytes (R43), and the first clause bounds
the frame by the value that PRT_MAC_CFG.MAX_FRAME holds, which a state is free to give more than the 14 bits of its field. -/

namespace Sys2Proof.Machine

/-- Entering the stream with a plane in service and no hold leaves the items alone. -/
theorem enterStream_item {s : State} {i : Nat} (hplane : s.anyPlane = true) (hheld : s.dp.held = false) :
    (s.enterStream i).item = s.item := by
  unfold State.enterStream
  cases hi : s.item i with
  | none => rfl
  | some it =>
    simp only [hplane, hheld, Bool.not_true, Bool.false_eq_true, false_and, if_false]
    rfl

theorem OnlyDp.anyPlane {s t : State} (h : OnlyDp s t) : t.anyPlane = s.anyPlane := by rw [h]; rfl

theorem inReception_item (s : State) (p i code : Nat) : (s.inReception p i code).item = s.item := rfl

/-- A received frame becomes an item of its first 16,384 bytes. -/
theorem receive_bytes {s : State} {p t code : Nat} {late : Bool} {bytes : List Byte}
    (hclaim : (s.claim p (if late then 1 else frameBeads bytes)).isSome = true) (hplane : s.anyPlane = true)
    (hheld : s.dp.held = false) :
    ((s.receive p late bytes t code).item s.dp.nextItem).map (·.bytes) = some (bytes.take 16384) := by
  obtain ⟨⟨r, sh, u⟩, hu⟩ := Option.isSome_iff_exists.1 hclaim
  obtain ⟨-, -, -, -, e⟩ := claim_some s hu
  generalize u.dp.resUsed = res, u.dp.shUsed = shared at e
  subst e
  unfold State.receive
  rw [hu]
  cases late
  · refine congrArg (Option.map (·.bytes)) ((congrFun (enterStream_item ?_ ?_) _).trans (item_setItem_same _ _ _))
    · exact hplane
    · exact hheld
  · refine congrArg (Option.map (·.bytes)) ((congrFun ((enterStream_item (s := State.inReception _ _ _ _)
      ?_ ?_).trans (inReception_item _ _ _ _)) _).trans (item_setItem_same _ _ _))
    · exact hplane
    · exact hheld

/-- A frame of 64 bytes or more, with a valid FCS and no longer than MAX_FRAME, is received. -/
theorem doParseWindowComplete_good {s : State} {p ago : Nat} {bytes : List Byte} (hpresent : s.ethPresent p = true)
    (hboot : s.ring.bypBoot = false) (hreceives : s.receives = true) (hmsec : s.getF (F.PRT_MSEC_CFG_VALIDATE p) = 0)
    (hshort : 64 ≤ bytes.length) (hlong : bytes.length ≤ s.getF (F.PRT_MAC_CFG_MAX_FRAME p)) :
    doParseWindowComplete p bytes true ago s = s.receive p (decide (192 < bytes.length)) bytes (s.rxStamp p ago) 0 := by
  have hcode : s.rxCode p bytes.length true = 0 := by
    unfold State.rxCode
    rw [if_neg (by omega), if_neg (by simp; omega)]
  unfold doParseWindowComplete
  simp [hpresent, hboot, hreceives, hmsec, hcode, State.knownEarly]

/-- A device in service whose port 0 takes frames of 16,385 bytes, more than the 14 bits of MAX_FRAME can say. -/
def longFrames : State :=
  let s := (State.reset.setF F.GLB_RST_STAT_STAGE 9).setF F.GLB_PRESENT_PORT_PORTS 1
  { s with regs := sput fieldReset s.regs (F.PRT_MAC_CFG_MAX_FRAME 0).key 16385, boot := {} }

theorem longFrames_maxFrame : longFrames.getF (F.PRT_MAC_CFG_MAX_FRAME 0) = 16385 := by decide +kernel

theorem longFrames_ready : longFrames.ethPresent 0 = true ∧ longFrames.receives = true
    ∧ longFrames.getF (F.PRT_MSEC_CFG_VALIDATE 0) = 0 ∧ (longFrames.claim 0 1).isSome = true
    ∧ longFrames.anyPlane = true := by
  refine ⟨?_, ?_, ?_, ?_, ?_⟩ <;> decide +kernel

/-- Refutes O17: MAX_FRAME has 14 bits, so no command stores more than 16,383 in it, but a state may hold 16,385 there. A frame
of that many bytes meets the first clause and becomes an item of its first 16,384 bytes, the most that an item holds (R43),
not of all its bytes. -/
theorem not_itemsEnterTheHeaderStream : ¬ Obligations.ItemsEnterTheHeaderStream := by
  unfold Obligations.ItemsEnterTheHeaderStream
  rintro ⟨hWindow, -⟩
  have hlen : (List.replicate 16385 (0 : Byte)).length = 16385 := List.length_replicate
  obtain ⟨hpresent, hreceives, hmsec, hclaim, hplane⟩ := longFrames_ready
  obtain ⟨t, ht, -, hbytes, -⟩ := hWindow longFrames 0 0 (List.replicate 16385 0) (by decide) hpresent rfl hreceives hmsec
    (by rw [hlen]; decide) (by rw [hlen, longFrames_maxFrame]) (by rw [hlen]; exact hclaim) hplane rfl
  obtain rfl : doParseWindowComplete 0 (List.replicate 16385 0) true 0 longFrames = t := Host.Outcome.next.inj ht
  rw [doParseWindowComplete_good hpresent rfl hreceives hmsec (by rw [hlen]; decide) (by rw [hlen, longFrames_maxFrame]),
    receive_bytes (by rw [hlen]; exact hclaim) hplane rfl] at hbytes
  have hcut : ((List.replicate 16385 (0 : Byte)).take 16384).length = 16385 := by rw [Option.some.inj hbytes, hlen]
  rw [List.length_take, hlen] at hcut
  omega

end Sys2Proof.Machine
end

section
/-! SUPPORT. The registers of a requester's table command, and how a command that is taken at once runs and ends. -/

namespace Sys2Proof.Machine

theorem reqF_key (r : Nat) (f : Fld) : (reqF r f).key = f.key + if r = 2 then 0 else ownStep * (r + 1) * 32 := by
  unfold reqF Fld.key
  split
  · rfl
  · dsimp only; omega

/-- The registers of a requester's set are as distinct as those of BAR0. -/
theorem reqF_key_ne (r : Nat) {f g : Fld} (h : g.key ≠ f.key) : (reqF r g).key ≠ (reqF r f).key := by
  rw [reqF_key, reqF_key]; omega

theorem reqF_w (r : Nat) (f : Fld) : (reqF r f).w = f.w := by
  unfold reqF; split <;> rfl

section
variable (s : State) (r : Nat)

theorem getF_setF_reqF_ne {f g : Fld} (v : Nat) (h : g.key ≠ f.key) :
    (s.setF (reqF r f) v).getF (reqF r g) = s.getF (reqF r g) := getF_setF_ne _ _ _ _ (reqF_key_ne r h)

theorem getF_setF_reqF_same (f : Fld) (v : Nat) : (s.setF (reqF r f) v).getF (reqF r f) = v % 2 ^ f.w := by
  rw [getF_setF_same, reqF_w]

theorem getF_setB_reqF_ne {f g : Fld} (b : Bool) (h : g.key ≠ f.key) :
    (s.setB (reqF r f) b).getF (reqF r g) = s.getF (reqF r g) := getF_setB_ne _ _ _ _ (reqF_key_ne r h)

theorem entry_of_tables {s t : State} (h : t.tables = s.tables) (c i : Nat) : t.entry c i = s.entry c i := by
  unfold State.entry; rw [h]

/-! ### TBL_DATA -/

/-- The numbers `d k` of 32 bits, lowest first, as one number. -/
theorem foldl_words (v n : Nat) :
    (List.range n).foldl (fun a k => a + bits v (32 * k) 32 % 2 ^ 32 * 2 ^ (32 * k)) 0 = v % 2 ^ (32 * n) := by
  induction n with
  | zero => simp [Nat.mod_one]
  | succ n ih =>
    rw [List.range_succ, List.foldl_append, ih, List.foldl_cons, List.foldl_nil]
    unfold bits
    rw [Nat.mod_mod, show 32 * (n + 1) = 32 * n + 32 by omega, Nat.pow_add, Nat.mod_mul, Nat.mul_comm (2 ^ (32 * n))]

theorem tblData_key_ne {j k : Nat} (h : j ≠ k) : (F.TBL_DATA_DATA j).key ≠ (F.TBL_DATA_DATA k).key := by
  simp only [Fld.key]; omega

/-- The first `n` words of TBL_DATA after they were written, lowest first. -/
theorem getF_writeWords (v n j : Nat) :
    (s.forN n (fun k s => s.setF (reqF r (F.TBL_DATA_DATA k)) (bits v (32 * k) 32))).getF (reqF r (F.TBL_DATA_DATA j))
      = if j < n then bits v (32 * j) 32 % 2 ^ 32 else s.getF (reqF r (F.TBL_DATA_DATA j)) := by
  induction n with
  | zero => rfl
  | succ n ih =>
    rw [forN_succ]
    by_cases hj : j = n
    · rw [hj, getF_setF_reqF_same, if_pos (by omega)]
    · rw [getF_setF_reqF_ne _ _ _ (tblData_key_ne hj), ih]
      simp only [show (j < n + 1) = (j < n) by simp; omega]

theorem tblData_setTblData (v : Nat) : (s.setTblData r v).tblData r = v % 2 ^ 256 := by
  rw [← foldl_words v 8]
  unfold State.tblData State.setTblData
  refine List.foldl_ext _ _ _ fun a k hk => ?_
  rw [getF_writeWords, if_pos (List.mem_range.1 hk)]

/-- TBL_DATA is read from its eight words alone. -/
theorem tblData_congr {s t : State} (h : ∀ k, t.getF (reqF r (F.TBL_DATA_DATA k)) = s.getF (reqF r (F.TBL_DATA_DATA k))) :
    t.tblData r = s.tblData r := by
  unfold State.tblData
  exact List.foldl_ext _ _ _ fun a k _ => by rw [h]

theorem setTblData_tables (v : Nat) : (s.setTblData r v).tables = s.tables :=
  forN_keeps s (fun t => t.tables = s.tables) 8 _ (fun _ _ h => h) rfl

/-! ### The course of a command -/

/-- A command that is taken at once runs behind the write of LAST_OP. -/
theorem tblCmd_ends {s : State} {r op st : Nat} {run : State → Option Nat × State} {u : State} (h : s.CanCommand r)
    (hrun : run (s.setF (reqF r F.TBL_STAT_LAST_OP) op) = (some st, u)) : s.tblCmd r op run = u.tblEnd r st := by
  obtain ⟨-, hserving, hup, hbusy⟩ := h
  simp [State.tblCmd, State.busGate, hup, hbusy, hrun, hserving]

theorem min_requester {s : State} {r : Nat} (h : s.CanCommand r) : min r 2 = r := by have := h.1; omega

theorem tblEnd_tables (st : Nat) : (s.tblEnd r st).tables = s.tables := by
  unfold State.tblEnd
  split
  · rw [State.tally, tallyN_eq]; rfl
  · rfl

theorem tblEnd_regs (st : Nat) : (s.tblEnd r st).regs = (s.setF (reqF r F.TBL_STAT_STATUS) st).regs := by
  unfold State.tblEnd
  split
  · exact tally_regs _ _
  · rfl

theorem status_tblEnd {st : Nat} (hst : st < 16) : (s.tblEnd r st).getF (reqF r F.TBL_STAT_STATUS) = st := by
  rw [getF_of_regs (tblEnd_regs s r st), getF_setF_reqF_same]
  exact Nat.mod_eq_of_lt hst

theorem getF_tblEnd_ne (st : Nat) {f : Fld} (h : f.key ≠ F.TBL_STAT_STATUS.key) :
    (s.tblEnd r st).getF (reqF r f) = s.getF (reqF r f) := by
  rw [getF_of_regs (tblEnd_regs s r st), getF_setF_reqF_ne _ _ _ h]

theorem tblData_tblEnd (st : Nat) : (s.tblEnd r st).tblData r = s.tblData r :=
  tblData_congr r fun k => getF_tblEnd_ne s r st (by simp only [Fld.key]; omega)

/-- The write of LAST_OP changes neither the address nor the data of the command. -/
theorem tblAddr_lastOp (op : Nat) : (s.setF (reqF r F.TBL_STAT_LAST_OP) op).tblAddr r = s.tblAddr r := by
  unfold State.tblAddr
  rw [getF_setF_reqF_ne _ _ _ (by decide), getF_setF_reqF_ne _ _ _ (by decide), getF_setF_reqF_ne _ _ _ (by decide)]

theorem tblData_result (i : Nat) : (s.setF (reqF r F.TBL_RESULT_INDEX) i).tblData r = s.tblData r :=
  tblData_congr r fun k => getF_setF_reqF_ne _ _ _ (by simp only [Fld.key]; omega)

theorem tblData_lastOp (op : Nat) : (s.setF (reqF r F.TBL_STAT_LAST_OP) op).tblData r = s.tblData r :=
  tblData_congr r fun k => getF_setF_reqF_ne _ _ _ (by simp only [Fld.key]; omega)

/-- The write of LAST_OP changes no field outside the requesters' sets. -/
theorem getF_lastOp {g : Fld} (hoff : g.off < 0x40000 ∨ 0x40100 ≤ g.off ∧ g.off < ownStep) (hlo : g.lo < 32)
    (op : Nat) : (s.setF (reqF r F.TBL_STAT_LAST_OP) op).getF g = s.getF g := by
  have hown : 0x40100 ≤ ownStep := by decide
  refine getF_setF_ne _ _ _ _ ?_
  rw [reqF_key]
  simp only [Fld.key]
  split
  · omega
  · rw [Nat.mul_add]; omega

theorem ethPresent_lastOp (op p : Nat) : (s.setF (reqF r F.TBL_STAT_LAST_OP) op).ethPresent p = s.ethPresent p :=
  ethPresent_congr (getF_lastOp s r (.inl (by decide)) (by decide) op) (getF_lastOp s r (.inl (by decide)) (by decide) op) p

theorem rodPresent_lastOp (op n : Nat) : (s.setF (reqF r F.TBL_STAT_LAST_OP) op).rodPresent n = s.rodPresent n := by
  by_cases hn : n < 128
  · exact rodPresent_congr (getF_lastOp s r (.inl (by dsimp only; omega)) (Nat.zero_lt_succ _) op)
      (getF_lastOp s r (.inl (by dsimp only; omega)) (Nat.zero_lt_succ _) op)
  · simp [State.rodPresent, hn]

theorem tableSize_lastOp (op code : Nat) : (s.setF (reqF r F.TBL_STAT_LAST_OP) op).tableSize code = s.tableSize code := by
  have hok := getF_lastOp s r (g := F.CRY_CFG_EXT_OK) (.inr (by decide)) (by decide) op
  have hsize := getF_lastOp s r (g := F.CRY_CFG_EXT_SIZE) (.inr (by decide)) (by decide) op
  unfold State.tableSize State.isF
  rw [hok, hsize]
  rfl

theorem entryThere_lastOp (op code i : Nat) :
    (s.setF (reqF r F.TBL_STAT_LAST_OP) op).entryThere code i = s.entryThere code i := by
  unfold State.entryThere
  rw [tableSize_lastOp, rodPresent_lastOp, ethPresent_lastOp]

theorem seenEntry_lastOp (op code i : Nat) :
    (s.setF (reqF r F.TBL_STAT_LAST_OP) op).seenEntry code i = s.seenEntry code i := by
  unfold State.seenEntry State.portMask
  simp only [ethPresent_lastOp]
  rfl

/-- The keyed lookups read the tables and the data plane alone. -/
theorem findKey_congr {s t : State} (htables : t.tables = s.tables) (hdp : t.dp = s.dp) (code key : Nat) :
    t.findKey code key = s.findKey code key := by
  unfold State.findKey State.bucketOf State.overflowSize State.poisoned State.entry
  rw [htables, hdp]

theorem freeWay_congr {s t : State} (htables : t.tables = s.tables) (hdp : t.dp = s.dp) (code key : Nat) :
    t.freeWay code key = s.freeWay code key := by
  unfold State.freeWay State.bucketOf State.overflowSize State.poisoned State.entry
  rw [htables, hdp]

theorem findKey_setF (f : Fld) (v code key : Nat) : (s.setF f v).findKey code key = s.findKey code key :=
  findKey_congr rfl rfl code key

theorem freeWay_setF (f : Fld) (v code key : Nat) : (s.setF f v).freeWay code key = s.freeWay code key :=
  freeWay_congr rfl rfl code key

/-! ### Writing an entry of the MAC table -/

/-- What a write stores in the MAC table is a matter of the written bits alone. -/
theorem storedEntry_mac (t : State) (i old e : Nat) : t.storedEntry tMac i old e = s.storedEntry tMac i old e := by
  simp [State.storedEntry, State.entryKeep]

theorem learnedBy_tables (p : Option Nat) (up : Bool) : (s.learnedBy p up).tables = s.tables := by
  unfold State.learnedBy
  cases p with
  | none => rfl
  | some p => dsimp only; split <;> rfl

theorem putEntry_mac_tables (i e : Nat) : (s.putEntry tMac i e).tables = (s.setEntry tMac i e).tables := by
  unfold State.putEntry
  exact (learnedBy_tables _ _ _).trans (learnedBy_tables _ _ _)

/-- What a command leaves in the tables that puts entry `i` of the MAC table and changes no other. -/
theorem entries_of_putEntry {s t : State} {i e : Nat} (h : t.tables = (s.setEntry tMac i e).tables) :
    t.entry tMac i = e ∧ EntriesKept s t (tkey tMac i) := by
  refine ⟨?_, fun c j hne => ?_⟩
  · rw [entry_of_tables h, entry_setEntry_same]
  · rw [entry_of_tables h, entry_setEntry_ne _ _ _ _ _ _ hne]

end
end Sys2Proof.Machine
end

section
/-! PROOF of TableCommandsTakeEffect. Each command is run on the state behind the write of LAST_OP, which changes no table
and neither the address nor the data of the command. -/

namespace Sys2Proof.Machine

section
variable (s : State) (r : Nat)

theorem poisoned_nil (h : s.dp.poison = []) (code i : Nat) : s.poisoned code i = false := by
  rw [State.poisoned, h]; rfl

/-- An entry of the MAC table has one part. -/
theorem tblAddr_mac {i : Nat} (hcode : (s.tblAddr r).1 = tMac) (hi : (s.tblAddr r).2.1 = i) :
    s.tblAddr r = (tMac, i, 0) := by
  refine Prod.ext hcode (Prod.ext hi ?_)
  unfold State.tblAddr at hcode ⊢
  dsimp only at hcode ⊢
  rw [hcode]
  exact Nat.min_zero _

theorem entryThere_mac {i : Nat} (hi : i < 65536) : s.entryThere tMac i = true := by
  simp [State.entryThere, State.tableSize, hi]

theorem setBits_zero_of_lt {v w : Nat} (h : v < 2 ^ w) : setBits 0 0 w v = v := by
  simp [setBits, bits, Nat.mod_eq_of_lt h]

/-- Nothing ends a command on the MAC table before it acts while no sweep runs and no entry is poisoned. -/
theorem keyedCheck_mac (key : Nat) (change : Bool) (hsweeps : s.dp.sweeps = [] ∨ change = false)
    (hpoison : s.dp.poison = []) : s.keyedCheck r tMac key false change = none := by
  have hsweep : (change && s.sweptByOther r tMac) = false := by
    obtain h | h := hsweeps
    · simp [State.sweptByOther, h]
    · simp [h]
  have hpoisoned : (ways (s.bucketOf tMac key)).any (s.poisoned tMac) = false := by
    simp [List.any_eq_false, poisoned_nil s hpoison]
  unfold State.keyedCheck
  simp [keyedTable, hsweep, State.tableSize, hpoisoned]

/-! ### The commands on a state whose LAST_OP is written -/

/-- READ of part 0 of an entry that is there. -/
theorem tblRead_part0 {code i : Nat} (haddr : s.tblAddr r = (code, i, 0)) (hthere : s.entryThere code i = true)
    (hpoison : s.dp.poison = []) : s.tblRead r false =
      (some stOk,
        (s.setStage r ⟨some (code, i), s.seenEntry code i⟩).setTblData r (bits (s.seenEntry code i) 0 256)) := by
  unfold State.tblRead
  simp [haddr, hthere, poisoned_nil s hpoison]

/-- WRITE of an entry of the MAC table, which has one part. -/
theorem tblWrite_mac {i : Nat} (hcode : (s.tblAddr r).1 = tMac) (hi : (s.tblAddr r).2.1 = i) (hlt : i < 65536)
    (hsweeps : s.dp.sweeps = []) (hstage : (s.stageOf r).tag ≠ some (tMac, i)) :
    s.tblWrite r false = (some stOk, (s.setStage r ⟨some (tMac, i), bits (s.tblData r) 0 128⟩).writeEntry tMac i
      (bits (s.tblData r) 0 128)) := by
  have hdata : setBits 0 0 256 (bits (s.tblData r) 0 128) = bits (s.tblData r) 0 128 :=
    setBits_zero_of_lt ((Nat.mod_lt _ (Nat.two_pow_pos _)).trans (by decide))
  have hsweep : s.sweptByOther r tMac = false := by simp [State.sweptByOther, hsweeps]
  have hn : 8 * min 32 (entryBytes tMac) = 128 := rfl
  have hlast : lastPart tMac = 0 := rfl
  unfold State.tblWrite
  simp only [tblAddr_mac s r hcode hi, hsweep, entryThere_mac s hlt, hn, hstage, hlast, Nat.mul_zero]
  simp [hdata]

/-- INSERT into a free way. -/
theorem tblInsert_free {i e : Nat} {evict : Bool} (hcode : (s.tblAddr r).1 = tMac) (hsweeps : s.dp.sweeps = [])
    (hpoison : s.dp.poison = []) (he : e = s.storedEntry tMac 0 0 (bits (s.tblData r) 0 128))
    (hfind : s.findKey tMac (keyOf tMac e) = none) (hfree : s.freeWay tMac (keyOf tMac e) = some i) :
    s.tblInsert r evict false = (some stOk, (((s.putEntry tMac i e).setF (reqF r F.TBL_RESULT_INDEX) i).setB
      (reqF r F.TBL_STAT_EXISTED) false).setB (reqF r F.TBL_STAT_EVICTED) false) := by
  unfold State.tblInsert
  simp only [hcode, ← he, keyedCheck_mac s r _ _ (.inl hsweeps) hpoison, hfind, hfree]

theorem tblDelete_found {i : Nat} (hcode : (s.tblAddr r).1 = tMac) (hsweeps : s.dp.sweeps = []) (hpoison : s.dp.poison = [])
    (hfind : s.findKey tMac (keyOf tMac (s.tblData r % 2 ^ 64)) = some i) :
    s.tblDelete r false = (some stOk, (s.putEntry tMac i 0).setF (reqF r F.TBL_RESULT_INDEX) i) := by
  unfold State.tblDelete
  simp only [hcode, keyedCheck_mac s r _ _ (.inl hsweeps) hpoison, hfind]

theorem tblDelete_absent (hcode : (s.tblAddr r).1 = tMac) (hsweeps : s.dp.sweeps = []) (hpoison : s.dp.poison = [])
    (hfind : s.findKey tMac (keyOf tMac (s.tblData r % 2 ^ 64)) = none) :
    s.tblDelete r false = (some stNotFound, s) := by
  unfold State.tblDelete
  simp only [hcode, keyedCheck_mac s r _ _ (.inl hsweeps) hpoison, hfind]

theorem tblSearch_found {i : Nat} (hcode : (s.tblAddr r).1 = tMac) (hpoison : s.dp.poison = [])
    (hfind : s.findKey tMac (keyOf tMac (s.tblData r % 2 ^ 64)) = some i) :
    s.tblSearch r false = (some stOk, (s.setTblData r (s.entry tMac i)).setF (reqF r F.TBL_RESULT_INDEX) i) := by
  unfold State.tblSearch
  simp only [hcode, keyedCheck_mac s r _ _ (.inr rfl) hpoison, hfind]

end

/-! ### The commands -/

section
variable {s : State} {r : Nat}

theorem doTblNop_taken (h : s.CanCommand r) : doTblNop r s =
    ((s.setF (reqF r F.TBL_STAT_LAST_OP) 0).setF (reqF r F.TBL_STAT_STATUS) 0).tally (T.tbl r 0) := by
  unfold doTblNop
  rw [min_requester h]
  exact tblCmd_ends h rfl

theorem doTblNop_busy (hserving : s.serving = true) (hbusy : s.isF F.TBL_STAT_BUSY = true) :
    doTblNop 2 s = (s.setB F.TBL_STAT_BUSY_HIT true).tally (T.tbl 2 1) := by
  simp [doTblNop, State.tblCmd, State.requesterUp, State.busGate, hserving, reqF, hbusy]

/-- READ leaves the entry in TBL_DATA. -/
theorem doTblRead_part0 (h : s.CanCommand r) (hcode : (s.tblAddr r).1 ≠ tTime) (hpart : (s.tblAddr r).2.2 = 0)
    (hthere : s.entryThere (s.tblAddr r).1 (s.tblAddr r).2.1 = true) (hpoison : s.dp.poison = []) (ce : Nat) :
    (doTblRead r false ce s).getF (reqF r F.TBL_STAT_STATUS) = 0
      ∧ (doTblRead r false ce s).tblData r = s.seenEntry (s.tblAddr r).1 (s.tblAddr r).2.1 % 2 ^ 256
      ∧ (doTblRead r false ce s).tables = s.tables := by
  generalize hcode' : (s.tblAddr r).1 = code at hcode hthere ⊢
  generalize hi : (s.tblAddr r).2.1 = i at hthere ⊢
  have haddr : (s.setF (reqF r F.TBL_STAT_LAST_OP) 1).tblAddr r = (code, i, 0) :=
    (tblAddr_lastOp s r 1).trans (Prod.ext hcode' (Prod.ext hi hpart))
  have hthere' := (entryThere_lastOp s r 1 code i).trans hthere
  have hseen := seenEntry_lastOp s r 1 code i
  have hcmd := tblCmd_ends (op := 1) h (run := fun s => if (s.tblAddr r).1 = tTime then s.timeRead r
    else (s.tallyN (T.glb 2) ce).tblRead r false) (st := stOk) (u := (((s.setF (reqF r F.TBL_STAT_LAST_OP) 1).tallyN
      (T.glb 2) ce).setStage r ⟨some (code, i), s.seenEntry code i⟩).setTblData r (bits (s.seenEntry code i) 0 256)) (by
    rw [if_neg (by rw [haddr]; exact hcode), tallyN_eq, ← hseen]
    exact tblRead_part0 { s.setF (reqF r F.TBL_STAT_LAST_OP) 1 with tly := _ } r haddr hthere' hpoison)
  unfold doTblRead
  rw [min_requester h, hcmd]
  refine ⟨status_tblEnd _ r (by decide), ?_, ?_⟩
  · rw [tblData_tblEnd, tblData_setTblData]
    simp [bits]
  · rw [tblEnd_tables, setTblData_tables, tallyN_eq]
    rfl

/-- WRITE stores the entry as R12 and R14 cut it. -/
theorem doTblWrite_mac {i : Nat} (h : s.CanCommand r) (hcode : (s.tblAddr r).1 = tMac) (hi : (s.tblAddr r).2.1 = i)
    (hlt : i < 65536) (hsweeps : s.dp.sweeps = []) (hstage : (s.stageOf r).tag ≠ some (tMac, i)) :
    (doTblWrite r false s).getF (reqF r F.TBL_STAT_STATUS) = 0 ∧ (doTblWrite r false s).tables =
      (s.setEntry tMac i (s.storedEntry tMac i (s.entry tMac i) (bits (s.tblData r) 0 128))).tables := by
  have haddr := tblAddr_lastOp s r 2
  have hrun := tblWrite_mac (s.setF (reqF r F.TBL_STAT_LAST_OP) 2) r (by rw [haddr, hcode]) (by rw [haddr, hi]) hlt hsweeps
    hstage
  rw [tblData_lastOp] at hrun
  have hcmd := tblCmd_ends (op := 2) h (run := fun s => if (s.tblAddr r).1 = tTime then s.timeWrite r
    else s.tblWrite r false) ((if_neg (by rw [haddr, hcode]; decide)).trans hrun)
  unfold doTblWrite
  rw [min_requester h, hcmd]
  refine ⟨status_tblEnd _ r (by decide), ?_⟩
  rw [tblEnd_tables, State.writeEntry, putEntry_mac_tables, storedEntry_mac s]
  rfl

/-- INSERT into a free way. -/
theorem doInsert_free {i e : Nat} {evict : Bool} (h : s.CanCommand r) (hcode : (s.tblAddr r).1 = tMac)
    (hsweeps : s.dp.sweeps = []) (hpoison : s.dp.poison = [])
    (he : e = s.storedEntry tMac 0 0 (bits (s.tblData r) 0 128)) (hfind : s.findKey tMac (keyOf tMac e) = none)
    (hfree : s.freeWay tMac (keyOf tMac e) = some i) :
    (doInsert r evict false s).tables = (s.setEntry tMac i e).tables
      ∧ (doInsert r evict false s).getF (reqF r F.TBL_RESULT_INDEX) = i % 2 ^ F.TBL_RESULT_INDEX.w
      ∧ (doInsert r evict false s).getF (reqF r F.TBL_STAT_STATUS) = 0
      ∧ (doInsert r evict false s).isF (reqF r F.TBL_STAT_EXISTED) = false
      ∧ (doInsert r evict false s).isF (reqF r F.TBL_STAT_EVICTED) = false := by
  have hrun := tblInsert_free (s.setF (reqF r F.TBL_STAT_LAST_OP) 3) r (i := i) (e := e) (evict := evict)
    (by rw [tblAddr_lastOp, hcode]) hsweeps hpoison (by rw [tblData_lastOp, storedEntry_mac s]; exact he)
    (by rw [findKey_setF, hfind])
    (by rw [freeWay_setF, hfree])
  unfold doInsert
  rw [min_requester h, tblCmd_ends h (run := fun s => s.tblInsert r evict false) hrun]
  refine ⟨(tblEnd_tables _ r _).trans (putEntry_mac_tables _ i e), ?_, status_tblEnd _ r (by decide), ?_, ?_⟩
  · rw [getF_tblEnd_ne _ _ _ (by decide), getF_setB_reqF_ne _ _ _ (by decide), getF_setB_reqF_ne _ _ _ (by decide),
      getF_setF_reqF_same]
  · rw [State.isF, getF_tblEnd_ne _ _ _ (by decide), getF_setB_reqF_ne _ _ _ (by decide)]
    exact isF_setB_same _ _ _ (reqF_w r _)
  · rw [State.isF, getF_tblEnd_ne _ _ _ (by decide)]
    exact isF_setB_same _ _ _ (reqF_w r _)

theorem doDelete_found {i : Nat} (h : s.CanCommand r) (hcode : (s.tblAddr r).1 = tMac) (hsweeps : s.dp.sweeps = [])
    (hpoison : s.dp.poison = []) (hfind : s.findKey tMac (keyOf tMac (s.tblData r % 2 ^ 64)) = some i) :
    (doDelete r false s).tables = (s.setEntry tMac i 0).tables
      ∧ (doDelete r false s).getF (reqF r F.TBL_STAT_STATUS) = 0 := by
  have hrun := tblDelete_found (s.setF (reqF r F.TBL_STAT_LAST_OP) 4) r (i := i) (by rw [tblAddr_lastOp, hcode])
    hsweeps hpoison (by rw [tblData_lastOp, findKey_setF, hfind])
  unfold doDelete
  rw [min_requester h, tblCmd_ends h (run := fun s => s.tblDelete r false) hrun]
  exact ⟨(tblEnd_tables _ r _).trans (putEntry_mac_tables _ i 0), status_tblEnd _ r (by decide)⟩

theorem doDelete_absent (h : s.CanCommand r) (hcode : (s.tblAddr r).1 = tMac) (hsweeps : s.dp.sweeps = [])
    (hpoison : s.dp.poison = []) (hfind : s.findKey tMac (keyOf tMac (s.tblData r % 2 ^ 64)) = none) :
    (doDelete r false s).tables = s.tables ∧ (doDelete r false s).getF (reqF r F.TBL_STAT_STATUS) = 2 := by
  have hrun := tblDelete_absent (s.setF (reqF r F.TBL_STAT_LAST_OP) 4) r (by rw [tblAddr_lastOp, hcode]) hsweeps hpoison
    (by rw [tblData_lastOp, findKey_setF, hfind])
  unfold doDelete
  rw [min_requester h, tblCmd_ends h (run := fun s => s.tblDelete r false) hrun]
  exact ⟨tblEnd_tables _ r _, status_tblEnd _ r (by decide)⟩

theorem doSearch_found {i : Nat} (h : s.CanCommand r) (hcode : (s.tblAddr r).1 = tMac) (hpoison : s.dp.poison = [])
    (hfind : s.findKey tMac (keyOf tMac (s.tblData r % 2 ^ 64)) = some i) :
    (doSearch r false s).tables = s.tables ∧ (doSearch r false s).tblData r = s.entry tMac i % 2 ^ 256
      ∧ (doSearch r false s).getF (reqF r F.TBL_RESULT_INDEX) = i % 2 ^ F.TBL_RESULT_INDEX.w
      ∧ (doSearch r false s).getF (reqF r F.TBL_STAT_STATUS) = 0 := by
  have hrun := tblSearch_found (s.setF (reqF r F.TBL_STAT_LAST_OP) 5) r (i := i) (by rw [tblAddr_lastOp, hcode]) hpoison
    (by rw [tblData_lastOp, findKey_setF, hfind])
  unfold doSearch
  rw [min_requester h, tblCmd_ends h (run := fun s => s.tblSearch r false) hrun]
  refine ⟨?_, ?_, ?_, status_tblEnd _ r (by decide)⟩
  · rw [tblEnd_tables, setF_tables, setTblData_tables, setF_tables]
  · rw [tblData_tblEnd, tblData_result, tblData_setTblData]
    rfl
  · rw [getF_tblEnd_ne _ _ _ (by decide), getF_setF_reqF_same]

end

/-- Settles O18: each command runs behind the write of LAST_OP and ends with its status. -/
theorem tableCommandsTakeEffect : Obligations.TableCommandsTakeEffect := by
  unfold Obligations.TableCommandsTakeEffect
  refine ⟨fun s r h => answers rfl (doTblNop_taken h), fun s hserving hbusy => answers rfl (doTblNop_busy hserving hbusy),
    fun s r h hcode hpart hthere hpoison ce => ⟨_, rfl, doTblRead_part0 h hcode hpart hthere hpoison ce⟩,
    fun s r i h hcode hi hlt hsweeps hstage => ?_, fun s r i evict e h hcode hsweeps hpoison he hfind hfree => ?_,
    fun s r i h hcode hsweeps hpoison hfind => ?_,
    fun s r h hcode hsweeps hpoison hfind => ⟨_, rfl, doDelete_absent h hcode hsweeps hpoison hfind⟩,
    fun s r i h hcode hpoison hfind => ⟨_, rfl, doSearch_found h hcode hpoison hfind⟩⟩
  · obtain ⟨hstatus, htables⟩ := doTblWrite_mac h hcode hi hlt hsweeps hstage
    obtain ⟨hentry, hkept⟩ := entries_of_putEntry htables
    exact ⟨doTblWrite r false s, rfl, hstatus, hentry, hkept⟩
  · obtain ⟨htables, hrest⟩ := doInsert_free (evict := evict) h hcode hsweeps hpoison he hfind hfree
    obtain ⟨hentry, hkept⟩ := entries_of_putEntry htables
    exact ⟨doInsert r evict false s, rfl, hentry, hkept, hrest⟩
  · obtain ⟨htables, hstatus⟩ := doDelete_found h hcode hsweeps hpoison hfind
    obtain ⟨hentry, hkept⟩ := entries_of_putEntry htables
    exact ⟨doDelete r false s, rfl, hentry, hkept, hstatus⟩

end Sys2Proof.Machine
end

section
/-! PROOF of the refutation of PortsSendAndFollowTheirLists. A swap counts SWAP of its port once, but a frame in progress that
overruns the new list is tallied under the class that the state names for it, and a state may name one that no port has. -/

namespace Sys2Proof.Machine

/-- Port 1 sends a frame of a class 1018, and a list of one entry with every gate closed waits for it with its change time
reached. -/
def frameOfClass1018 : State :=
  let s := (State.reset.setF F.GLB_PRESENT_PORT_PORTS 2).setB (F.SCH_PORT_CFG_GATE_EN 1) true
  { s with dp := { s.dp with
    gatePend := [(1, some ⟨[(1000, 0, 0)], 1000, 0⟩)]
    tx := [(1, some { cls := 1018, ref := { item := 0 }, lenC := 64, express := true })]
    classes := [(qkey 1 1018, { sendLeft := 1 })] } }

/-- The swap and the overrun of the frame both raise the tally with the index of SWAP of port 1:
`T.schClass 1 1018 2 = 0x2A000 + (8 + 1018) * 4 + 2 = 0x2B000 + 9 + 1 = T.sch 1 1`. -/
theorem swap_counts_twice : frameOfClass1018.tallyOf (T.sch 1 1) = 0
    ∧ (doSchSwap 1 frameOfClass1018).tallyOf (T.sch 1 1) = 2 := by
  refine ⟨?_, ?_⟩ <;> decide +kernel

/-- Refutes O25: in its clause on the swap, `Counted s t (T.sch p 1)` fails where the frame in progress on port 1 names class
1018, which no command gives it: its overrun of the new list is tallied under the index of SWAP too, so SWAP goes up by two.
With classes below 8 the two indices differ. -/
theorem not_portsSendAndFollowTheirLists : ¬ Obligations.PortsSendAndFollowTheirLists := by
  unfold Obligations.PortsSendAndFollowTheirLists
  rintro ⟨-, -, -, -, -, -, -, hSwap, -⟩
  obtain ⟨t, ht, -, -, -, -, -, hcount⟩ := hSwap frameOfClass1018 1 ⟨[(1000, 0, 0)], 1000, 0⟩ (by decide) (by decide +kernel)
    (by decide +kernel) (by decide +kernel) (by decide) (by decide)
  obtain rfl : doSchSwap 1 frameOfClass1018 = t := Host.Outcome.next.inj ht
  obtain ⟨hbefore, hafter⟩ := swap_counts_twice
  rw [Counted, hbefore, hafter] at hcount
  exact absurd hcount (by decide)

end Sys2Proof.Machine
end

section
/-! SUPPORT. Rods (chapter 2): what posting an event, and each operation that the rods share, does to a rod, to its queues,
its registers and its tallies. -/

namespace Sys2Proof.Machine

section
variable (s : State) (n : Nat)

/-! ### Reading a state that differs in other parts -/

theorem rod_of_rods {s t : State} (h : t.rods = s.rods) (n : Nat) : t.rod n = s.rod n := by unfold State.rod; rw [h]

theorem queue_of_queues {s t : State} (h : t.dp.queues = s.dp.queues) (p c : Nat) : t.queue p c = s.queue p c := by
  unfold State.queue; rw [h]

theorem item_of_items {s t : State} (h : t.dp.items = s.dp.items) (i : Nat) : t.item i = s.item i := by
  unfold State.item; rw [h]

theorem queue_setQueue_ne {p c p' c' : Nat} (q : List QRef) (h : qkey p' c' ≠ qkey p c) :
    (s.setQueue p c q).queue p' c' = s.queue p' c' := sget_sput_ne _ _ h

@[simp] theorem tally_rods (i : Nat) : (s.tally i).rods = s.rods := by rw [State.tally, tallyN_eq]
@[simp] theorem tally_dp (i : Nat) : (s.tally i).dp = s.dp := by rw [State.tally, tallyN_eq]
@[simp] theorem tally_out (i : Nat) : (s.tally i).out = s.out := by rw [State.tally, tallyN_eq]

@[simp] theorem orF_rods (f : Fld) (b : Nat) : (s.orF f b).rods = s.rods := by rw [orF_eq]
@[simp] theorem orF_dp (f : Fld) (b : Nat) : (s.orF f b).dp = s.dp := by rw [orF_eq]
@[simp] theorem orF_tly (f : Fld) (b : Nat) : (s.orF f b).tly = s.tly := by rw [orF_eq]

@[simp] theorem post_rods (b c p : Nat) : (s.post b c p).rods = s.rods := by rw [post_posted]; rfl
@[simp] theorem post_dp (b c p : Nat) : (s.post b c p).dp = s.dp := by rw [post_posted]; rfl

/-! ### Tallies -/

theorem tallyOf_tally_ne {i j : Nat} (h : j ≠ i) : (s.tally i).tallyOf j = s.tallyOf j := by
  rw [State.tally, tallyOf_tallyN, if_neg (fun e => h e.1)]

theorem tallyOf_of_tly {s t : State} (h : t.tly = s.tly) (j : Nat) : t.tallyOf j = s.tallyOf j := by
  unfold State.tallyOf; rw [h]

/-- The tallies that posting an event may raise: lost events, EVENT frames and triggers that fire too late (R30, R362,
R423). -/
def postTallies : List Nat := [T.glb 3, T.glb 4, T.glb 5, T.rng 5, T.trc 4]

theorem tallyOf_postRaw {j : Nat} (e : Event) (h : j ∉ postTallies) : (s.postRaw e).tallyOf j = s.tallyOf j := by
  simp only [postTallies, List.mem_cons, List.not_mem_nil, or_false, not_or] at h
  obtain ⟨hctl, hsvc, hhost, hrelay, -⟩ := h
  rw [postRaw_eq, (relayEvent_readers _ e).2.2 j hrelay, tallyOf_hostEvent _ e hhost, tallyOf_toSvc _ e hsvc,
    tallyOf_toCtl _ e hctl]

theorem tallyOf_fireTrigger {j : Nat} (k : Nat) (h : j ∉ postTallies) : (s.fireTrigger k).tallyOf j = s.tallyOf j := by
  unfold State.fireTrigger
  split
  · dsimp only
    rw [tallyOf_postRaw _ _ h]
    split <;> rfl
  · exact tallyOf_tally_ne s (fun e => h (by simp [postTallies, e]))

/-- Posting an event raises no tally but those of `postTallies`. -/
theorem tallyOf_post {j : Nat} (b c p : Nat) (h : j ∉ postTallies) : (s.post b c p).tallyOf j = s.tallyOf j := by
  have fire : ∀ (l : List Nat) (t : State), (l.foldl State.fireTrigger t).tallyOf j = t.tallyOf j := by
    intro l
    induction l with
    | nil => exact fun _ => rfl
    | cons k l ih => exact fun t => (ih _).trans (tallyOf_fireTrigger t k h)
  exact (fire _ _).trans (tallyOf_postRaw s _ h)

/-- A tally of a present rod counts. -/
theorem tallyCounts_rod {n m : Nat} (hm : m < 29) (h : s.rodPresent n = true) : s.tallyCounts (T.rod n m) = true := by
  have hn : n < 128 := by simp only [State.rodPresent, Bool.and_eq_true, decide_eq_true_eq] at h; exact h.1.1
  have hunit : T.rod n m / 29 = n := by unfold T.rod; omega
  have hlt : T.rod n m < 29 * 128 := by unfold T.rod; omega
  simp [State.tallyCounts, tallyFamilies, State.unitCounts, hunit, hlt, h]

theorem counted_tally_rod {n m : Nat} (hm : m < 29) (h : s.rodPresent n = true) :
    Counted s (s.tally (T.rod n m)) (T.rod n m) := by
  rw [Counted, State.tally, tallyOf_tallyN, if_pos ⟨rfl, tallyCounts_rod s hm h⟩]

theorem Counted.of_tallyOf {s t u v : State} {i : Nat} (h : Counted s t i) (hs : s.tallyOf i = u.tallyOf i)
    (ht : v.tallyOf i = t.tallyOf i) : Counted u v i := by
  rw [Counted, ht, ← hs]; exact h

theorem rodTally_notMem_postTallies {n m : Nat} (hn : n < 128) (hm : m < 29) : T.rod n m ∉ postTallies := by
  simp [postTallies, T.rod, T.glb, T.rng, T.trc]; omega

/-! ### Rod events (R64) -/

/-- The registers below those of the host bridge are none that posting an event changes. -/
theorem notMem_postFields {f : Fld} (h : f.key < 0x2C0000 * 32) : f.key ∉ postFields.map Fld.key := by
  simp only [postFields, List.map, List.mem_cons, List.not_mem_nil, or_false, not_or]
  refine ⟨?_, ?_, ?_, ?_, ?_, ?_, ?_, ?_⟩ <;> (refine Nat.ne_of_lt (h.trans_le ?_); decide)

@[simp] theorem rodEvt_rods (b : Nat) : (s.rodEvt n b).rods = s.rods := by simp [State.rodEvt]
@[simp] theorem rodEvt_dp (b : Nat) : (s.rodEvt n b).dp = s.dp := by simp [State.rodEvt]

theorem getF_rodEvt_ne {f : Fld} (b : Nat) (hlow : f.key < 0x2C0000 * 32) (hne : f.key ≠ (F.ROD_EVT_FLAGS n).key) :
    (s.rodEvt n b).getF f = s.getF f :=
  (fieldsKept_post _ _ _ _ f (notMem_postFields hlow)).trans (getF_orF_ne s _ f b hne)

/-- The event's flag stands. -/
theorem flag_rodEvt {n b : Nat} (hn : n < 128) (hb : b < 10) :
    bit ((s.rodEvt n b).getF (F.ROD_EVT_FLAGS n)) b = true := by
  have hlow : (F.ROD_EVT_FLAGS n).key < 0x2C0000 * 32 := by simp only [Fld.key]; omega
  rw [State.rodEvt, fieldsKept_post _ _ _ _ _ (notMem_postFields hlow), bit_orF _ _ hb]
  simp

theorem tallyOf_rodEvt {n m : Nat} (b : Nat) (hn : n < 128) (hm : m < 29) :
    (s.rodEvt n b).tallyOf (T.rod n m) = s.tallyOf (T.rod n m) :=
  (tallyOf_post _ _ _ _ (rodTally_notMem_postTallies hn hm)).trans (tallyOf_of_tly (orF_tly s _ b) _)

/-! ### States of a rod (Table 2.7) -/

/-- A state sets the rod's pins and notes the release of its standby pin. -/
@[simp] theorem rod_rodGo (st : Nat) : (s.rodGo n st).rod n = { s.rod n with
    stb := (rodPins st).1, en := (rodPins st).2
    released := if (s.rod n).stb && !(rodPins st).1 then some s.tb.fab else (s.rod n).released } := rod_setRod_same _ _ _

theorem rodState_rodGo {st : Nat} (h : st < 16) : (s.rodGo n st).rodState n = st :=
  (getF_setF_same _ _ st).trans (Nat.mod_eq_of_lt h)

theorem getF_rodGo_ne {f : Fld} (st : Nat) (h : f.key ≠ (F.ROD_STAT_STATE n).key) : (s.rodGo n st).getF f = s.getF f :=
  getF_setF_ne (s.setRod n _) _ f st h

theorem fieldsKept_rodGo (st : Nat) : FieldsKept s (s.rodGo n st) [F.ROD_STAT_STATE n] :=
  fun f hf => getF_rodGo_ne s n st (by simpa using hf)

/-! ### Error counters (R63) -/

/-- Counters below the warning limit raise no event, and the rod is neither warned nor error-passive. -/
theorem errCounts_low {tec rec_ : Nat} (htec : tec < 96) (hrec : rec_ < 96) : s.errCounts n tec rec_ =
    ((((s.setRod n { s.rod n with tec := tec }).setF (F.ROD_ERR_TEC n) tec).setF (F.ROD_ERR_REC n) rec_).setB
      (F.ROD_STAT_ERR_WARN n) false).setB (F.ROD_STAT_ERR_PASSIVE n) false := by
  have hmin : min tec 255 = tec := by omega
  have hmin' : min 255 rec_ = rec_ := by omega
  have h₁ : ¬ 96 ≤ tec := by omega
  have h₂ : ¬ 96 ≤ rec_ := by omega
  have h₃ : ¬ 127 < tec := by omega
  have h₄ : ¬ 127 < rec_ := by omega
  have h₅ : ¬ 255 < tec := by omega
  unfold State.errCounts
  simp [hmin, hmin', h₁, h₂, h₃, h₄, h₅]

/-- The fields of the counters and of the error states of rod `n`. -/
def errFields (n : Nat) : List Fld :=
  [F.ROD_ERR_TEC n, F.ROD_ERR_REC n, F.ROD_STAT_ERR_WARN n, F.ROD_STAT_ERR_PASSIVE n]

/-- Counters below the warning limit change the rod and the fields of its error state alone. -/
theorem errCounts_low_frame {tec rec_ : Nat} (htec : tec < 96) (hrec : rec_ < 96) : s.errCounts n tec rec_ =
      { s with rods := (s.errCounts n tec rec_).rods, regs := (s.errCounts n tec rec_).regs }
    ∧ FieldsKept s (s.errCounts n tec rec_) (errFields n) := by
  rw [errCounts_low s n htec hrec]
  exact ⟨rfl, ((((FieldsKept.refl s _).setF tec (by simp [errFields])).setF rec_ (by simp [errFields])).setB false
    (by simp [errFields])).setB false (by simp [errFields])⟩

/-- Counters below the warning limit show in the registers and in the engine, and the rod is not error-passive. -/
theorem errCounts_low_shows {tec rec_ : Nat} (htec : tec < 96) (hrec : rec_ < 96) :
    (s.errCounts n tec rec_).rod n = { s.rod n with tec := tec } ∧ (s.errCounts n tec rec_).getF (F.ROD_ERR_TEC n) = tec
      ∧ (s.errCounts n tec rec_).getF (F.ROD_ERR_REC n) = rec_
      ∧ (s.errCounts n tec rec_).isF (F.ROD_STAT_ERR_PASSIVE n) = false := by
  rw [errCounts_low s n htec hrec]
  refine ⟨rod_setRod_same _ _ _, ?_, ?_, isF_setB_same _ _ _ rfl⟩
  · rw [getF_setB_ne _ _ _ _ (by simp only [Fld.key]; omega), getF_setB_ne _ _ _ _ (by simp only [Fld.key]; omega),
      getF_setF_ne _ _ _ _ (by simp only [Fld.key]; omega), getF_setF_same]
    exact Nat.mod_eq_of_lt (show tec < 2 ^ 8 by omega)
  · rw [getF_setB_ne _ _ _ _ (by simp only [Fld.key]; omega), getF_setB_ne _ _ _ _ (by simp only [Fld.key]; omega),
      getF_setF_same]
    exact Nat.mod_eq_of_lt (show rec_ < 2 ^ 8 by omega)

/-- Between `s` and `t` the error state of rod `n` may differ: registers other than MODE, pins, the tally of bus-off, and what
posting replaces. What is on its bus, its transmit error count and the data plane do not. -/
structure ErrorStateOnly (s t : State) (n : Nat) : Prop where
  dp : t.dp = s.dp
  tx : (t.rod n).tx = (s.rod n).tx
  tec : (t.rod n).tec = (s.rod n).tec
  mode : t.getF (F.ROD_STAT_MODE n) = s.getF (F.ROD_STAT_MODE n)
  tallies : ∀ m < 13, t.tallyOf (T.rod n m) = s.tallyOf (T.rod n m)

namespace ErrorStateOnly
variable {s t u : State} {n : Nat}

theorem refl (s : State) (n : Nat) : ErrorStateOnly s s n := ⟨rfl, rfl, rfl, rfl, fun _ _ => rfl⟩

theorem trans (h : ErrorStateOnly s t n) (k : ErrorStateOnly t u n) : ErrorStateOnly s u n :=
  ⟨k.dp.trans h.dp, k.tx.trans h.tx, k.tec.trans h.tec, k.mode.trans h.mode,
    fun m hm => (k.tallies m hm).trans (h.tallies m hm)⟩

theorem setF (h : ErrorStateOnly s t n) (f : Fld) (v : Nat) (hne : (F.ROD_STAT_MODE n).key ≠ f.key) :
    ErrorStateOnly s (t.setF f v) n :=
  h.trans ⟨rfl, rfl, rfl, getF_setF_ne t f _ v hne, fun _ _ => rfl⟩

theorem setB (h : ErrorStateOnly s t n) (f : Fld) (b : Bool) (hne : (F.ROD_STAT_MODE n).key ≠ f.key) :
    ErrorStateOnly s (t.setB f b) n := h.setF f _ hne

theorem rodEvt (h : ErrorStateOnly s t n) (hn : n < 128) (b : Nat) : ErrorStateOnly s (t.rodEvt n b) n :=
  have hrod := rod_of_rods (rodEvt_rods t n b) n
  h.trans ⟨rodEvt_dp t n b, by rw [hrod], by rw [hrod],
    getF_rodEvt_ne t n b (by simp only [Fld.key]; omega) (by simp only [Fld.key]; omega),
    fun _ hm => tallyOf_rodEvt t b hn (by omega)⟩

theorem rodGo (h : ErrorStateOnly s t n) (st : Nat) : ErrorStateOnly s (t.rodGo n st) n :=
  h.trans ⟨rfl, by rw [rod_rodGo], by rw [rod_rodGo], getF_rodGo_ne t n st (by simp only [Fld.key]; omega), fun _ _ => rfl⟩

theorem tallyBusOff (h : ErrorStateOnly s t n) : ErrorStateOnly s (t.tally (T.rodBusOff n)) n :=
  have hrod := rod_of_rods (tally_rods t (T.rodBusOff n)) n
  h.trans ⟨tally_dp t _, by rw [hrod], by rw [hrod], getF_of_regs (tally_regs t _) _,
    fun m hm => tallyOf_tally_ne t (by simp only [T.rodBusOff, T.rod]; omega)⟩

theorem busOff (h : ErrorStateOnly s t n) (hn : n < 128) : ErrorStateOnly s (t.busOff n) n := by
  have hoff := ((h.rodGo 4).rodEvt hn 0).tallyBusOff
  unfold State.busOff
  dsimp only
  split
  · exact hoff.rodGo 5
  · exact hoff

end ErrorStateOnly

/-- Storing the counters stores the transmit count and changes the error state alone. -/
theorem errCounts_errorStateOnly {n : Nat} (hn : n < 128) (tec rec_ : Nat) :
    ErrorStateOnly (s.setRod n { s.rod n with tec := tec }) (s.errCounts n tec rec_) n := by
  unfold State.errCounts
  extract_lets rec' _ s₁ s₂ warn passive
  dsimp -zeta only
  extract_lets reached s₃ s₄ s₅
  have h₂ : ErrorStateOnly s₁ s₂ n :=
    ((ErrorStateOnly.refl s₁ n).setF _ _ (by simp only [Fld.key]; omega)).setF _ _ (by simp only [Fld.key]; omega)
  have h₃ : ErrorStateOnly s₁ s₃ n := by
    unfold s₃; split
    · exact h₂.rodEvt hn 2
    · exact h₂
  have h₄ : ErrorStateOnly s₁ s₄ n := by
    unfold s₄; split
    · exact h₃.rodEvt hn 1
    · exact h₃
  have h₅ : ErrorStateOnly s₁ s₅ n :=
    (h₄.setB _ warn (by simp only [Fld.key]; omega)).setB _ passive (by simp only [Fld.key]; omega)
  split
  · exact h₅.busOff hn
  · exact h₅

/-! ### Leaving a queue (R44, R57, R78) -/

@[simp] theorem release_rods (i : Nat) : (s.release i).rods = s.rods := by rw [release_eq]
@[simp] theorem release_regs (i : Nat) : (s.release i).regs = s.regs := by rw [release_eq]
@[simp] theorem release_tly (i : Nat) : (s.release i).tly = s.tly := by rw [release_eq]

theorem dropItem_queues (i : Nat) : (s.dropItem i).dp.queues = s.dp.queues := by
  unfold State.dropItem
  split
  · rfl
  · rw [(testBeads_cases _ i).2]; rfl

/-- A released reference leaves every queue as it is. -/
theorem release_queues (i : Nat) : (s.release i).dp.queues = s.dp.queues := by
  unfold State.release
  split
  · rfl
  · split
    · exact dropItem_queues s i
    · rfl

/-- The last reference releases its item. -/
theorem release_item_last {i : Nat} {it : Item} (h : s.item i = some it) (hrefs : it.refs ≤ 1) :
    (s.release i).item i = none := by
  unfold State.release
  rw [h]
  dsimp only
  rw [if_pos hrefs]
  exact (dropItem_item s i).1

@[simp] theorem txPending_dp : (s.txPending n).dp = s.dp := rfl
@[simp] theorem txPending_rods : (s.txPending n).rods = s.rods := rfl
@[simp] theorem txPending_tly : (s.txPending n).tly = s.tly := rfl

theorem fieldsKept_txPending : FieldsKept s (s.txPending n) [F.ROD_STAT_TX_PENDING n] :=
  (FieldsKept.refl s _).setB _ (List.mem_singleton_self _)

@[simp] theorem rodDrop_rods (q : Nat) (r : QRef) : (s.rodDrop n q r).rods = s.rods := release_rods _ _
@[simp] theorem rodDrop_tly (q : Nat) (r : QRef) : (s.rodDrop n q r).tly = s.tly := release_tly _ _

theorem rodDrop_queue (q : Nat) (r : QRef) :
    (s.rodDrop n q r).queue (64 + n) q = (s.queue (64 + n) q).erase r :=
  (queue_of_queues (release_queues _ r.item) _ _).trans (queue_setQueue_same _ _ _ _)

theorem rodDrop_item_last {q : Nat} {r : QRef} {it : Item} (h : s.item r.item = some it) (hrefs : it.refs ≤ 1) :
    (s.rodDrop n q r).item r.item = none :=
  release_item_last (s.setQueue _ _ _) h hrefs

/-- Between `s` and `t` the queues `qs` of rod `n`, the items, the tallies and TX_PENDING may differ, and no other queue and
field does, nor the rod. -/
structure FlushOnly (s t : State) (n : Nat) (qs : List Nat) : Prop where
  rods : t.rods = s.rods
  fields : FieldsKept s t [F.ROD_STAT_TX_PENDING n]
  queues : ∀ p q, (∀ a ∈ qs, qkey p q ≠ qkey (64 + n) a) → t.queue p q = s.queue p q

namespace FlushOnly
variable {s t u : State} {n : Nat} {qs : List Nat}

theorem refl (s : State) (n : Nat) (qs : List Nat) : FlushOnly s s n qs := ⟨rfl, .refl s _, fun _ _ _ => rfl⟩

theorem trans (h : FlushOnly s t n qs) (k : FlushOnly t u n qs) : FlushOnly s u n qs :=
  ⟨k.rods.trans h.rods, h.fields.trans k.fields, fun p q hq => (k.queues p q hq).trans (h.queues p q hq)⟩

theorem mono {qs' : List Nat} (h : FlushOnly s t n qs) (hqs : qs ⊆ qs') : FlushOnly s t n qs' :=
  ⟨h.rods, h.fields, fun p q hq => h.queues p q fun a ha => hq a (hqs ha)⟩

theorem rod (h : FlushOnly s t n qs) : t.rod n = s.rod n := rod_of_rods h.rods n

end FlushOnly

/-- Flushed items are released and tallied one by one; no queue changes thereby. -/
theorem releaseFlushed_keeps (l : List QRef) (s : State) :
    let t := l.foldl (fun u r => (u.release r.item).tally (T.rodFlushed n)) s
    t.rods = s.rods ∧ t.regs = s.regs ∧ t.dp.queues = s.dp.queues := by
  induction l generalizing s with
  | nil => exact ⟨rfl, rfl, rfl⟩
  | cons r l ih =>
    obtain ⟨hrods, hregs, hqueues⟩ := ih ((s.release r.item).tally (T.rodFlushed n))
    exact ⟨hrods.trans (by simp), hregs.trans (by simp), hqueues.trans (by rw [tally_dp, release_queues])⟩

/-- A flushed queue of a rod with nothing on its bus is empty. -/
theorem flushQueue_idle (a : Nat) (h : (s.rod n).tx = none) :
    FlushOnly s (s.flushQueue n a) n [a] ∧ (s.flushQueue n a).queue (64 + n) a = [] := by
  have hbus : s.onBus n a = none := by rw [State.onBus, h]
  have hleft : (s.queue (64 + n) a).filter (fun r => s.onBus n a == some r) = [] := by simp [hbus]
  unfold State.flushQueue
  dsimp only
  rw [hleft]
  generalize List.filter _ (s.queue (64 + n) a) = out
  obtain ⟨hrods, hregs, hqueues⟩ := releaseFlushed_keeps n out (s.setQueue (64 + n) a [])
  generalize out.foldl _ _ = u at *
  have htx : (u.rod n).tx = none := (congrArg Rod.tx (rod_of_rods hrods n)).trans h
  rw [htx]
  refine ⟨⟨hrods, fun f hf => (fieldsKept_txPending u n f hf).trans (getF_of_regs hregs f), fun p q hq => ?_⟩, ?_⟩
  · exact (queue_of_queues hqueues p q).trans (queue_setQueue_ne s [] (hq a (List.mem_singleton_self a)))
  · exact (queue_of_queues hqueues _ _).trans (queue_setQueue_same s _ _ _)

/-- A flush of a rod with nothing on its bus empties its nine queues. -/
theorem flushRod_idle (h : (s.rod n).tx = none) :
    FlushOnly s (s.flushRod n) n (List.range 9) ∧ ∀ q < 9, (s.flushRod n).queue (64 + n) q = [] := by
  have round : ∀ a t, a < 9 → FlushOnly s t n (List.range 9) → FlushOnly s (t.flushQueue n a) n (List.range 9) :=
    fun a t ha ht => ht.trans ((flushQueue_idle t n a (by rw [ht.rod]; exact h)).1.mono (by simpa using ha))
  have empties : ∀ q < 9, FlushOnly s (s.flushRod n) n (List.range 9) ∧ (s.flushRod n).queue (64 + n) q = [] := by
    intro q hq
    refine forN_reaches (Q := fun t => FlushOnly s t n (List.range 9))
      (P := fun t => FlushOnly s t n (List.range 9) ∧ t.queue (64 + n) q = []) hq (.refl s n _)
      (fun a t ha ht => round a t (by omega) ht) (fun t ht => ?_) (fun a t ha ha' ht => ?_)
    · exact ⟨round q t hq ht, (flushQueue_idle t n q (by rw [ht.rod]; exact h)).2⟩
    · have hne : qkey (64 + n) q ≠ qkey (64 + n) a := by unfold qkey; omega
      refine ⟨round a t ha' ht.1, ((flushQueue_idle t n a (by rw [ht.1.rod]; exact h)).1.queues _ _ ?_).trans ht.2⟩
      simpa using hne
  exact ⟨(empties 0 (by decide)).1, fun q hq => (empties q hq).2⟩

/-- Nothing is dropped while no launch-time item is late. -/
theorem dropLate_none (h : ∀ r ∈ s.queue (64 + n) 8, s.launchLate n r = false) : s.dropLate n = s := by
  have hlate : (s.queue (64 + n) 8).filter (fun r => s.launchLate n r && s.onBus n 8 != some r) = [] := by
    rw [List.filter_eq_nil_iff]
    intro r hr
    simp [h r hr]
  unfold State.dropLate
  rw [hlate]
  rfl

/-! ### On the bus -/

/-- A record on the bus of a rod that is not looped back leaves the device. -/
theorem putOnBus_unlooped (x : RodTx) (h : s.looped n = false) :
    s.putOnBus n x = (s.setRod n { s.rod n with tx := some x }).emit (.rodTx n x.record) := by
  have hloop : (s.setRod n { s.rod n with tx := some x }).looped n = false := by
    rw [State.looped, rod_setRod_same]; exact h
  exact if_neg (by rw [hloop]; decide)

/-- What starts from a queue without a credit shaper: its record is on the bus and leaves the device, and its reference counts
one more attempt. -/
theorem sendRef_starts {q : Nat} {r : QRef} (rec : List Byte) (hloop : s.looped n = false)
    (hshaper : q < 8 → s.getF (F.SCH_RODQ_W0_SHAPER n q) = 0) :
    ((s.sendRef n q r rec).rod n).tx = some ⟨q, { r with attempts := r.attempts + 1 }, rec, false⟩
      ∧ (s.sendRef n q r rec).out = s.out ++ [.rodTx n rec] ∧ (s.sendRef n q r rec).dp.items = s.dp.items := by
  unfold State.sendRef
  extract_lets r' s₁ s₂
  have hfree : s₂ = s₁ := if_neg fun ⟨_, hq, h₁⟩ => absurd ((hshaper hq).symm.trans h₁) (by decide)
  rw [hfree, putOnBus_unlooped s₁ n _ hloop]
  exact ⟨congrArg Rod.tx (rod_setRod_same _ _ _), rfl, rfl⟩

/-! ### Commands (R52, R53, R17) -/

section
variable {s : State} {n op st : Nat} {legal : List Nat} {run : State → Nat × State} {u : State}

/-- A rod is present as before when neither the fuses nor the retirements change. -/
theorem rodPresent_of_fieldsKept {s t : State} {l : List Fld} (h : FieldsKept s t l) {n : Nat}
    (hp : (F.GLB_PRESENT_ROD_RODS (n / 32)).key ∉ l.map Fld.key)
    (hr : (F.GLB_RETIRED_ROD_RODS (n / 32)).key ∉ l.map Fld.key) : t.rodPresent n = s.rodPresent n :=
  rodPresent_congr (h _ hp) (h _ hr)

theorem rodTakes_lt (h : s.RodTakes n) : n < 128 := h.1

theorem rodTakes_present (h : s.RodTakes n) : s.rodPresent n = true := by
  obtain ⟨-, -, hpresent, -⟩ := h
  exact hpresent

theorem rodCmd_taken (h : s.RodTakes n) : s.rodCmd n op legal run =
    (let (st, u) := if legal.contains (s.rodState n) then run (s.setF (F.ROD_CMD_STAT_LAST_OP n) op)
        else (stReject, s.setF (F.ROD_CMD_STAT_LAST_OP n) op)
     (if st = stReject then u.tally (T.rodStateReject n) else u).setF (F.ROD_CMD_STAT_STATUS n) st) := by
  obtain ⟨-, hserving, hpresent, hbusy⟩ := h
  have hstate : (s.setF (F.ROD_CMD_STAT_LAST_OP n) op).rodState n = s.rodState n :=
    getF_setF_ne _ _ _ _ (by simp only [Fld.key]; omega)
  simp only [State.rodCmd, State.busGate, hserving, hpresent, hbusy, hstate]
  rfl

/-- A command in one of its states runs behind the write of LAST_OP and ends with status OK. -/
theorem rodCmd_runs (h : s.RodTakes n) (hlegal : legal.contains (s.rodState n) = true)
    (hrun : run (s.setF (F.ROD_CMD_STAT_LAST_OP n) op) = (stOk, u)) :
    s.rodCmd n op legal run = u.setF (F.ROD_CMD_STAT_STATUS n) 0 := by
  rw [rodCmd_taken h, if_pos hlegal, hrun]
  rfl

/-- A command outside its states is rejected and tallied. -/
theorem rodCmd_rejected (h : s.RodTakes n) (hlegal : legal.contains (s.rodState n) = false) :
    s.rodCmd n op legal run = ((s.setF (F.ROD_CMD_STAT_LAST_OP n) op).tally (T.rodStateReject n)).setF
      (F.ROD_CMD_STAT_STATUS n) 4 := by
  rw [rodCmd_taken h, hlegal]
  rfl

/-- A command to a busy rod is discarded. -/
theorem rodCmd_busy (hserving : s.serving = true) (hpresent : s.rodPresent n = true)
    (hbusy : s.isF (F.ROD_CMD_STAT_BUSY n) = true) :
    s.rodCmd n op legal run = (s.setB (F.ROD_CMD_STAT_BUSY_HIT n) true).tally (T.rodBusy n) := by
  simp [State.rodCmd, State.busGate, hserving, hpresent, hbusy]

end

end
end Sys2Proof.Machine
end

section
/-! PROOF of RodCommandWhileBusyIsDiscarded. -/

namespace Sys2Proof.Machine

/-- Settles O27: each of the eight commands is a rod command, and a rod command meets BUSY first. -/
theorem rodCommandWhileBusyIsDiscarded : Obligations.RodCommandWhileBusyIsDiscarded := by
  unfold Obligations.RodCommandWhileBusyIsDiscarded
  intro s n arg rx c _ hserving hpresent hbusy hc
  simp only [List.mem_cons, List.not_mem_nil, or_false] at hc
  obtain rfl | rfl | rfl | rfl | rfl | rfl | rfl | rfl := hc <;>
    exact answers rfl (rodCmd_busy hserving hpresent hbusy)

end Sys2Proof.Machine
end

section
/-! PROOF of RodCommandsMoveTheRod. Each command is run on the state behind the write of LAST_OP, which no command reads. -/

namespace Sys2Proof.Machine

section
variable {s : State} {n : Nat}

/-! ### Behind the commands -/

/-- A rod in a CAN mode without PWM starts: it is INTEGRATING with its registers latched, its prescaler clamped and its
transceiver on (R54, R60). -/
theorem rodStart_can (hn : n < 128) (hmode : s.rodMode n ≤ 2) (hpwm : s.isF (F.ROD_CTL_PWM_EN n) = false) :
    ∃ t, s.rodStart n = some t ∧ t.rodState n = 2 ∧ ((t.rod n).latch).isSome = true ∧ (t.rod n).stb = false
      ∧ (t.rod n).en = true ∧ t.getF (F.ROD_NBT_BRP n) = clampBrp (s.getF (F.ROD_NBT_BRP n))
        (quanta (s.getF (F.ROD_NBT_TSEG1 n)) (s.getF (F.ROD_NBT_TSEG2 n))) 160 % 2 ^ 8 := by
  unfold State.rodStart
  extract_lets mode nbrp dbrp nq dq can nbrp' dbrp' int frac slow pwm raised s₁ s₂ s₃ base latch _ s₄
  have hcan : can = true := decide_eq_true hmode
  have hslow : slow = true := by simp [slow, hcan]
  have hoff : ¬ (pwm && s.getF (F.ROD_PWM_PWMS n) + s.getF (F.ROD_PWM_PWML n) != (dbrp' + 1) * dq) = true := by
    simp [pwm, hpwm]
  have hbrp : s₂.getF (F.ROD_NBT_BRP n) = clampBrp nbrp nq 160 % 2 ^ 8 := by
    have h₁ : s₁.getF (F.ROD_NBT_BRP n) = nbrp' % 2 ^ 8 :=
      (getF_setF_ne _ _ _ _ (by simp only [Fld.key]; omega)).trans (getF_setF_same _ _ _)
    simp only [s₂, hslow, if_true, h₁, nbrp', hcan]
  have hbrp' : s₃.getF (F.ROD_NBT_BRP n) = s₂.getF (F.ROD_NBT_BRP n) := by
    unfold s₃; split
    · exact getF_rodEvt_ne _ _ _ (by simp only [Fld.key]; omega) (by simp only [Fld.key]; omega)
    · rfl
  rw [if_neg hoff]
  refine ⟨s₄.rodGo n 2, rfl, rodState_rodGo _ _ (by decide), ?_, ?_, ?_, ?_⟩
  · rw [rod_rodGo, rod_setRod_same]; rfl
  · rw [rod_rodGo]; rfl
  · rw [rod_rodGo]; rfl
  · exact (getF_rodGo_ne s₄ n 2 (by simp only [Fld.key]; omega)).trans (hbrp'.trans hbrp)

/-- A rod that sends nothing and expects no response stops at once, with its queues empty (R56). -/
theorem doStop_idle (h : s.RodTakes n) (hstate : s.rodState n = 3) (htx : (s.rod n).tx = none)
    (hwait : (s.rod n).linWait = none) :
    ∃ u, FlushOnly (s.setF (F.ROD_CMD_STAT_LAST_OP n) 3) u n (List.range 9) ∧ (∀ q < 9, u.queue (64 + n) q = [])
      ∧ doStop n false s = (u.rodGo n 1).setF (F.ROD_CMD_STAT_STATUS n) 0 := by
  obtain ⟨honly, hempty⟩ := flushRod_idle (s.setF (F.ROD_CMD_STAT_LAST_OP n) 3) n htx
  refine ⟨_, honly, hempty, rodCmd_runs h (by rw [hstate]; decide) ?_⟩
  have hrod : ((s.setF (F.ROD_CMD_STAT_LAST_OP n) 3).flushRod n).rod n = s.rod n := honly.rod
  simp [hrod, htx, hwait]

/-- With a frame being received the rod stays in STOPPING, and BUSY stands (R56). -/
theorem doStop_receiving (h : s.RodTakes n) (hstate : s.rodState n = 3) : ∃ u, doStop n true s =
    ((State.rodGo u n 6).setB (F.ROD_CMD_STAT_BUSY n) true).setF (F.ROD_CMD_STAT_STATUS n) 0 :=
  ⟨(s.setF (F.ROD_CMD_STAT_LAST_OP n) 3).flushRod n, rodCmd_runs h (by rw [hstate]; decide) (by simp)⟩

theorem anyState_contains {st : Nat} (h₁ : 1 ≤ st) (h₈ : st ≤ 8) : anyState.contains st = true := by
  simp [anyState]; omega

/-- FLUSH of one queue (R78). -/
theorem doFlush_one {a : Nat} (h : s.RodTakes n) (h₁ : 1 ≤ s.rodState n) (h₈ : s.rodState n ≤ 8) (ha : a < 9) :
    doFlush n a s = ((s.setF (F.ROD_CMD_STAT_LAST_OP n) 5).flushQueue n a).setF (F.ROD_CMD_STAT_STATUS n) 0 := by
  have hmin : min 9 (a % 16) = a := by omega
  exact rodCmd_runs h (anyState_contains h₁ h₈) (by simp only [hmin, if_neg (Nat.ne_of_lt ha)])

/-- A command that takes the rod from its state to state `st` alone (Table 2.8). -/
theorem rodCmd_goes {op st : Nat} (h : s.RodTakes n) (hst : st < 16) {legal : List Nat}
    (hlegal : legal.contains (s.rodState n) = true) :
    let t := s.rodCmd n op legal (fun s => (stOk, s.rodGo n st))
    OnlyFields { s with rods := t.rods } t [F.ROD_CMD_STAT_LAST_OP n, F.ROD_STAT_STATE n, F.ROD_CMD_STAT_STATUS n]
      ∧ t.rodState n = st ∧ t.getF (F.ROD_CMD_STAT_STATUS n) = 0
      ∧ (t.rod n).stb = (rodPins st).1 ∧ (t.rod n).en = (rodPins st).2 := by
  intro t
  have e : t = ((s.setF (F.ROD_CMD_STAT_LAST_OP n) op).rodGo n st).setF (F.ROD_CMD_STAT_STATUS n) 0 :=
    rodCmd_runs h hlegal rfl
  clear_value t
  subst e
  refine ⟨⟨rfl, ?_⟩, ?_, getF_setF_same _ _ _, ?_, ?_⟩
  · exact (((FieldsKept.refl s _).setF op (by simp)).trans ((fieldsKept_rodGo _ n st).mono (by simp))).setF 0 (by simp)
  · exact (getF_setF_ne _ _ _ _ (by simp only [Fld.key]; omega)).trans (rodState_rodGo _ n hst)
  · exact congrArg Rod.stb (rod_rodGo _ n st)
  · exact congrArg Rod.en (rod_rodGo _ n st)

end

/-- Settles O28: every command that is taken runs behind the write of LAST_OP and ends with its status. -/
theorem rodCommandsMoveTheRod : Obligations.RodCommandsMoveTheRod := by
  unfold Obligations.RodCommandsMoveTheRod
  refine ⟨?_, ?_, ?_, ?_, ?_, ?_, ?_, ?_, ?_, ?_⟩
  · intro s n h h₁ h₈
    exact answers rfl (rodCmd_runs h (anyState_contains h₁ h₈) rfl)
  · intro s n arg h hstate
    refine ⟨_, answers rfl (rodCmd_runs h (by rw [hstate]; decide) rfl), ?_, ?_, getF_setF_same _ _ _⟩
    · exact (((OnlyFields.refl s _).setF _ (by simp)).setF _ (by simp)).setF _ (by simp)
    · refine (getF_setF_ne _ _ _ _ (by simp only [Fld.key]; omega)).trans ((getF_setF_same _ _ _).trans ?_)
      exact Nat.mod_eq_of_lt (show min 4 (arg % 16) < 2 ^ 3 by omega)
  · intro s n arg h hstate
    refine ⟨_, answers rfl (rodCmd_rejected h (by rw [hstate]; decide)), ⟨?_, ?_⟩, getF_setF_same _ _ _, ?_⟩
    · rw [State.tally, tallyN_eq]; rfl
    · exact (((FieldsKept.refl s _).setF 1 (by simp)).of_regs (tally_regs _ _)).setF 4 (by simp)
    · have hpresent : (s.setF (F.ROD_CMD_STAT_LAST_OP n) 1).rodPresent n = true :=
        (rodPresent_of_fieldsKept ((FieldsKept.refl s [F.ROD_CMD_STAT_LAST_OP n]).setF 1 (by simp))
          (by simp [Fld.key]; omega) (by simp [Fld.key]; omega)).trans (rodTakes_present h)
      exact counted_tally_rod _ (m := 28) (by decide) hpresent
  · intro s n h hstate hmode hpwm
    obtain ⟨t, ht, hstate', hlatch, hstb, hen, hbrp⟩ := rodStart_can (s := s.setF (F.ROD_CMD_STAT_LAST_OP n) 2)
      (rodTakes_lt h)
      (by rwa [State.rodMode, getF_setF_ne _ _ _ _ (by simp only [Fld.key]; omega)])
      (by rwa [isF_setF_ne _ _ _ _ (by simp only [Fld.key]; omega)])
    refine ⟨_, answers rfl (rodCmd_runs h (by rw [hstate]; decide) (u := t) (by rw [ht])), ?_, getF_setF_same _ _ _, hlatch,
      hstb, hen, ?_⟩
    · exact (getF_setF_ne _ _ _ _ (by simp only [Fld.key]; omega)).trans hstate'
    · rw [getF_setF_ne _ _ _ _ (by simp only [Fld.key]; omega), hbrp]
      simp (disch := (simp only [Fld.key]; omega)) only [getF_setF_ne]
      rfl
  · intro s n h hstate htx hwait
    obtain ⟨u, honly, hempty, hstop⟩ := doStop_idle h hstate htx hwait
    refine ⟨_, answers rfl hstop, ?_, getF_setF_same _ _ _, hempty, fun p hp q hq => ?_⟩
    · exact (getF_setF_ne _ _ _ _ (by simp only [Fld.key]; omega)).trans (rodState_rodGo _ n (by decide))
    · exact honly.queues p q fun a _ => by unfold qkey; omega
  · intro s n h hstate
    obtain ⟨u, hstop⟩ := doStop_receiving h hstate
    refine ⟨_, answers rfl hstop, ?_, ?_, getF_setF_same _ _ _⟩
    · rw [State.rodState, getF_setF_ne _ _ _ _ (by simp only [Fld.key]; omega),
        getF_setB_ne _ _ _ _ (by simp only [Fld.key]; omega)]
      exact rodState_rodGo _ n (by decide)
    · rw [isF_setF_ne _ _ _ _ (by simp only [Fld.key]; omega)]
      exact isF_setB_same _ _ _ rfl
  · intro s n h hstate
    obtain ⟨honly, hstate', hstatus, -⟩ := rodCmd_goes (op := 4) (st := 5) h (by decide) (legal := [4]) (by rw [hstate]; decide)
    exact ⟨doRecover n s, rfl, honly, hstate', hstatus⟩
  · intro s n a h h₁ h₈ ha htx
    obtain ⟨honly, hempty⟩ := flushQueue_idle (s.setF (F.ROD_CMD_STAT_LAST_OP n) 5) n a htx
    refine ⟨_, answers rfl (doFlush_one h h₁ h₈ ha), hempty, ?_, fun q hq hne => ?_, getF_setF_same _ _ _⟩
    · rw [State.rodState, getF_setF_ne _ _ _ _ (by simp only [Fld.key]; omega), honly.fields _ (by simp [Fld.key]),
        getF_setF_ne _ _ _ _ (by simp only [Fld.key]; omega)]
      rfl
    · exact honly.queues _ q (by simp [qkey, hne])
  · intro s n h hstate
    obtain ⟨-, hstate', hstatus, hstb, hen⟩ := rodCmd_goes (op := 6) (st := 7) h (by decide) (legal := [1])
      (by rw [hstate]; decide)
    exact ⟨doRodStandby n s, rfl, hstate', hstb, hen, hstatus⟩
  · intro s n h hstate
    obtain ⟨-, hstate', hstatus, hstb, -⟩ := rodCmd_goes (op := 7) (st := 1) h (by decide) (legal := [7])
      (by rw [hstate]; decide)
    exact ⟨doRodWake n s, rfl, hstate', hstb, hstatus⟩

end Sys2Proof.Machine
end

section
/-! PROOF of RodsFollowTheirBusAndReset. Resets are followed through the flush of the rod's queues and the registers that they
restore; a write of the pins through the claims of all rods to a ball. -/

namespace Sys2Proof.Machine

section
variable (s : State) {n : Nat}

/-! ### Changes of state (Table 2.8) -/

/-- A rod that goes to state `st` behind a change of its engine alone. -/
theorem onlyFields_goes (r : Rod) (st : Nat) : OnlyFields { s with rods := ((s.setRod n r).rodGo n st).rods }
    ((s.setRod n r).rodGo n st) [F.ROD_STAT_STATE n] :=
  ⟨rfl, fieldsKept_rodGo (s.setRod n r) n st⟩

/-- STOPPING ends in CONFIG with BUSY clear. -/
theorem doStoppingEnd_config (hpresent : s.rodPresent n = true) (hstate : s.rodState n = 6) (htx : (s.rod n).tx = none)
    (hlean : s.pwr.leanRods = []) : doStoppingEnd n s =
      ((s.setRod n { s.rod n with linWait := none, linSync := none, linEnd := none }).rodGo n 1).setB
        (F.ROD_CMD_STAT_BUSY n) false := by
  unfold doStoppingEnd
  rw [if_pos ⟨hpresent, hstate, by rw [htx]; rfl⟩, hlean]
  rfl

/-- A rod whose standby pin was never released drives the bus at once. -/
theorem wakeWait_never (h : (s.rod n).released = none) : s.wakeWait n = false := by rw [State.wakeWait, h]

theorem doIntegrationComplete_active (hpresent : s.rodPresent n = true) (hstate : s.rodState n = 2)
    (hreleased : (s.rod n).released = none) : doIntegrationComplete n s = s.rodGo n 3 := by
  unfold doIntegrationComplete
  rw [if_pos ⟨hpresent, hstate, by rw [wakeWait_never s hreleased]; rfl⟩]

theorem doRecoveryComplete_active (hpresent : s.rodPresent n = true) (hstate : s.rodState n = 5) :
    doRecoveryComplete n s = ((s.errCounts n 0 0).rodGo n 3).rodEvt n 3 := if_pos ⟨hpresent, hstate⟩

theorem doLinSleepEntry_sleeps (hpresent : s.rodPresent n = true) (hlin : s.isLin n = true) (hstate : s.rodState n = 3) :
    doLinSleepEntry n s =
      (s.setRod n { s.rod n with wakePulses := 0, linWait := none, linSync := none, linEnd := none }).rodGo n 8 :=
  if_pos ⟨hpresent, hlin, hstate⟩

theorem doLinWake_wakes (hpresent : s.rodPresent n = true) (hlin : s.isLin n = true) (hstate : s.rodState n = 8) :
    doLinWake n s = (s.rodEvt n 7).rodGo n 3 := if_pos ⟨hpresent, hlin, hstate⟩

/-- The registers of a rod that becomes ACTIVE with an event are those before, but STATE, the flags, and what posting
changes. -/
theorem getF_goEvt {f : Fld} (st b : Nat) (hlow : f.key < 0x2C0000 * 32) (hstate : f.key ≠ (F.ROD_STAT_STATE n).key)
    (hflags : f.key ≠ (F.ROD_EVT_FLAGS n).key) : ((s.rodGo n st).rodEvt n b).getF f = s.getF f :=
  (getF_rodEvt_ne _ n b hlow hflags).trans (getF_rodGo_ne s n st hstate)

/-! ### Reset (R50, R83) -/

/-- ROD_STAT. -/
def rodStatReg : RegDesc := regA "ROD_STAT" 0x18000C 128 1024 (.rod)
  [fd 0 4 .ro 1 .rd, fd 4 3 .ro 2 .wm, fd 7 1 .ro 0 .rd, fd 8 1 .ro 0 .rd, fd 9 1 .ro 0 .rd, fd 10 1 .ro 0 .rd,
   fd 12 4 .ro 0 .wm, fd 16 8 .ro 0 .rd]

theorem findReg_rodStat {n : Nat} (hn : n < 128) : findReg (0x18000C + n * 0x400) = some (rodStatReg, n, 0) := by
  unfold findReg
  rw [blockRegs_rod (by omega) (by omega)]
  refine (findIn_miss _ ?_).trans ((findIn_miss _ ?_).trans ((findIn_miss _ ?_).trans (findIn_hit (r := rodStatReg) _
    (hit_at rodStatReg (j := 0) hn (by decide) (by decide) (by decide)))))
  all_goals (simp [RegDesc.hit]; omega)

/-- ROD_STAT.STATE is CONFIG after a rod reset (Table 2.4). -/
theorem rodState_reset {n : Nat} (hn : n < 128) :
    fieldReset (F.ROD_STAT_STATE n).key = 1 ∧ fieldReach (F.ROD_STAT_STATE n).key = .rd := by
  have hoff : (F.ROD_STAT_STATE n).key / 32 % ownStep = 0x18000C + n * 0x400 := by simp only [Fld.key, ownStep]; omega
  have hlo : (F.ROD_STAT_STATE n).key % 32 = 0 := by simp only [Fld.key]; omega
  unfold fieldReset fieldReach
  rw [hoff, hlo, findReg_rodStat hn]
  exact ⟨rfl, rfl⟩

/-- A rod reset restores the rod's fields of reach RD. -/
theorem getF_restoreRod {f : Fld} (hlo : 0x180000 + n * 0x400 ≤ f.key / 32) (hhi : f.key / 32 < 0x180000 + n * 0x400 + 0x400)
    (hreach : fieldReach f.key = .rd) : (s.restoreRod n).getF f = fieldReset f.key := by
  have hdropped : (!(decide (0x180000 + n * 0x400 ≤ f.key / 32) && decide (f.key / 32 < 0x180000 + n * 0x400 + 0x400)
      && fieldReach f.key == .rd)) = false := by
    rw [decide_eq_true hlo, decide_eq_true hhi, hreach]; rfl
  refine (sget_filter_key fieldReset (fun k => !(decide (0x180000 + n * 0x400 ≤ k / 32)
    && decide (k / 32 < 0x180000 + n * 0x400 + 0x400) && fieldReach k == .rd)) s.regs f.key).trans ?_
  simp only [hdropped, Bool.false_eq_true, if_false]

theorem rodState_restoreRod (hn : n < 128) : (s.restoreRod n).rodState n = 1 := by
  obtain ⟨hreset, hreach⟩ := rodState_reset hn
  exact (getF_restoreRod s (by simp only [Fld.key]; omega) (by simp only [Fld.key]; omega) hreach).trans hreset

/-- A rod reset takes the frame off the bus, empties the queues, restores the fields of reach RD and clears the engine; the
pins stay (R83). -/
theorem resetRod_resets (n : Nat) : ∃ u, FlushOnly (s.busFree n) u n (List.range 9) ∧ (∀ q < 9, u.queue (64 + n) q = [])
    ∧ s.resetRod n = (u.restoreRod n).setRod n
        { u.rod n with tec := 0, linSlot := 0, linEnd := none, linWait := none, linSync := none, wakePulses := 0 } := by
  have htx : ((s.busFree n).rod n).tx = none := congrArg Rod.tx (rod_setRod_same _ _ _)
  obtain ⟨honly, hempty⟩ := flushRod_idle (s.busFree n) n htx
  unfold State.resetRod
  dsimp only
  generalize (s.busFree n).flushRod n = u at *
  exact ⟨u, honly, hempty, rfl⟩

theorem doRodReset_serving (hserving : s.serving = true) (hpresent : s.rodPresent n = true) : doRodReset n s =
    ((s.resetRod n).setRod n { (s.resetRod n).rod n with resetting := true }).setB (F.ROD_CMD_STAT_BUSY n) true := by
  simp [doRodReset, State.busGate, hserving, hpresent]

/-- Without AUTOSTART the rod stays in CONFIG when its reset completes. -/
theorem doRodResetComplete_config (hpresent : s.rodPresent n = true) (hresetting : (s.rod n).resetting = true)
    (hauto : s.isF (F.ROD_CTL_AUTOSTART n) = false) : doRodResetComplete n s =
      ((s.setRod n { s.rod n with resetting := false }).setB (F.ROD_CMD_STAT_BUSY n) false).rodGo n 1 := by
  have hready : ∀ t : State, t.isF (F.ROD_CTL_AUTOSTART n) = false → t.rodReady n = t.rodGo n 1 := fun t ht =>
    if_neg (by rw [State.isF, getF_rodGo_ne _ _ _ (by simp only [Fld.key]; omega)]; exact ne_true_of_eq_false ht)
  unfold doRodResetComplete
  rw [hpresent, hresetting]
  exact hready _ ((isF_setB_ne _ _ _ _ (by simp only [Fld.key]; omega)).trans hauto)

/-! ### Pins (R61) -/

/-- ROD_XCVR. -/
def rodXcvrReg : RegDesc := regA "ROD_XCVR" 0x180024 128 1024 (.rod)
  [fc 0 7 0x7F [(0, 63), (127, 127)], fd 7 1 .rw 1 .wm, fc 8 7 0x7F [(0, 63), (127, 127)], fd 15 1 .rw 1 .wm,
   fd 16 8 .rw 0x28 .wm]

theorem findReg_rodXcvr {n : Nat} (hn : n < 128) : findReg (0x180024 + n * 0x400) = some (rodXcvrReg, n, 0) := by
  unfold findReg
  rw [blockRegs_rod (by omega) (by omega)]
  unfold rodRegs rodRegs1
  simp only [List.cons_append]
  iterate 9 rw [findIn_miss _ (by simp [RegDesc.hit]; omega)]
  exact findIn_hit (r := rodXcvrReg) _ (hit_at rodXcvrReg (j := 0) hn (by decide) (by decide) (by decide))

/-- The fields of ROD_XCVR of rod `n`. -/
def xcvrFields (n : Nat) : List Fld :=
  [F.ROD_XCVR_STB_PIN n, F.ROD_XCVR_STB_ACT_HIGH n, F.ROD_XCVR_EN_PIN n, F.ROD_XCVR_EN_ACT_HIGH n, F.ROD_XCVR_WAKE_DLY n]

/-- ROD_XCVR of a present rod stores its five fields, the balls as R14 clamps them. -/
theorem storeReg_rodXcvr (v : Nat) (hn : n < 128) (hpresent : s.rodPresent n = true) :
    s.storeReg (0x180024 + n * 0x400) v =
      ((((s.setF (F.ROD_XCVR_STB_PIN n) (nearest [(0, 63), (127, 127)] (bits v 0 7))).setF (F.ROD_XCVR_STB_ACT_HIGH n)
        (bits v 7 1)).setF (F.ROD_XCVR_EN_PIN n) (nearest [(0, 63), (127, 127)] (bits v 8 7))).setF
        (F.ROD_XCVR_EN_ACT_HIGH n) (bits v 15 1)).setF (F.ROD_XCVR_WAKE_DLY n) (bits v 16 8) := by
  have hthere : s.unitThere rodXcvrReg.unit n = true := hpresent
  unfold State.storeReg
  rw [findReg_rodXcvr hn]
  exact if_pos hthere

theorem nearest_ball {a : Nat} (ha : a < 64) : nearest [(0, 63), (127, 127)] a = a := by
  have h₁ : ¬ 63 < a := by omega
  have h₂ : a < 127 := by omega
  have h₃ : ¬ 127 < a := by omega
  simp [nearest, h₁, h₂, h₃]

/-- A write of two balls puts them in the pin fields of the rod. -/
theorem storeReg_rodXcvr_pins {a b : Nat} (ha : a < 64) (hb : b < 64) (hn : n < 128) (hpresent : s.rodPresent n = true) :
    let t := s.storeReg (0x180024 + n * 0x400) (a + b * 2 ^ 8)
    t.getF (F.ROD_XCVR_STB_PIN n) = a ∧ t.getF (F.ROD_XCVR_EN_PIN n) = b ∧ FieldsKept s t (xcvrFields n) := by
  intro t
  have hstb : nearest [(0, 63), (127, 127)] (bits (a + b * 2 ^ 8) 0 7) = a := by
    rw [show bits (a + b * 2 ^ 8) 0 7 = a by unfold bits; omega, nearest_ball ha]
  have hen : nearest [(0, 63), (127, 127)] (bits (a + b * 2 ^ 8) 8 7) = b := by
    rw [show bits (a + b * 2 ^ 8) 8 7 = b by unfold bits; omega, nearest_ball hb]
  have e := storeReg_rodXcvr s (a + b * 2 ^ 8) hn hpresent
  rw [hstb, hen] at e
  rw [show t = _ from e]
  refine ⟨?_, ?_, ?_⟩
  · iterate 4 rw [getF_setF_ne _ _ _ _ (by simp only [Fld.key]; omega)]
    exact (getF_setF_same _ _ _).trans (Nat.mod_eq_of_lt (show a < 2 ^ 7 by omega))
  · iterate 2 rw [getF_setF_ne _ _ _ _ (by simp only [Fld.key]; omega)]
    exact (getF_setF_same _ _ _).trans (Nat.mod_eq_of_lt (show b < 2 ^ 7 by omega))
  · exact (((((FieldsKept.refl s _).setF _ (by simp [xcvrFields])).setF _ (by simp [xcvrFields])).setF _
      (by simp [xcvrFields])).setF _ (by simp [xcvrFields])).setF _ (by simp [xcvrFields])

/-- The functions of rod `m` that name a ball. -/
def State.rodClaims (s : State) (m : Nat) : List PinClaim :=
  if !s.rodPresent m then []
  else
    (if s.getF (F.ROD_XCVR_STB_PIN m) < 64 then [⟨m, false, s.getF (F.ROD_XCVR_STB_PIN m)⟩] else [])
      ++ (if s.getF (F.ROD_XCVR_EN_PIN m) < 64 then [⟨m, true, s.getF (F.ROD_XCVR_EN_PIN m)⟩] else [])

theorem pinClaims_eq : s.pinClaims = (List.range 128).flatMap s.rodClaims := rfl

theorem flatMap_range_single {α : Type} {k : Nat} (f : Nat → List α) : ∀ N, k < N → (∀ m < N, m ≠ k → f m = []) →
    (List.range N).flatMap f = f k := by
  intro N
  induction N with
  | zero => intro h; omega
  | succ N ih =>
    intro hk hnil
    rw [List.range_succ, List.flatMap_append, List.flatMap_singleton]
    by_cases hN : k = N
    · have hbelow : (List.range N).flatMap f = [] :=
        List.flatMap_eq_nil_iff.2 fun m hm => hnil m (by have := List.mem_range.1 hm; omega)
          (by have := List.mem_range.1 hm; omega)
      rw [hbelow, hN, List.nil_append]
    · rw [ih (by omega) fun m hm hne => hnil m (by omega) hne, hnil N (by omega) (Ne.symm hN), List.append_nil]

/-- Where no rod has a claim, a write of two balls leaves the two claims of its rod. -/
theorem pinClaims_after_write {a b : Nat} (ha : a < 64) (hb : b < 64) (hn : n < 128) (hpresent : s.rodPresent n = true)
    (hnone : s.pinClaims = []) :
    (s.storeReg (0x180024 + n * 0x400) (a + b * 2 ^ 8)).pinClaims = [⟨n, false, a⟩, ⟨n, true, b⟩] := by
  obtain ⟨hstb, hen, hkept⟩ := storeReg_rodXcvr_pins s ha hb hn hpresent
  generalize s.storeReg (0x180024 + n * 0x400) (a + b * 2 ^ 8) = t at *
  have hpresence : ∀ m, t.rodPresent m = s.rodPresent m := fun m => by
    by_cases hm : m < 128
    · exact rodPresent_of_fieldsKept hkept (by simp [xcvrFields, Fld.key]; omega) (by simp [xcvrFields, Fld.key]; omega)
    · simp [State.rodPresent, hm]
  have hothers : ∀ m < 128, m ≠ n → t.rodClaims m = [] := fun m hm hne => by
    have hsame : t.rodClaims m = s.rodClaims m := by
      unfold State.rodClaims
      rw [hpresence m, hkept (F.ROD_XCVR_STB_PIN m) (by simp [xcvrFields, Fld.key]; omega),
        hkept (F.ROD_XCVR_EN_PIN m) (by simp [xcvrFields, Fld.key]; omega)]
    exact hsame.trans (List.flatMap_eq_nil_iff.1 ((pinClaims_eq s).symm.trans hnone) m (List.mem_range.2 hm))
  rw [pinClaims_eq, flatMap_range_single t.rodClaims 128 hn hothers]
  simp [State.rodClaims, hpresence n, hpresent, hstb, hen, ha, hb]

/-- While every claim is connected, the owners follow the claims and no event is posted. -/
theorem ownPins_connected (old : List PinClaim) (h : unconnected s.pinClaims = []) :
    s.ownPins old = s.forN 64 (fun g t => t.setF (F.GLB_GPIO_CFG_OWNER g) (pinOwner s.pinClaims g)) := by
  unfold State.ownPins
  dsimp only
  rw [h]
  exact forN_keeps _ (fun t => t = s.forN 64 (fun g t => t.setF (F.GLB_GPIO_CFG_OWNER g) (pinOwner s.pinClaims g))) 128 _
    (fun _ _ ht => ht) rfl

theorem getF_owners {l : List PinClaim} {g : Nat} (hg : g < 64) (hown : pinOwner l g < 2 ^ 8) :
    (s.forN 64 (fun g t => t.setF (F.GLB_GPIO_CFG_OWNER g) (pinOwner l g))).getF (F.GLB_GPIO_CFG_OWNER g) = pinOwner l g :=
  forN_reaches (Q := fun _ => True) (P := fun t => t.getF (F.GLB_GPIO_CFG_OWNER g) = pinOwner l g) hg trivial
    (fun _ _ _ _ => trivial) (fun t _ => (getF_setF_same t _ _).trans (Nat.mod_eq_of_lt hown))
    (fun j t hj _ ht => (getF_setF_ne t _ _ _ (by simp only [Fld.key]; omega)).trans ht)

theorem getF_owners_other {l : List PinClaim} {f : Fld} (hf : 0x500 * 32 ≤ f.key) :
    (s.forN 64 (fun g t => t.setF (F.GLB_GPIO_CFG_OWNER g) (pinOwner l g))).getF f = s.getF f := by
  refine fieldsKept_forN s (l := (List.range 64).map F.GLB_GPIO_CFG_OWNER) 64 _
    (fun g t hg => (FieldsKept.refl t _).setF _ (List.mem_map_of_mem (List.mem_range.2 hg))) f ?_
  simp only [List.map_map, List.mem_map, List.mem_range, Function.comp_apply, not_exists, not_and]
  intro g hg
  simp only [Fld.key] at *
  omega

/-- A write of two balls, where no rod has a claim, stores them and makes the rod their owner. -/
theorem doRodXcvrWrite_connected {a b : Nat} (ha : a < 64) (hb : b < 64) (hab : a ≠ b) (hn : n < 128)
    (hserving : s.serving = true) (hpresent : s.rodPresent n = true) (hnone : s.pinClaims = []) :
    doRodXcvrWrite n (a + b * 2 ^ 8) s = (s.storeReg (0x180024 + n * 0x400) (a + b * 2 ^ 8)).forN 64
      (fun g t => t.setF (F.GLB_GPIO_CFG_OWNER g) (pinOwner [⟨n, false, a⟩, ⟨n, true, b⟩] g)) := by
  have hclaims := pinClaims_after_write s ha hb hn hpresent hnone
  have hconnected : unconnected [⟨n, false, a⟩, ⟨n, true, b⟩] = [] := by
    simp [unconnected, hab]
  have hpins := ownPins_connected (s.storeReg (0x180024 + n * 0x400) (a + b * 2 ^ 8)) [] (by rw [hclaims, hconnected])
  rw [hclaims] at hpins
  rw [← hpins]
  simp [doRodXcvrWrite, State.busGate, State.xcvrStore, hserving, hpresent, hnone]

end

/-- Settles O29: a reset empties the queues before it restores the rod's registers, and the only two claims to a ball decide
every owner. -/
theorem rodsFollowTheirBusAndReset : Obligations.RodsFollowTheirBusAndReset := by
  unfold Obligations.RodsFollowTheirBusAndReset
  refine ⟨?_, ?_, ?_, ?_, ?_, ?_, ?_, ?_⟩
  · intro s n hn hpresent hstate htx hlean
    refine ⟨_, answers rfl (doStoppingEnd_config s hpresent hstate htx hlean), ?_, isF_setB_same _ _ _ rfl, rfl, ?_⟩
    · exact (getF_setB_ne _ _ _ _ (by simp only [Fld.key]; omega)).trans (rodState_rodGo _ n (by decide))
    · exact ((fieldsKept_rodGo (s.setRod n _) n 1).mono (by simp)).setB _ (by simp)
  · intro s n hn hserving hpresent
    obtain ⟨u, honly, hempty, hreset⟩ := resetRod_resets s n
    have hrod : u.rod n = { s.rod n with tx := none, linSync := none } := honly.rod.trans (rod_setRod_same _ _ _)
    refine ⟨_, answers rfl (doRodReset_serving s hserving hpresent), ?_, isF_setB_same _ _ _ rfl, ?_⟩
    · rw [hreset, State.rodState, getF_setB_ne _ _ _ _ (by simp only [Fld.key]; omega)]
      exact rodState_restoreRod u hn
    · have hreset' : (s.resetRod n).rod n = { s.rod n with
          tx := none, tec := 0, linSlot := 0, linEnd := none, linWait := none, linSync := none, wakePulses := 0 } := by
        rw [hreset, rod_setRod_same, hrod]
      have hqueues : (s.resetRod n).dp.queues = u.dp.queues := by rw [hreset]; rfl
      generalize s.resetRod n = v at *
      refine ⟨?_, ?_, ?_, fun q hq => (queue_of_queues hqueues _ _).trans (hempty q hq), ?_⟩
      all_goals rw [rod_of_rods (setB_rods _ _ _), rod_setRod_same, hreset']
  · intro s n hn hpresent hresetting hauto
    refine ⟨_, answers rfl (doRodResetComplete_config s hpresent hresetting hauto), rodState_rodGo _ n (by decide), ?_, ?_⟩
    · rw [State.isF, getF_rodGo_ne _ _ _ (by simp only [Fld.key]; omega)]
      exact isF_setB_same _ _ _ rfl
    · rw [rod_rodGo, rod_of_rods (setB_rods _ _ _), rod_setRod_same]
      exact ⟨rfl, rfl, rfl⟩
  · intro s n hn hpresent hstate hreleased
    exact ⟨_, answers rfl (doIntegrationComplete_active s hpresent hstate hreleased), rodState_rodGo s n (by decide), rfl,
      fieldsKept_rodGo s n 3⟩
  · intro s n hn hpresent hstate
    obtain ⟨hrod, htec, hrec, hpassive⟩ := errCounts_low_shows s n (tec := 0) (rec_ := 0) (by decide) (by decide)
    have hrun := doRecoveryComplete_active s hpresent hstate
    generalize s.errCounts n 0 0 = u at *
    have hsame : ∀ f : Fld, f.key < 0x2C0000 * 32 → f.key ≠ (F.ROD_STAT_STATE n).key → f.key ≠ (F.ROD_EVT_FLAGS n).key →
        ((u.rodGo n 3).rodEvt n 3).getF f = u.getF f := fun f => getF_goEvt u 3 3
    refine ⟨_, answers rfl hrun, ?_, ?_, ?_, ?_, flag_rodEvt _ hn (by decide), ?_⟩
    · refine (getF_rodEvt_ne _ n 3 ?_ ?_).trans (rodState_rodGo u n (by decide)) <;> (simp only [Fld.key]; omega)
    · rw [rod_of_rods (rodEvt_rods _ n 3), rod_rodGo, hrod]
    · rw [hsame _ (by simp only [Fld.key]; omega) (by simp only [Fld.key]; omega) (by simp only [Fld.key]; omega), htec]
    · rw [hsame _ (by simp only [Fld.key]; omega) (by simp only [Fld.key]; omega) (by simp only [Fld.key]; omega), hrec]
    · rw [State.isF, hsame _ (by simp only [Fld.key]; omega) (by simp only [Fld.key]; omega) (by simp only [Fld.key]; omega)]
      exact hpassive
  · intro s hserving hpresent hnone
    obtain ⟨hstb, hen, -⟩ := storeReg_rodXcvr_pins s (n := 5) (a := 9) (b := 12) (by decide) (by decide) (by decide) hpresent
    have hclaims := pinClaims_after_write s (n := 5) (a := 9) (b := 12) (by decide) (by decide) (by decide) hpresent hnone
    have hwrite := doRodXcvrWrite_connected s (n := 5) (a := 9) (b := 12) (by decide) (by decide) (by decide) (by decide) hserving
      hpresent hnone
    generalize s.storeReg (0x180024 + 5 * 0x400) (9 + 12 * 2 ^ 8) = u at *
    refine ⟨_, answers rfl hwrite, (getF_owners_other _ (by decide)).trans hstb, (getF_owners_other _ (by decide)).trans hen,
      getF_owners _ (by decide) (by decide), getF_owners _ (by decide) (by decide), getF_owners _ (by decide) (by decide)⟩
  · intro s n hn hpresent hlin hstate
    refine ⟨_, answers rfl (doLinSleepEntry_sleeps s hpresent hlin hstate), rodState_rodGo _ n (by decide), ?_,
      onlyFields_goes s _ 8⟩
    rw [rod_rodGo]; rfl
  · intro s n hn hpresent hlin hstate
    refine ⟨_, answers rfl (doLinWake_wakes s hpresent hlin hstate), rodState_rodGo _ n (by decide), ?_, ?_⟩
    · rw [rod_rodGo]; rfl
    · rw [getF_rodGo_ne _ _ _ (by simp only [Fld.key]; omega)]
      exact flag_rodEvt s hn (by decide)

end Sys2Proof.Machine
end

section
/-! PROOF of RodsReceiveAndEndTheirFrames. A received frame moves the counters first, which touches nothing that the look-up,
the claim of beads or the stream reads; a completed one leaves the error state behind, which touches no queue. -/

namespace Sys2Proof.Machine

/-! ### What the units' presence and the look-up read -/

section
variable {s t : State} {l : List Fld}

/-- The fields of the GLB and SAF blocks lie below every field of `l`. -/
def AboveGlobal (l : List Fld) : Prop := ∀ f ∈ l, 0x20000 * 32 ≤ f.key

theorem aboveGlobal_errFields (n : Nat) : AboveGlobal (errFields n) := by
  simp [AboveGlobal, errFields, Fld.key]; omega

theorem getF_global (hl : AboveGlobal l) (h : FieldsKept s t l) {f : Fld} (hf : f.key < 0x20000 * 32) :
    t.getF f = s.getF f :=
  h f fun hmem => by
    obtain ⟨g, hg, e⟩ := List.mem_map.1 hmem
    have := hl g hg
    omega

theorem pairUp_global (hl : AboveGlobal l) (h : FieldsKept s t l) (hboot : t.boot = s.boot) {i : Nat} (hi : i < 2) :
    t.pairUp i = s.pairUp i := by
  unfold State.pairUp
  rw [getF_global hl h (by simp only [Fld.key]; omega), getF_global hl h (f := F.GLB_RST_STAT_STAGE) (by decide), hboot]

theorem present_global (hl : AboveGlobal l) (h : FieldsKept s t l) (hboot : t.boot = s.boot) (p : Nat) :
    t.present p = s.present p := by
  have heth := ethPresent_congr (getF_global hl h (f := F.GLB_PRESENT_PORT_PORTS) (by decide))
    (getF_global hl h (f := F.GLB_RETIRED_PORT_PORTS) (by decide)) p
  have hrod : t.rodPresent (p - 64) = s.rodPresent (p - 64) := by
    by_cases hp : p - 64 < 128
    · exact rodPresent_congr (getF_global hl h (by simp only [Fld.key]; omega))
        (getF_global hl h (by simp only [Fld.key]; omega))
    · simp [State.rodPresent, hp]
  unfold State.present
  rw [heth, hrod, pairUp_global hl h hboot (by decide), pairUp_global hl h hboot (by decide)]

theorem anyPlane_global (hl : AboveGlobal l) (h : FieldsKept s t l) (hsaf : t.saf = s.saf) : t.anyPlane = s.anyPlane := by
  unfold State.anyPlane State.planeServes
  simp only [Bool.false_eq_true, if_false, if_true]
  rw [getF_global hl h (f := F.SAF_PLANE_STAT_STATE_A) (by decide),
    getF_global hl h (f := F.SAF_PLANE_STAT_STATE_B) (by decide), hsaf]

theorem claim_isSome_congr (hdp : t.dp = s.dp) (hpresent : ∀ p, t.present p = s.present p) (p k : Nat) :
    (t.claim p k).isSome = (s.claim p k).isSome := by
  unfold State.claim State.sharedPool State.reserve
  simp only [hdp, hpresent, apply_ite Option.isSome, Option.isSome_some, Option.isSome_none]

theorem rodLookup_congr (htables : t.tables = s.tables) (hdp : t.dp = s.dp)
    (hext : t.getF F.CRY_CFG_EXT_OK = s.getF F.CRY_CFG_EXT_OK) (n fmt id : Nat) :
    t.rodLookup n fmt id = s.rodLookup n fmt id := by
  unfold State.rodLookup State.isF
  simp only [findKey_congr htables hdp, entry_of_tables htables, hext]

theorem rodRecord_congr {n : Nat} (htables : t.tables = s.tables) (hdp : t.dp = s.dp)
    (hext : t.getF F.CRY_CFG_EXT_OK = s.getF F.CRY_CFG_EXT_OK)
    (hmiss : t.getF (F.ROD_CTL_MISS_ACT n) = s.getF (F.ROD_CTL_MISS_ACT n))
    (hroute : t.getF (F.ROD_DEFROUTE_ROUTE n) = s.getF (F.ROD_DEFROUTE_ROUTE n))
    (hclass : t.getF (F.ROD_DEFROUTE_FW_CLASS n) = s.getF (F.ROD_DEFROUTE_FW_CLASS n)) (f : CanFrame) (classic : Bool) :
    t.rodRecord n f classic = s.rodRecord n f classic := by
  unfold State.rodRecord State.isF
  simp only [rodLookup_congr htables hdp hext, hmiss, hroute, hclass]

end

/-! ### Reception (R77) -/

section
variable (s : State) {n : Nat} {f : CanFrame}

theorem rodPoison_nil (h : s.dp.poison = []) (fmt id : Nat) : s.rodPoison n fmt id = false := by
  simp [State.rodPoison, State.poisonMiss, poisoned_nil s h]

/-- With a plane in service and no hold an item joins the stream behind the others. -/
theorem enterStream_appends {i : Nat} {it : Item} (hitem : s.item i = some it) (hplane : s.anyPlane = true)
    (hheld : s.dp.held = false) : s.enterStream i =
      { s with dp := { s.dp with stream := s.dp.stream ++ [⟨i, false, s.planeDecide it⟩] } } := by
  unfold State.enterStream
  simp [hitem, hplane, hheld]

/-- A frame that the tables hold, with beads for its record, enters the stream as a rod record. -/
theorem rodReceive_enters {t : Nat} {classic : Bool} {rec : List Byte} {key : Nat} (hpresent : s.rodPresent n = true)
    (hfmt : f.fmt ≠ 4) (hpoison : s.dp.poison = []) (hrec : s.rodRecord n f classic = some (some (rec, key)))
    (hclaim : (s.claim (64 + n) (beadsOf rec.length)).isSome = true) (hplane : s.anyPlane = true)
    (hheld : s.dp.held = false) :
    let v := s.rodReceive n f t classic
    (∃ it, v.item s.dp.nextItem = some it ∧ it.bytes = rec ∧ it.ingress = 64 + n ∧ it.isRod = true)
      ∧ v.dp.stream.map (·.item) = s.dp.stream.map (·.item) ++ [s.dp.nextItem] ∧ v.regs = s.regs
      ∧ Counted s v (T.rodRxOk n) := by
  obtain ⟨⟨r, sh, u⟩, hu⟩ := Option.isSome_iff_exists.1 hclaim
  obtain ⟨-, -, -, -, hframe⟩ := claim_some s hu
  let it : Item := { bytes := rec, isRod := true, ingress := 64 + n, t := t, cadKey := key, resBeads := r, shBeads := sh }
  let w := (u.newItem it).2.tally (T.rodRxOk n)
  have hrun : s.rodReceive n f t classic = w.enterStream u.dp.nextItem := by
    unfold State.rodReceive
    rw [if_neg fun h => hfmt h.1, rodPoison_nil s hpoison, hrec]
    dsimp only
    rw [hu]
    rfl
  have hnext : u.dp.nextItem = s.dp.nextItem := by rw [hframe]
  have hregs : (u.newItem it).2.regs = s.regs := by rw [State.newItem, hframe]; rfl
  have htly : (u.newItem it).2.tly = s.tly := by rw [State.newItem, hframe]; rfl
  have hsaf : (u.newItem it).2.saf = s.saf := by rw [State.newItem, hframe]; rfl
  have hstream : w.dp.stream = s.dp.stream := by rw [tally_dp, State.newItem, hframe]; rfl
  have hheld' : w.dp.held = false := by rw [tally_dp, State.newItem, hframe]; exact hheld
  have hitem : w.item u.dp.nextItem = some it :=
    (item_of_items (congrArg DataPlane.items (tally_dp _ _)) _).trans (newItem_item u it).1
  have hplane' : w.anyPlane = true :=
    (onlyDp_tally _ _).anyPlane.trans ((anyPlane_global (l := []) (by simp [AboveGlobal])
      (fun f _ => getF_of_regs hregs f) hsaf).trans hplane)
  have hcount : Counted (u.newItem it).2 w (T.rodRxOk n) := counted_tally_rod _ (by decide)
    ((rodPresent_congr (getF_of_regs hregs _) (getF_of_regs hregs _)).trans hpresent)
  have hwregs : w.regs = s.regs := (tally_regs _ _).trans hregs
  clear_value w
  rw [hrun, enterStream_appends w hitem hplane' hheld', hnext] at *
  exact ⟨⟨it, hitem, rfl, rfl, rfl⟩, by simp [hstream], hwregs, hcount.of_tallyOf (tallyOf_of_tly htly _) rfl⟩

/-- A sound CAN frame of a format of the rod's mode lowers REC and is received, while the checker is off. -/
theorem doRodFrameRx_can {ago : Nat} (hpresent : s.rodPresent n = true) (hreceives : s.receives = true)
    (hstate : s.rodState n = 3) (htx : (s.rod n).tx = none) (hloop : s.looped n = false) (hsound : CanFrame.sound f = true)
    (hlin : s.isLin n = false) (hfmt : (modeFormats (s.rodMode n)).contains f.fmt = true)
    (hcheck : s.isF (F.TST_ROD_CFG_CHK_EN n) = false) (hrec : s.getF (F.ROD_ERR_REC n) < 96) (htec : (s.rod n).tec < 96) :
    ∃ t, doRodFrameRx n f ago s
      = (s.errCounts n (s.rod n).tec (s.getF (F.ROD_ERR_REC n) - 1)).rodReceive n f t false := by
  have hafter : recAfter (s.getF (F.ROD_ERR_REC n)) = s.getF (F.ROD_ERR_REC n) - 1 := if_neg (by omega)
  have hkept := (errCounts_low_frame s n htec (rec_ := s.getF (F.ROD_ERR_REC n) - 1) (by omega)).2
  have htest : (s.errCounts n (s.rod n).tec (s.getF (F.ROD_ERR_REC n) - 1)).testFrame n f = false := by
    rw [State.testFrame, hkept.isF (by simp [errFields, Fld.key]; omega)]
    simp only [Bool.and_eq_false_iff]
    exact .inl hcheck
  unfold doRodFrameRx
  simp only [hpresent, hreceives, hstate, htx, hloop, hsound, hlin, hfmt, hafter, htest]
  exact ⟨_, rfl⟩

/-! ### Errors (R63, R74) -/

theorem nearest_canCode {code : Nat} (h₁ : 1 ≤ code) (h₆ : code ≤ 6) : nearest [(1, 6)] code = code := by
  have h₁' : ¬ code < 1 := by omega
  have h₆' : ¬ 6 < code := by omega
  simp [nearest, h₁', h₆']

/-- A receiver's bus error below the warning limit: its code, its flag on the bus, and REC one higher. -/
theorem doRodBusError_receiver {code : Nat} (hpresent : s.rodPresent n = true) (hstate : s.rodState n = 3)
    (hlin : s.isLin n = false) (htx : (s.rod n).tx = none) (h₁ : 1 ≤ code) (h₆ : code ≤ 6)
    (hlisten : s.isF (F.ROD_CTL_LISTEN_ONLY n) = false) : doRodBusError n code false false none s =
      ((s.lec n code).emit (.rodErrorFlag n)).errCounts n (s.rod n).tec (s.getF (F.ROD_ERR_REC n) + 1) := by
  have hregs : (s.lec n code).regs = (s.setF (F.ROD_ERR_LEC n) code).regs := tally_regs _ _
  have hlisten' : (s.lec n code).isF (F.ROD_CTL_LISTEN_ONLY n) = false := by
    rw [State.isF, getF_of_regs hregs, getF_setF_ne _ _ _ _ (by simp only [Fld.key]; omega)]
    exact hlisten
  have hrec : (s.lec n code).getF (F.ROD_ERR_REC n) = s.getF (F.ROD_ERR_REC n) := by
    rw [getF_of_regs hregs, getF_setF_ne _ _ _ _ (by simp only [Fld.key]; omega)]
  have hrod : (s.lec n code).rod n = s.rod n := rod_of_rods (tally_rods _ _) n
  have hflag : s.flagError n code false false =
      ((s.lec n code).emit (.rodErrorFlag n)).errCounts n (s.rod n).tec (s.getF (F.ROD_ERR_REC n) + 1) := by
    unfold State.flagError
    simp only [hlisten', Bool.false_eq_true, if_false, getF_emit, hrec, ← hrod]
    rfl
  unfold doRodBusError
  simp [hpresent, hstate, hlin, htx, nearest_canCode h₁ h₆, hflag]

/-- A priority-queue item that loses arbitration leaves the bus and stays in its queue. -/
theorem doArbitrationLoss_priority {winId bitpos : Nat} {winIde : Bool} {x : RodTx} (htx : (s.rod n).tx = some x)
    (hq : x.q < 8) (hfinal : x.final = false) :
    doArbitrationLoss n winId winIde bitpos s = (s.tally (T.rodArbLoss n)).busFree n := by
  have h₈ : x.q ≤ 8 := by omega
  have hne : x.q ≠ 8 := by omega
  have hlt : ¬ 8 < x.q := by omega
  unfold doArbitrationLoss State.attemptFailed
  simp [htx, h₈, hne, hlt, hfinal]

/-! ### Completion (R78) -/

/-- A classic frame has no data phase whose delay is measured (R59). -/
theorem tdcOf_classic {x : RodTx} (m : Nat) (h : (recHdr x.record).fmt = 0) : s.tdcOf n x m = s := by
  unfold State.tdcOf
  simp [h]

/-- A completed classic frame leaves the bus, lowers TEC, and its item leaves its queue. -/
theorem doRodTxComplete_classic {tdc : Nat} {x : RodTx} (hn : n < 128) (hpresent : s.rodPresent n = true)
    (htx : (s.rod n).tx = some x) (hq : x.q < 8)
    (hfmt : (recHdr x.record).fmt = 0) (hlin : s.isLin n = false) :
    ∃ u : State, doRodTxComplete n tdc s = u.rodDrop n x.q x.ref ∧ u.dp = s.dp ∧ (u.rod n).tx = none
      ∧ (u.rod n).tec = (s.rod n).tec - 1 ∧ Counted s u (T.rodTxOk n) := by
  let v := (s.busFree n).tally (T.rodTxOk n)
  have hrod : v.rod n = { s.rod n with tx := none, linSync := none } :=
    (rod_of_rods (tally_rods _ _) n).trans (rod_setRod_same _ _ _)
  have hvlin : v.isLin n = false := by rw [State.isLin, getF_of_regs (tally_regs _ _)]; exact hlin
  have herr := errCounts_errorStateOnly v hn ((v.rod n).tec - 1) (v.getF (F.ROD_ERR_REC n))
  have hulin : (v.errCounts n ((v.rod n).tec - 1) (v.getF (F.ROD_ERR_REC n))).isLin n = false := by
    rw [State.isLin, herr.mode]; exact hvlin
  have hqle : x.q ≤ 8 := by omega
  refine ⟨v.errCounts n ((v.rod n).tec - 1) (v.getF (F.ROD_ERR_REC n)), ?_, herr.dp.trans (tally_dp _ _), ?_, ?_, ?_⟩
  · unfold doRodTxComplete
    simp [htx, v, hvlin, hulin, tdcOf_classic _ tdc hfmt, hqle]
  · rw [herr.tx, rod_setRod_same, hrod]
  · rw [herr.tec, rod_setRod_same, hrod]
  · exact (counted_tally_rod (s.busFree n) (by decide) hpresent).of_tallyOf rfl (herr.tallies 1 (by decide))

/-! ### The test generator (R407) -/

/-- A test frame goes out with the next sequence number. -/
theorem doRodTestFrame_sends (hpresent : s.rodPresent n = true) (hstate : s.rodState n = 3)
    (hgen : s.isF (F.TST_ROD_CFG_GEN_EN n) = true) (hempty : ∀ q < 9, s.queue (64 + n) q = [])
    (htx : (s.rod n).tx = none) (hmode : s.rodMode n = 2) (hfmt : s.getF (F.TST_ROD_CFG_FMT n) = 0)
    (hlisten : s.isF (F.ROD_CTL_LISTEN_ONLY n) = false) (hwait : s.wakeWait n = false) (hgap : s.gapOver n = true) :
    ∃ rec, doRodTestFrame n s = (s.setRod n { s.rod n with
      testSeq := ((s.rod n).testSeq + 1) % 256, testAt := some s.tb.fab }).putOnBus n ⟨9, { item := 0 }, rec, false⟩ := by
  have hidle : (List.range 9).all (fun q => (s.queue (64 + n) q).isEmpty) = true := by
    simp only [List.all_eq_true, List.mem_range]
    intro q hq
    rw [hempty q hq]; rfl
  have hformat : (modeFormats 2).contains 0 = true := by decide
  unfold doRodTestFrame
  simp only [hpresent, hstate, hgen, hidle, htx, hmode, hfmt, hlisten, hwait, hgap, hformat]
  exact ⟨_, rfl⟩

end

/-- Settles O30: below the warning limit the counters move without an event, and what the look-up and the stream read is as
it was. -/
theorem rodsReceiveAndEndTheirFrames : Obligations.RodsReceiveAndEndTheirFrames := by
  unfold Obligations.RodsReceiveAndEndTheirFrames
  refine ⟨?_, ?_, ?_, ?_, ?_⟩
  · intro s n ago f rec key hn hpresent hreceives hstate htx hloop hsound hlin hfmt hfmt4 hcheck hpoison hrec htec hrecord
      hclaim hplane hheld
    obtain ⟨t, hrun⟩ := doRodFrameRx_can s (ago := ago) hpresent hreceives hstate htx hloop hsound hlin hfmt hcheck hrec htec
    have hlow : s.getF (F.ROD_ERR_REC n) - 1 < 96 := by omega
    obtain ⟨hframe, hkept⟩ := errCounts_low_frame s n htec hlow
    obtain ⟨-, -, hrec', -⟩ := errCounts_low_shows s n htec hlow
    generalize s.errCounts n (s.rod n).tec (s.getF (F.ROD_ERR_REC n) - 1) = u at *
    have hdp : u.dp = s.dp := by rw [hframe]
    have hboot : u.boot = s.boot := by rw [hframe]
    have hglobal := aboveGlobal_errFields n
    have hpresence : u.rodPresent n = s.rodPresent n := rodPresent_congr
      (getF_global hglobal hkept (by simp only [Fld.key]; omega)) (getF_global hglobal hkept (by simp only [Fld.key]; omega))
    have hrecord' : u.rodRecord n f false = some (some (rec, key)) := by
      rw [← hrecord]
      refine rodRecord_congr (by rw [hframe]) hdp ?_ ?_ ?_ ?_ f false <;>
        exact hkept _ (by simp [errFields, Fld.key]; omega)
    obtain ⟨⟨it, hitem, hbytes, hingress, hrod⟩, hstream, hregs, hcount⟩ := rodReceive_enters u (t := t)
      (hpresence.trans hpresent) hfmt4 (by rw [hdp, hpoison]) hrecord'
      ((claim_isSome_congr hdp (present_global hglobal hkept hboot) _ _).trans hclaim)
      ((anyPlane_global hglobal hkept (by rw [hframe])).trans hplane) (by rw [hdp, hheld])
    rw [hdp] at hitem hstream
    refine ⟨_, answers rfl hrun, by rw [hitem, ← hbytes]; rfl, by rw [hitem, ← hingress]; rfl, by rw [hitem, ← hrod]; rfl,
      hstream, hcount.of_tallyOf (tallyOf_of_tly (by rw [hframe]) _) rfl, (getF_of_regs hregs _).trans hrec', ?_⟩
    exact (getF_of_regs hregs _).trans ((hkept _ (by simp [errFields, Fld.key]; omega)).trans hstate)
  · intro s n code hn hpresent hstate hlin htx h₁ h₆ hlisten hrec htec
    have hrun := doRodBusError_receiver s hpresent hstate hlin htx h₁ h₆ hlisten
    have hlow : s.getF (F.ROD_ERR_REC n) + 1 < 96 := by omega
    obtain ⟨hframe, hkept⟩ := errCounts_low_frame ((s.lec n code).emit (.rodErrorFlag n)) n htec hlow
    obtain ⟨hrod, -, hrec', -⟩ := errCounts_low_shows ((s.lec n code).emit (.rodErrorFlag n)) n htec hlow
    generalize State.errCounts _ n (s.rod n).tec (s.getF (F.ROD_ERR_REC n) + 1) = u at *
    have hlec : ∀ g : Fld, ((s.lec n code).emit (.rodErrorFlag n)).getF g = (s.setF (F.ROD_ERR_LEC n) code).getF g :=
      getF_of_regs (tally_regs _ _)
    have hpresent' : (s.setF (F.ROD_ERR_LEC n) code).rodPresent n = true :=
      (rodPresent_of_fieldsKept ((FieldsKept.refl s [F.ROD_ERR_LEC n]).setF code (by simp)) (by simp [Fld.key]; omega)
        (by simp [Fld.key]; omega)).trans hpresent
    refine ⟨u, answers rfl hrun, ?_, hrec', by rw [hrod], ?_, ?_, ?_, ?_⟩
    · rw [hkept _ (by simp [errFields, Fld.key]; omega), hlec, getF_setF_same]
      exact Nat.mod_eq_of_lt (show code < 2 ^ 4 by omega)
    · exact (counted_tally_rod _ (m := 13 + code) (by omega) hpresent').of_tallyOf rfl (tallyOf_of_tly (by rw [hframe]; rfl) _)
    · rw [hframe]
      exact congrArg (· ++ [Out.rodErrorFlag n]) (tally_out _ _)
    · rw [State.rodState, hkept _ (by simp [errFields, Fld.key]; omega), hlec,
        getF_setF_ne _ _ _ _ (by simp only [Fld.key]; omega)]
      exact hstate
    · rw [hframe]
      exact tally_dp _ _
  · intro s n winId bitpos winIde x hn htx hq hfinal hpresent
    refine ⟨_, answers rfl (doArbitrationLoss_priority s htx hq hfinal), congrArg Rod.tx (rod_setRod_same _ _ _), ?_,
      tally_dp _ _, (FieldsKept.refl s _).of_regs (tally_regs _ _)⟩
    exact counted_tally_rod s (m := 9) (by decide) hpresent
  · intro s n tdc x rest it hn hpresent htx hq hfmt hlin hqueue hitem hrefs
    obtain ⟨u, hrun, hdp, htx', htec, hcount⟩ := doRodTxComplete_classic s (tdc := tdc) hn hpresent htx hq hfmt hlin
    have hrod := rod_of_rods (rodDrop_rods u n x.q x.ref) n
    have hitem' : u.item x.ref.item = some it := by rw [State.item, hdp]; exact hitem
    have hqueue' : u.queue (64 + n) x.q = x.ref :: rest := by rw [State.queue, hdp]; exact hqueue
    refine ⟨_, answers rfl hrun, by rw [hrod, htx'], ?_, rodDrop_item_last u n hitem' hrefs.le, ?_, by rw [hrod, htec]⟩
    · rw [rodDrop_queue, hqueue', List.erase_cons_head]
    · exact hcount.of_tallyOf rfl (tallyOf_of_tly (rodDrop_tly u n _ _) _)
  · intro s n hn hpresent hstate hgen hempty htx hmode hfmt hlisten hloop hwait hgap
    obtain ⟨rec, hrun⟩ := doRodTestFrame_sends s hpresent hstate hgen hempty htx hmode hfmt hlisten hwait hgap
    have hloop' : (s.setRod n { s.rod n with
        testSeq := ((s.rod n).testSeq + 1) % 256, testAt := some s.tb.fab }).looped n = false := by
      rw [State.looped, rod_setRod_same]; exact hloop
    rw [putOnBus_unlooped _ n _ hloop', rod_setRod_same] at hrun
    refine ⟨_, answers rfl hrun, congrArg Rod.testSeq (rod_setRod_same _ _ _), ?_, ?_, rfl⟩
    · exact congrArg (fun r : Rod => r.tx.map (·.q)) (rod_setRod_same _ _ _)
    · exact List.length_append

end Sys2Proof.Machine
end

section
/-! PROOF of RodsStartWhatIsDue. What a rod picks is one reference, which it starts; empty queues leave nothing to drop, to
purge or to publish. -/

namespace Sys2Proof.Machine

/-- The last number of a range that meets `p`. -/
theorem find?_reverse_range {p : Nat → Bool} {m q : Nat} (hq : q < m) (hp : p q = true)
    (hhigher : ∀ k < m, q < k → p k = false) : ((List.range m).reverse).find? p = some q := by
  induction m with
  | zero => omega
  | succ m ih =>
    rw [List.range_succ, List.reverse_append, List.reverse_singleton, List.singleton_append]
    rcases Nat.lt_succ_iff_lt_or_eq.1 hq with hlt | rfl
    · rw [List.find?_cons_of_neg (by simp [hhigher m (by omega) hlt])]
      exact ih hlt fun k hk => hhigher k (by omega)
    · exact List.find?_cons_of_pos hp

section
variable (s : State) {n q : Nat} {r : QRef} {it : Item} {rec : List Byte}

/-! ### Picking and starting an item (R70, R72, R73) -/

/-- With no launch-time item nothing is late, due or guarded. -/
theorem dropLate_empty (h : s.queue (64 + n) 8 = []) : s.dropLate n = s := dropLate_none s n (by simp [h])

theorem dueHead_empty (h : s.queue (64 + n) 8 = []) : s.dueHead n = none := by rw [State.dueHead, h]

theorem guarded_empty (h : s.queue (64 + n) 8 = []) : s.guarded n = false := by rw [State.guarded, h]

/-- The highest priority queue that is not empty serves its head, unless the head is held. -/
theorem pick_highest {rs : List QRef} (hlin : s.isLin n = false) (hlaunch : s.queue (64 + n) 8 = []) (hq : q < 8)
    (hhigher : ∀ k < 8, q < k → s.queue (64 + n) k = []) (hqueue : s.queue (64 + n) q = r :: rs)
    (hheld : s.held (64 + n) q r.elig = false) : s.pick n = some (q, r) := by
  unfold State.pick
  rw [dueHead_empty s hlaunch, guarded_empty s hlaunch, hlin]
  dsimp -zeta only
  rw [if_neg (by decide)]
  extract_lets ok
  have hfind : ((List.range 8).reverse).find? ok = some q :=
    find?_reverse_range hq (by simp [ok, hqueue, hheld]) fun k hk hlt => by simp [ok, hhigher k hk hlt]
  rw [hfind]
  simp [hqueue]

/-- An item that converts starts. -/
theorem tryRef_starts (hlin : s.isLin n = false) (hitem : s.item r.item = some it)
    (hrec : s.txRecord n it r = .ok rec) : s.tryRef n q r = (true, s.sendRef n q r rec) := by
  simp [State.tryRef, hitem, hrec, hlin]

theorem length_queue_le_rodLoad (hq : q < 9) : (s.queue (64 + n) q).length ≤ s.rodLoad n := by
  have hsum : s.rodLoad n = ((List.range 9).map fun q => (s.queue (64 + n) q).length).sum := by
    rw [List.sum_eq_foldl, List.foldl_map]; rfl
  rw [hsum]
  exact List.le_sum_of_mem (List.mem_map.2 ⟨q, List.mem_range.2 hq, rfl⟩)

/-- A start-of-frame opportunity starts the picked item when it converts. -/
theorem doRodTxSelect_starts (hmay : s.mayStart n = true) (hlin : s.isLin n = false) (hlaunch : s.queue (64 + n) 8 = [])
    (hload : 0 < s.rodLoad n) (hpick : s.pick n = some (q, r)) (hitem : s.item r.item = some it)
    (hrec : s.txRecord n it r = .ok rec) : doRodTxSelect n s = s.sendRef n q r rec := by
  obtain ⟨fuel, hfuel⟩ := Nat.exists_eq_add_one_of_ne_zero hload.ne'
  have hserve : State.serveRod n (fuel + 1) s = s.sendRef n q r rec := by
    rw [State.serveRod, hpick]
    dsimp only
    rw [tryRef_starts s hlin hitem hrec]
  unfold doRodTxSelect
  rw [dropLate_empty s hlaunch, ite_self]
  simp only [hmay, hlin, hfuel]
  exact hserve

/-- The launch time of an item that converts starts it on an idle bus. -/
theorem doLaunchInstant_starts (hmay : s.mayStart n = true) (hlin : s.isLin n = false) (hqueue : s.queue (64 + n) 8 = [r])
    (hdue : dueAt r.launch s.now32 = true) (hlate : s.launchLate n r = false) (hitem : s.item r.item = some it)
    (hrec : s.txRecord n it r = .ok rec) : doLaunchInstant n true s = s.sendRef n 8 r rec := by
  have hhead : s.dueHead n = some r := by rw [State.dueHead, hqueue]; exact if_pos hdue
  unfold doLaunchInstant
  rw [dropLate_none s n (by simp [hqueue, hlate]), ite_self]
  simp [hmay, hlin, hhead, tryRef_starts s hlin hitem hrec]

/-- The only launch-time item, late and not on the bus, leaves its queue; its drop is tallied and raises its event (R70, R57). -/
theorem dropLate_drops (hqueue : s.queue (64 + n) 8 = [r]) (hlate : s.launchLate n r = true) (hbus : s.onBus n 8 = none)
    (hitem : s.item r.item = some it) (hrefs : it.refs ≤ 1) : ∃ u : State, u.regs = s.regs ∧ u.tly = s.tly
      ∧ u.queue (64 + n) 8 = [] ∧ u.item r.item = none
      ∧ s.dropLate n = ((u.tally (T.rodLaunchLate n)).rodEvt n 5).txPending n := by
  refine ⟨(s.setQueue (64 + n) 8 []).release r.item, release_regs _ _, release_tly _ _, ?_, ?_, ?_⟩
  · exact (queue_of_queues (release_queues _ _) _ _).trans (queue_setQueue_same s _ _ _)
  · exact release_item_last (s.setQueue (64 + n) 8 []) hitem hrefs
  · simp [State.dropLate, hqueue, hlate, hbus]

/-! ### LIN slots (R67, R69, R76) -/

/-- A slot that another node publishes sends its header and expects the response of its length. -/
theorem runSlot_expects {k e : Nat} (hpublish : bit e 7 = false) : ∃ classic linEnd, s.runSlot n k e =
    ((s.setRod n { s.rod n with linSlot := if k = 255 then 0 else k + 1, linEnd := linEnd, linWait := none }).emit
      (.linHeader n (bits e 1 6))).setRod n { s.rod n with
        linSlot := if k = 255 then 0 else k + 1, linEnd := linEnd, linWait := some (bits e 1 6, bits e 25 3 + 1, classic) } := by
  have hrod : ∀ (u : State) (x : Rod) (o : Out), ((u.setRod n x).emit o).rod n = x := fun u x _ => rod_setRod_same u n x
  unfold State.runSlot
  simp only [hpublish, hrod]
  exact ⟨_, _, rfl⟩

/-- A commander between two slots, with no launch-time item, runs the slot whose turn it is. -/
theorem doLinSlotStart_runs (hmay : s.mayStart n = true) (hmode : s.rodMode n = 3) (hslot : s.inSlot n = false)
    (hlaunch : s.queue (64 + n) 8 = []) (hvalid : bit (s.slotEntry n (s.rod n).linSlot) 0 = true) :
    doLinSlotStart n s = s.runSlot n (s.rod n).linSlot (s.slotEntry n (s.rod n).linSlot) := by
  unfold doLinSlotStart
  rw [dropLate_empty s hlaunch, ite_self]
  simp [hmay, hmode, hslot, dueHead_empty s hlaunch, hvalid]

/-- A responder repeats its wake-up pulse. -/
theorem doLinWakeRetry_repeats (hpresent : s.rodPresent n = true) (hmode : s.rodMode n = 4)
    (hpulses : 0 < (s.rod n).wakePulses) (hfew : (s.rod n).wakePulses < 3) (hstate : s.rodState n = 8)
    (hlisten : s.isF (F.ROD_CTL_LISTEN_ONLY n) = false) : doLinWakeRetry n s =
      (s.setRod n { s.rod n with wakePulses := (s.rod n).wakePulses + 1 }).emit (.linWake n) := by
  have hmore : ¬ 3 ≤ (s.rod n).wakePulses := by omega
  unfold doLinWakeRetry
  simp [hpresent, hmode, hpulses, hmore, hstate, State.linPulse, hlisten]

/-- A commander whose response does not come gives the wait up. -/
theorem doLinNoResp_givesUp {w : Nat × Nat × Bool} (hpresent : s.rodPresent n = true) (hmode : s.rodMode n = 3)
    (hwait : (s.rod n).linWait = some w) :
    doLinNoResp n s = ((s.setRod n { s.rod n with linWait := none }).lec n 8).rodEvt n 8 :=
  if_pos ⟨hpresent, hmode, by rw [hwait]; rfl⟩

/-! ### LIN headers (R65, R68) -/

theorem linPurge_empty (h : ∀ q < 8, s.queue (64 + n) q = []) : s.linPurge n = s :=
  forN_rel (s := s) (R := fun t u => t = s → u = s) (fun _ e => e) (fun htu huv e => huv (htu e)) 8 _
    (fun q t hq e => by rw [e, h q hq]; rfl) rfl

theorem linFind_empty (fid : Nat) (h : ∀ q < 8, s.queue (64 + n) q = []) : s.linFind n fid = none := by
  simp only [State.linFind, List.findSome?_eq_none_iff, List.mem_reverse, List.mem_range]
  intro q hq x hx
  rw [h q hq] at hx
  exact absurd hx List.not_mem_nil

/-- A responder with nothing to send expects the response of an identifier that its table holds. -/
theorem doLinHeaderReceived_expects {fid sync : Nat} {h : RodHit} (hsync : s.syncOk n sync = true) (hfid : fid < 0x3C)
    (hpresent : s.rodPresent n = true) (hmode : s.rodMode n = 4) (hstate : s.rodState n = 3) (htx : (s.rod n).tx = none)
    (hempty : ∀ q < 8, s.queue (64 + n) q = []) (hhit : s.rodLookup n 5 fid = some h) :
    ∃ u : State, u.regs = s.regs ∧ u.dp = s.dp ∧ doLinHeaderReceived n fid 0 sync s = u.setRod n { s.rod n with
      wakePulses := 0, linSync := some sync, linWait := some (fid, bits h.word 60 3 + 1, bit h.word 59) } := by
  let u := s.setRod n { s.rod n with wakePulses := 0, linWait := none, linSync := none }
  have hrod : u.rod n = { s.rod n with wakePulses := 0, linWait := none, linSync := none } := rod_setRod_same _ _ _
  have hsync' : u.syncOk n sync = true := by
    rw [← hsync]
    unfold State.syncOk State.linDiv
    rw [hrod]
    rfl
  have hready : ¬ (!s.rodPresent n || s.rodMode n != 4 || s.rodState n != 3 || (s.rod n).tx.isSome) = true := by
    simp [hpresent, hmode, hstate, htx]
  have hdata : ¬ 0x3C ≤ fid := by omega
  refine ⟨u, rfl, rfl, ?_⟩
  unfold doLinHeaderReceived
  rw [Nat.mod_eq_of_lt (by omega : fid < 64)]
  rw [if_neg hready]
  change (if (0 : Nat) ≠ 0 then _ else if (!u.syncOk n sync) = true then _ else _) = _
  rw [if_neg (by decide), hsync', linPurge_empty u hempty]
  simp [linFind_empty u fid hempty, show u.rodLookup n 5 fid = some h from hhit, hdata, hrod]

end

/-- Settles O31: each clause is the run of its function, which starts one reference, drops one, or notes what it expects. -/
theorem rodsStartWhatIsDue : Obligations.RodsStartWhatIsDue := by
  unfold Obligations.RodsStartWhatIsDue
  refine ⟨?_, ?_, ?_, ?_, ?_, ?_, ?_, ?_⟩
  · intro s n q r rs it rec hn hq hmay hlin hloop hlaunch hhigher hqueue hheld hitem hrec hshaper
    have hload : 0 < s.rodLoad n :=
      (by rw [hqueue]; exact Nat.succ_pos _ : 0 < (s.queue (64 + n) q).length).trans_le
        (length_queue_le_rodLoad s (by omega))
    have hrun := doRodTxSelect_starts s hmay hlin hlaunch hload
      (pick_highest s hlin hlaunch hq hhigher hqueue hheld) hitem hrec
    obtain ⟨htx, hout, hitems⟩ := sendRef_starts s n rec hloop (q := q) (r := r) fun _ => hshaper
    exact ⟨_, answers rfl hrun, by rw [htx]; rfl, by rw [htx]; rfl, by rw [htx]; rfl, hout,
      (item_of_items hitems _).trans hitem⟩
  · intro s n r it rec hn hmay hlin hloop hqueue hdue hlate hitem hrec
    have hrun := doLaunchInstant_starts s hmay hlin hqueue hdue hlate hitem hrec
    obtain ⟨htx, hout, -⟩ := sendRef_starts s n rec hloop (q := 8) (r := r) fun h => absurd h (by decide)
    exact ⟨_, answers rfl hrun, by rw [htx]; rfl, by rw [htx]; rfl, hout⟩
  · intro s n r it hn hpresent hqueue hlate hbus hitem hrefs
    obtain ⟨u, hregs, htly, hqueue', hitem', hdrop⟩ := dropLate_drops s hqueue hlate hbus hitem hrefs.le
    have hrun : doLaunchLate n s = ((u.tally (T.rodLaunchLate n)).rodEvt n 5).txPending n := (if_pos hpresent).trans hdrop
    have hpresent' : u.rodPresent n = true :=
      (rodPresent_congr (getF_of_regs hregs _) (getF_of_regs hregs _)).trans hpresent
    have hdp : (((u.tally (T.rodLaunchLate n)).rodEvt n 5).txPending n).dp = u.dp := by simp
    have hcount : Counted s (u.tally (T.rodLaunchLate n)) (T.rodLaunchLate n) :=
      (counted_tally_rod u (m := 10) (by decide) hpresent').of_tallyOf (tallyOf_of_tly htly _) rfl
    refine ⟨_, answers rfl hrun, ?_, ?_, ?_, ?_⟩
    · exact (queue_of_queues (congrArg DataPlane.queues hdp) _ _).trans hqueue'
    · exact (item_of_items (congrArg DataPlane.items hdp) _).trans hitem'
    · exact hcount.of_tallyOf rfl ((tallyOf_of_tly (txPending_tly _ _) _).trans (tallyOf_rodEvt _ 5 hn (by decide)))
    · rw [fieldsKept_txPending _ _ _ (by simp [Fld.key]; omega)]
      exact flag_rodEvt _ hn (by decide)
  · rintro s n k hn hmay hmode hslot hlaunch rfl hk hvalid hpublish
    obtain ⟨classic, linEnd, hslot'⟩ := runSlot_expects s (n := n) (k := (s.rod n).linSlot) hpublish
    have hrun := (doLinSlotStart_runs s hmay hmode hslot hlaunch hvalid).trans hslot'
    refine ⟨_, answers rfl hrun, rfl, ?_, ?_, ?_, rfl, rfl⟩ <;> rw [rod_setRod_same]
    · exact if_neg hk.ne
    · rfl
    · rfl
  · intro s n hn hpresent hmode hpulses
    exact answers rfl (if_pos ⟨hpresent, hmode, hpulses⟩)
  · intro s n hn hpresent hmode hpulses hfew hstate hlisten
    exact answers rfl (doLinWakeRetry_repeats s hpresent hmode hpulses hfew hstate hlisten)
  · intro s n w hn hpresent hmode hwait
    let v := (s.setRod n { s.rod n with linWait := none }).setF (F.ROD_ERR_LEC n) 8
    have hpresent' : v.rodPresent n = true :=
      (rodPresent_of_fieldsKept ((FieldsKept.refl (s.setRod n _) [F.ROD_ERR_LEC n]).setF 8 (by simp)) (by simp [Fld.key]; omega)
        (by simp [Fld.key]; omega)).trans hpresent
    have hrod : (((v.tally (T.rodErr n 8)).rodEvt n 8).rod n).linWait = none := by
      rw [rod_of_rods (rodEvt_rods _ _ _), rod_of_rods (tally_rods _ _)]
      exact congrArg Rod.linWait (rod_setRod_same _ _ _)
    refine ⟨_, answers rfl (doLinNoResp_givesUp s hpresent hmode hwait), hrod, ?_, ?_, flag_rodEvt _ hn (by decide)⟩
    · rw [getF_rodEvt_ne _ _ _ (by simp only [Fld.key]; omega) (by simp only [Fld.key]; omega)]
      exact (getF_of_regs (tally_regs _ _) _).trans (getF_setF_same _ _ 8)
    · exact (counted_tally_rod v (m := 21) (by decide) hpresent').of_tallyOf rfl (tallyOf_rodEvt _ 8 hn (by decide))
  · intro s n fid sync h hn hsync hfid hpresent hmode hstate htx hempty hhit
    obtain ⟨u, hregs, hdp, hrun⟩ := doLinHeaderReceived_expects s hsync hfid hpresent hmode hstate htx hempty hhit
    refine ⟨_, answers rfl hrun, ?_, ?_, ?_, hregs, hdp⟩ <;> rw [rod_setRod_same]

end Sys2Proof.Machine
end

section
/-! PROOF of the refutation of AcfEnginesBatchAndSplit. A message whose talker entry holds an uncorrectable error is dropped
with its source reference released: it joins no batch, though the entry still reads as a valid context. -/

namespace Sys2Proof.Machine

/-- A released reference leaves the open batches as they are. -/
theorem release_batchOf (s : State) (i c : Nat) : (s.release i).batchOf c = s.batchOf c := by
  have drop : (s.dropItem i).batchOf c = s.batchOf c := by
    unfold State.dropItem
    split
    · rfl
    · rw [(testBeads_cases _ i).2]; rfl
  unfold State.release
  split
  · rfl
  · split
    · exact drop
    · rfl

/-- The assembler drops a complete message of a poisoned talker context (Table 9.9). -/
theorem acfAppend_poisoned {s : State} {m : AcfMsg} {rest : List AcfMsg} {it : Item} (hq : s.dp.acfQ = m :: rest)
    (hitem : s.item m.item = some it) (hcomplete : it.complete = true) (hpoison : s.poisoned tTalker m.ctx = true) :
    s.acfAppend = ({ s with dp := { s.dp with acfQ := rest } }).release m.item := by
  have hpoison' : ({ s with dp := { s.dp with acfQ := rest } } : State).poisoned tTalker m.ctx = true := hpoison
  unfold State.acfAppend
  rw [hq]
  dsimp only
  rw [hitem]
  dsimp only
  rw [hcomplete, if_neg (by decide), if_pos hpoison']

theorem acfAppend_poisoned_batchOf {s : State} {m : AcfMsg} {rest : List AcfMsg} {it : Item} (hq : s.dp.acfQ = m :: rest)
    (hitem : s.item m.item = some it) (hcomplete : it.complete = true) (hpoison : s.poisoned tTalker m.ctx = true) (c : Nat) :
    s.acfAppend.batchOf c = s.batchOf c := by
  rw [acfAppend_poisoned hq hitem hcomplete hpoison, release_batchOf]
  rfl

/-- A Classical CAN record of identifier 5 with two data bytes. -/
def canRecord : List Byte := ({ id := 5, fmt := 0, w1 := 32, w2 := 0 } : RecHdr).bytes ++ [1, 2]

/-- The record as an item of rod 0 with one reference. -/
def canItem : Item := { bytes := canRecord, isRod := true, ingress := 64, t := 5, refs := 1, shBeads := 1 }

/-- A message of that item for talker context 3, its format and identifier kept. -/
def canMessage : AcfMsg := ⟨1, 3, 6 * 2 ^ 10 + 2 ^ 18⟩

/-- A valid entry of a talker context: FRAME_MAX 1500, MAX_MSGS 5, HOLD 9 µs. -/
def talkerEntry : Nat := 2 ^ 63 + 1500 * 2 ^ (64 + 48) + 5 * 2 ^ (3 * 64 + 16) + 9 * 2 ^ (3 * 64)

/-- The message waits, and then an uncorrectable memory error hits the entry of its talker context. -/
def poisonedTalker : State :=
  let s := State.reset.setEntry tTalker 3 talkerEntry
  ({ s with dp := { s.dp with items := [(1, some canItem)], acfQ := [canMessage] } }).memUe (.entry tTalker 3)

/-- Refutes O32: its first clause lets the talker entry be poisoned. An uncorrectable error leaves the entry's bits as they
read, so every hypothesis holds in `poisonedTalker`; but the assembler drops the message (Table 9.9), and no batch opens. -/
theorem not_acfEnginesBatchAndSplit : ¬ Obligations.AcfEnginesBatchAndSplit := by
  unfold Obligations.AcfEnginesBatchAndSplit
  rintro ⟨hAppend, -⟩
  have hq : poisonedTalker.dp.acfQ = [canMessage] := by decide +kernel
  have hitem : poisonedTalker.item canMessage.item = some canItem := by decide +kernel
  have hpoison : poisonedTalker.poisoned tTalker canMessage.ctx = true := by decide +kernel
  have hclosed : poisonedTalker.batchOf canMessage.ctx = none := by decide +kernel
  obtain ⟨t, ht, -, -, hcount, -⟩ := hAppend poisonedTalker canMessage [] canItem canRecord hq (by decide) hitem rfl rfl
    (by decide +kernel) (by decide +kernel) hclosed (by decide +kernel) (by decide +kernel) (by decide) (by decide +kernel)
    (by decide +kernel)
  obtain rfl : poisonedTalker.acfAppend = t := Host.Outcome.next.inj ht
  rw [acfAppend_poisoned_batchOf hq hitem rfl hpoison, hclosed] at hcount
  exact absurd hcount (by decide)

end Sys2Proof.Machine
end

section
/-! SUPPORT. Sweeps of the MAC table (R124, R135): which entries a visit removes, what it changes beside them, and what the
visits of one slot come to. -/

namespace Sys2Proof.Machine

/-! ### What a change of MAC entries changes beside the table -/

/-- The learned counts of the ports (R121). -/
def learnCounts : List Fld := (List.range 36).map F.PRT_LEARN_COUNT_COUNT

/-- Between `s` and `t` marks of poisoned entries may be gone from the data plane and learned counts may differ among the
register fields. -/
structure MacOnly (s t : State) : Prop where
  dp : t.dp = { s.dp with poison := t.dp.poison }
  poison : t.dp.poison ⊆ s.dp.poison
  fields : FieldsKept s t learnCounts

namespace MacOnly
variable {s t u : State}

theorem refl (s : State) : MacOnly s s := ⟨rfl, List.Subset.refl _, .refl s _⟩

theorem trans (h : MacOnly s t) (k : MacOnly t u) : MacOnly s u :=
  ⟨k.dp.trans (by rw [h.dp]), List.Subset.trans k.poison h.poison, h.fields.trans k.fields⟩

theorem tally (h : MacOnly s t) (i : Nat) : MacOnly s (t.tally i) :=
  ⟨by rw [tally_dp]; exact h.dp, by rw [tally_dp]; exact h.poison, h.fields.of_regs (tally_regs t i)⟩

theorem poison_nil (h : MacOnly s t) (hs : s.dp.poison = []) : t.dp.poison = [] := List.subset_nil.1 (hs ▸ h.poison)

end MacOnly

section
variable (s : State)

theorem tally_tables (i : Nat) : (s.tally i).tables = s.tables := by rw [State.tally, tallyN_eq]

theorem learnedBy_dp (p : Option Nat) (up : Bool) : (s.learnedBy p up).dp = s.dp := by
  unfold State.learnedBy
  cases p with
  | none => rfl
  | some p => dsimp only; split <;> rfl

theorem fieldsKept_learnedBy (p : Option Nat) (up : Bool) : FieldsKept s (s.learnedBy p up) learnCounts := by
  unfold State.learnedBy
  cases p with
  | none => exact .refl s _
  | some p =>
    dsimp only
    split
    · exact .refl s _
    · next hp => exact (FieldsKept.refl s _).setF _ (List.mem_map_of_mem (List.mem_range.2 (by omega)))

theorem macOnly_learnedBy (p : Option Nat) (up : Bool) : MacOnly s (s.learnedBy p up) :=
  ⟨by rw [learnedBy_dp], by rw [learnedBy_dp]; exact List.Subset.refl _, fieldsKept_learnedBy s p up⟩

theorem macOnly_putEntry (i e : Nat) : MacOnly s (s.putEntry tMac i e) := by
  refine (MacOnly.trans ?_ (macOnly_learnedBy _ _ _)).trans (macOnly_learnedBy _ _ _)
  exact ⟨rfl, List.filter_subset_self _, .refl s _⟩

end

/-! ### One visit -/

/-- Sweep `w` of the MAC table removes an entry `e`: a flush those that match its value under its mask, an age sweep those
that have reached its age. -/
def State.sweepHits (s : State) (w : Sweep) (e : Nat) : Bool :=
  match w.flush with
  | some (v, m) => e != 0 && (bits e 0 128 &&& m) == (v &&& m)
  | none => s.macAged e (if w.req = 3 then s.getF F.FWD_CFG_AGE_TIME else w.age)

section
variable {s t : State} {w : Sweep}

/-- Learned counts decide nothing about what a sweep removes. -/
theorem MacOnly.sweepHits (h : MacOnly s t) (e : Nat) : t.sweepHits w e = s.sweepHits w e := by
  have hnow : t.getF F.FWD_AGE_NOW_NOW = s.getF F.FWD_AGE_NOW_NOW := h.fields _ (by decide)
  have hage : t.getF F.FWD_CFG_AGE_TIME = s.getF F.FWD_CFG_AGE_TIME := h.fields _ (by decide)
  unfold State.sweepHits State.macAged
  rw [hnow, hage]

theorem sweepVisit_flush {v m : Nat} (htable : w.table = tMac) (hflush : w.flush = some (v, m)) (i : Nat) :
    s.sweepVisit w i = if s.sweepHits w (s.entry tMac i) then (true, s.putEntry tMac i 0) else (false, s) := by
  simp [State.sweepVisit, State.sweepHits, State.seenEntry, htable, hflush]

theorem sweepVisit_age (htable : w.table = tMac) (hflush : w.flush = none) {i : Nat}
    (hclean : s.poisoned tMac i = false) : s.sweepVisit w i =
      if s.sweepHits w (s.entry tMac i) then (true, (s.putEntry tMac i 0).tally (T.fwdDev 4)) else (false, s) := by
  simp [State.sweepVisit, State.sweepHits, htable, hflush, hclean]

/-- A visit of the MAC table removes the entry or leaves the state as it is. -/
theorem sweepVisit_mac_cases (htable : w.table = tMac) (hpoison : w.flush = none → s.dp.poison = []) (i : Nat) :
    (s.sweepHits w (s.entry tMac i) = false ∧ s.sweepVisit w i = (false, s)) ∨
    (s.sweepHits w (s.entry tMac i) = true ∧ ∃ t, s.sweepVisit w i = (true, t)
      ∧ t.tables = (s.setEntry tMac i 0).tables ∧ MacOnly s t) := by
  have hput := macOnly_putEntry s i 0
  have htables := putEntry_mac_tables s i 0
  have hvisit : ∃ t, t.tables = (s.setEntry tMac i 0).tables ∧ MacOnly s t
      ∧ s.sweepVisit w i = if s.sweepHits w (s.entry tMac i) then (true, t) else (false, s) := by
    cases hflush : w.flush with
    | some vm => exact ⟨_, htables, hput, sweepVisit_flush htable hflush i⟩
    | none =>
      refine ⟨_, ?_, hput.tally (T.fwdDev 4), sweepVisit_age htable hflush (poisoned_nil s (hpoison hflush) tMac i)⟩
      rw [tally_tables, htables]
  obtain ⟨t, ht, honly, hvisit⟩ := hvisit
  cases hhit : s.sweepHits w (s.entry tMac i) with
  | false => exact .inl ⟨rfl, by simpa [hhit] using hvisit⟩
  | true => exact .inr ⟨rfl, t, by simpa [hhit] using hvisit, ht, honly⟩

end

/-! ### The visits of a slot -/

/-- The visits of the next `n` entries of sweep `w`: how many it removes, and the state behind them. -/
def State.sweepVisits (s : State) (w : Sweep) (n : Nat) : Nat × State :=
  (List.range n).foldl (fun a k =>
    (a.1 + b2n (a.2.sweepVisit w (w.pos + k)).1, (a.2.sweepVisit w (w.pos + k)).2)) (0, s)

/-- The sweeps that run are those of `l`. -/
def State.setSweeps (s : State) (l : List Sweep) : State := { s with dp := { s.dp with sweeps := l } }

/-- It is the turn of `w`'s requester (R25). -/
def State.turnTo (s : State) (w : Sweep) : State := { s with dp := { s.dp with rrLast := w.req } }

/-- The four visits of a slot of sweep `w`. -/
def State.slotVisits (s : State) (w : Sweep) : Nat × State := (s.turnTo w).sweepVisits w 4

/-- Sweep `w` behind a slot that removed `n` entries. -/
def Sweep.moved (w : Sweep) (n : Nat) : Sweep := { w with pos := w.pos + 4, count := w.count + n }

section
variable {s : State} {w : Sweep}

theorem sweepVisits_succ (n : Nat) : s.sweepVisits w (n + 1) =
    ((s.sweepVisits w n).1 + b2n ((s.sweepVisits w n).2.sweepVisit w (w.pos + n)).1,
      ((s.sweepVisits w n).2.sweepVisit w (w.pos + n)).2) := by
  simp [State.sweepVisits, List.range_succ]

/-- What `n` visits of the MAC table have done: the entries that the sweep hits are cleared and counted. -/
structure MacSwept (s : State) (w : Sweep) (n : Nat) (a : Nat × State) : Prop where
  only : MacOnly s a.2
  entries : ∀ k, a.2.entry tMac (w.pos + k) =
    if k < n ∧ s.sweepHits w (s.entry tMac (w.pos + k)) = true then 0 else s.entry tMac (w.pos + k)
  count : a.1 = ((List.range n).filter (fun k => s.sweepHits w (s.entry tMac (w.pos + k)))).length

theorem macSwept_sweepVisits (htable : w.table = tMac) (hpoison : w.flush = none → s.dp.poison = []) (n : Nat) :
    MacSwept s w n (s.sweepVisits w n) := by
  induction n with
  | zero => exact ⟨.refl s, by simp [State.sweepVisits], rfl⟩
  | succ n ih =>
    rw [sweepVisits_succ]
    generalize s.sweepVisits w n = a at ih ⊢
    obtain ⟨honly, hentries, hcount⟩ := ih
    have hhere : a.2.entry tMac (w.pos + n) = s.entry tMac (w.pos + n) := by simp [hentries]
    have hcases := sweepVisit_mac_cases (s := a.2) htable (fun h => honly.poison_nil (hpoison h)) (w.pos + n)
    rw [hhere, honly.sweepHits] at hcases
    obtain ⟨hmiss, hvisit⟩ | ⟨hhit, t, hvisit, htables, hput⟩ := hcases
    · rw [hvisit]
      refine ⟨honly, fun k => ?_, by simp [List.range_succ, hcount, hmiss, b2n]⟩
      rw [hentries]
      by_cases hk : k = n
      · simp [hk, hmiss]
      · simp [show k < n + 1 ↔ k < n by omega]
    · rw [hvisit]
      obtain ⟨hcleared, hkept⟩ := entries_of_putEntry htables
      refine ⟨honly.trans hput, fun k => ?_, by simp [List.range_succ, hcount, hhit, b2n]⟩
      by_cases hk : k = n
      · simp [hk, hhit, hcleared]
      · rw [hkept _ _ (by simp only [tkey]; omega), hentries]
        simp [show k < n + 1 ↔ k < n by omega]

end

end Sys2Proof.Machine
end

section
/-! PROOF of SweepsLearningAndAgingChangeTheMacTable. A slot is four visits and then either the sweep at its next place or its
end; a learn request puts one entry. -/

namespace Sys2Proof.Machine

section
variable {s : State} {r : Nat} {w : Sweep}

/-! ### The start of a sweep -/

/-- A command that is taken at once and starts a sweep leaves BUSY set. -/
theorem tblCmd_starts {op : Nat} {run : State → Option Nat × State} {u : State} (h : s.CanCommand r)
    (hrun : run (s.setF (reqF r F.TBL_STAT_LAST_OP) op) = (none, u)) :
    s.tblCmd r op run = u.setB (reqF r F.TBL_STAT_BUSY) true := by
  obtain ⟨-, hserving, hup, hbusy⟩ := h
  simp [State.tblCmd, State.busGate, hup, hbusy, hrun, hserving]

theorem startSweep_idle (h : s.dp.sweeps = []) (w : Sweep) : s.startSweep w = (none, s.setSweeps [w]) := by
  simp [State.startSweep, State.setSweeps, h]

theorem doFlushMasked_mac (h : s.CanCommand r) (hcode : (s.tblAddr r).1 = tMac) (hsweeps : s.dp.sweeps = []) :
    doFlushMasked r s = ((s.setF (reqF r F.TBL_STAT_LAST_OP) 6).setSweeps
      [⟨r, tMac, 0, some (bits (s.tblData r) 0 128, bits (s.tblData r) 128 128), 0, 0⟩]).setB
        (reqF r F.TBL_STAT_BUSY) true := by
  have hbytes : entryBytes tMac ≠ 8 := by decide
  have hstored : tMac ≠ tTime := by decide
  unfold doFlushMasked
  rw [min_requester h]
  refine tblCmd_starts h ?_
  simp only [tblAddr_lastOp, tblData_lastOp, hcode, if_neg hbytes, if_neg hstored]
  exact startSweep_idle (by exact hsweeps) _

theorem doAgeSweep_mac (h : s.CanCommand r) (hcode : (s.tblAddr r).1 = tMac) (hsweeps : s.dp.sweeps = []) :
    doAgeSweep r s = ((s.setF (reqF r F.TBL_STAT_LAST_OP) 7).setSweeps
      [⟨r, tMac, 0, none, max 1 (s.tblData r % 2 ^ 16), 0⟩]).setB (reqF r F.TBL_STAT_BUSY) true := by
  unfold doAgeSweep
  rw [min_requester h]
  refine tblCmd_starts h ?_
  simp only [tblAddr_lastOp, tblData_lastOp, hcode, ne_eq, not_true, if_false]
  exact startSweep_idle (by exact hsweeps) _

/-! ### A slot of a sweep -/

/-- The only sweep is served, whoever's turn it is. -/
theorem nextSweep_single (hsweeps : s.dp.sweeps = [w]) (hreq : w.req < 4) : s.nextSweep = some w := by
  unfold State.nextSweep
  rw [hsweeps]
  cases hnext : (List.range 4).findSome? (fun k => [w].find? (fun w => w.req == (s.dp.rrLast + 1 + k) % 4)) with
  | none =>
    have hturn := List.findSome?_eq_none_iff.1 hnext ((w.req + 3 * (s.dp.rrLast + 1)) % 4) (List.mem_range.2 (by omega))
    simp at hturn
    omega
  | some v =>
    obtain ⟨k, -, hk⟩ := List.exists_of_findSome?_eq_some hnext
    rw [List.mem_singleton.1 (List.mem_of_find?_eq_some hk)]

/-- A slot of the only sweep visits four entries, and then the sweep goes on behind them or ends. -/
theorem doSweepSlot_mac (slow : Bool) (hsweeps : s.dp.sweeps = [w]) (htable : w.table = tMac) (hreq : w.req < 4)
    (hen : w.req = 3 → s.isF F.FWD_CFG_AGE_EN = true) (hpos : w.pos + 4 ≤ 65536) :
    doSweepSlot slow s = if 65536 ≤ w.pos + 4 then (s.slotVisits w).2.sweepEnd (w.moved (s.slotVisits w).1) stOk
      else (s.slotVisits w).2.setSweeps
        ((s.slotVisits w).2.dp.sweeps.filter (fun v => v.table != w.table) ++ [w.moved (s.slotVisits w).1]) := by
  have hnext := nextSweep_single hsweeps hreq
  unfold doSweepSlot
  split
  · next hnone => simp [hnone] at hnext
  · next v hv =>
    obtain rfl : v = w := Option.some.inj (hv.symm.trans hnext)
    extract_lets _ u size last
    have hu : u = s.turnTo v := rfl
    have hen' : v.req = 3 → u.isF F.FWD_CFG_AGE_EN = true := hen
    have hsize : size = 65536 := by simp [size, htable, State.tableSize]
    have hlast : last = v.pos + 4 := by omega
    have hvisited : last - v.pos = 4 := by omega
    have hddr : ¬ (slow && inDdr v.table (last - 1)) = true := by simp [inDdr, htable]
    have hbackground : ¬ (v.req == 3 && v.table == tMac && !u.isF F.FWD_CFG_AGE_EN) = true := by
      simp +contextual [hen']
    clear_value size last u
    rw [if_neg hddr, if_neg hbackground, hvisited]
    split
    next n t hvisits =>
      have hslot : s.slotVisits v = (n, t) := by rw [← hvisits, hu]; rfl
      rw [hslot, hsize, hlast]
      rfl

/-- The visits of a slot clear and count what the sweep hits, and leave the sweeps as they are. -/
theorem slotVisits_mac (htable : w.table = tMac) (hpoison : w.flush = none → s.dp.poison = []) :
    (s.slotVisits w).2.dp.sweeps = s.dp.sweeps ∧ (s.slotVisits w).2.dp.ageDue = s.dp.ageDue
      ∧ (∀ k < 4, (s.slotVisits w).2.entry tMac (w.pos + k) =
          if s.sweepHits w (s.entry tMac (w.pos + k)) = true then 0 else s.entry tMac (w.pos + k))
      ∧ (s.slotVisits w).1 = ((List.range 4).filter (fun k => s.sweepHits w (s.entry tMac (w.pos + k)))).length := by
  obtain ⟨honly, hentries, hcount⟩ := macSwept_sweepVisits (s := s.turnTo w) htable hpoison 4
  refine ⟨(congrArg DataPlane.sweeps honly.dp :), (congrArg DataPlane.ageDue honly.dp :), fun k hk => ?_, hcount⟩
  have hentry := hentries k
  simp only [hk, true_and] at hentry
  exact hentry

/-- A slot before the last one clears and counts what the sweep hits, and the sweep goes on behind it. -/
theorem doSweepSlot_mac_moves (slow : Bool) (hsweeps : s.dp.sweeps = [w]) (htable : w.table = tMac) (hreq : w.req < 4)
    (hen : w.req = 3 → s.isF F.FWD_CFG_AGE_EN = true) (hpoison : w.flush = none → s.dp.poison = [])
    (hpos : w.pos + 4 < 65536) :
    (∀ k < 4, (doSweepSlot slow s).entry tMac (w.pos + k) =
      if s.sweepHits w (s.entry tMac (w.pos + k)) = true then 0 else s.entry tMac (w.pos + k))
    ∧ (doSweepSlot slow s).dp.sweeps = [w.moved
      ((List.range 4).filter (fun k => s.sweepHits w (s.entry tMac (w.pos + k)))).length] := by
  obtain ⟨hkept, -, hentries, hcount⟩ := slotVisits_mac (s := s) htable hpoison
  rw [doSweepSlot_mac slow hsweeps htable hreq hen hpos.le, if_neg (by omega), hkept, hsweeps, hcount]
  exact ⟨hentries, by simp [State.setSweeps]⟩

theorem tblEnd_dp (s : State) (r st : Nat) : (s.tblEnd r st).dp = s.dp := by
  unfold State.tblEnd
  split
  · exact tally_dp _ _
  · rfl

/-- A requester's sweep ends: its TBL_COUNT holds the count, its BUSY is clear and its status is OK. -/
theorem sweepEnd_requester (htable : w.table = tMac) (hreq : w.req < 3) (hdue : s.dp.ageDue = false) :
    s.sweepEnd w stOk = (((s.setSweeps (s.dp.sweeps.filter (fun v => v.table != w.table))).setF
      (reqF w.req F.TBL_COUNT_COUNT) (min (2 ^ 32 - 1) w.count)).setB (reqF w.req F.TBL_STAT_BUSY) false).tblEnd
        w.req stOk := by
  unfold State.sweepEnd
  extract_lets _ u v t
  have hu : u = s.setSweeps (s.dp.sweeps.filter (fun v => v.table != w.table)) := rfl
  have ht : t = ((u.setF (reqF w.req F.TBL_COUNT_COUNT) (min (2 ^ 32 - 1) w.count)).setB
      (reqF w.req F.TBL_STAT_BUSY) false).tblEnd w.req stOk := if_neg (by omega)
  have hdue' : t.dp.ageDue = false := by rw [ht, tblEnd_dp]; exact hdue
  clear_value u t
  rw [← hu, ← ht]
  simp [htable, hdue']

/-- The last slot ends the sweep and its requester's command. -/
theorem doSweepSlot_mac_ends (slow : Bool) (hsweeps : s.dp.sweeps = [w]) (htable : w.table = tMac) (hreq : w.req < 3)
    (hpoison : w.flush = none → s.dp.poison = []) (hpos : w.pos = 65532) (hdue : s.dp.ageDue = false) :
    (doSweepSlot slow s).dp.sweeps = [] ∧ (doSweepSlot slow s).isF (reqF w.req F.TBL_STAT_BUSY) = false
      ∧ (doSweepSlot slow s).getF (reqF w.req F.TBL_STAT_STATUS) = 0 := by
  obtain ⟨hkept, hdue', -, -⟩ := slotVisits_mac (s := s) htable hpoison
  rw [doSweepSlot_mac slow hsweeps htable (by omega) (by omega) (by omega), if_pos (by omega),
    sweepEnd_requester (w := w.moved _) htable hreq (hdue'.trans hdue), hkept, hsweeps]
  refine ⟨?_, ?_, status_tblEnd _ _ (by decide)⟩
  · rw [tblEnd_dp]
    simp [State.setSweeps, Sweep.moved]
  · rw [State.isF, Sweep.moved, getF_tblEnd_ne _ _ _ (by decide)]
    exact isF_setB_same _ _ _ (reqF_w _ _)

/-! ### Learning -/

theorem doLearnApply_new {q : LearnReq} {rest : List LearnReq} {i : Nat} (hq : s.dp.learnQ = q :: rest)
    (hpoison : s.dp.poison = []) (hsweeps : s.dp.sweeps = []) (hfind : s.findKey tMac q.key = none)
    (hfree : s.freeWay tMac q.key = some i) (hlimit : s.atLimit q.port = false) :
    doLearnApply s = (({ s with dp := { s.dp with learnQ := rest } } : State).putEntry tMac i
      (s.learnedEntry q.key q.port)).tally (T.fwd q.port 14) := by
  unfold doLearnApply
  rw [hq]
  dsimp -zeta only
  extract_lets _ u e
  have hu : u = { s with dp := { s.dp with learnQ := rest } } := rfl
  have he : e = s.learnedEntry q.key q.port := by
    have hnow : u.getF F.FWD_AGE_NOW_NOW = s.getF F.FWD_AGE_NOW_NOW := rfl
    unfold e State.learnedEntry
    rw [hnow]
  have hclean : ¬ (ways (u.bucketOf tMac q.key)).any (u.poisoned tMac) = true := by
    simp [poisoned_nil u hpoison]
  have hfind' : u.findKey tMac q.key = none := hfind
  have hfree' : u.freeWay tMac q.key = some i := hfree
  have hlimit' : u.atLimit q.port = false := hlimit
  have hflush : u.flushHolds e = false := by
    have hnone : u.dp.sweeps = [] := hsweeps
    simp [State.flushHolds, hnone]
  clear_value u e
  rw [← hu, ← he]
  simp only [if_neg hclean, hfind', hflush, hlimit', hfree', Bool.false_eq_true, if_false]

/-- The request leaves the queue, and its entry is the only one that changes. -/
theorem doLearnApply_learns {q : LearnReq} {rest : List LearnReq} {i : Nat} (hq : s.dp.learnQ = q :: rest)
    (hpoison : s.dp.poison = []) (hsweeps : s.dp.sweeps = []) (hfind : s.findKey tMac q.key = none)
    (hfree : s.freeWay tMac q.key = some i) (hlimit : s.atLimit q.port = false) :
    (doLearnApply s).dp.learnQ = rest ∧ (doLearnApply s).entry tMac i = s.learnedEntry q.key q.port
      ∧ EntriesKept s (doLearnApply s) (tkey tMac i) := by
  rw [doLearnApply_new hq hpoison hsweeps hfind hfree hlimit]
  generalize s.learnedEntry q.key q.port = e
  refine ⟨?_, entries_of_putEntry ?_⟩
  · rw [tally_dp, (macOnly_putEntry _ _ _).dp]
  · rw [tally_tables, putEntry_mac_tables]
    rfl

end

/-- Settles O19: a slot of the MAC table is followed visit by visit (`macSwept_sweepVisits`) for flushes and aging alike. -/
theorem sweepsLearningAndAgingChangeTheMacTable : Obligations.SweepsLearningAndAgingChangeTheMacTable := by
  unfold Obligations.SweepsLearningAndAgingChangeTheMacTable
  refine ⟨fun s r code h hcode hmac hsweeps => ?_, fun s r h hcode hsweeps => ?_,
    fun s slow w v m hsweeps htable hreq hflush hpos => ?_,
    fun s slow w v m hsweeps htable hflush hpos hreq hdue => ?_,
    fun s q rest i hq _ hpoison hsweeps hfind hfree hlimit => ?_, fun s hen hsweeps => ?_,
    fun s w hen hsweeps htable hreq hflush hpos hpoison => ?_, fun s => rfl⟩
  · subst hmac
    exact ⟨_, answers rfl (doFlushMasked_mac h hcode hsweeps), rfl, isF_setB_same _ _ _ (reqF_w _ _), rfl⟩
  · exact ⟨_, answers rfl (doAgeSweep_mac h hcode hsweeps), rfl, isF_setB_same _ _ _ (reqF_w _ _), rfl⟩
  · obtain ⟨hentries, hmoved⟩ := doSweepSlot_mac_moves slow hsweeps htable (by omega) (by omega) (by simp [hflush]) hpos
    refine ⟨doSweepSlot slow s, rfl, fun k hk => ?_, by rw [hmoved]; rfl, ?_⟩
    · simpa [State.sweepHits, hflush] using hentries k hk
    · simp [hmoved, Sweep.moved, State.sweepHits, hflush]
  · exact ⟨doSweepSlot slow s, rfl, doSweepSlot_mac_ends slow hsweeps htable hreq (by simp [hflush]) hpos hdue⟩
  · obtain ⟨hrest, hentry, hkept⟩ := doLearnApply_learns hq hpoison hsweeps hfind hfree hlimit
    rw [State.learnedEntry] at hentry
    exact ⟨doLearnApply s, rfl, hrest, hentry, hkept⟩
  · exact answers rfl (by simp [doAgingPass, State.backSweep, hen, hsweeps])
  · obtain ⟨hentries, hmoved⟩ := doSweepSlot_mac_moves false hsweeps htable (by omega) (fun _ => hen) (fun _ => hpoison) hpos
    refine ⟨doSweepSlot false s, rfl, by rw [hmoved]; rfl, fun k hk => ?_⟩
    simpa [State.sweepHits, hflush, hreq] using hentries k hk

end Sys2Proof.Machine
end

section
/-! SUPPORT. The FLOW table (R148 to R152): what an entry that is put changes, and what the slots of its background sweep
clear. -/

namespace Sys2Proof.Machine

section
variable (s : State)

/-! ### Counting -/

/-- A tally that counts goes up by one. -/
theorem counted_tally {i : Nat} (h : s.tallyCounts i = true) : Counted s (s.tally i) i := by
  rw [Counted, State.tally, tallyOf_tallyN, if_pos ⟨rfl, h⟩]

/-! ### Putting an entry -/

/-- A state whose tables differ from those of `s` by one entry. -/
theorem entries_of_setEntry {s t : State} {c i e : Nat} (h : t.tables = (s.setEntry c i e).tables) :
    t.entry c i = e ∧ EntriesKept s t (tkey c i) := by
  refine ⟨?_, fun c' j hne => ?_⟩
  · rw [entry_of_tables h, entry_setEntry_same]
  · rw [entry_of_tables h, entry_setEntry_ne _ _ _ _ _ _ hne]

theorem putEntry_flow_tables (i e : Nat) : (s.putEntry tFlow i e).tables = (s.setEntry tFlow i e).tables := rfl

theorem putEntry_flow_tly (i e : Nat) : (s.putEntry tFlow i e).tly = s.tly := rfl

theorem putEntry_flow_dp (i e : Nat) : (s.putEntry tFlow i e).dp =
    { s.dp with poison := (s.putEntry tFlow i e).dp.poison } := rfl

/-- Putting an entry counts the flows in use and changes no other field. -/
theorem fieldsKept_putEntry_flow (i e : Nat) : FieldsKept s (s.putEntry tFlow i e) [F.FWL_STAT_FLOW_USED] :=
  (FieldsKept.refl (s.setEntry tFlow i e) _).setF _ (List.mem_singleton_self _)

end

section
variable {s t : State} {w : Sweep}

theorem FieldsKept.single {f g : Fld} (h : FieldsKept s t [f]) (hg : g.key ≠ f.key) : t.getF g = s.getF g :=
  h g (by simpa using hg)

theorem flowTmo_of_fieldsKept (h : FieldsKept s t [F.FWL_STAT_FLOW_USED]) (st : Nat) : t.flowTmo st = s.flowTmo st := by
  unfold State.flowTmo
  rw [h.single (g := F.FWL_FLOW_TMO0_TMO_TCP_SYN) (by decide), h.single (g := F.FWL_FLOW_TMO0_TMO_TCP_SYNACK) (by decide),
    h.single (g := F.FWL_FLOW_TMO1_TMO_TCP_EST) (by decide), h.single (g := F.FWL_FLOW_TMO1_TMO_TCP_FIN1) (by decide),
    h.single (g := F.FWL_FLOW_TMO2_TMO_TCP_FIN2) (by decide), h.single (g := F.FWL_FLOW_TMO2_TMO_TCP_CLOSED) (by decide),
    h.single (g := F.FWL_FLOW_TMO3_TMO_UDP_NEW) (by decide), h.single (g := F.FWL_FLOW_TMO3_TMO_UDP_EST) (by decide)]

/-- The count of flows in use decides nothing about which flows count as absent. -/
theorem flowAbsent_of_fieldsKept (h : FieldsKept s t [F.FWL_STAT_FLOW_USED]) (e : Nat) :
    t.flowAbsent e = s.flowAbsent e := by
  have hnow : t.getF F.FWL_NOW_NOW = s.getF F.FWL_NOW_NOW := h.single (by decide)
  have hopen (d : Nat) : t.getF (F.FWL_DIAG_W0_OPEN d) = s.getF (F.FWL_DIAG_W0_OPEN d) :=
    h.single (by simp only [Fld.key]; omega)
  have hgen (d : Nat) : t.getF (F.FWL_DIAG_W0_GEN d) = s.getF (F.FWL_DIAG_W0_GEN d) :=
    h.single (by simp only [Fld.key]; omega)
  simp only [State.flowAbsent, State.isF, flowTmo_of_fieldsKept h, hnow, hopen, hgen]

/-! ### The visits of a sweep -/

/-- What a sweep leaves of an entry: nothing of a flow that counts as absent (R152). -/
def State.flowLeft (s : State) (e : Nat) : Nat := if s.flowAbsent e = true then 0 else e

theorem sweepVisit_flow (htable : w.table = tFlow) (hflush : w.flush = none) (i : Nat) : s.sweepVisit w i =
    if s.entry tFlow i ≠ 0 ∧ s.flowAbsent (s.entry tFlow i) = true then
      (true, (s.putEntry tFlow i 0).tally (T.fwlDev 3)) else (false, s) := by
  simp [State.sweepVisit, htable, hflush]

/-- `n` visits from place `p` on have cleared the absent flows among their entries; beside the entries only the count of
flows in use, tallies and marks of poisoned entries have changed. -/
structure FlowSwept (s : State) (p n : Nat) (t : State) : Prop where
  sweeps : t.dp.sweeps = s.dp.sweeps
  fields : FieldsKept s t [F.FWL_STAT_FLOW_USED]
  swept : ∀ k < n, t.entry tFlow (p + k) = s.flowLeft (s.entry tFlow (p + k))
  kept : ∀ c i, (∀ k < n, tkey c i ≠ tkey tFlow (p + k)) → t.entry c i = s.entry c i

/-- A visit leaves of its entry what the sweep leaves, and every other entry as it is. -/
theorem flowSwept_visit (htable : w.table = tFlow) (hflush : w.flush = none) (i : Nat) :
    FlowSwept s i 1 (s.sweepVisit w i).2 := by
  rw [sweepVisit_flow htable hflush]
  split
  · next h =>
    have htables : ((s.putEntry tFlow i 0).tally (T.fwlDev 3)).tables = (s.setEntry tFlow i 0).tables := tally_tables _ _
    obtain ⟨hcleared, hkept⟩ := entries_of_setEntry htables
    refine ⟨?_, (fieldsKept_putEntry_flow s i 0).of_regs (tally_regs _ _), fun k hk => ?_, fun c j hj => ?_⟩
    · rw [tally_dp, putEntry_flow_dp]
    · obtain rfl : k = 0 := by omega
      rw [State.flowLeft, Nat.add_zero, if_pos h.2]
      exact hcleared
    · exact hkept c j (hj 0 one_pos)
  · next h =>
    refine ⟨rfl, .refl s _, fun k hk => ?_, fun _ _ _ => rfl⟩
    obtain rfl : k = 0 := by omega
    simp only [Nat.add_zero, State.flowLeft]
    split
    · next habsent => exact not_not.1 fun hne => h ⟨hne, habsent⟩
    · rfl

/-- Visits that follow one another come to one sweep of all their entries. -/
theorem FlowSwept.append {u : State} {p m n : Nat} (h : FlowSwept s p m t) (k : FlowSwept t (p + m) n u) :
    FlowSwept s p (m + n) u := by
  refine ⟨k.sweeps.trans h.sweeps, h.fields.trans k.fields, fun j hj => ?_, fun c i hi => ?_⟩
  · by_cases hjm : j < m
    · rw [k.kept _ _ fun l _ => by simp only [tkey]; omega, h.swept j hjm]
    · obtain ⟨l, rfl⟩ := Nat.exists_eq_add_of_le (Nat.le_of_not_lt hjm)
      rw [← Nat.add_assoc, k.swept l (by omega), h.kept _ _ fun l' _ => by simp only [tkey]; omega]
      simp only [State.flowLeft, flowAbsent_of_fieldsKept h.fields]
  · rw [k.kept _ _ fun l hl => by rw [Nat.add_assoc]; exact hi _ (by omega), h.kept _ _ fun l hl => hi l (by omega)]

theorem flowSwept_visits (htable : w.table = tFlow) (hflush : w.flush = none) (n : Nat) :
    FlowSwept s w.pos n (s.sweepVisits w n).2 := by
  induction n with
  | zero => exact ⟨rfl, .refl s _, fun _ h => absurd h (by omega), fun _ _ _ => rfl⟩
  | succ n ih =>
    rw [sweepVisits_succ]
    exact ih.append (flowSwept_visit htable hflush _)

/-! ### A slot of a sweep -/

/-- A slot of the only sweep, of another table than the MAC table, visits four entries and goes on behind them. -/
theorem doSweepSlot_goesOn (hsweeps : s.dp.sweeps = [w]) (hreq : w.req < 4) (hmac : w.table ≠ tMac)
    (hpos : w.pos + 4 < s.tableSize w.table) : doSweepSlot false s = (s.slotVisits w).2.setSweeps
      ((s.slotVisits w).2.dp.sweeps.filter (fun v => v.table != w.table) ++ [w.moved (s.slotVisits w).1]) := by
  have hnext := nextSweep_single hsweeps hreq
  unfold doSweepSlot
  split
  · next hnone => simp [hnone] at hnext
  · next v hv =>
    obtain rfl : v = w := Option.some.inj (hv.symm.trans hnext)
    extract_lets _ u size last
    have hu : u = s.turnTo v := rfl
    have hsize : size = s.tableSize v.table := rfl
    have hlast : last = v.pos + 4 := min_eq_right (by omega)
    have hvisited : last - v.pos = 4 := by omega
    have hbackground : ¬ (v.req == 3 && v.table == tMac && !u.isF F.FWD_CFG_AGE_EN) = true := by simp [hmac]
    clear_value size last u
    rw [Bool.false_and, if_neg Bool.false_ne_true, if_neg hbackground, hvisited]
    split
    next n t hvisits =>
      have hslot : s.slotVisits v = (n, t) := by rw [← hvisits, hu]; rfl
      rw [hslot, if_neg (by omega), hlast]
      rfl

/-- A slot of the flow sweep before its last one clears the absent flows among its four entries. -/
theorem doSweepSlot_flow (hsweeps : s.dp.sweeps = [w]) (htable : w.table = tFlow) (hreq : w.req < 4)
    (hflush : w.flush = none) (hpos : w.pos + 4 < 16384) : (doSweepSlot false s).dp.sweeps.map (·.pos) = [w.pos + 4]
      ∧ (∀ k < 4, (doSweepSlot false s).entry tFlow (w.pos + k) = s.flowLeft (s.entry tFlow (w.pos + k)))
      ∧ ∀ c i, c ≠ tFlow → i < 2 ^ 20 → (doSweepSlot false s).entry c i = s.entry c i := by
  have hslot : FlowSwept (s.turnTo w) w.pos 4 (s.slotVisits w).2 := flowSwept_visits htable hflush 4
  rw [doSweepSlot_goesOn hsweeps hreq (by rw [htable]; decide) (by rw [htable]; exact hpos)]
  refine ⟨?_, hslot.swept, fun c i hc hi => hslot.kept c i fun k hk => ?_⟩
  · have hkept : (s.slotVisits w).2.dp.sweeps = [w] := hslot.sweeps.trans hsweeps
    simp [State.setSweeps, hkept, Sweep.moved]
  · simp only [tkey, ne_eq]
    omega

end

end Sys2Proof.Machine
end

section
/-! PROOF of FirewallEngineKeepsItsState. An update puts one entry or one cadence state, a slot of the flow sweep follows
`FlowSwept`, and a closed slot and a missing frame post their event behind the change. -/

namespace Sys2Proof.Machine

section
variable {s : State}

/-! ### State updates -/

/-- An update of a flow that is not there takes the free way and counts (R151). -/
theorem applyUpd_flowNew {a b pa pb proto vid rule i : Nat} {v6 fromB : Bool} {diag : Option (Nat × Nat)} {g : Seg}
    (hfind : s.findFlow (.of a b pa pb proto vid v6 fromB) = none)
    (hfree : s.freeFlow (.of a b pa pb proto vid v6 fromB) = some i) :
    s.applyUpd (.flowNew a b pa pb proto vid v6 fromB rule diag g) = (s.putEntry tFlow i
      (newFlow (.of a b pa pb proto vid v6 fromB) rule (s.getF F.FWL_NOW_NOW) diag g.tcp)).tally (T.fwlDev 0) := by
  simp only [State.applyUpd, hfind, hfree]

/-- A flow that is put and counted changes its entry alone in the tables. -/
theorem putFlow_counted (i e : Nat) : let t := (s.putEntry tFlow i e).tally (T.fwlDev 0)
    t.dp.updQ = s.dp.updQ ∧ t.entry tFlow i = e ∧ EntriesKept s t (tkey tFlow i) ∧ Counted s t (T.fwlDev 0) := by
  have htables : ((s.putEntry tFlow i e).tally (T.fwlDev 0)).tables = (s.setEntry tFlow i e).tables := tally_tables _ _
  obtain ⟨hentry, hkept⟩ := entries_of_setEntry htables
  refine ⟨?_, hentry, hkept, ?_⟩
  · rw [tally_dp, putEntry_flow_dp]
  · exact (counted_tally (s.putEntry tFlow i e) rfl).of_tallyOf (tallyOf_of_tly (putEntry_flow_tly s i e) _) rfl

/-- The first frame of a cadence state sets it (R155). -/
theorem cadApply_first {key : Nat} (unit cmin cmax t64 src num ident : Nat) (h : (s.cadOf key).seen = false) :
    s.cadApply key unit cmin cmax t64 src num ident = s.setCad key ⟨cadTick t64 unit, true, false, false⟩ := by
  simp [State.cadApply, h]

theorem doStateUpdateApply_cons {u : Upd} {rest : List Upd} (h : s.dp.updQ = u :: rest) :
    doStateUpdateApply s = ({ s with dp := { s.dp with updQ := rest } } : State).applyUpd u := by
  rw [doStateUpdateApply, h]

/-! ### Diagnostic slots -/

/-- Slot `k` with OPEN 0, its generation counted on and its cause (R154). -/
def State.slotMarked (s : State) (k cause : Nat) : State :=
  ((s.setB (F.FWL_DIAG_W0_OPEN k) false).incF (F.FWL_DIAG_W0_GEN k)).setF (F.FWL_DIAG_W1_CAUSE k) cause

/-- The slot so marked, with the time of its close (R154). -/
def State.slotShut (s : State) (k cause : Nat) : State :=
  { s.slotMarked k cause with
    dp := { s.dp with diagClosed := sput (fun _ => none) s.dp.diagClosed k (some s.tb.fab) } }

theorem closeSlot_open {k : Nat} (cause : Nat) (h : s.isF (F.FWL_DIAG_W0_OPEN k) = true) : s.closeSlot k cause =
    (s.slotShut k cause).post 0x08 6
      (k + (s.slotShut k cause).getF (F.FWL_DIAG_W0_GEN k) * 2 ^ 8 + cause * 2 ^ 16) := by
  unfold State.closeSlot
  rw [h]
  rfl

/-- The fields of slot `k` that its close changes. -/
def slotFields (k : Nat) : List Fld := [F.FWL_DIAG_W0_OPEN k, F.FWL_DIAG_W0_GEN k, F.FWL_DIAG_W1_CAUSE k]

theorem slotShut_regs (k cause : Nat) : (s.slotShut k cause).regs = (s.slotMarked k cause).regs := by
  rw [State.slotShut]

theorem fieldsKept_slotShut (k cause : Nat) : FieldsKept s (s.slotShut k cause) (slotFields k) := by
  refine FieldsKept.of_regs ?_ (slotShut_regs k cause)
  unfold State.slotMarked
  exact (((FieldsKept.refl s _).setB _ (by simp [slotFields])).setF _ (by simp [slotFields])).setF _ (by simp [slotFields])

theorem slotShut_shows (k : Nat) {cause : Nat} (hcause : cause < 2) :
    (s.slotShut k cause).getF (F.FWL_DIAG_W0_OPEN k) = 0
      ∧ (s.slotShut k cause).getF (F.FWL_DIAG_W0_GEN k) = (s.getF (F.FWL_DIAG_W0_GEN k) + 1) % 2 ^ 8
      ∧ (s.slotShut k cause).getF (F.FWL_DIAG_W1_CAUSE k) = cause := by
  simp only [getF_of_regs (slotShut_regs k cause), State.slotMarked]
  refine ⟨?_, ?_, ?_⟩
  · rw [getF_setF_ne _ _ _ _ (by simp only [Fld.key]; omega), State.incF,
      getF_setF_ne _ _ _ _ (by simp only [Fld.key]; omega)]
    exact getF_setF_same _ _ _
  · rw [getF_setF_ne _ _ _ _ (by simp only [Fld.key]; omega), getF_incF_same,
      getF_setB_ne _ _ _ _ (by simp only [Fld.key]; omega)]
  · rw [getF_setF_same]
    exact Nat.mod_eq_of_lt hcause

/-- Slot `k` has closed with a cause: its generation counts on, and no other slot opens or closes (R154). -/
structure SlotClosed (s t : State) (k cause : Nat) : Prop where
  shut : t.isF (F.FWL_DIAG_W0_OPEN k) = false
  gen : t.getF (F.FWL_DIAG_W0_GEN k) = (s.getF (F.FWL_DIAG_W0_GEN k) + 1) % 2 ^ 8
  cause : t.getF (F.FWL_DIAG_W1_CAUSE k) = cause
  time : sget (fun _ => none) t.dp.diagClosed k = some s.tb.fab
  others : ∀ j < 16, j ≠ k → t.getF (F.FWL_DIAG_W0_OPEN j) = s.getF (F.FWL_DIAG_W0_OPEN j)

theorem closeSlot_closes {k cause : Nat} (hk : k < 16) (hcause : cause < 2)
    (hopen : s.isF (F.FWL_DIAG_W0_OPEN k) = true) : SlotClosed s (s.closeSlot k cause) k cause := by
  rw [closeSlot_open cause hopen]
  generalize k + (s.slotShut k cause).getF (F.FWL_DIAG_W0_GEN k) * 2 ^ 8 + cause * 2 ^ 16 = payload
  obtain ⟨hshut, hgen, hwhy⟩ := slotShut_shows (s := s) k hcause
  have hpost (f : Fld) (hf : f.key < 0x2C0000 * 32) :
      ((s.slotShut k cause).post 0x08 6 payload).getF f = (s.slotShut k cause).getF f :=
    fieldsKept_post _ _ _ _ f (notMem_postFields hf)
  refine ⟨?_, ?_, ?_, ?_, fun j hj hne => ?_⟩
  · rw [State.isF, hpost _ (by simp only [Fld.key]; omega), hshut]; rfl
  · rw [hpost _ (by simp only [Fld.key]; omega), hgen]
  · rw [hpost _ (by simp only [Fld.key]; omega), hwhy]
  · rw [post_dp]; exact sget_sput_same (d := fun _ => none) s.dp.diagClosed k (some s.tb.fab)
  · rw [hpost _ (by simp only [Fld.key]; omega)]
    refine fieldsKept_slotShut k cause _ ?_
    simp only [slotFields, List.map, List.mem_cons, List.not_mem_nil, or_false, not_or, Fld.key]
    omega

/-- FWL_NOW has reached EXPIRY: the slot closes with cause 0. -/
theorem doDiagSlotExpiry_due {k : Nat} (hk : k < 16) (h : s.getF (F.FWL_DIAG_W0_EXPIRY k) = s.getF F.FWL_NOW_NOW) :
    doDiagSlotExpiry k s = s.closeSlot k 0 := by
  unfold doDiagSlotExpiry
  dsimp only
  rw [Nat.mod_eq_of_lt hk, h, if_pos (by omega)]

theorem doDiagClose_up {k : Nat} (hk : k < 16) (hup : s.pairUp 1 = true) : doDiagClose k s = s.closeSlot k 1 := by
  rw [doDiagClose, if_pos hup, Nat.mod_eq_of_lt hk]

/-! ### The cadence scanner -/

theorem cadOf_setCad_same (key : Nat) (c : Cad) : (s.setCad key c).cadOf key = c := by
  simp [State.cadOf, State.setCad]

theorem setCad_tly (key : Nat) (c : Cad) : (s.setCad key c).tly = s.tly := rfl

/-- A state whose bounds are those of source 0 lies in the direct table, and the scanner visits it under its own key. -/
theorem scanKey_direct {key unit cmax num ident : Nat} {en : Bool}
    (h : s.cadBounds key = some (unit, cmax, en, 0, num, ident)) : s.scanKey key = key := by
  have hkey : key < cadStream := by
    by_contra hkey
    have hhashed : ¬ key < cadHashed := by simp only [cadHashed, cadStream] at *; omega
    have hoverflow : ¬ key < cadOverflow := by simp only [cadOverflow, cadStream] at *; omega
    simp [State.cadBounds, hkey, hhashed, hoverflow] at h
  rw [State.scanKey, if_pos hkey]

theorem tallyCounts_fwlRod {n m : Nat} (hm : m < 3) (h : s.rodPresent n = true) :
    s.tallyCounts (T.fwlRod n m) = true := by
  have hn : n < 128 := by simp only [State.rodPresent, Bool.and_eq_true, decide_eq_true_eq] at h; exact h.1.1
  refine List.any_eq_true.2 ⟨(0x0E000, 3, 1, 128), by simp [tallyFamilies], ?_⟩
  have hunit : (T.fwlRod n m - 0x0E000) / 3 = n := by unfold T.fwlRod; omega
  have hlt : T.fwlRod n m < 0x0E000 + 3 * 128 := by unfold T.fwlRod; omega
  have hle : 0x0E000 ≤ T.fwlRod n m := by unfold T.fwlRod; omega
  simp [State.unitCounts, hunit, hlt, hle, h]

theorem fwlRod_notMem_postTallies {n m : Nat} (hn : n < 128) (hm : m < 3) : T.fwlRod n m ∉ postTallies := by
  simp [postTallies, T.fwlRod, T.glb, T.rng, T.trc]; omega

/-- A state whose frame is overdue is counted, announced and marked missing (R156). -/
theorem doCadenceScan_missing {key unit cmax num ident e : Nat}
    (hbounds : s.cadBounds key = some (unit, cmax, true, 0, num, ident)) (hseen : (s.cadOf key).seen = true)
    (hmiss : (s.cadOf key).miss = false) (hactive : s.isF F.FWL_CFG_SUPPRESS_INACTIVE = false)
    (he : e = (cadTick s.nowNs unit + 2 ^ 16 - (s.cadOf key).last) % 2 ^ 16) (hmax : cmax ≠ 0) (hdue : cmax < e)
    (hlt : e < 32768) : doCadenceScan key s = ((s.tally (T.fwlRod num 1)).post 0x08 2
      (cadPayload 0 num ident e unit)).setCad key { s.cadOf key with miss := true } := by
  have hnear : ¬ 32768 ≤ e := by omega
  have hbounded : (cmax != 0) = true := bne_iff_ne.2 hmax
  have helapsed : (cadTick s.nowNs unit + 65536 - (s.cadOf key).last) % 65536 = e := he.symm
  simp only [doCadenceScan, scanKey_direct hbounds, hbounds]
  simp [helapsed, hseen, hmiss, hactive, hbounded, hdue, hnear, State.cadTally]

end

/-- Settles O23: an update is the entry or the state that it puts, a slot of the flow sweep is followed visit by visit
(`flowSwept_visits`), and both ends of a diagnostic slot are one close. -/
theorem firewallEngineKeepsItsState : Obligations.FirewallEngineKeepsItsState := by
  unfold Obligations.FirewallEngineKeepsItsState
  refine ⟨fun s a b pa pb proto vid rule i v6 fromB g rest hq hfind hfree => ?_,
    fun s key unit cmin cmax t64 src num ident rest hq hseen => ?_, fun s hsweeps => ?_, fun s w hsweeps htable => ?_,
    fun s w hsweeps htable hreq hflush hpos => ?_, fun s => rfl, fun s k hk hopen hexpiry => ?_,
    fun s k hk hup hopen => ?_,
    fun s key unit cmax num ident e hn hpresent hbounds hseen hmiss hactive he hmax hdue hlt => ?_⟩
  · refine ⟨doStateUpdateApply s, rfl, ?_⟩
    rw [doStateUpdateApply_cons hq, applyUpd_flowNew (by exact hfind) (by exact hfree)]
    exact putFlow_counted (s := { s with dp := { s.dp with updQ := rest } }) i _
  · exact answers rfl ((doStateUpdateApply_cons hq).trans (cadApply_first unit cmin cmax t64 src num ident hseen))
  · exact answers rfl (by simp [doFlowSweep, State.backSweep, hsweeps])
  · exact answers rfl (by simp [doFlowSweep, State.backSweep, hsweeps, htable])
  · obtain ⟨hmoved, hswept, hkept⟩ := doSweepSlot_flow hsweeps htable (by omega) hflush hpos
    exact ⟨doSweepSlot false s, rfl, hmoved, hswept, fun c i hc _ hi => hkept c i hc hi⟩
  · obtain ⟨hshut, hgen, hcause, htime, hothers⟩ := closeSlot_closes hk (cause := 0) (by decide) hopen
    exact ⟨_, answers rfl (doDiagSlotExpiry_due hk hexpiry), hshut, hgen, hcause, htime, hothers⟩
  · obtain ⟨hshut, hgen, hcause, -, -⟩ := closeSlot_closes hk (cause := 1) (by decide) hopen
    exact ⟨_, answers rfl (doDiagClose_up hk hup), hshut, hgen, hcause⟩
  · refine ⟨doCadenceScan key s, rfl, ?_⟩
    rw [doCadenceScan_missing hbounds hseen hmiss hactive he hmax hdue hlt]
    refine ⟨cadOf_setCad_same _ _, (counted_tally s (tallyCounts_fwlRod (by decide) hpresent)).of_tallyOf rfl ?_⟩
    rw [tallyOf_of_tly (setCad_tly _ _)]
    exact tallyOf_post _ _ _ _ (fwlRod_notMem_postTallies hn (by decide))

end Sys2Proof.Machine
end

section
/-! PROOF of MetersGatesAndRecoveryFollowTheirWrites. A meter write is the store of its register and a full bucket; the copy
of a gate list waits in the data plane, and a swap takes it over entry by entry. -/

namespace Sys2Proof.Machine

section
variable {s : State}

/-! ### Meters -/

theorem storeReg_dp (off v : Nat) : (s.storeReg off v).dp = s.dp := by
  unfold State.storeReg
  split
  · rfl
  · next r i _ _ =>
    split
    · refine List.foldlRecOn (motive := fun t : State => t.dp = s.dp) r.fields _ rfl fun t ht f _ => ?_
      dsimp only
      split <;> exact ht
    · rfl

theorem busGate_serving (h : s.serving = true) (f : State → State) : s.busGate f = f s := if_pos h

theorem doFwlMeterWrite_serving {m w : Nat} (v : Nat) (hserving : s.serving = true) (hm : m < 1024) (hw : w < 2) :
    doFwlMeterWrite m w v s = s.fwlMeterStore m w v := by
  rw [doFwlMeterWrite, busGate_serving hserving, Nat.mod_eq_of_lt hm, Nat.mod_eq_of_lt hw]

/-- Beside its register a written meter word changes the meter's bucket alone, which becomes full (R147). -/
theorem fwlMeterStore_fills (m w v : Nat) :
    s.fwlMeterStore m w v = { s.storeReg (0x82000 + 8 * m + 4 * w) v with
      dp := { s.dp with meters := (s.fwlMeterStore m w v).dp.meters } }
    ∧ sget (fun _ => none) (s.fwlMeterStore m w v).dp.meters m = none
    ∧ ∀ n, n ≠ m → sget (fun _ => none) (s.fwlMeterStore m w v).dp.meters n = sget (fun _ => none) s.dp.meters n := by
  unfold State.fwlMeterStore
  dsimp only
  rw [storeReg_dp]
  exact ⟨rfl, sget_sput_same _ _ _, fun n hn => sget_sput_ne _ _ hn⟩

theorem doStrMeterWrite_serving {m w : Nat} (v : Nat) (hserving : s.serving = true) (hm : m < 1024) (hw : w < 4) :
    doStrMeterWrite m w v s = s.strMeterStore m w v := by
  rw [doStrMeterWrite, busGate_serving hserving, Nat.mod_eq_of_lt hm, Nat.mod_eq_of_lt hw]

/-- Beside its register a written flow meter word changes the meter's buckets alone, which become full (R171). -/
theorem strMeterStore_fills (m w v : Nat) :
    s.strMeterStore m w v = { s.storeReg (0xA4000 + 16 * m + 4 * w) v with
      dp := { s.dp with smeters := (s.strMeterStore m w v).dp.smeters } }
    ∧ sget (fun _ => none) (s.strMeterStore m w v).dp.smeters m = none
    ∧ ∀ n, n ≠ m → sget (fun _ => none) (s.strMeterStore m w v).dp.smeters n = sget (fun _ => none) s.dp.smeters n := by
  unfold State.strMeterStore
  dsimp only
  rw [storeReg_dp]
  exact ⟨rfl, sget_sput_same _ _ _, fun n hn => sget_sput_ne _ _ hn⟩

/-! ### The clamp of a meter's rate -/

/-- FWL_METER_W0. -/
def fwlCirReg : RegDesc := regA "FWL_METER_W0" 0x82000 1024 8 (.none) [fc 0 19 1 [(1, 400000)]]

theorem blockRegs_fwl {off : Nat} (h₁ : 0x80000 ≤ off) (h₂ : off < 0xA0000) : blockRegs off = fwlRegs := by
  unfold blockRegs
  iterate 4 rw [if_neg (by omega)]
  rw [if_pos h₂]

theorem findReg_fwlCir {m : Nat} (hm : m < 1024) : findReg (0x82000 + m * 8) = some (fwlCirReg, m, 0) := by
  unfold findReg
  rw [blockRegs_fwl (by omega) (by omega)]
  unfold fwlRegs fwlRegs1
  simp only [List.cons_append]
  iterate 11 rw [findIn_miss _ (hit_beyond _ (by decide) (Nat.le_add_right_of_le (by decide)))]
  exact findIn_hit _ (hit_at fwlCirReg (j := 0) hm (by decide) (by decide) (by decide))

/-- The rate of a meter stores clamped (R14, R147). -/
theorem storeReg_fwlCir {m : Nat} (v : Nat) (hm : m < 1024) : s.storeReg (0x82000 + m * 8) v =
    s.setF (F.FWL_METER_W0_CIR m) (nearest [(1, 400000)] (bits v 0 19)) := by
  unfold State.storeReg
  rw [findReg_fwlCir hm]
  rfl

theorem nearest_rate_lt (x : Nat) : nearest [(1, 400000)] x < 2 ^ 19 := by
  simp only [nearest, List.map, List.foldl]
  split_ifs <;> omega

/-- A written rate reads back clamped, and no other field changes. -/
theorem fwlMeterStore_rate {m : Nat} (v : Nat) (hm : m < 1024) :
    (s.fwlMeterStore m 0 v).getF (F.FWL_METER_W0_CIR m) = nearest [(1, 400000)] (v % 2 ^ 19)
      ∧ FieldsKept s (s.fwlMeterStore m 0 v) [F.FWL_METER_W0_CIR m] := by
  have hoff : 0x82000 + 8 * m + 4 * 0 = 0x82000 + m * 8 := by omega
  have hbits : bits v 0 19 = v % 2 ^ 19 := by simp [bits]
  have hregs : (s.fwlMeterStore m 0 v).regs =
      (s.setF (F.FWL_METER_W0_CIR m) (nearest [(1, 400000)] (v % 2 ^ 19))).regs := by
    unfold State.fwlMeterStore
    rw [hoff, storeReg_fwlCir v hm, hbits]
  refine ⟨?_, ((FieldsKept.refl s _).setF _ (List.mem_singleton_self _)).of_regs hregs⟩
  rw [getF_of_regs hregs, getF_setF_same]
  exact Nat.mod_eq_of_lt (nearest_rate_lt _)

/-! ### The change of a gate list -/

/-- A change time lies at least 1 µs ahead (R170). -/
theorem le_changeTime (base cycle now : Nat) : now + 1000 * 2 ^ 40 ≤ changeTime base cycle now := by
  unfold changeTime ns40
  dsimp only
  generalize now + 1000 * 2 ^ 40 = least
  split_ifs with hbase hcycle
  · exact hbase
  · exact le_rfl
  · have hdiv := Nat.div_add_mod' (least - base + cycle - 1) cycle
    have hmod := Nat.mod_lt (least - base + cycle - 1) (Nat.pos_of_ne_zero hcycle)
    rw [ceilDiv]
    omega

/-- The copy of the administrative list of gate `g` that CHANGE makes, with its change time (R170). -/
def State.gateCopy (s : State) (g : Nat) : GatePend :=
  ⟨(List.range (s.getF (F.STR_GATE_W0_ADMIN_LEN g))).map (fun k =>
      (s.getF (F.STR_GCL_ADMIN_W0_INTERVAL g k), s.getF (F.STR_GCL_ADMIN_W0_OPEN g k),
        s.getF (F.STR_GCL_ADMIN_W1_IPV g k) + 8 * s.getF (F.STR_GCL_ADMIN_W1_IPV_EN g k))),
    s.getF (F.STR_GATE_CYCLE_ADMIN_CYCLE g),
    changeTime (tOf (s.getF (F.STR_GATE_BASE_SL_ADMIN_BASE_SL g) + s.getF (F.STR_GATE_BASE_SH_ADMIN_BASE_SH g) * 2 ^ 32)
      (s.getF (F.STR_GATE_BASE_NS_ADMIN_BASE_NS g))) (ns40 (s.getF (F.STR_GATE_CYCLE_ADMIN_CYCLE g))) s.tb.clk⟩

theorem le_gateCopy_at40 (g : Nat) : s.tb.clk + 1000 * 2 ^ 40 ≤ (s.gateCopy g).at40 := by
  unfold State.gateCopy
  exact le_changeTime _ _ _

theorem streamChange_idle {g : Nat} (h : s.isF (F.STR_GATE_W0_CHANGE g) = false) : s.streamChange g =
    (((s.setPend (gateKey true g) (some (s.gateCopy g))).setB (F.STR_GATE_W0_CHANGE g) true).setF
      (F.STR_GATE_CHANGE_NS_CHANGE_NS g) (tNs (s.gateCopy g).at40)).setF (F.STR_GATE_CHANGE_SL_CHANGE_SL g)
        (tSec (s.gateCopy g).at40) := by
  unfold State.streamChange
  rw [h]
  rfl

theorem streamChange_pending {g : Nat} (h : s.isF (F.STR_GATE_W0_CHANGE g) = true) :
    s.streamChange g = s.tally (T.strGate g 1) := by
  rw [State.streamChange, if_pos h]

theorem doStreamGateChange_serving {g : Nat} (hserving : s.serving = true) (hg : g < 64) :
    doStreamGateChange g s = s.streamChange g := by
  rw [doStreamGateChange, busGate_serving hserving, Nat.mod_eq_of_lt hg]

theorem setPend_regs (key : Nat) (p : Option GatePend) : (s.setPend key p).regs = s.regs := rfl

theorem setPend_gateBase (key : Nat) (p : Option GatePend) : (s.setPend key p).dp.gateBase = s.dp.gateBase := rfl

theorem setGateBase_regs (key t : Nat) : (s.setGateBase key t).regs = s.regs := rfl

theorem pendOf_of_dp {t u : State} (h : t.dp = u.dp) (key : Nat) : t.pendOf key = u.pendOf key := by
  unfold State.pendOf; rw [h]

@[simp] theorem pendOf_setPend_same (key : Nat) (p : Option GatePend) : (s.setPend key p).pendOf key = p := by
  simp [State.pendOf, State.setPend]

/-- CHANGE leaves the copy waiting and the operational list as it is. -/
theorem streamChange_waits {g : Nat} (h : s.isF (F.STR_GATE_W0_CHANGE g) = false) :
    (s.streamChange g).isF (F.STR_GATE_W0_CHANGE g) = true
      ∧ (s.streamChange g).pendOf (gateKey true g) = some (s.gateCopy g)
      ∧ (s.streamChange g).getF (F.STR_GATE_W0_OPER_LEN g) = s.getF (F.STR_GATE_W0_OPER_LEN g)
      ∧ (s.streamChange g).dp.gateBase = s.dp.gateBase := by
  rw [streamChange_idle h]
  generalize s.gateCopy g = p
  refine ⟨?_, ?_, ?_, ?_⟩
  · rw [isF_setF_ne _ _ _ _ (by simp only [Fld.key]; omega), isF_setF_ne _ _ _ _ (by simp only [Fld.key]; omega)]
    exact isF_setB_same _ _ _ rfl
  · rw [pendOf_of_dp (setF_dp _ _ _), pendOf_of_dp (setF_dp _ _ _), pendOf_of_dp (setB_dp _ _ _), pendOf_setPend_same]
  · rw [getF_setF_ne _ _ _ _ (by simp only [Fld.key]; omega), getF_setF_ne _ _ _ _ (by simp only [Fld.key]; omega),
      getF_setB_ne _ _ _ _ (by simp only [Fld.key]; omega), getF_of_regs (setPend_regs _ _)]
  · rw [setF_dp, setF_dp, setB_dp, setPend_gateBase]

/-! ### The swap of a gate list -/

/-- The list that gate `g` runs until `p` takes over, with its base time (R170). -/
def State.gateInUse (s : State) (g : Nat) (p : GatePend) : GatePend × Nat :=
  (⟨s.strList g, s.getF (F.STR_GATE_OPER_CYCLE_OPER_CYCLE g), p.at40⟩, sget (fun _ => 0) s.dp.gateBase (gateKey true g))

/-- The waiting list of gate `g` has been taken: the list in use is kept aside, no list waits, CHANGE is clear. -/
def State.gateTaken (s : State) (g : Nat) (p : GatePend) : State :=
  (({ s with dp := { s.dp with
    gateOld := sput (fun _ => none) s.dp.gateOld g (some (s.gateInUse g p)) } } : State).setPend
      (gateKey true g) none).setB (F.STR_GATE_W0_CHANGE g) false

/-- Entry `k` of a list becomes entry `k` of the operational list of gate `g`. -/
def storeGateEntry (g : Nat) (l : List (Nat × Nat × Nat)) (k : Nat) (s : State) : State :=
  (((s.setF (F.STR_GCL_OPER_W0_INTERVAL g k) (l.getD k (0, 0, 0)).1).setF (F.STR_GCL_OPER_W0_OPEN g k)
    (l.getD k (0, 0, 0)).2.1).setF (F.STR_GCL_OPER_W1_IPV g k) (l.getD k (0, 0, 0)).2.2).setF
      (F.STR_GCL_OPER_W1_IPV_EN g k) ((l.getD k (0, 0, 0)).2.2 / 8)

/-- The length, cycle and base time of list `p` are in use at gate `g`. -/
def State.gateShown (s : State) (g : Nat) (p : GatePend) : State :=
  (((s.setF (F.STR_GATE_W0_OPER_LEN g) p.entries.length).setF (F.STR_GATE_OPER_CYCLE_OPER_CYCLE g) p.cycle).setGateBase
    (gateKey true g) p.at40).openNow g

theorem swapStream_some {g : Nat} {p : GatePend} (h : s.pendOf (gateKey true g) = some p) : s.swapStream g =
    ((s.gateTaken g p).forN 64 (storeGateEntry g p.entries)).gateShown g p := by
  unfold State.swapStream
  rw [h]
  rfl

theorem doStreamGateSwap_due {g : Nat} {p : GatePend} (hg : g < 64) (h : s.pendOf (gateKey true g) = some p)
    (hdue : p.at40 ≤ s.tb.clk) : doStreamGateSwap g s = s.swapStream g := by
  unfold doStreamGateSwap
  dsimp only
  rw [Nat.mod_eq_of_lt hg, h]
  exact if_pos hdue

/-- The fields of entry `k` of the operational list of gate `g`. -/
def gateEntryFields (g k : Nat) : List Fld :=
  [F.STR_GCL_OPER_W0_INTERVAL g k, F.STR_GCL_OPER_W0_OPEN g k, F.STR_GCL_OPER_W1_IPV g k, F.STR_GCL_OPER_W1_IPV_EN g k]

theorem onlyFields_storeGateEntry (g : Nat) (l : List (Nat × Nat × Nat)) (k : Nat) :
    OnlyFields s (storeGateEntry g l k s) (gateEntryFields g k) := by
  unfold storeGateEntry
  exact ((((OnlyFields.refl s _).setF _ (by simp [gateEntryFields])).setF _ (by simp [gateEntryFields])).setF _
    (by simp [gateEntryFields])).setF _ (by simp [gateEntryFields])

/-- The fields of the operational list of gate `g`. -/
def gateListFields (g : Nat) : List Fld := (List.range 64).flatMap (gateEntryFields g)

theorem onlyFields_storeGateList (g : Nat) (l : List (Nat × Nat × Nat)) :
    OnlyFields s (s.forN 64 (storeGateEntry g l)) (gateListFields g) :=
  OnlyFields.forN 64 _ fun k _ hk => (onlyFields_storeGateEntry g l k).mono fun _ hf =>
    List.mem_flatMap.2 ⟨k, List.mem_range.2 hk, hf⟩

/-- The registers of the gates are none of their lists. -/
theorem gateReg_notMem_list {f : Fld} (g : Nat) (hf : f.key < 0xB8000 * 32) :
    f.key ∉ (gateListFields g).map Fld.key := by
  intro hmem
  obtain ⟨f', hf', hkey⟩ := List.mem_map.1 hmem
  obtain ⟨k, -, hk⟩ := List.mem_flatMap.1 hf'
  simp only [gateEntryFields, List.mem_cons, List.not_mem_nil, or_false] at hk
  obtain rfl | rfl | rfl | rfl := hk <;> simp only [Fld.key] at hkey hf <;> omega

/-- Each entry of the list reads back. -/
theorem interval_storeGateList (g : Nat) (l : List (Nat × Nat × Nat)) {k : Nat} (hk : k < 64) :
    (s.forN 64 (storeGateEntry g l)).getF (F.STR_GCL_OPER_W0_INTERVAL g k) = (l.getD k (0, 0, 0)).1 % 2 ^ 30 := by
  refine forN_reaches (Q := fun _ => True)
    (P := fun t => t.getF (F.STR_GCL_OPER_W0_INTERVAL g k) = (l.getD k (0, 0, 0)).1 % 2 ^ 30) hk trivial
    (fun _ _ _ _ => trivial) (fun t _ => ?_) (fun j t hkj _ ht => ?_)
  · unfold storeGateEntry
    iterate 3 rw [getF_setF_ne _ _ _ _ (by simp only [Fld.key]; omega)]
    exact getF_setF_same _ _ _
  · rw [(onlyFields_storeGateEntry g l j).2 _ ?_, ht]
    simp only [gateEntryFields, List.map, List.mem_cons, List.not_mem_nil, or_false, not_or, Fld.key]
    omega

theorem fieldsKept_gateShown (g : Nat) (p : GatePend) : FieldsKept s (s.gateShown g p)
    [F.STR_GATE_W0_OPER_LEN g, F.STR_GATE_OPER_CYCLE_OPER_CYCLE g, F.STR_GATE_W0_OPEN_NOW g] := by
  unfold State.gateShown State.openNow
  have hset : FieldsKept s ((s.setF (F.STR_GATE_W0_OPER_LEN g) p.entries.length).setF
      (F.STR_GATE_OPER_CYCLE_OPER_CYCLE g) p.cycle)
      [F.STR_GATE_W0_OPER_LEN g, F.STR_GATE_OPER_CYCLE_OPER_CYCLE g, F.STR_GATE_W0_OPEN_NOW g] :=
    ((FieldsKept.refl s _).setF _ (by simp)).setF _ (by simp)
  exact (hset.of_regs (setGateBase_regs _ _)).setB _ (by simp)

theorem operLen_gateShown (g : Nat) (p : GatePend) :
    (s.gateShown g p).getF (F.STR_GATE_W0_OPER_LEN g) = p.entries.length % 2 ^ 8 := by
  unfold State.gateShown State.openNow
  rw [getF_setB_ne _ _ _ _ (by simp only [Fld.key]; omega)]
  rw [getF_of_regs (setGateBase_regs _ _), getF_setF_ne _ _ _ _ (by simp only [Fld.key]; omega)]
  exact getF_setF_same _ _ _

theorem gateShown_dp (g : Nat) (p : GatePend) : (s.gateShown g p).dp =
    { s.dp with gateBase := sput (fun _ => 0) s.dp.gateBase (gateKey true g) p.at40 } := rfl

/-- The waiting list has become the operational one of gate `g` (R170). -/
theorem swapStream_takes {g : Nat} {p : GatePend} (hg : g < 64) (h : s.pendOf (gateKey true g) = some p) :
    (s.swapStream g).pendOf (gateKey true g) = none
      ∧ (s.swapStream g).isF (F.STR_GATE_W0_CHANGE g) = false
      ∧ (s.swapStream g).getF (F.STR_GATE_W0_OPER_LEN g) = p.entries.length % 2 ^ 8
      ∧ (∀ k < 64, (s.swapStream g).getF (F.STR_GCL_OPER_W0_INTERVAL g k) = (p.entries.getD k (0, 0, 0)).1 % 2 ^ 30)
      ∧ sget (fun _ => 0) (s.swapStream g).dp.gateBase (gateKey true g) = p.at40 := by
  rw [swapStream_some h]
  obtain ⟨hframe, hkept⟩ := onlyFields_storeGateList (s := s.gateTaken g p) g p.entries
  have hinterval (k : Nat) (hk : k < 64) := interval_storeGateList (s := s.gateTaken g p) g p.entries hk
  generalize (s.gateTaken g p).forN 64 (storeGateEntry g p.entries) = t at *
  have hdp : t.dp = (s.gateTaken g p).dp := by rw [hframe]
  have htail := fieldsKept_gateShown (s := t) g p
  refine ⟨?_, ?_, operLen_gateShown g p, fun k hk => ?_, ?_⟩
  · have hpend : (t.gateShown g p).pendOf (gateKey true g) = t.pendOf (gateKey true g) := by
      unfold State.pendOf; rw [gateShown_dp]
    rw [hpend, pendOf_of_dp hdp, State.gateTaken, pendOf_of_dp (setB_dp _ _ _), pendOf_setPend_same]
  · have hother : (F.STR_GATE_W0_CHANGE g).key ∉ [F.STR_GATE_W0_OPER_LEN g, F.STR_GATE_OPER_CYCLE_OPER_CYCLE g,
        F.STR_GATE_W0_OPEN_NOW g].map Fld.key := by
      simp only [List.map, List.mem_cons, List.not_mem_nil, or_false, not_or, Fld.key]
      omega
    rw [htail.isF hother, hkept.isF (gateReg_notMem_list g (by simp only [Fld.key]; omega))]
    exact isF_setB_same _ _ _ rfl
  · refine (htail _ ?_).trans (hinterval k hk)
    simp only [List.map, List.mem_cons, List.not_mem_nil, or_false, not_or, Fld.key]
    omega
  · rw [gateShown_dp]
    exact sget_sput_same _ _ _

/-! ### The recovery reset -/

/-- A stream without a passed item for its reset time takes any number again (R175). -/
theorem doRecoveryReset_due {i : Nat} (hi : i < 8192) (hvalid : bit (s.entry tStream i) 0 = true)
    (halg : ew (s.entry tStream i) 7 1 2 ≠ 0) (hany : (s.rcvOf i).takeAny = false)
    (hdue : (s.rcvOf i).lastAt + ew (s.entry tStream i) 7 12 12 * cycMs ≤ s.tb.fab) :
    doRecoveryReset i s = (s.setRcv (s.strKey i) { s.rcvOf i with takeAny := true }).tally (T.str i 8) := by
  unfold doRecoveryReset
  dsimp only
  rw [Nat.mod_eq_of_lt hi, if_pos]
  simp only [hvalid, hany, bne_iff_ne.2 halg, decide_eq_true hdue, Bool.not_false, Bool.and_self]

end

/-- Settles O24: a meter word is its register's store with a full bucket, CHANGE leaves `gateCopy` waiting, and the swap
stores its entries one by one. -/
theorem metersGatesAndRecoveryFollowTheirWrites : Obligations.MetersGatesAndRecoveryFollowTheirWrites := by
  unfold Obligations.MetersGatesAndRecoveryFollowTheirWrites
  refine ⟨fun s m w v hserving hm hw => ?_, fun s v hserving => ?_, fun s m w v hserving hm hw => ?_,
    fun s g hserving hg hidle => ?_, fun s g hserving hg hpending => ?_, fun s g p hg hpend hdue => ?_,
    fun s i hi hvalid halg hany hdue => ?_⟩
  · exact ⟨_, answers rfl (doFwlMeterWrite_serving v hserving hm hw), fwlMeterStore_fills m w v⟩
  · exact ⟨_, answers rfl (doFwlMeterWrite_serving v hserving (by decide) (by decide)), fwlMeterStore_rate v (by decide)⟩
  · exact ⟨_, answers rfl (doStrMeterWrite_serving v hserving hm hw), strMeterStore_fills m w v⟩
  · obtain ⟨hchange, hcopy, hlen, hbase⟩ := streamChange_waits hidle
    refine ⟨_, answers rfl (doStreamGateChange_serving hserving hg), hchange, ?_, ?_, ?_, hlen, hbase⟩
    · rw [hcopy]
      simp [State.gateCopy]
    · rw [hcopy]
      simp [State.gateCopy]
    · rw [hcopy, Option.all_some]
      exact decide_eq_true (le_gateCopy_at40 g)
  · exact answers rfl ((doStreamGateChange_serving hserving hg).trans (streamChange_pending hpending))
  · exact ⟨_, answers rfl (doStreamGateSwap_due hg hpend hdue), swapStream_takes hg hpend⟩
  · exact answers rfl (doRecoveryReset_due hi hvalid halg hany hdue)

end Sys2Proof.Machine
end

section
/-! PROOF of LinksAndPreemptionFollowTheirEvents. Every event that moves verification goes through `setVerify`, which changes
two fields (R197, R198); a link that goes down also clears the credits of its port class by class (R182). -/

namespace Sys2Proof.Machine

section
variable {s : State} {p : Nat}

/-! ### Verification -/

/-- The fields that follow verification (R197, R198). -/
def verifyFields (p : Nat) : List Fld := [F.SCH_FP_STAT_VERIFY_STATUS p, F.SCH_FP_STAT_ACTIVE p]

/-- A port's status of verification lies among the scheduler's registers, below those of the MACs. -/
theorem notMem_verifyFields {f : Fld} (hp : p < 32) (hf : f.key < 0xC0000 * 32 ∨ 0x100000 * 32 ≤ f.key) :
    f.key ∉ (verifyFields p).map Fld.key := by
  simp only [verifyFields, List.map, List.mem_cons, List.not_mem_nil, or_false, not_or, Fld.key] at hf ⊢
  omega

theorem setVerify_onlyFields (s : State) (p st : Nat) : OnlyFields s (s.setVerify p st) (verifyFields p) :=
  ((OnlyFields.refl s _).setF _ (by simp [verifyFields])).setB _ (by simp [verifyFields])

theorem verifyStatus_setVerify (s : State) (p : Nat) {st : Nat} (h : st < 8) :
    (s.setVerify p st).getF (F.SCH_FP_STAT_VERIFY_STATUS p) = st := by
  unfold State.setVerify State.fpUpdate
  rw [getF_setB_ne _ _ _ _ (by simp only [Fld.key]; omega), getF_setF_same]
  exact Nat.mod_eq_of_lt h

/-- Once verification has succeeded, preemption is active where FP_EN asks for it (R197). -/
theorem active_setVerify_succeeded (hp : p < 16) :
    (s.setVerify p 3).isF (F.SCH_FP_STAT_ACTIVE p) = s.isF (F.SCH_FP_CFG_FP_EN p) := by
  have hen : (s.setF (F.SCH_FP_STAT_VERIFY_STATUS p) 3).isF (F.SCH_FP_CFG_FP_EN p) = s.isF (F.SCH_FP_CFG_FP_EN p) :=
    isF_setF_ne _ _ _ _ (by simp only [Fld.key]; omega)
  unfold State.setVerify State.fpUpdate
  rw [isF_setB_same _ _ _ rfl, State.fpActive, hen, getF_setF_same]
  simp [hp]

theorem ethPresent_setVerify (hp : p < 32) (st q : Nat) : (s.setVerify p st).ethPresent q = s.ethPresent q := by
  obtain ⟨-, hkept⟩ := setVerify_onlyFields s p st
  exact ethPresent_congr (hkept _ (notMem_verifyFields hp (.inl (by decide))))
    (hkept _ (notMem_verifyFields hp (.inl (by decide)))) q

/-- A tally of a present port's scheduler counts. -/
theorem tallyCounts_sch {m : Nat} (hm : m < 9) (h : s.ethPresent p = true) : s.tallyCounts (T.sch p m) = true := by
  have hp : p < 32 := by simp only [State.ethPresent, Bool.and_eq_true, decide_eq_true_eq] at h; exact h.1.1
  refine List.any_eq_true.2 ⟨(0x2B000, 9, 3, 32), by simp [tallyFamilies], ?_⟩
  have hunit : (T.sch p m - 0x2B000) / 9 = p := by unfold T.sch; omega
  have hlt : T.sch p m < 0x2B000 + 9 * 32 := by unfold T.sch; omega
  have hle : 0x2B000 ≤ T.sch p m := by unfold T.sch; omega
  simp [State.unitCounts, hunit, hlt, hle, h]

theorem doVerifyResponse_awaited (hp : p < 16) (hpresent : s.ethPresent p = true) (hlink : s.linkUp p = true)
    (hstatus : s.getF (F.SCH_FP_STAT_VERIFY_STATUS p) = 2) : doVerifyResponse p s = s.setVerify p 3 :=
  if_pos ⟨hpresent, hp, hlink, hstatus⟩

/-- Fewer than three attempts: the next one leaves. -/
theorem doVerifyTimeout_again (hp : p < 16) (hpresent : s.ethPresent p = true)
    (hstatus : s.getF (F.SCH_FP_STAT_VERIFY_STATUS p) = 2) (htries : sget (fun _ => 0) s.dp.verifyTry p < 3) :
    doVerifyTimeout p s = (s.setTries p (sget (fun _ => 0) s.dp.verifyTry p + 1)).emit (.mPacket p 0) := by
  rw [doVerifyTimeout, if_pos ⟨hpresent, hp, hstatus⟩]
  exact if_pos htries

/-- The third attempt was the last one. -/
theorem doVerifyTimeout_last (hp : p < 16) (hpresent : s.ethPresent p = true)
    (hstatus : s.getF (F.SCH_FP_STAT_VERIFY_STATUS p) = 2) (htries : sget (fun _ => 0) s.dp.verifyTry p = 3) :
    doVerifyTimeout p s = (s.setVerify p 4).tally (T.sch p 8) := by
  rw [doVerifyTimeout, if_pos ⟨hpresent, hp, hstatus⟩]
  exact if_neg htries.not_lt

theorem verifyFailed_counted (hp : p < 32) (hpresent : s.ethPresent p = true) :
    Counted s ((s.setVerify p 4).tally (T.sch p 8)) (T.sch p 8) :=
  counted_tally (s.setVerify p 4) (tallyCounts_sch (by decide) ((ethPresent_setVerify hp 4 p).trans hpresent))

theorem startVerify_enabled (hp : p < 16) (hdis : s.isF (F.SCH_FP_CFG_VERIFY_DIS p) = false) :
    s.startVerify p = ((s.setTries p 1).setVerify p 2).emit (.mPacket p 0) := by
  rw [State.startVerify, if_neg (by omega), hdis]
  rfl

/-! ### Link changes -/

/-- The link status of port `p` once its link has come up in mode `m` (R182, R476). -/
def State.linkedIn (s : State) (p m : Nat) : State :=
  ((s.setB (F.PRT_MAC_STAT_LINK p) true).setF (F.PRT_MAC_STAT_MODE_NOW p) m).setB (F.PRT_MAC_STAT_AN_DONE p)
    (m == 5 && ((s.setB (F.PRT_MAC_STAT_LINK p) true).setF (F.PRT_MAC_STAT_MODE_NOW p) m).isF (F.PRT_MAC_CFG_AN_EN p))

theorem doLinkUp_free (hpresent : s.ethPresent p = true) (hdown : s.linkUp p = false) (hheld : s.portHeld p = false)
    (hmode : s.getF (F.PRT_MAC_CFG_MODE p) ≠ 0) (hpower : s.getF F.PWR_MODE_MODE < 2) :
    doLinkUp p s = (s.linkedIn p (s.getF (F.PRT_MAC_CFG_MODE p))).startVerify p := by
  refine if_neg ?_
  simp [hpresent, hdown, hheld, hmode, hpower]

theorem linkedIn_fieldsKept (s : State) (p m : Nat) :
    FieldsKept s (s.linkedIn p m) [F.PRT_MAC_STAT_LINK p, F.PRT_MAC_STAT_MODE_NOW p, F.PRT_MAC_STAT_AN_DONE p] :=
  (((FieldsKept.refl s _).setB _ (by simp)).setF _ (by simp)).setB _ (by simp)

theorem linkedIn_link (s : State) (p m : Nat) : (s.linkedIn p m).linkUp p = true := by
  unfold State.linkedIn State.linkUp
  rw [isF_setB_ne _ _ _ _ (by simp only [Fld.key]; omega), isF_setF_ne _ _ _ _ (by simp only [Fld.key]; omega)]
  exact isF_setB_same _ _ _ rfl

theorem linkedIn_mode (s : State) (p : Nat) {m : Nat} (h : m < 8) :
    (s.linkedIn p m).getF (F.PRT_MAC_STAT_MODE_NOW p) = m := by
  unfold State.linkedIn
  rw [getF_setB_ne _ _ _ _ (by simp only [Fld.key]; omega), getF_setF_same]
  exact Nat.mod_eq_of_lt h

/-- Starting verification touches no register of a MAC. -/
theorem startVerify_macField {f : Fld} (hp : p < 16) (hdis : s.isF (F.SCH_FP_CFG_VERIFY_DIS p) = false)
    (hf : 0x100000 * 32 ≤ f.key) : (s.startVerify p).getF f = s.getF f := by
  rw [startVerify_enabled hp hdis, getF_emit]
  exact (setVerify_onlyFields (s.setTries p 1) p 2).2 f (notMem_verifyFields (by omega) (.inr hf))

/-- A link that comes up shows its mode, and its verification starts (R198). -/
theorem linkedIn_startVerify (hp : p < 16) {m : Nat} (hm : m < 8) (hdis : s.isF (F.SCH_FP_CFG_VERIFY_DIS p) = false) :
    ((s.linkedIn p m).startVerify p).linkUp p = true
      ∧ ((s.linkedIn p m).startVerify p).getF (F.PRT_MAC_STAT_MODE_NOW p) = m
      ∧ ((s.linkedIn p m).startVerify p).getF (F.SCH_FP_STAT_VERIFY_STATUS p) = 2
      ∧ ((s.linkedIn p m).startVerify p).out = s.out ++ [.mPacket p 0] := by
  have hdis' : (s.linkedIn p m).isF (F.SCH_FP_CFG_VERIFY_DIS p) = false := by
    rw [(linkedIn_fieldsKept s p m).isF, hdis]
    simp only [List.map, List.mem_cons, List.not_mem_nil, or_false, not_or, Fld.key]
    omega
  refine ⟨?_, ?_, ?_, ?_⟩
  · rw [State.linkUp, State.isF, startVerify_macField hp hdis' (by simp only [Fld.key]; omega)]
    exact linkedIn_link s p m
  · rw [startVerify_macField hp hdis' (by simp only [Fld.key]; omega), linkedIn_mode s p hm]
  · rw [startVerify_enabled hp hdis', getF_emit, verifyStatus_setVerify _ _ (by decide)]
  · rw [startVerify_enabled hp hdis']
    rfl

/-- The credits of port `p` are 0 and stay so (R182). -/
def State.creditsCleared (s : State) (p : Nat) : State :=
  s.forN 8 (fun c s => s.setClassSt p c { s.classSt p c with credit := 0, rem := 0 })

theorem classSt_setClassSt_ne {c d : Nat} (x : ClassSt) (h : c ≠ d) : (s.setClassSt p d x).classSt p c = s.classSt p c :=
  sget_sput_ne _ _ (by unfold qkey; omega)

/-- Clearing the credits replaces the scheduler states of the classes alone. -/
theorem creditsCleared_eq (s : State) (p : Nat) :
    s.creditsCleared p = { s with dp := { s.dp with classes := (s.creditsCleared p).dp.classes } } :=
  forN_rel (R := fun s t => t = { s with dp := { s.dp with classes := t.dp.classes } }) s (fun _ => rfl)
    (fun h k => by rw [k, h]) 8 _ fun _ _ _ => rfl

theorem creditsCleared_credit {c : Nat} (hc : c < 8) : ((s.creditsCleared p).classSt p c).credit = 0 := by
  refine forN_reaches (Q := fun _ => True) (P := fun t => (t.classSt p c).credit = 0) hc trivial
    (fun _ _ _ _ => trivial) (fun t _ => ?_) (fun d t hcd _ ht => ?_)
  · simp [State.classSt, State.setClassSt]
  · rw [classSt_setClassSt_ne _ hcd.ne, ht]

/-- The link of port `p` is shown as down, and its credits are cleared. -/
def State.linkCleared (s : State) (p : Nat) : State :=
  ((s.setB (F.PRT_MAC_STAT_LINK p) false).setB (F.PRT_MAC_STAT_AN_DONE p) false).creditsCleared p

theorem linkCleared_regs (s : State) (p : Nat) : (s.linkCleared p).regs =
    ((s.setB (F.PRT_MAC_STAT_LINK p) false).setB (F.PRT_MAC_STAT_AN_DONE p) false).regs := by
  unfold State.linkCleared
  rw [creditsCleared_eq]

theorem linkCleared_queues (s : State) (p : Nat) : (s.linkCleared p).dp.queues = s.dp.queues := by
  unfold State.linkCleared
  rw [creditsCleared_eq]
  rfl

theorem linkCleared_fieldsKept (s : State) (p : Nat) :
    FieldsKept s (s.linkCleared p) [F.PRT_MAC_STAT_LINK p, F.PRT_MAC_STAT_AN_DONE p] :=
  (((FieldsKept.refl s _).setB _ (by simp)).setB _ (by simp)).of_regs (linkCleared_regs s p)

theorem linkCleared_link (s : State) (p : Nat) : (s.linkCleared p).isF (F.PRT_MAC_STAT_LINK p) = false := by
  rw [State.isF, getF_of_regs (linkCleared_regs s p), getF_setB_ne _ _ _ _ (by simp only [Fld.key]; omega)]
  exact isF_setB_same _ _ _ rfl

theorem linkCleared_anDone (s : State) (p : Nat) : (s.linkCleared p).isF (F.PRT_MAC_STAT_AN_DONE p) = false := by
  rw [State.isF, getF_of_regs (linkCleared_regs s p)]
  exact isF_setB_same _ _ _ rfl

theorem dropLink_noEplen (heplen : s.isF F.RNG_STAT_EPLEN_EN = false) :
    s.dropLink p = if p < 16 then (s.linkCleared p).setVerify p 0 else s.linkCleared p := by
  unfold State.dropLink
  rw [heplen]
  rfl

/-- Beside the link status a link that goes down changes the status of verification alone. -/
theorem dropLink_onlyFields (heplen : s.isF F.RNG_STAT_EPLEN_EN = false) :
    OnlyFields (s.linkCleared p) (s.dropLink p) (verifyFields p) := by
  rw [dropLink_noEplen heplen]
  split
  · exact setVerify_onlyFields _ _ _
  · exact OnlyFields.refl _ _

/-- What a link that goes down changes behind `linkCleared` is no register of a MAC. -/
theorem dropLink_macField {f : Fld} (hp : p < 32) (heplen : s.isF F.RNG_STAT_EPLEN_EN = false)
    (hf : 0x100000 * 32 ≤ f.key) : (s.dropLink p).isF f = (s.linkCleared p).isF f :=
  (dropLink_onlyFields heplen).2.isF (notMem_verifyFields hp (.inr hf))

theorem dropLink_otherLink {q : Nat} (hp : p < 32) (heplen : s.isF F.RNG_STAT_EPLEN_EN = false) (hne : q ≠ p) :
    (s.dropLink p).linkUp q = s.linkUp q := by
  unfold State.linkUp
  rw [dropLink_macField hp heplen (by simp only [Fld.key]; omega), (linkCleared_fieldsKept s p).isF]
  simp only [List.map, List.mem_cons, List.not_mem_nil, or_false, not_or, Fld.key]
  omega

theorem dropLink_dp (heplen : s.isF F.RNG_STAT_EPLEN_EN = false) : (s.dropLink p).dp = (s.linkCleared p).dp := by
  rw [(dropLink_onlyFields heplen).1]

theorem dropLink_credit {c : Nat} (heplen : s.isF F.RNG_STAT_EPLEN_EN = false) (hc : c < 8) :
    ((s.dropLink p).classSt p c).credit = 0 := by
  have hclass : (s.dropLink p).classSt p c = (s.linkCleared p).classSt p c := by
    unfold State.classSt; rw [dropLink_dp heplen]
  rw [hclass, State.linkCleared, creditsCleared_credit hc]

theorem dropLink_verifyStatus (hp : p < 16) (heplen : s.isF F.RNG_STAT_EPLEN_EN = false) :
    (s.dropLink p).getF (F.SCH_FP_STAT_VERIFY_STATUS p) = 0 := by
  rw [dropLink_noEplen heplen, if_pos hp, verifyStatus_setVerify _ _ (by decide)]

/-! ### The MAC merge hold -/

/-- OP 1 asserts a hold that is released, and counts it (R199). -/
theorem holdOp_asserts (hoff : s.isF (F.SCH_PORT_STAT_HOLD_NOW p) = false) :
    s.holdOp p 1 = (s.setB (F.SCH_PORT_STAT_HOLD_NOW p) true).tally (T.sch p 4) := by
  simp [State.holdOp, State.setHold, hoff]

/-- With no list pending, the entry whose advance is reached acts on the hold by its OP (R199). -/
theorem doMacMergeHold_reached {k int g op : Nat} (hpresent : s.ethPresent p = true) (hactive : s.fpActive p = true)
    (hgates : s.gatesOn p = true) (hentry : (s.schList p)[k]? = some (int, g, op)) (hpend : s.pendOf p = none)
    (hstart : entryStart (s.schList p) k < ns40 (s.getF (F.SCH_OPER_CYCLE_CYCLE p)))
    (hpast : (cyclePos s.tb.clk (sget (fun _ => 0) s.dp.gateBase p) (ns40 (s.getF (F.SCH_OPER_CYCLE_CYCLE p)))
        + s.holdAdv p op + ns40 (s.getF (F.SCH_OPER_CYCLE_CYCLE p)) - entryStart (s.schList p) k)
          % ns40 (s.getF (F.SCH_OPER_CYCLE_CYCLE p)) < s.holdAdv p op + ns40 int) :
    doMacMergeHold p k s = s.holdOp p op := by
  have hnone : s.pendHold p k = none := by rw [State.pendHold, hpend]
  have hends (ahead : Nat) : s.endsWithin p ahead = false := by rw [State.endsWithin, hpend]
  unfold doMacMergeHold
  dsimp only
  rw [hnone, hentry]
  simp [hpresent, hactive, hgates, hends, hstart, hpast]

end

/-- Settles O26: verification moves through `setVerify` alone, and without Eplen a link that goes down is `linkCleared` and then
verification's reset. -/
theorem linksAndPreemptionFollowTheirEvents : Obligations.LinksAndPreemptionFollowTheirEvents := by
  unfold Obligations.LinksAndPreemptionFollowTheirEvents
  refine ⟨fun s p hp hpresent heplen => ?_, fun s p hp hpresent hdown hheld hmode hwidth hpower hdis => ?_,
    fun s p hp hpresent hlink hstatus => ?_, fun s p n hp hpresent hstatus htries hn => ?_,
    fun s p hp hpresent hstatus htries => ?_, fun s p hp hpresent hlink hen => ?_,
    fun s p k int g hp hpresent hactive hgates hentry hpend hoff hstart hpast => ?_⟩
  · refine ⟨s.dropLink p, answers rfl (if_pos hpresent), ?_, ?_, fun c hc => dropLink_credit heplen hc,
      fun hp16 => dropLink_verifyStatus hp16 heplen, fun q _ hne => dropLink_otherLink hp heplen hne, ?_⟩
    · rw [dropLink_macField hp heplen (by simp only [Fld.key]; omega), linkCleared_link]
    · rw [dropLink_macField hp heplen (by simp only [Fld.key]; omega), linkCleared_anDone]
    · rw [dropLink_dp heplen, linkCleared_queues]
  · exact ⟨_, answers rfl (doLinkUp_free hpresent hdown hheld hmode hpower), linkedIn_startVerify hp hwidth hdis⟩
  · exact ⟨_, answers rfl (doVerifyResponse_awaited hp hpresent hlink hstatus), setVerify_onlyFields s p 3,
      verifyStatus_setVerify s p (by decide), active_setVerify_succeeded hp⟩
  · subst htries
    exact answers rfl (doVerifyTimeout_again hp hpresent hstatus hn)
  · refine ⟨_, answers rfl (doVerifyTimeout_last hp hpresent hstatus htries), ?_, verifyFailed_counted (by omega) hpresent,
      tally_out _ _⟩
    rw [getF_of_regs (tally_regs _ _), verifyStatus_setVerify s p (by decide)]
  · exact answers rfl (if_pos ⟨hpresent, hp, hlink, hen⟩)
  · exact answers rfl ((doMacMergeHold_reached hpresent hactive hgates hentry hpend hstart hpast).trans
      (holdOp_asserts hoff))

end Sys2Proof.Machine
end

section
/-! PROOF of BoundedQueuesStayBounded. -/

namespace Sys2Proof.Machine

/-- Settles O5: every command keeps the bounds of the three queues (`keeps_exec`), and so does an idle cycle. -/
theorem boundedQueuesStayBounded : Obligations.BoundedQueuesStayBounded := by
  unfold Obligations.BoundedQueuesStayBounded
  intro s t hs h
  exact (keeps_step h).queues hs

end Sys2Proof.Machine
end

section
/-! SUPPORT. What a command of the time base reads and shows (R207): the time base itself, the tables and the registers below
those of the table commands. Blocks that follow a step of the working clock, events and requesters' registers leave all
three alone. -/

namespace Sys2Proof.Machine

/-- States `s` and `t` have the same time base, the same tables and the same registers below those of the table commands. -/
structure SameTime (s t : State) : Prop where
  tb : t.tb = s.tb
  tables : t.tables = s.tables
  low : ∀ f : Fld, f.key < 0x40000 * 32 → t.getF f = s.getF f

/-- The state with another time base. -/
def State.withTb (s : State) (b : TimeBase) : State := { s with tb := b }

@[simp] theorem withTb_tb (s : State) (b : TimeBase) : (s.withTb b).tb = b := rfl
@[simp] theorem getF_withTb (s : State) (b : TimeBase) (f : Fld) : (s.withTb b).getF f = s.getF f := rfl
@[simp] theorem isF_withTb (s : State) (b : TimeBase) (f : Fld) : (s.withTb b).isF f = s.isF f := rfl

theorem withPosted_tb (s r : State) : (s.withPosted r).tb = s.tb := rfl
theorem withPosted_tables (s r : State) : (s.withPosted r).tables = s.tables := rfl

namespace SameTime
variable {s t u : State}

theorem refl (s : State) : SameTime s s := ⟨rfl, rfl, fun _ _ => rfl⟩

theorem trans (h : SameTime s t) (k : SameTime t u) : SameTime s u :=
  ⟨k.tb.trans h.tb, k.tables.trans h.tables, fun f hf => (k.low f hf).trans (h.low f hf)⟩

theorem isF (h : SameTime s t) {f : Fld} (hf : f.key < 0x40000 * 32) : t.isF f = s.isF f := by
  rw [State.isF, h.low f hf, State.isF]

theorem setF (h : SameTime s t) {f : Fld} (v : Nat) (hf : 0x40000 * 32 ≤ f.key) : SameTime s (t.setF f v) :=
  ⟨h.tb, h.tables, fun g hg => (getF_setF_ne t f g v (hg.trans_le hf).ne).trans (h.low g hg)⟩

theorem setB (h : SameTime s t) {f : Fld} (b : Bool) (hf : 0x40000 * 32 ≤ f.key) : SameTime s (t.setB f b) := h.setF _ hf

theorem orF (h : SameTime s t) {f : Fld} (b : Nat) (hf : 0x40000 * 32 ≤ f.key) : SameTime s (t.orF f b) := by
  unfold State.orF
  split
  · exact h
  · exact h.setF _ hf

/-- Changes of the data plane and of the tallies. -/
theorem onlyDp (h : SameTime s t) (k : OnlyDp t u) : SameTime s u := by
  refine h.trans ⟨?_, ?_, fun f _ => k.getF f⟩ <;> rw [k]

theorem tally (h : SameTime s t) (i : Nat) : SameTime s (t.tally i) := h.onlyDp (onlyDp_tally t i)

theorem post (h : SameTime s t) (b c p : Nat) : SameTime s (t.post b c p) :=
  h.trans ⟨(congrArg State.tb (post_posted t b c p)).trans (withPosted_tb t _),
    (congrArg State.tables (post_posted t b c p)).trans (withPosted_tables t _),
    fun f hf => fieldsKept_post t b c p f (notMem_postFields (hf.trans (by decide)))⟩

theorem postFree (h : SameTime s t) (b c : Nat) : SameTime s (t.postFree b c) :=
  (h.trans (u := { t with freeCtr := t.freeCtr + 1 }) ⟨rfl, rfl, fun _ _ => rfl⟩).post b c _

theorem foldl {α : Type} (g : State → α → State) (hg : ∀ t x, SameTime t (g t x)) (l : List α) (s : State) :
    SameTime s (l.foldl g s) := by
  induction l generalizing s with
  | nil => exact refl s
  | cons x l ih => exact (hg s x).trans (ih _)

theorem forN (n : Nat) (g : Nat → State → State) (hg : ∀ i t, SameTime t (g i t)) (s : State) : SameTime s (s.forN n g) :=
  foldl _ (fun t i => hg i t) _ s

/-- The same time base takes the place of both. -/
theorem withTb (h : SameTime s t) (b : TimeBase) : SameTime (s.withTb b) (t.withTb b) := ⟨rfl, h.tables, h.low⟩

end SameTime

section
variable (s : State)

/-! ### Gate lists (R190 to R192, R170) -/

theorem onlyDp_release (i : Nat) : OnlyDp s (s.release i) := by
  unfold OnlyDp; rw [release_eq]

theorem onlyDp_dropLong (p c : Nat) (l : List QRef) : ∀ s : State, OnlyDp s (State.dropLong p c l s) := by
  induction l with
  | nil => exact .refl
  | cons r l ih =>
    intro s
    unfold State.dropLong
    split
    · have hqueue : OnlyDp s (s.setQueue p c l) := rfl
      exact ((hqueue.trans (onlyDp_release _ r.item)).trans (onlyDp_tally _ _)).trans (ih _)
    · exact .refl s

theorem sameTime_dropAllLong (p : Nat) : SameTime s (s.dropAllLong p) :=
  .forN 8 _ (fun c t => (SameTime.refl t).onlyDp (onlyDp_dropLong p c _ t)) s

theorem sameTime_setHold (p : Nat) (on : Bool) : SameTime s (s.setHold p on) := by
  have h : SameTime s (s.setB (F.SCH_PORT_STAT_HOLD_NOW p) on) :=
    (SameTime.refl s).setB on (by simp only [Fld.key]; omega)
  unfold State.setHold
  dsimp only
  split
  · exact h.tally _
  · exact h

theorem sameTime_gatesNow (p : Nat) : SameTime s (s.gatesNow p) := by
  have h : SameTime s (s.setF (F.SCH_PORT_STAT_GATES_NOW p) (s.gatesAt p s.tb.clk)) :=
    (SameTime.refl s).setF _ (by simp only [Fld.key]; omega)
  unfold State.gatesNow
  dsimp only
  split
  · exact h
  · exact h.trans (sameTime_setHold _ p false)

theorem sameTime_overrun (p : Nat) : SameTime s (s.overrun p) := by
  unfold State.overrun
  split
  · exact .refl s
  · split
    · exact .refl s
    · split
      · exact (SameTime.refl s).tally _
      · exact .refl s

theorem sameTime_openNow (g : Nat) : SameTime s (s.openNow g) :=
  (SameTime.refl s).setB _ (by simp only [Fld.key]; omega)

theorem schOper_key_high (p k : Nat) : 0x40000 * 32 ≤ (schOperInt p k).key ∧ 0x40000 * 32 ≤ (schOperGates p k).key
    ∧ 0x40000 * 32 ≤ (schOperOp p k).key := by
  unfold schOperInt schOperGates schOperOp
  split <;> (simp only [Fld.key]; omega)

/-- A state that differs in the data plane alone. -/
theorem sameTime_of_dp {s t : State} (d : DataPlane) (h : SameTime s t) : SameTime s { t with dp := d } :=
  h.trans ⟨rfl, rfl, fun _ _ => rfl⟩

theorem sameTime_swapSch (p : Nat) : SameTime s (s.swapSch p) := by
  unfold State.swapSch
  split
  · exact .refl s
  next g _ =>
    extract_lets s₁ n s₂ s₃ s₄ s₅ s₆
    have h₁ : SameTime s s₁ := (sameTime_of_dp _ (.refl s)).setB (t := s.setPend p none) _ (by simp only [Fld.key]; omega)
    have h₂ : SameTime s s₂ := h₁.trans (.forN n _ (fun k t => by
      obtain ⟨hint, hgates, hop⟩ := schOper_key_high p k
      exact (((SameTime.refl t).setF _ hint).setF _ hgates).setF _ hop) s₁)
    have h₃ : SameTime s s₃ := (h₂.setF _ (by simp only [Fld.key]; omega)).setF _ (by simp only [Fld.key]; omega)
    have h₄ : SameTime s s₄ := (sameTime_of_dp (t := s₃) _ h₃).tally _
    have h₅ : SameTime s s₅ := h₄.trans (.forN 8 _ (fun c t =>
      (SameTime.refl t).setF _ (by simp only [Fld.key]; omega)) s₄)
    have h₆ : SameTime s s₆ := ((h₅.trans (sameTime_gatesNow s₅ p)).trans (sameTime_overrun _ p)).trans
      (sameTime_dropAllLong _ p)
    clear_value s₆
    split
    · exact h₆
    · split
      · exact h₆.trans (sameTime_setHold _ p true)
      · exact h₆.trans (sameTime_setHold _ p false)
      · exact h₆

theorem sameTime_stepPort (p : Nat) : SameTime s (s.stepPort p) := by
  have h : SameTime s ((s.gatesNow p).overrun p) := (sameTime_gatesNow s p).trans (sameTime_overrun _ p)
  unfold State.stepPort
  split
  · split
    · exact sameTime_swapSch s p
    · exact h
  · exact h

theorem sameTime_storeGateEntry (g : Nat) (l : List (Nat × Nat × Nat)) (k : Nat) :
    SameTime s (storeGateEntry g l k s) := by
  unfold storeGateEntry
  exact ((((SameTime.refl s).setF _ (by simp only [Fld.key]; omega)).setF _ (by simp only [Fld.key]; omega)).setF _
    (by simp only [Fld.key]; omega)).setF _ (by simp only [Fld.key]; omega)

theorem sameTime_swapStream (g : Nat) : SameTime s (s.swapStream g) := by
  cases h : s.pendOf (gateKey true g) with
  | none => rw [State.swapStream, h]; exact .refl s
  | some p =>
    rw [swapStream_some h]
    have htaken : SameTime s (s.gateTaken g p) := by
      unfold State.gateTaken
      exact (sameTime_of_dp _ (.refl s)).setB false (by simp only [Fld.key]; omega)
    have hlist := htaken.trans (.forN 64 _ (fun k t => sameTime_storeGateEntry t g p.entries k) _)
    generalize (s.gateTaken g p).forN 64 (storeGateEntry g p.entries) = t at hlist
    unfold State.gateShown
    have hset : SameTime s ((t.setF (F.STR_GATE_W0_OPER_LEN g) p.entries.length).setF
        (F.STR_GATE_OPER_CYCLE_OPER_CYCLE g) p.cycle) :=
      (hlist.setF _ (by simp only [Fld.key]; omega)).setF _ (by simp only [Fld.key]; omega)
    exact (sameTime_of_dp _ hset).trans (sameTime_openNow _ g)

theorem sameTime_stepGates : SameTime s s.stepGates := by
  unfold State.stepGates
  refine (SameTime.forN 32 _ (fun p t => sameTime_stepPort t p) s).trans (.forN 64 _ (fun g t => ?_) _)
  split
  · split
    · exact sameTime_swapStream t g
    · exact .refl t
  · exact .refl t

/-! ### Late items (R70) -/

theorem sameTime_rodEvt (n b : Nat) : SameTime s (s.rodEvt n b) := by
  unfold State.rodEvt
  exact ((SameTime.refl s).orF b (by simp only [Fld.key]; omega)).post _ _ _

theorem sameTime_txPending (n : Nat) : SameTime s (s.txPending n) := by
  unfold State.txPending
  exact (SameTime.refl s).setB _ (by simp only [Fld.key]; omega)

theorem sameTime_dropLate (n : Nat) : SameTime s (s.dropLate n) := by
  unfold State.dropLate
  extract_lets late s₁
  split
  · exact .refl s
  · have h : SameTime s s₁ := sameTime_of_dp _ (.refl s)
    have drop (t : State) (r : QRef) : SameTime t (((t.release r.item).tally (T.rodLaunchLate n)).rodEvt n 5) :=
      (((SameTime.refl t).onlyDp (onlyDp_release t r.item)).tally (T.rodLaunchLate n)).trans (sameTime_rodEvt _ n 5)
    have hdropped := h.trans (.foldl _ drop late s₁)
    exact hdropped.trans (sameTime_txPending _ n)

/-! ### A step (R209, R215) -/

/-- An instant of TIME_OUT that moves with a step of the clock by `d` (R215). -/
def shiftTime (d : Int) (t : Nat) : Nat := ((t : Int) + d).toNat

/-- What a step by `d` makes of the instants of TIME_OUT (R215). -/
def TimeBase.outMoved (b : TimeBase) (d : Int) : TimeBase :=
  { b with outFrom := b.clk, outGuard := shiftTime d b.outGuard, outNew := b.outNew.map (fun e => (shiftTime d e.1, e.2)) }

/-- The blocks that follow a step change nothing of the time base but the instants of TIME_OUT. -/
theorem sameTime_stepEffects (d : Int) : SameTime (s.withTb (s.tb.outMoved d)) (s.stepEffects d) := by
  unfold State.stepEffects
  extract_lets s₁ s₂ s₃ _ _ s₄
  have h₁ : SameTime s s₁ := sameTime_stepGates s
  have h₂ : SameTime s s₂ := h₁.trans (.forN 64 _ (fun g t => sameTime_openNow t g) _)
  have h₃ : SameTime s s₃ := h₂.trans (.forN 128 _ (fun n t => sameTime_dropLate t n) _)
  have h₄ : SameTime s s₄ := by
    unfold s₄
    split
    · exact sameTime_of_dp _ h₃
    · exact h₃
  clear_value s₄
  have htb : s₄.tb.outMoved d = s.tb.outMoved d := by rw [h₄.tb]
  exact htb ▸ h₄.withTb (s₄.tb.outMoved d)

/-- The time base that has taken a step by `d` (R209). -/
def TimeBase.stepped (b : TimeBase) (d : Int) : TimeBase :=
  { b with
    clk := (((b.clk : Int) + d) % clkTop).toNat, pending := none, lastStep := d
    steps := (b.fab, d) :: b.steps.filter (fun e => decide (b.fab - e.1 ≤ cycS)) }

/-- The state that has taken a step by `d`, before any block follows it. -/
def State.stepTaken (s : State) (d : Int) : State :=
  ((s.setB F.TIM_STAT_SYNCED true).setB F.TIM_STAT_JUMP_PEND false).withTb (s.tb.stepped d)

theorem applyStep_eq (d : Int) :
    s.applyStep d = (((s.stepTaken d).tally (T.tim 0)).postFree 0x02 1).stepEffects d := rfl

/-- Nothing that follows a step changes what it has made of the clock and of the status. -/
theorem sameTime_applyStep (d : Int) :
    SameTime ((s.stepTaken d).withTb ((s.tb.stepped d).outMoved d)) (s.applyStep d) := by
  rw [applyStep_eq]
  have h := ((SameTime.refl (s.stepTaken d)).tally (T.tim 0)).postFree 0x02 1
  generalize ((s.stepTaken d).tally (T.tim 0)).postFree 0x02 1 = t at h
  have htb : t.tb.outMoved d = (s.tb.stepped d).outMoved d := by rw [h.tb]; rfl
  rw [← htb]
  exact (h.withTb _).trans (sameTime_stepEffects t d)

end
end Sys2Proof.Machine
end

section
/-! SUPPORT. What the effects of the time base's entries leave (R209 to R214), and how a command of the time base runs and
ends (R130, R207). -/

namespace Sys2Proof.Machine

section
variable (s : State)

/-! ### Applied steps -/

@[simp] theorem applyStep_tb (d : Int) : (s.applyStep d).tb = (s.tb.stepped d).outMoved d := (sameTime_applyStep s d).tb

@[simp] theorem applyStep_tables (d : Int) : (s.applyStep d).tables = s.tables := (sameTime_applyStep s d).tables

@[simp] theorem isF_applyStep_synced (d : Int) : (s.applyStep d).isF F.TIM_STAT_SYNCED = true := by
  rw [(sameTime_applyStep s d).isF (by decide), isF_withTb, State.stepTaken, isF_withTb, isF_setB_ne _ _ _ _ (by decide)]
  exact isF_setB_same _ _ _ rfl

@[simp] theorem isF_applyStep_jumpPend (d : Int) : (s.applyStep d).isF F.TIM_STAT_JUMP_PEND = false := by
  rw [(sameTime_applyStep s d).isF (by decide), isF_withTb, State.stepTaken, isF_withTb]
  exact isF_setB_same _ _ _ rfl

/-- A step changes no other register of the time base. -/
theorem getF_applyStep {f : Fld} (d : Int) (hf : f.key < 0x40000 * 32) (hsynced : f.key ≠ F.TIM_STAT_SYNCED.key)
    (hpend : f.key ≠ F.TIM_STAT_JUMP_PEND.key) : (s.applyStep d).getF f = s.getF f := by
  rw [(sameTime_applyStep s d).low f hf, getF_withTb, State.stepTaken, getF_withTb, getF_setB_ne _ _ _ _ hpend,
    getF_setB_ne _ _ _ _ hsynced]

/-- A step to a time of the clock's range. -/
theorem stepped_clk {b : TimeBase} {d : Int} {t : Nat} (h : (b.clk : Int) + d = t) (ht : t < clkTop) :
    ((b.stepped d).outMoved d).clk = t := by
  change (((b.clk : Int) + d) % clkTop).toNat = t
  rw [h, ← Int.natCast_mod, Int.toNat_natCast, Nat.mod_eq_of_lt ht]

/-! ### Refused steps -/

theorem sameTime_pendStep (p : Pending) :
    SameTime ((s.withTb { s.tb with pending := some p }).setB F.TIM_STAT_JUMP_PEND true) (s.pendStep p) := by
  unfold State.pendStep
  exact ((SameTime.refl _).tally _).postFree _ _

@[simp] theorem pendStep_tb (p : Pending) : (s.pendStep p).tb = { s.tb with pending := some p } :=
  (sameTime_pendStep s p).tb

@[simp] theorem isF_pendStep_jumpPend (p : Pending) : (s.pendStep p).isF F.TIM_STAT_JUMP_PEND = true := by
  rw [(sameTime_pendStep s p).isF (by decide)]
  exact isF_setB_same _ _ _ rfl

theorem refuses_off {s : State} (h : s.isF F.TIM_CFG_JUMP_EN = false) (d : Int) : s.refuses d = false := by
  simp [State.refuses, h]

theorem refuses_beyond {s : State} {d : Int} (hjump : s.isF F.TIM_CFG_JUMP_EN = true)
    (hsynced : s.isF F.TIM_STAT_SYNCED = true) (hlimit : s.getF F.TIM_JUMP_LIMIT_LIMIT * 2 ^ 40 < d.natAbs) :
    s.refuses d = true := by
  rw [State.refuses, hjump, hsynced, decide_eq_true hlimit]
  rfl

theorem tryStep_off {s : State} (h : s.isF F.TIM_CFG_JUMP_EN = false) (d : Int) : s.tryStep d = s.applyStep d := by
  simp [State.tryStep, refuses_off h]

/-! ### Writes of the owner (R214) -/

theorem ownerWrite_cases :
    SameTime (s.withTb { s.tb with ownerAt := s.tb.fab }) s.ownerWrite ∧ s.isF F.TIM_STAT_HOLDOVER = false
    ∨ SameTime ((s.withTb { s.tb with ownerAt := s.tb.fab }).setB F.TIM_STAT_HOLDOVER false) s.ownerWrite := by
  unfold State.ownerWrite
  dsimp only
  split
  · exact .inr ((SameTime.refl _).postFree _ _)
  · next h => exact .inl ⟨.refl _, eq_false_of_ne_true h⟩

@[simp] theorem ownerWrite_tb : s.ownerWrite.tb = { s.tb with ownerAt := s.tb.fab } := by
  obtain ⟨h, -⟩ | h := ownerWrite_cases s
  · exact h.tb
  · exact h.tb

@[simp] theorem ownerWrite_tables : s.ownerWrite.tables = s.tables := by
  obtain ⟨h, -⟩ | h := ownerWrite_cases s
  · exact h.tables
  · exact h.tables

/-- A write of the owner ends holdover. -/
@[simp] theorem isF_ownerWrite_holdover : s.ownerWrite.isF F.TIM_STAT_HOLDOVER = false := by
  obtain ⟨h, hoff⟩ | h := ownerWrite_cases s
  · rw [h.isF (by decide), isF_withTb, hoff]
  · rw [h.isF (by decide)]
    exact isF_setB_same _ _ _ rfl

theorem getF_ownerWrite {f : Fld} (hf : f.key < 0x40000 * 32) (hne : f.key ≠ F.TIM_STAT_HOLDOVER.key) :
    s.ownerWrite.getF f = s.getF f := by
  obtain ⟨h, -⟩ | h := ownerWrite_cases s
  · rw [h.low f hf, getF_withTb]
  · rw [h.low f hf, getF_setB_ne _ _ _ _ hne, getF_withTb]

theorem isF_ownerWrite {f : Fld} (hf : f.key < 0x40000 * 32) (hne : f.key ≠ F.TIM_STAT_HOLDOVER.key) :
    s.ownerWrite.isF f = s.isF f := by
  rw [State.isF, getF_ownerWrite s hf hne, State.isF]

/-! ### Selections (R211) -/

/-- The views as the selection of domain `d` folds them. -/
def State.viewsFolded (s : State) (d : Nat) : State :=
  s.forN 4 (fun e t => if e = d then t.setView d { t.view d with ofs := 0, vrate := 0 }
    else t.setView e (foldView (t.view e) (s.view d).vrate s.tb.clk (s.selectStep d)))

/-- Folding replaces the views alone. -/
theorem viewsFolded_eq (d : Nat) :
    s.viewsFolded d = s.withTb { s.tb with views := (s.viewsFolded d).tb.views } := by
  unfold State.viewsFolded
  refine forN_rel (R := fun s t => t = s.withTb { s.tb with views := t.tb.views }) s (fun _ => rfl) ?_ 4 _ ?_
  · rintro s t u h k
    rw [k, h]
    rfl
  · intro e t _
    split <;> rfl

/-- The state in which the views are folded and the rate and the selection are the new domain's, before the step. -/
def State.selected (s : State) (d : Nat) : State :=
  (s.withTb { s.tb with views := (s.viewsFolded d).tb.views, rate := s.tb.rate + (s.view d).vrate }).setF F.TIM_STAT_SEL d

theorem applySelect_eq (d : Nat) : s.applySelect d = (s.selected d).applyStep (s.selectStep d) := by
  have h : s.applySelect d = (((s.viewsFolded d).withTb { (s.viewsFolded d).tb with
    rate := (s.viewsFolded d).tb.rate + (s.view d).vrate }).setF F.TIM_STAT_SEL d).applyStep (s.selectStep d) := rfl
  rw [h, viewsFolded_eq]
  rfl

/-- The selection takes the clock to the domain's time and adds the domain's rate. -/
theorem applySelect_time {d : Nat} (hlow : 0 ≤ (s.view d).at s.tb.clk) (htop : (s.view d).at s.tb.clk < clkTop) :
    ((s.applySelect d).tb.clk : Int) = (s.view d).at s.tb.clk
      ∧ (s.applySelect d).tb.rate = s.tb.rate + (s.view d).vrate := by
  rw [applySelect_eq, applyStep_tb]
  obtain ⟨n, hn⟩ := Int.eq_ofNat_of_zero_le hlow
  rw [hn] at htop ⊢
  refine ⟨congrArg _ (stepped_clk ?_ (Int.ofNat_lt.1 htop)), rfl⟩
  rw [← hn, State.selectStep]
  exact add_sub_cancel _ _

theorem sel_applySelect {d : Nat} (hd : d < 4) : (s.applySelect d).getF F.TIM_STAT_SEL = d := by
  rw [applySelect_eq, getF_applyStep _ _ (by decide) (by decide) (by decide)]
  exact (getF_setF_same _ _ _).trans (Nat.mod_eq_of_lt hd)

theorem isF_applySelect_holdover (d : Nat) : (s.applySelect d).isF F.TIM_STAT_HOLDOVER = s.isF F.TIM_STAT_HOLDOVER := by
  rw [applySelect_eq, State.isF, getF_applyStep _ _ (by decide) (by decide) (by decide)]
  exact isF_setF_ne _ _ _ _ (by decide)

/-! ### The course of a command -/

theorem reqF_key_high (r : Nat) {f : Fld} (hf : 0x40000 * 32 ≤ f.key) : 0x40000 * 32 ≤ (reqF r f).key := by
  rw [reqF_key]; omega

theorem sameTime_setTblData (r v : Nat) : SameTime s (s.setTblData r v) :=
  .forN 8 _ (fun k t => (SameTime.refl t).setF _ (reqF_key_high r (by simp only [Fld.key]; omega))) s

theorem sameTime_setStage (r : Nat) (b : Stage) : SameTime s (s.setStage r b) := sameTime_of_dp _ (.refl s)

theorem sameTime_tblEnd (r st : Nat) : SameTime s (s.tblEnd r st) := by
  have h := (SameTime.refl s).setF (f := reqF r F.TBL_STAT_STATUS) st (reqF_key_high r (by decide))
  unfold State.tblEnd
  dsimp only
  split
  · exact h.tally _
  · exact h

/-- Requester `r` has loaded TBL_ADDR with entry `i` of the time base, part 0. -/
def State.timeAddressed (s : State) (r i : Nat) : State :=
  ((s.setF (reqF r F.TBL_ADDR_TABLE) tTime).setF (reqF r F.TBL_ADDR_INDEX) i).setF (reqF r F.TBL_ADDR_PART) 0

theorem sameTime_timeAddressed (r i : Nat) : SameTime s (s.timeAddressed r i) :=
  (((SameTime.refl s).setF _ (reqF_key_high r (by decide))).setF _ (reqF_key_high r (by decide))).setF _
    (reqF_key_high r (by decide))

theorem index_timeAddressed (r : Nat) {i : Nat} (hi : i < 2 ^ 20) : ((s.timeAddressed r i).tblAddr r).2.1 = i := by
  unfold State.timeAddressed State.tblAddr
  dsimp only
  rw [getF_setF_reqF_ne _ _ _ (by decide), getF_setF_reqF_same]
  exact Nat.mod_eq_of_lt hi

/-- Loading TBL_DATA leaves the address. -/
theorem index_setTblData (r v : Nat) : ((s.setTblData r v).tblAddr r).2.1 = (s.tblAddr r).2.1 := by
  unfold State.tblAddr State.setTblData
  exact forN_keeps s (fun t => t.getF (reqF r F.TBL_ADDR_INDEX) = s.getF (reqF r F.TBL_ADDR_INDEX)) 8 _
    (fun k t ht => (getF_setF_reqF_ne _ _ _ (by simp only [Fld.key]; omega)).trans ht) rfl

/-- The state on which a WRITE of entry `i` of the time base with `v` acts. -/
def State.timeLoaded (s : State) (r i v : Nat) : State :=
  ((s.setF (reqF r F.TBL_STAT_LAST_OP) 2).timeAddressed r i).setTblData r v

theorem sameTime_timeLoaded (r i v : Nat) : SameTime s (s.timeLoaded r i v) :=
  (((SameTime.refl s).setF _ (reqF_key_high r (by decide))).trans (sameTime_timeAddressed _ r i)).trans
    (sameTime_setTblData _ r v)

theorem timeWrite_taken {r i v : Nat} {u : State} (hindex : (s.tblAddr r).2.1 = i) (hthere : timeThere i = true)
    (hdata : s.tblData r = v) (hu : s.timeEffect r i v = (stOk, u)) :
    s.timeWrite r = (some stOk, u.setStage r ⟨some (tTime, i), v⟩) := by
  unfold State.timeWrite
  simp [hindex, hthere, hdata, hu]

end

section
variable {s : State} {r : Nat}

/-- A write of the time base that is taken at once and accepted leaves its effect and status OK. -/
theorem timeCmd_accepted {i v : Nat} {u : State} (h : s.CanCommand r) (hthere : timeThere i = true) (hv : v < 2 ^ 256)
    (hu : (s.timeLoaded r i v).timeEffect r i v = (stOk, u)) :
    SameTime u (s.timeCmd r i v) ∧ (s.timeCmd r i v).getF (reqF r F.TBL_STAT_STATUS) = 0 := by
  have hi : i < 2 ^ 20 := by
    simp only [timeThere, Bool.or_eq_true, Bool.and_eq_true, decide_eq_true_eq] at hthere; omega
  have hrun : (s.timeLoaded r i v).timeWrite r = (some stOk, u.setStage r ⟨some (tTime, i), v⟩) :=
    timeWrite_taken _ ((index_setTblData _ r v).trans (index_timeAddressed _ r hi)) hthere
      ((tblData_setTblData _ r v).trans (Nat.mod_eq_of_lt hv)) hu
  unfold State.timeCmd
  rw [min_requester h, tblCmd_ends (run := fun s => (s.loadTime r i v).timeWrite r) h hrun]
  exact ⟨(sameTime_setStage u r _).trans (sameTime_tblEnd _ r _), status_tblEnd _ r (by decide)⟩

theorem SameTime.owns {t : State} (h : SameTime s t) (r : Nat) : t.owns r = s.owns r := by
  unfold State.owns
  rw [h.isF (by decide)]

theorem SameTime.refuses {t : State} (h : SameTime s t) (d : Int) : t.refuses d = s.refuses d := by
  unfold State.refuses
  rw [h.isF (by decide), h.isF (by decide), h.low _ (by decide)]

theorem SameTime.view {t : State} (h : SameTime s t) (d : Nat) : t.view d = s.view d := by
  unfold State.view
  rw [h.tb]

/-! ### The entries (R207 to R212) -/

/-- The time that a WRITE of CLOCK gives. -/
def clockValue (v : Nat) : Nat := tOf (ew v 1 0 48) (min 999999999 (ew v 0 0 32)) + ew v 0 32 16 * 2 ^ 24

/-- The step that a WRITE of STEP gives. -/
def stepValue (v : Nat) : Int := signed 64 v * 2 ^ 40 + ((ew v 1 0 16 * 2 ^ 24 : Nat) : Int)

/-- The view that a WRITE of VIEW gives. -/
def viewValue (v : Nat) : View := ⟨stepValue v, clampRate (signed 32 (ew v 1 32 32)), ((ew v 2 0 64 * 2 ^ 40 : Nat) : Int)⟩

theorem timeEffect_clock (h : s.owns r = true) (v : Nat) :
    s.timeEffect r 0 v = (stOk, s.ownerWrite.tryStep ((clockValue v : Int) - s.tb.clk)) := by
  simp [State.timeEffect, h, clockValue]

theorem timeEffect_rate (h : s.owns r = true) (v : Nat) : s.timeEffect r 1 v =
    (stOk, s.ownerWrite.withTb { s.ownerWrite.tb with rate := clampRate (signed 32 v) }) := by
  simp [State.timeEffect, h, State.withTb]

theorem timeEffect_slew (h : s.owns r = true) (v : Nat) :
    s.timeEffect r 2 v = (stOk, s.ownerWrite.slewTo (signed 32 v) (ew v 1 0 32)) := by
  simp [State.timeEffect, h]

theorem timeEffect_step (h : s.owns r = true) (v : Nat) :
    s.timeEffect r 3 v = (stOk, s.ownerWrite.tryStep (stepValue v)) := by
  simp [State.timeEffect, h, stepValue]

theorem timeEffect_select {d : Nat} (h : s.owns r = true) (hd : d < 4) (hen : s.isF (F.TIM_DOM_W0_EN d) = true)
    (hsel : d ≠ s.getF F.TIM_STAT_SEL) (hjump : s.isF F.TIM_CFG_JUMP_EN = false) :
    s.timeEffect r 4 d = (stOk, s.ownerWrite.applySelect d) := by
  have hsel' : d ≠ s.ownerWrite.getF F.TIM_STAT_SEL := by rwa [getF_ownerWrite _ (by decide) (by decide)]
  have hjump' : s.ownerWrite.isF F.TIM_CFG_JUMP_EN = false := by rwa [isF_ownerWrite _ (by decide) (by decide)]
  simp [State.timeEffect, h, Nat.mod_eq_of_lt hd, hen, hsel', refuses_off hjump']

theorem timeEffect_accept {d : Int} (hr : r ≠ 0) (h : s.tb.pending = some ⟨1, 0, d⟩) (v : Nat) :
    s.timeEffect r 5 v = (stOk, s.applyStep d) := by
  simp [State.timeEffect, hr, h]

theorem timeEffect_view {d : Nat} (h : s.owns r = true) (hsel : d ≠ s.getF F.TIM_STAT_SEL) (v : Nat) :
    s.timeEffect r (8 + d) v = (stOk, s.setView d (viewValue v)) := by
  rw [Nat.add_comm]
  simp [State.timeEffect, h, hsel, viewValue, stepValue]

end
end Sys2Proof.Machine
end

section
/-! PROOF of StepsOfTheWorkingClock. Each command writes one entry of the time base on the state with the loaded registers,
which shows the same time base; the effect is a step applied, a step refused or a selection. -/

namespace Sys2Proof.Machine

section
variable {s : State} {r : Nat}

/-! ### Written times -/

/-- What a WRITE of CLOCK loads. -/
def clockData (sec ns frac : Nat) : Nat := ns % 2 ^ 32 + frac % 2 ^ 16 * 2 ^ 32 + sec % 2 ^ 48 * 2 ^ 64

theorem clockData_lt (sec ns frac : Nat) : clockData sec ns frac < 2 ^ 256 := by unfold clockData; omega

theorem clockValue_clockData {sec ns frac : Nat} (hsec : sec < 2 ^ 48) (hns : ns < 1000000000) (hfrac : frac < 2 ^ 16) :
    clockValue (clockData sec ns frac) = (sec * 1000000000 + ns) * 2 ^ 40 + frac * 2 ^ 24 := by
  have hs : ew (clockData sec ns frac) 1 0 48 = sec := by unfold ew bits clockData; omega
  have hn : ew (clockData sec ns frac) 0 0 32 = ns := by unfold ew bits clockData; omega
  have hf : ew (clockData sec ns frac) 0 32 16 = frac := by unfold ew bits clockData; omega
  rw [clockValue, tOf, hs, hn, hf, min_eq_right (by omega)]

/-- A written time lies in the clock's range. -/
theorem clockTime_lt {sec ns frac : Nat} (hsec : sec < 2 ^ 48) (hns : ns < 1000000000) (hfrac : frac < 2 ^ 16) :
    (sec * 1000000000 + ns) * 2 ^ 40 + frac * 2 ^ 24 < clkTop := by
  unfold clkTop; omega

/-- What a WRITE of STEP loads. -/
def stepData (ns frac : Nat) : Nat := ns % 2 ^ 64 + frac % 2 ^ 16 * 2 ^ 64

theorem stepData_lt (ns frac : Nat) : stepData ns frac < 2 ^ 256 := by unfold stepData; omega

theorem stepValue_stepData {ns : Nat} (h : ns < 2 ^ 63) : stepValue (stepData ns 0) = (ns * 2 ^ 40 : Nat) := by
  have hfrac : ew (stepData ns 0) 1 0 16 = 0 := by unfold ew bits stepData; omega
  have hns : signed 64 (stepData ns 0) = ns := by
    unfold signed
    rw [show stepData ns 0 % 2 ^ 64 = ns by unfold stepData; omega]
    exact if_pos h
  rw [stepValue, hfrac, hns, Nat.zero_mul, Nat.cast_zero, add_zero, Nat.cast_mul]
  rfl

/-! ### A write of the owner -/

/-- The state after the owner's write of entry `i` with `v`, before the entry's effect. -/
def State.timeOwned (s : State) (r i v : Nat) : State := (s.timeLoaded r i v).ownerWrite

theorem timeOwned_tb (i v : Nat) : (s.timeOwned r i v).tb = { s.tb with ownerAt := s.tb.fab } := by
  rw [State.timeOwned, ownerWrite_tb, (sameTime_timeLoaded s r i v).tb]

theorem timeOwned_tables (i v : Nat) : (s.timeOwned r i v).tables = s.tables := by
  rw [State.timeOwned, ownerWrite_tables, (sameTime_timeLoaded s r i v).tables]

theorem isF_timeOwned (i v : Nat) {f : Fld} (hf : f.key < 0x40000 * 32) (hne : f.key ≠ F.TIM_STAT_HOLDOVER.key) :
    (s.timeOwned r i v).isF f = s.isF f := by
  rw [State.timeOwned, isF_ownerWrite _ hf hne, (sameTime_timeLoaded s r i v).isF hf]

theorem refuses_timeOwned (i v : Nat) (d : Int) : (s.timeOwned r i v).refuses d = s.refuses d := by
  unfold State.timeOwned
  rw [← (sameTime_timeLoaded s r i v).refuses, State.refuses, State.refuses, isF_ownerWrite _ (by decide) (by decide),
    isF_ownerWrite _ (by decide) (by decide), getF_ownerWrite _ (by decide) (by decide)]

theorem owns_timeLoaded (h : s.CanWriteTime r) (i v : Nat) : (s.timeLoaded r i v).owns r = true :=
  ((sameTime_timeLoaded s r i v).owns r).trans h.2

/-! ### The commands -/

/-- CLOCK_SET with the jump guard off. -/
theorem doClockSet_free {sec ns frac : Nat} (h : s.CanWriteTime r) (hjump : s.isF F.TIM_CFG_JUMP_EN = false)
    (hsec : sec < 2 ^ 48) (hns : ns < 1000000000) (hfrac : frac < 2 ^ 16) :
    ∃ d, SameTime ((s.timeOwned r 0 (clockData sec ns frac)).applyStep d) (doClockSet r sec ns frac s)
      ∧ (doClockSet r sec ns frac s).getF (reqF r F.TBL_STAT_STATUS) = 0
      ∧ (s.tb.clk : Int) + d = ((sec * 1000000000 + ns) * 2 ^ 40 + frac * 2 ^ 24 : Nat) := by
  have hu := timeEffect_clock (owns_timeLoaded h 0 (clockData sec ns frac)) (clockData sec ns frac)
  rw [clockValue_clockData hsec hns hfrac, (sameTime_timeLoaded s r 0 _).tb] at hu
  have hoff : (s.timeOwned r 0 (clockData sec ns frac)).isF F.TIM_CFG_JUMP_EN = false := by
    rwa [isF_timeOwned _ _ (by decide) (by decide)]
  obtain ⟨hshows, hstatus⟩ := timeCmd_accepted h.1 rfl (clockData_lt sec ns frac) hu
  rw [← State.timeOwned, tryStep_off hoff] at hshows
  exact ⟨_, hshows, hstatus, add_sub_cancel _ _⟩

/-- CLOCK_SET by more than the limit with the jump guard on. -/
theorem doClockSet_refused {sec ns frac : Nat} (h : s.CanWriteTime r) (hsec : sec < 2 ^ 48) (hns : ns < 1000000000)
    (hfrac : frac < 2 ^ 16)
    (hrefused : s.refuses ((((sec * 1000000000 + ns) * 2 ^ 40 + frac * 2 ^ 24 : Nat) : Int) - s.tb.clk) = true) :
    SameTime ((s.timeOwned r 0 (clockData sec ns frac)).pendStep
        ⟨1, 0, (((sec * 1000000000 + ns) * 2 ^ 40 + frac * 2 ^ 24 : Nat) : Int) - s.tb.clk⟩) (doClockSet r sec ns frac s)
      ∧ (doClockSet r sec ns frac s).getF (reqF r F.TBL_STAT_STATUS) = 0 := by
  have hu := timeEffect_clock (owns_timeLoaded h 0 (clockData sec ns frac)) (clockData sec ns frac)
  rw [clockValue_clockData hsec hns hfrac, (sameTime_timeLoaded s r 0 _).tb, State.tryStep, ← State.timeOwned,
    refuses_timeOwned, if_pos hrefused] at hu
  exact timeCmd_accepted h.1 rfl (clockData_lt sec ns frac) hu

/-- STEP with the jump guard off. -/
theorem doStep_free {ns : Nat} (h : s.CanWriteTime r) (hjump : s.isF F.TIM_CFG_JUMP_EN = false) (hns : ns < 2 ^ 63) :
    SameTime ((s.timeOwned r 3 (stepData ns 0)).applyStep (ns * 2 ^ 40 : Nat)) (doStep r ns 0 s)
      ∧ (doStep r ns 0 s).getF (reqF r F.TBL_STAT_STATUS) = 0 := by
  have hu := timeEffect_step (owns_timeLoaded h 3 (stepData ns 0)) (stepData ns 0)
  have hoff : (s.timeOwned r 3 (stepData ns 0)).isF F.TIM_CFG_JUMP_EN = false := by
    rwa [isF_timeOwned _ _ (by decide) (by decide)]
  rw [stepValue_stepData hns, ← State.timeOwned, tryStep_off hoff] at hu
  exact timeCmd_accepted h.1 rfl (stepData_lt ns 0) hu

/-- SELECT of another enabled domain with the jump guard off. -/
theorem timeCmd_select {d : Nat} (h : s.CanWriteTime r) (hd : d < 4) (hen : s.isF (F.TIM_DOM_W0_EN d) = true)
    (hsel : d ≠ s.getF F.TIM_STAT_SEL) (hjump : s.isF F.TIM_CFG_JUMP_EN = false) :
    SameTime ((s.timeOwned r 4 d).applySelect d) (s.timeCmd r 4 d)
      ∧ (s.timeCmd r 4 d).getF (reqF r F.TBL_STAT_STATUS) = 0 := by
  have hloaded := sameTime_timeLoaded s r 4 d
  exact timeCmd_accepted h.1 rfl (by omega) (timeEffect_select (owns_timeLoaded h 4 d) hd
    (by rwa [hloaded.isF (by simp only [Fld.key]; omega)]) (by rwa [hloaded.low _ (by decide)])
    (by rwa [hloaded.isF (by decide)]))

/-- ACCEPT of a refused step by another requester than the control pair. -/
theorem doAccept_step {d : Int} (h : s.CanCommand r) (hr : r ≠ 0) (hpending : s.tb.pending = some ⟨1, 0, d⟩) :
    SameTime ((s.timeLoaded r 5 0).applyStep d) (doAccept r s)
      ∧ (doAccept r s).getF (reqF r F.TBL_STAT_STATUS) = 0 :=
  timeCmd_accepted h rfl (by decide) (timeEffect_accept hr (by rw [(sameTime_timeLoaded s r 5 0).tb, hpending]) 0)

end

/-- Settles O20: each entry takes effect behind the loaded registers (`timeCmd_accepted`), and nothing that follows a step
changes what it makes of the clock (`sameTime_applyStep`). -/
theorem stepsOfTheWorkingClock : Obligations.StepsOfTheWorkingClock := by
  unfold Obligations.StepsOfTheWorkingClock
  refine ⟨fun s r sec ns frac h hjump hsec hns hfrac => ?_,
    fun s r sec ns frac h hjump hsynced hsec hns hfrac hlimit => ?_,
    fun s r ns h hjump hns htop => ?_,
    fun s r d h hd hen hsel hjump hlow htop => ?_,
    fun s r d h hr hpending hlow htop => ?_⟩
  · obtain ⟨d, hshows, hstatus, htime⟩ := doClockSet_free h hjump hsec hns hfrac
    refine ⟨_, rfl, ?_, ?_, ?_, ?_, ?_, hstatus, ?_, ?_⟩
    · rw [hshows.tb, applyStep_tb, timeOwned_tb]
      exact stepped_clk htime (clockTime_lt hsec hns hfrac)
    · rw [hshows.tb, applyStep_tb]
      rfl
    · rw [hshows.isF (by decide), isF_applyStep_synced]
    · rw [hshows.isF (by decide), isF_applyStep_jumpPend]
    · rw [hshows.tb, applyStep_tb, timeOwned_tb]
      rfl
    · rw [hshows.tables, applyStep_tables, timeOwned_tables]
    · rw [hshows.tb, applyStep_tb, timeOwned_tb]
      rfl
  · obtain ⟨hshows, hstatus⟩ := doClockSet_refused h hsec hns hfrac (refuses_beyond hjump hsynced hlimit)
    refine ⟨_, rfl, ?_, ?_, ?_, hstatus⟩
    · rw [hshows.tb, pendStep_tb, timeOwned_tb]
    · rw [hshows.isF (by decide), isF_pendStep_jumpPend]
    · rw [hshows.tb, pendStep_tb]
  · obtain ⟨hshows, hstatus⟩ := doStep_free h hjump hns
    refine ⟨_, rfl, ?_, ?_, ?_, hstatus⟩
    · rw [hshows.tb, applyStep_tb, timeOwned_tb]
      exact stepped_clk (Nat.cast_add _ _).symm htop
    · rw [hshows.tb, applyStep_tb]
      rfl
    · rw [hshows.isF (by decide), isF_applyStep_synced]
  · obtain ⟨hshows, hstatus⟩ := timeCmd_select h hd hen hsel hjump
    have htb := timeOwned_tb (s := s) (r := r) 4 d
    have hview : (s.timeOwned r 4 d).view d = s.view d := by unfold State.view; rw [htb]
    have hdo : doSelect r d s = s.timeCmd r 4 d := by rw [doSelect, Nat.mod_eq_of_lt hd]
    obtain ⟨hclk, hrate⟩ := applySelect_time (s.timeOwned r 4 d) (d := d) (by rwa [hview, htb]) (by rwa [hview, htb])
    refine ⟨_, answers rfl hdo, ?_, ?_, ?_, hstatus⟩
    · rw [hshows.low _ (by decide), sel_applySelect _ hd]
    · rw [hshows.tb, hclk, hview, htb]
    · rw [hshows.tb, hrate, hview, htb]
  · obtain ⟨hshows, hstatus⟩ := doAccept_step h hr hpending
    obtain ⟨n, hn⟩ := Int.eq_ofNat_of_zero_le hlow
    refine ⟨_, rfl, ?_, ?_, ?_, hstatus⟩
    · rw [hshows.tb, applyStep_tb, (sameTime_timeLoaded s r 5 0).tb, hn]
      exact congrArg _ (stepped_clk hn (by omega))
    · rw [hshows.tb, applyStep_tb]
      rfl
    · rw [hshows.isF (by decide), isF_applyStep_jumpPend]

end Sys2Proof.Machine
end

section
/-! PROOF of TimestampQueuesAndTimeOut. Each queue is read at its head; an instant of TIME_OUT is the latest edge of the
values in force when no later set waits. -/

namespace Sys2Proof.Machine

section
variable {s : State}

/-- The tallies of the time base count always. -/
theorem tallyCounts_tim {m : Nat} (hm : m < 7) : s.tallyCounts (T.tim m) = true := by
  have hlow : 0x2D000 ≤ T.tim m := by unfold T.tim; omega
  have hhigh : T.tim m < 0x2D007 := by unfold T.tim; omega
  simp [State.tallyCounts, tallyFamilies, State.unitCounts, hlow, hhigh]

@[simp] theorem tally_tb (i : Nat) : (s.tally i).tb = s.tb := by rw [State.tally, tallyN_eq]

/-! ### The two-step queue (R218 to R220) -/

theorem doTimTs2Ack_head {e : Ts2} {rest : List Ts2} (hserving : s.serving = true)
    (hmode : s.isF F.TIM_CFG_TS2_MODE = false) (hqueue : s.tb.ts2 = e :: rest) (hlt : e.qseq < 2 ^ 16) :
    doTimTs2Ack e.qseq s = { s with tb := { s.tb with ts2 := rest } } := by
  rw [doTimTs2Ack, busGate_serving hserving, hmode, hqueue, Nat.mod_eq_of_lt hlt]
  simp [State.ts2Pop, hqueue]

theorem doTimTs2Ack_other {e : Ts2} {rest : List Ts2} {q : Nat} (hserving : s.serving = true)
    (hmode : s.isF F.TIM_CFG_TS2_MODE = false) (hqueue : s.tb.ts2 = e :: rest) (hlt : q < 2 ^ 16) (hne : e.qseq ≠ q) :
    doTimTs2Ack q s = s.tally (T.tim 5) := by
  rw [doTimTs2Ack, busGate_serving hserving, hmode, hqueue, Nat.mod_eq_of_lt hlt]
  simp [hne]

theorem Ts2.words_first (e : Ts2) : e.words.getD 0 0 = e.qseq + 2 ^ 16 + e.port % 32 * 2 ^ 24 := by
  rw [Ts2.words, List.getD_cons_zero]

theorem Ts2.words_tag (e : Ts2) : e.words.getD 1 0 = e.tag := by
  rw [Ts2.words, List.getD_cons_succ, List.getD_cons_zero]

theorem Ts2.words_ns (e : Ts2) : e.words.getD 2 0 = tNs e.t := by
  rw [Ts2.words, List.getD_cons_succ, List.getD_cons_succ, List.getD_cons_zero]

/-- The words of the head behind its first one go to TIM_TS2_POPDATA. -/
def State.popData (s : State) (e : Ts2) : State :=
  s.forN 4 (fun k s => s.setF (F.TIM_TS2_POPDATA_DATA k) (e.words.getD (k + 1) 0))

theorem popData_tb (e : Ts2) : (s.popData e).tb = s.tb :=
  forN_keeps s (fun t => t.tb = s.tb) 4 _ (fun _ _ h => h) rfl

theorem popData_tly (e : Ts2) : (s.popData e).tly = s.tly :=
  forN_keeps s (fun t => t.tly = s.tly) 4 _ (fun _ _ h => h) rfl

theorem popData_out (e : Ts2) : (s.popData e).out = s.out :=
  forN_keeps s (fun t => t.out = s.out) 4 _ (fun _ _ h => h) rfl

theorem getF_popData (e : Ts2) {k : Nat} (hk : k < 4) :
    (s.popData e).getF (F.TIM_TS2_POPDATA_DATA k) = e.words.getD (k + 1) 0 % 2 ^ 32 := by
  refine forN_reaches (Q := fun _ => True)
    (P := fun t => t.getF (F.TIM_TS2_POPDATA_DATA k) = e.words.getD (k + 1) 0 % 2 ^ 32) hk trivial
    (fun _ _ _ _ => trivial) (fun t _ => getF_setF_same _ _ _) (fun j t hj _ ht => ?_)
  exact (getF_setF_ne _ _ _ _ (by simp only [Fld.key]; omega)).trans ht

theorem hostReads_serving (hmem : s.memOn = true) (hserving : s.serving = true) (f : State → Nat × State) :
    s.hostReads f = (f s).2.emit (.completion (f s).1) := by
  simp [State.hostReads, State.onRead, hmem, hserving]

theorem ts2Read_head {e : Ts2} {rest : List Ts2} (hmode : s.isF F.TIM_CFG_TS2_MODE = true)
    (hqueue : s.tb.ts2 = e :: rest) :
    s.ts2Read = (e.words.getD 0 0, (s.popData e).ts2Pop.tally (T.tim 4)) := by
  unfold State.ts2Read
  rw [hmode, hqueue]
  rfl

/-- A read of TIM_TS2_POP answers the head, which leaves the queue. -/
theorem doTimTs2Pop_head {e : Ts2} {rest : List Ts2} (hmem : s.memOn = true) (hserving : s.serving = true)
    (hmode : s.isF F.TIM_CFG_TS2_MODE = true) (hqueue : s.tb.ts2 = e :: rest) :
    doTimTs2Pop s = ((s.popData e).ts2Pop.tally (T.tim 4)).emit (.completion (e.words.getD 0 0)) := by
  rw [doTimTs2Pop, hostReads_serving hmem hserving, ts2Read_head hmode hqueue]

@[simp] theorem ts2Pop_regs : s.ts2Pop.regs = s.regs := rfl
@[simp] theorem ts2Pop_tly : s.ts2Pop.tly = s.tly := rfl
@[simp] theorem ts2Pop_out : s.ts2Pop.out = s.out := rfl

theorem counted_ts2Pop (e : Ts2) : Counted s ((s.popData e).ts2Pop.tally (T.tim 4)) (T.tim 4) :=
  (counted_tally (s.popData e).ts2Pop (tallyCounts_tim (by decide))).of_tallyOf
    (tallyOf_of_tly (ts2Pop_tly.trans (popData_tly e)) _) rfl

/-! ### TIME_IN (R223) -/

/-- QSEQ has been taken for an edge. -/
def State.edgeTaken (s : State) : State := s.withTb { s.tb with inSeq := (s.tb.inSeq + 1) % 2 ^ 16 }

theorem doTimInCapture_room {rising : Bool} {ago : Nat}
    (hedge : bit (s.getF F.TIM_IN_CFG_EDGE) (if rising then 0 else 1) = true) (hroom : s.tb.tsIn.length < 4) :
    doTimInCapture rising ago s = (s.edgeTaken.withTb { s.edgeTaken.tb with
      tsIn := s.tb.tsIn ++ [⟨s.tb.inSeq, rising, s.clkAgo ago / 2 ^ 24 * 2 ^ 24⟩] }).postFree 0x02 6 := by
  unfold doTimInCapture
  rw [hedge]
  exact if_pos hroom

theorem doTimInCapture_full {rising : Bool} {ago : Nat}
    (hedge : bit (s.getF F.TIM_IN_CFG_EDGE) (if rising then 0 else 1) = true) (hfull : 4 ≤ s.tb.tsIn.length) :
    doTimInCapture rising ago s = (s.edgeTaken.setB F.TIM_IN_STAT_OVF true).tally (T.tim 6) := by
  unfold doTimInCapture
  rw [hedge]
  exact if_neg (Nat.not_lt.2 hfull)

theorem doTimInAck_head {e : TimeIn} {rest : List TimeIn} (hserving : s.serving = true) (hqueue : s.tb.tsIn = e :: rest)
    (hlt : e.qseq < 2 ^ 16) : doTimInAck e.qseq s = { s with tb := { s.tb with tsIn := rest } } := by
  rw [doTimInAck, busGate_serving hserving, hqueue, Nat.mod_eq_of_lt hlt]
  exact if_pos rfl

theorem doTimInAck_other {e : TimeIn} {rest : List TimeIn} {q : Nat} (hserving : s.serving = true)
    (hqueue : s.tb.tsIn = e :: rest) (hlt : q < 2 ^ 16) (hne : e.qseq ≠ q) : doTimInAck q s = s.tally (T.tim 5) := by
  rw [doTimInAck, busGate_serving hserving, hqueue, Nat.mod_eq_of_lt hlt]
  exact if_neg hne

/-! ### TIME_OUT (R224) -/

/-- With no later values the edge is the latest one of the values in force. -/
theorem outEdge_inForce {lo at_ now : Nat} {u : Nat × Nat × Nat} (h : lastEdge u now = some at_) (hlo : lo ≤ at_) :
    outEdge lo [(0, u)] now = some (at_, 0, u) := by
  simp [outEdge, h, hlo, Option.filter]

theorem doTimeOutAssert_edge {at_ : Nat} (hmode : s.isF F.TIM_OUT_CFG_MODE = true) (hlow : s.tb.outHigh = false)
    (hnew : s.tb.outNew = []) (hedge : lastEdge s.tb.outUse s.tb.clk = some at_) (hfrom : s.tb.outFrom ≤ at_)
    (hguard : s.tb.outGuard ≤ at_) : doTimeOutAssert s = s.outAssert at_ 0 s.tb.outUse := by
  unfold doTimeOutAssert
  rw [hmode, hlow, hnew]
  simp [outEdge_inForce hedge (max_le hfrom hguard)]

theorem outAssert_inForce (hnew : s.tb.outNew = []) (at_ : Nat) : s.outAssert at_ 0 s.tb.outUse =
    { s with tb := { s.tb with
      outHigh := true, outFrom := at_ + 1
      outEnd := s.tb.fab + (min s.tb.outUse.2.2 (s.tb.outUse.2.1 - 5) * 4 + 4) / 5 } } := by
  simp [State.outAssert, hnew, ceilDiv]

end

/-- Settles O22: the heads of the queues are taken by their own QSEQ alone (`doTimTs2Ack_head`, `doTimInAck_head`), and the
pin rises for the latest edge of the values in force (`doTimeOutAssert_edge`). -/
theorem timestampQueuesAndTimeOut : Obligations.TimestampQueuesAndTimeOut := by
  unfold Obligations.TimestampQueuesAndTimeOut
  refine ⟨fun s e rest hserving hmode hqueue hlt => answers rfl (doTimTs2Ack_head hserving hmode hqueue hlt),
    fun s e rest q hserving hmode hqueue hlt hne => answers rfl (doTimTs2Ack_other hserving hmode hqueue hlt hne),
    fun s e rest hmem hserving hmode hqueue => ?_, fun s rising ago hedge hroom => ?_, fun s rising ago hedge hfull => ?_,
    fun s e rest hserving hqueue hlt => answers rfl (doTimInAck_head hserving hqueue hlt),
    fun s e rest q hserving hqueue hlt hne => answers rfl (doTimInAck_other hserving hqueue hlt hne),
    fun s at_ hmode hlow hnew hedge hfrom hguard => ?_, fun s hhigh hend => answers rfl (if_pos ⟨hhigh, hend⟩)⟩
  · have hregs : ((s.popData e).ts2Pop.tally (T.tim 4)).regs = (s.popData e).regs :=
      (tally_regs _ _).trans ts2Pop_regs
    refine ⟨_, answers rfl (doTimTs2Pop_head hmem hserving hmode hqueue), ?_,
      (counted_ts2Pop e).of_tallyOf rfl (tallyOf_of_tly (emit_tly _ _) _), ?_, ?_, ?_⟩
    · rw [emit_tb, tally_tb, State.ts2Pop, popData_tb, hqueue, List.tail_cons]
    · rw [State.emit, tally_out, ts2Pop_out, popData_out, Ts2.words_first]
    · rw [getF_emit, getF_of_regs hregs, getF_popData e (by decide), Ts2.words_tag]
    · rw [getF_emit, getF_of_regs hregs, getF_popData e (by decide), Ts2.words_ns]
  · refine ⟨_, answers rfl (doTimInCapture_room hedge hroom), ?_⟩
    rw [((SameTime.refl _).postFree _ _).tb]
    exact ⟨rfl, rfl, rfl⟩
  · refine ⟨_, answers rfl (doTimInCapture_full hedge hfull), ?_, ?_, ?_, ?_⟩
    · rw [tally_tb]; rfl
    · rw [tally_tb]; rfl
    · rw [State.isF, getF_of_regs (tally_regs _ _)]
      exact isF_setB_same _ _ _ rfl
    · exact (counted_tally (s.edgeTaken.setB F.TIM_IN_STAT_OVF true) (tallyCounts_tim (by decide))).of_tallyOf
        (tallyOf_of_tly rfl _) rfl
  · exact answers rfl ((doTimeOutAssert_edge hmode hlow hnew hedge hfrom hguard).trans (outAssert_inForce hnew at_))

end Sys2Proof.Machine
end

section
/-! PROOF of TimeBaseCommandsAndService. The entries of the time base, each as its command leaves it, and the service of the
control pair around them, which issues the same commands. -/

namespace Sys2Proof.Machine

section
variable {s : State} {r : Nat}

/-! ### TIME_BASE_READ (R207) -/

/-- The entries are read from the time base and the selection alone. -/
theorem SameTime.timeEntry {t : State} (h : SameTime s t) (i : Nat) : t.timeEntry i = s.timeEntry i := by
  unfold State.timeEntry State.now32 State.nowNs
  simp only [h.tb, h.low F.TIM_STAT_SEL (by decide), h.view]

theorem timeRead_there {i : Nat} (hindex : (s.tblAddr r).2.1 = i) (hthere : timeThere i = true) : s.timeRead r =
    (some stOk, (s.setStage r ⟨some (tTime, i), s.timeEntry i⟩).setTblData r (s.timeEntry i)) := by
  unfold State.timeRead
  simp [hindex, hthere]

/-- The state on which a READ of entry `i` of the time base acts. -/
def State.timeReadOf (s : State) (r i : Nat) : State := (s.setF (reqF r F.TBL_STAT_LAST_OP) 1).timeAddressed r i

theorem sameTime_timeReadOf (i : Nat) : SameTime s (s.timeReadOf r i) :=
  ((SameTime.refl s).setF _ (reqF_key_high r (by decide))).trans (sameTime_timeAddressed _ r i)

theorem doTimeBaseRead_there {i : Nat} (h : s.CanCommand r) (hthere : timeThere i = true) (hi : i < 12) :
    SameTime s (doTimeBaseRead r i s) ∧ (doTimeBaseRead r i s).tblData r = s.timeEntry i % 2 ^ 256
      ∧ (doTimeBaseRead r i s).getF (reqF r F.TBL_STAT_STATUS) = 0 := by
  have hread := sameTime_timeReadOf (s := s) (r := r) i
  have hindex : ((s.timeReadOf r i).tblAddr r).2.1 = i := index_timeAddressed _ r (by omega)
  have hrun : (s.timeReadOf r i).timeRead r = (some stOk,
      ((s.timeReadOf r i).setStage r ⟨some (tTime, i), s.timeEntry i⟩).setTblData r (s.timeEntry i)) := by
    rw [timeRead_there hindex hthere, hread.timeEntry]
  have hdo : doTimeBaseRead r i s = (((s.timeReadOf r i).setStage r ⟨some (tTime, i), s.timeEntry i⟩).setTblData r
      (s.timeEntry i)).tblEnd r stOk := by
    unfold doTimeBaseRead
    rw [Nat.mod_eq_of_lt (show i < 16 by omega), min_requester h]
    exact tblCmd_ends (run := fun s => (s.timeAddressed r i).timeRead r) h hrun
  rw [hdo]
  refine ⟨?_, ?_, status_tblEnd _ r (by decide)⟩
  · exact ((hread.trans (sameTime_setStage _ r _)).trans (sameTime_setTblData _ r _)).trans (sameTime_tblEnd _ r _)
  · rw [tblData_tblEnd, tblData_setTblData]

/-! ### RATE, SLEW and VIEW (R207, R208, R212) -/

theorem timeCmd_rate {v : Nat} (h : s.CanWriteTime r) (hv : v < 2 ^ 32) :
    SameTime ((s.timeOwned r 1 v).withTb { (s.timeOwned r 1 v).tb with rate := clampRate (signed 32 v) }) (s.timeCmd r 1 v)
      ∧ (s.timeCmd r 1 v).getF (reqF r F.TBL_STAT_STATUS) = 0 :=
  timeCmd_accepted h.1 rfl (hv.trans (by decide)) (timeEffect_rate (owns_timeLoaded h 1 v) v)

/-- What a WRITE of SLEW loads. -/
def slewData (adj dur : Nat) : Nat := adj % 2 ^ 32 + dur % 2 ^ 32 * 2 ^ 64

theorem slewTo_within {adj dur : Nat} (hpos : 0 < adj) (hlong : 2 * adj ≤ dur) (hdur : dur < 2 ^ 32) : s.slewTo adj dur =
    (s.withTb { s.tb with slew := some ⟨adj, roundAway (adj * 2 ^ 40) (dur * 1000), dur, 0, 0⟩ }).setB
      F.TIM_STAT_SLEWING true := by
  have hclamped : min (2 ^ 32 - 1) (max dur (2 * (adj : Int).natAbs)) = dur := by
    rw [Int.natAbs_natCast, max_eq_left hlong]
    exact min_eq_right (by omega)
  unfold State.slewTo
  rw [if_neg (by omega), hclamped]
  rfl

theorem slewData_lt (adj dur : Nat) : slewData adj dur < 2 ^ 256 := by unfold slewData; omega

theorem doSlew_within {adj dur : Nat} (h : s.CanWriteTime r) (hpos : 0 < adj) (hadj : adj < 2 ^ 31) (hdur : dur < 2 ^ 32)
    (hlong : 2 * adj ≤ dur) :
    SameTime (((s.timeOwned r 2 (slewData adj dur)).withTb { (s.timeOwned r 2 (slewData adj dur)).tb with
        slew := some ⟨adj, roundAway (adj * 2 ^ 40) (dur * 1000), dur, 0, 0⟩ }).setB F.TIM_STAT_SLEWING true)
        (doSlew r adj dur s)
      ∧ (doSlew r adj dur s).getF (reqF r F.TBL_STAT_STATUS) = 0 := by
  have hd : ew (slewData adj dur) 1 0 32 = dur := by unfold ew bits slewData; omega
  have ha : signed 32 (slewData adj dur) = adj := by
    unfold signed
    rw [show slewData adj dur % 2 ^ 32 = adj by unfold slewData; omega]
    exact if_pos hadj
  have hu := timeEffect_slew (owns_timeLoaded h 2 (slewData adj dur)) (slewData adj dur)
  rw [hd, ha, ← State.timeOwned, slewTo_within hpos hlong hdur] at hu
  exact timeCmd_accepted h.1 rfl (slewData_lt adj dur) hu

/-- What a WRITE of VIEW loads. -/
def viewData (ofs frac vrate ref : Nat) : Nat :=
  ofs % 2 ^ 64 + frac % 2 ^ 16 * 2 ^ 64 + vrate % 2 ^ 32 * 2 ^ 96 + ref % 2 ^ 64 * 2 ^ 128

theorem viewValue_viewData {ofs frac vrate ref : Nat} (hofs : ofs < 2 ^ 63) (hfrac : frac < 2 ^ 16)
    (hvrate : vrate < 0x20000000) (href : ref < 2 ^ 64) : viewValue (viewData ofs frac vrate ref) =
      ⟨(ofs * 2 ^ 40 + frac * 2 ^ 24 : Nat), vrate, (ref * 2 ^ 40 : Nat)⟩ := by
  have hf : ew (viewData ofs frac vrate ref) 1 0 16 = frac := by unfold ew bits viewData; omega
  have hv : ew (viewData ofs frac vrate ref) 1 32 32 = vrate := by unfold ew bits viewData; omega
  have hr : ew (viewData ofs frac vrate ref) 2 0 64 = ref := by unfold ew bits viewData; omega
  have ho : signed 64 (viewData ofs frac vrate ref) = ofs := by
    unfold signed
    rw [show viewData ofs frac vrate ref % 2 ^ 64 = ofs by unfold viewData; omega]
    exact if_pos hofs
  have hrate : clampRate (signed 32 vrate) = vrate := by
    unfold clampRate signed
    rw [Nat.mod_eq_of_lt (show vrate < 2 ^ 32 by omega), if_pos (by omega)]
    omega
  rw [viewValue, stepValue, hf, hv, hr, ho, hrate, Nat.cast_add, Nat.cast_mul ofs]
  rfl

theorem viewData_lt (ofs frac vrate ref : Nat) : viewData ofs frac vrate ref < 2 ^ 256 := by unfold viewData; omega

theorem SameTime.setView {t : State} (h : SameTime s t) (d : Nat) (v : View) :
    SameTime (s.setView d v) (t.setView d v) := by
  refine ⟨?_, h.tables, h.low⟩
  unfold State.setView
  rw [h.tb]

theorem doViewWrite_other {d ofs frac vrate ref : Nat} (h : s.CanWriteTime r) (hd : d < 4)
    (hsel : d ≠ s.getF F.TIM_STAT_SEL) (hofs : ofs < 2 ^ 63) (hfrac : frac < 2 ^ 16) (hvrate : vrate < 0x20000000)
    (href : ref < 2 ^ 64) :
    SameTime (s.setView d ⟨(ofs * 2 ^ 40 + frac * 2 ^ 24 : Nat), vrate, (ref * 2 ^ 40 : Nat)⟩)
        (doViewWrite r d ofs frac vrate ref s)
      ∧ (doViewWrite r d ofs frac vrate ref s).getF (reqF r F.TBL_STAT_STATUS) = 0 := by
  have hloaded := sameTime_timeLoaded s r (8 + d) (viewData ofs frac vrate ref)
  have hu := timeEffect_view (owns_timeLoaded h (8 + d) (viewData ofs frac vrate ref)) (d := d)
    (by rwa [hloaded.low _ (by decide)]) (viewData ofs frac vrate ref)
  rw [viewValue_viewData hofs hfrac hvrate href] at hu
  have hthere : timeThere (8 + d) = true := by simp [timeThere]; omega
  obtain ⟨hshows, hstatus⟩ := timeCmd_accepted h.1 hthere (viewData_lt ofs frac vrate ref) hu
  have hdo : doViewWrite r d ofs frac vrate ref s = s.timeCmd r (8 + d) (viewData ofs frac vrate ref) := by
    rw [doViewWrite, Nat.mod_eq_of_lt hd, viewData]
  rw [hdo]
  exact ⟨(hloaded.setView d _).trans hshows, hstatus⟩

/-- A write of one view leaves the others. -/
theorem view_setView_ne {d e : Nat} (v : View) (hne : e ≠ d) : (s.setView d v).view e = s.view e := sget_sput_ne _ _ hne

theorem view_setView_same (d : Nat) (v : View) : (s.setView d v).view d = v := sget_sput_same _ _ _

theorem setView_clk (d : Nat) (v : View) : (s.setView d v).tb.clk = s.tb.clk := rfl

/-! ### Holdover and failover (R213, R214) -/

theorem doTimHoldoverOn_due (hsynced : s.isF F.TIM_STAT_SYNCED = true) (hoff : s.isF F.TIM_STAT_HOLDOVER = false)
    (hdue : s.tb.ownerAt + s.getF F.TIM_HOLD_TMO_TMO * cycMs ≤ s.tb.fab) :
    SameTime ((s.setB F.TIM_STAT_HOLDOVER true).withTb { s.tb with holdAt := s.tb.fab }) (doTimHoldoverOn s) := by
  unfold doTimHoldoverOn
  rw [if_pos (by simp [hsynced, hoff, hdue])]
  exact (SameTime.refl ((s.setB F.TIM_STAT_HOLDOVER true).withTb { s.tb with holdAt := s.tb.fab })).postFree 0x02 3

/-- The servos of the domains in the bitmap `lost` have lost their time source. -/
def State.withoutSource (s : State) (lost : Nat) : State :=
  s.withTb { s.tb with locked := s.tb.locked.filter (fun d => !bit lost d) }

theorem servoOwner_of_owns (h : s.owns 0 = true) : s.isF F.TIM_CFG_SERVO_OWNER = false := by
  unfold State.owns at h
  split at h
  · simp at h
  · next hoff => exact eq_false_of_ne_true hoff

theorem pairUp_of_canWriteTime (h : s.CanWriteTime 0) : s.pairUp 0 = true := by
  obtain ⟨⟨-, -, hup, -⟩, -⟩ := h
  simpa [State.requesterUp] using hup

theorem doDomainFailover_due {lost d : Nat} (h : s.CanWriteTime 0) (hdue : s.failoverDue = true)
    (hto : (s.withoutSource lost).failoverTo = some d) (hpend : s.isF F.TIM_STAT_JUMP_PEND = false) :
    doDomainFailover lost s = (s.withoutSource lost).timeCmd 0 4 d := by
  have hpair : (s.withoutSource lost).pairUp 0 = true := pairUp_of_canWriteTime h
  have howner : (s.withoutSource lost).isF F.TIM_CFG_SERVO_OWNER = false := servoOwner_of_owns h.2
  have hdue' : (s.withoutSource lost).failoverDue = true := hdue
  have hpend' : (s.withoutSource lost).isF F.TIM_STAT_JUMP_PEND = false := hpend
  unfold doDomainFailover
  extract_lets _ u
  have hu : u = s.withoutSource lost := rfl
  simp [hu, hpair, hdue', howner, hpend', hto]

/-- What the failover selects is another enabled domain. -/
theorem failoverTo_some {d : Nat} (h : s.failoverTo = some d) : d < 4 ∧ d ≠ s.getF F.TIM_STAT_SEL
    ∧ s.isF (F.TIM_DOM_W0_EN d) = true := by
  have hd := List.find?_some h
  simp only [Bool.and_eq_true, decide_eq_true_eq, bne_iff_ne] at hd
  obtain ⟨⟨⟨hlt, hsel⟩, hen⟩, -⟩ := hd
  exact ⟨hlt, hsel, hen⟩

/-! ### PTP frames and Sync (R213) -/

theorem doPtpFrameTrapped_rate {p dn d v : Nat} (h : s.CanWriteTime 0) (hp : p < 16) (hdomain : s.ptpDomain p dn = some d)
    (hsel : d = s.getF F.TIM_STAT_SEL) (hpend : s.isF F.TIM_STAT_JUMP_PEND = false) (hv : v < 2 ^ 32) :
    doPtpFrameTrapped p dn 1 v true s = (s.setLocked d true).timeCmd 0 1 v := by
  have hv' : v % 2 ^ 256 = v := Nat.mod_eq_of_lt (hv.trans (by decide))
  have hsteers : (s.setLocked d true).steers d = true := by
    have howner : (s.setLocked d true).isF F.TIM_CFG_SERVO_OWNER = false := servoOwner_of_owns h.2
    have hpend' : (s.setLocked d true).isF F.TIM_STAT_JUMP_PEND = false := hpend
    have hlocked : (s.setLocked d true).tb.locked.contains d = true := by simp [State.setLocked]
    rw [State.steers, howner, hpend', hlocked]
    rfl
  have hsel' : d = (s.setLocked d true).getF F.TIM_STAT_SEL := hsel
  unfold doPtpFrameTrapped
  rw [hdomain]
  dsimp only
  rw [if_pos ⟨pairUp_of_canWriteTime h, hp⟩, hv', State.servo, if_neg (by decide), if_pos hsel', if_pos hsteers]
  rfl

theorem foldl_emit {α : Type} (f : α → Out) (l : List α) (s : State) :
    l.foldl (fun s a => s.emit (f a)) s = { s with out := s.out ++ l.map f } := by
  induction l generalizing s with
  | nil => simp
  | cons a l ih => rw [List.foldl_cons, ih]; simp [State.emit]

/-- What Sync of domain `d` on port `p` is (R213). -/
def State.syncOut (s : State) (d p : Nat) : Out :=
  .ptp d (s.getF (F.TIM_DOM_W0_DOMAIN_NUMBER d)) p (bit (s.param 0x05 0) p)
    (if 16 ≤ p then some (leAt ((s.paramBytes 0x06).getD []) (2 * (p - 16)) 2) else none)

theorem sendSync_eq (d : Nat) : s.sendSync d = { s with out := s.out ++ ((List.range 32).filter (fun p =>
    bit (s.getF (F.TIM_DOM_W1_PORTS d)) p && s.ethPresent p)).map (s.syncOut d) } := foldl_emit (s.syncOut d) _ s

theorem doSyncInterval_noServo {d : Nat} (v : Nat) (locked : Bool) (hd : d < 4) (hpair : s.pairUp 0 = true)
    (hen : s.isF (F.TIM_DOM_W0_EN d) = true) :
    doSyncInterval d 0 v locked s = (s.setLocked d (locked && s.tb.locked.contains d)).sendSync d := by
  unfold doSyncInterval
  rw [Nat.mod_eq_of_lt hd]
  dsimp only
  rw [hpair, hen]
  exact if_pos rfl

/-! ### Reading the clock (R222) -/

/-- Requester `r` has latched the time `t` at its read of TIM_NOW_NS. -/
def State.nowLatched (s : State) (r t : Nat) : State :=
  s.withTb { s.tb with nowLatch := sput (fun _ => 0) s.tb.nowLatch r t }

theorem nowLatched_regs (r t : Nat) : (s.nowLatched r t).regs = s.regs := rfl
theorem nowLatched_out (r t : Nat) : (s.nowLatched r t).out = s.out := rfl
theorem nowLatched_clk (r t : Nat) : (s.nowLatched r t).tb.clk = s.tb.clk := rfl
theorem latch_nowLatched (r t : Nat) : sget (fun _ => 0) (s.nowLatched r t).tb.nowLatch r = t := sget_sput_same _ _ _

theorem nowRead_within {age : Nat} (hage : age ≤ 160) (r : Nat) :
    s.nowRead r age = (tNs (s.clkAgo (age * 2 ^ 16)), s.nowLatched r (s.clkAgo (age * 2 ^ 16))) := by
  rw [State.nowRead, min_eq_left hage]
  rfl

theorem busRead_timNow (hserving : s.serving = true) (env : BusEnv) : s.busRead 2 0x20010 env = s.nowRead 2 env.age := by
  simp [State.busRead, hserving]

/-- A read of TIM_NOW_NS alone is a read of the mirror. -/
theorem busReads_timNow (hserving : s.serving = true) (env : BusEnv) :
    s.busReads 2 env 0x20010 1 = ([(s.nowRead 2 env.age).1], (s.nowRead 2 env.age).2) := by
  simp only [State.busReads, busRead_timNow hserving]

/-- No window's fence is read at TIM_NOW_NS. -/
theorem fenceAt_timNow : s.fenceAt 0x20010 = none := by
  unfold State.fenceAt
  exact if_neg fun ⟨_, hlow, _⟩ => absurd hlow (by decide)

theorem getD_single (v : Nat) : [v].getD 0 0 + [v].getD 1 0 * 2 ^ 32 = v := by simp

theorem hostRead_timNow (hserving : s.serving = true) (env : BusEnv) :
    s.hostRead 0x20010 1 env = (s.nowRead 2 env.age).2.emit (.completion (s.nowRead 2 env.age).1) := by
  have hsize : readSizeOk 0x20010 1 = true := by decide
  unfold State.hostRead
  dsimp -zeta only
  extract_lets off
  have hoff : off = 0x20010 := by decide
  rw [hoff, hsize, fenceAt_timNow, busReads_timNow hserving]
  dsimp only
  rw [getD_single]
  exact if_neg (by decide)

theorem doTimNowRead_host {age : Nat} (hmem : s.memOn = true) (hserving : s.serving = true) :
    doTimNowRead 2 0x20010 1 age s = (s.nowRead 2 age).2.emit (.completion (s.nowRead 2 age).1) := by
  have hdo : doTimNowRead 2 0x20010 1 age s = s.onRead (fun s => s.hostRead 0x20010 1 { age := age }) := by
    rw [doTimNowRead, if_pos rfl]
  rw [hdo, State.onRead, if_pos hmem, hostRead_timNow hserving]

end

/-- Settles O21: an accepted write leaves the entry's effect and nothing else of the time base (`timeCmd_accepted`), and the
control pair's failover and servo are such writes (`doDomainFailover_due`, `doPtpFrameTrapped_rate`). -/
theorem timeBaseCommandsAndService : Obligations.TimeBaseCommandsAndService := by
  unfold Obligations.TimeBaseCommandsAndService
  refine ⟨fun s r i h hthere hi => ?_, fun s r rate h hrate => ?_, fun s r adj dur h hpos hadj hdur hlong => ?_,
    fun s w hslew hend => ?_, fun s r d ofs frac vrate ref h hd hsel hofs hfrac hvrate href => ?_,
    fun s hsynced hoff hdue => ?_, fun s lost d h hdue hto hpend hjump => ?_,
    fun s p dn d v h hp hdomain hsel hpend hv => ?_, fun s d v locked hd hpair hen => ?_,
    fun s age hage hmem hserving => ?_⟩
  · obtain ⟨hkept, hdata, hstatus⟩ := doTimeBaseRead_there h hthere hi
    exact ⟨_, rfl, hdata, hstatus, hkept.tb, hkept.tables⟩
  · obtain ⟨hshows, hstatus⟩ := timeCmd_rate h hrate
    have hdo : doRateWrite r rate s = s.timeCmd r 1 rate := by rw [doRateWrite, Nat.mod_eq_of_lt hrate]
    refine ⟨_, answers rfl hdo, ?_, ?_, ?_, hstatus⟩
    · rw [hshows.tb, withTb_tb]
    · rw [hshows.tb, withTb_tb, timeOwned_tb]
    · rw [hshows.tb, withTb_tb, timeOwned_tb]
  · obtain ⟨hshows, hstatus⟩ := doSlew_within h hpos hadj hdur hlong
    refine ⟨_, rfl, ?_, ?_, ?_, hstatus⟩
    · rw [hshows.tb, setB_tb, withTb_tb]
    · rw [hshows.isF (by decide)]
      exact isF_setB_same _ _ _ rfl
    · rw [hshows.tb, setB_tb, withTb_tb, timeOwned_tb]
  · exact answers rfl (by rw [doSlewEnd, hslew]; exact if_pos hend)
  · obtain ⟨hshows, hstatus⟩ := doViewWrite_other h hd hsel hofs hfrac hvrate href
    refine ⟨_, rfl, ?_, fun e _ hne => ?_, ?_, hstatus⟩
    · rw [hshows.view, view_setView_same]
    · rw [hshows.view, view_setView_ne _ hne]
    · rw [hshows.tb, setView_clk]
  · have hshows := doTimHoldoverOn_due hsynced hoff hdue
    refine ⟨_, rfl, ?_, hshows.tb⟩
    rw [hshows.isF (by decide), isF_withTb]
    exact isF_setB_same _ _ _ rfl
  · obtain ⟨hd, hsel, hen⟩ := failoverTo_some hto
    obtain ⟨hshows, -⟩ := timeCmd_select (s := s.withoutSource lost) h hd hen hsel hjump
    refine ⟨_, answers rfl (doDomainFailover_due h hdue hto hpend), ?_, ?_⟩
    · rw [hshows.low _ (by decide), sel_applySelect _ hd]
    · rw [hshows.isF (by decide), isF_applySelect_holdover, State.timeOwned, isF_ownerWrite_holdover]
  · obtain ⟨hshows, -⟩ := timeCmd_rate (s := s.setLocked d true) h hv
    refine ⟨_, answers rfl (doPtpFrameTrapped_rate h hp hdomain hsel hpend hv), ?_, ?_, ?_⟩
    · rw [hshows.tb, withTb_tb]
    · rw [hshows.tb, withTb_tb, timeOwned_tb]
      rfl
    · rw [hshows.tb, withTb_tb, timeOwned_tb]
      exact List.mem_cons_self
  · refine ⟨_, answers rfl ((doSyncInterval_noServo v locked hd hpair hen).trans (sendSync_eq d)), rfl, rfl, rfl⟩
  · have hdo := doTimNowRead_host (age := age) hmem hserving
    rw [nowRead_within hage] at hdo
    refine ⟨_, answers rfl hdo, ?_, ?_, ?_, ?_⟩
    · rw [emit_regs, nowLatched_regs]
    · rw [State.emit, nowLatched_out]
    · rw [emit_tb, latch_nowLatched]
    · rw [emit_tb, nowLatched_clk]

end Sys2Proof.Machine
end

section
/-! SUPPORT. Planes (R233 to R240): which fields each operation on a plane may change, and what it stores there. -/

namespace Sys2Proof.Machine

section
variable (s : State)

/-! ### DEGRADED and the bypass (R240, R364) -/

theorem onlyFields_bypass (cause : Nat) : OnlyFields s (s.bypass cause) [F.RNG_BYP_LEVEL, F.RNG_BYP_CAUSE] := by
  have hlevel : OnlyFields s (s.setF F.RNG_BYP_LEVEL s.bypLevel) [F.RNG_BYP_LEVEL, F.RNG_BYP_CAUSE] :=
    (OnlyFields.refl s _).setF _ (by simp)
  unfold State.bypass
  dsimp only
  split
  · exact hlevel.setF _ (by simp)
  · exact hlevel

theorem onlyFields_degrade : OnlyFields s s.degrade [F.SAF_STAT_DEGRADED] := (OnlyFields.refl s _).setB _ (by simp)

theorem planeServes_eq (b : Bool) : s.planeServes b =
    (s.planeSt b == 1 || (s.planeSt b == 2 && !(if b then s.saf.rejB else s.saf.rejA))) := rfl

theorem anyPlane_of_inService {b : Bool} (h : s.planeSt b = 1) : s.anyPlane = true := by
  have hserves : s.planeServes b = true := by rw [planeServes_eq, h]; rfl
  unfold State.anyPlane
  cases b <;> simp [hserves]

/-- A plane out of service degrades the device. -/
theorem degraded_of_plane {b : Bool} (h : s.planeServes b = false) : s.degrade.isF F.SAF_STAT_DEGRADED = true := by
  unfold State.degrade
  rw [isF_setB_same _ _ _ rfl]
  cases b <;> simp [h]

/-- A pair that runs neither in lockstep nor in debug split degrades the device. -/
theorem degraded_of_pair {i : Nat} (hi : i < 2) (h₁ : s.getF (F.SAF_PAIR_STAT_STATE i) ≠ 1)
    (h₄ : s.getF (F.SAF_PAIR_STAT_STATE i) ≠ 4) : s.degrade.isF F.SAF_STAT_DEGRADED = true := by
  unfold State.degrade
  rw [isF_setB_same _ _ _ rfl]
  interval_cases i <;> simp_all

/-! ### Claims and the driver (R233, R234) -/

theorem driverNow_le : s.driverNow ≤ 2 := by
  unfold State.driverNow
  split
  · omega
  · omega
  · omega
  · split <;> omega

theorem driver_setDriverNow (t : State) : (t.setF F.SAF_STAT_DRIVER s.driverNow).getF F.SAF_STAT_DRIVER = s.driverNow := by
  rw [getF_setF_same]
  exact Nat.mod_eq_of_lt (show s.driverNow < 4 from Nat.lt_succ_of_le ((driverNow_le s).trans (by decide)))

theorem driverNow_setDriver (v : Nat) : (s.setF F.SAF_STAT_DRIVER v).driverNow = s.driverNow := by
  have hkept := (FieldsKept.refl s [F.SAF_STAT_DRIVER]).setF v (List.mem_singleton_self _)
  unfold State.driverNow
  rw [hkept.isF (by decide), hkept.isF (by decide), hkept (safClaim false) (by decide), hkept (safClaim true) (by decide)]

/-- The fields of the planes' claims. -/
def claimsFields : List Fld := [F.SAF_PLANE_STAT_CLAIM_A, F.SAF_PLANE_STAT_CLAIM_B, F.SAF_STAT_DRIVER]

theorem onlyFields_claims : OnlyFields s s.claims claimsFields :=
  (((OnlyFields.refl s _).setF _ (by decide)).setF _ (by decide)).setF _ (by decide)

/-- The claims as the priorities give them, and the driver as the claims do. -/
theorem claims_shows : s.claims.getF F.SAF_PLANE_STAT_CLAIM_A = (2 * s.getF F.SAF_CFG_PRIO_A + 1) % 2 ^ 4
    ∧ s.claims.getF F.SAF_PLANE_STAT_CLAIM_B = 2 * s.getF F.SAF_CFG_PRIO_B % 2 ^ 4
    ∧ s.claims.getF F.SAF_STAT_DRIVER = s.claims.driverNow := by
  unfold State.claims
  extract_lets sA sB
  have hA : sA.getF F.SAF_CFG_PRIO_B = s.getF F.SAF_CFG_PRIO_B := getF_setF_ne _ _ _ _ (by decide)
  refine ⟨?_, ?_, ?_⟩
  · rw [getF_setF_ne _ _ _ _ (by decide), getF_setF_ne _ _ _ _ (by decide), getF_setF_same]
  · rw [getF_setF_ne _ _ _ _ (by decide), getF_setF_same, hA]
  · rw [driver_setDriverNow, driverNow_setDriver]

/-! ### A plane's state (Table 9.5) -/

theorem onlyFields_setPlane (b : Bool) (st : Nat) : OnlyFields s (s.setPlane b st) [safState b, safClaiming b] :=
  ((OnlyFields.refl s _).setF _ (by simp)).setB _ (by simp)

theorem claiming_setPlane (b : Bool) (st : Nat) : (s.setPlane b st).isF (safClaiming b) = (st == 1) :=
  isF_setB_same _ _ _ (by cases b <;> rfl)

/-- The fields that a plane which leaves or regains service changes: its own, DEGRADED and those of the bypass. -/
def planeFields (b : Bool) : List Fld :=
  [safState b, safClaiming b, safCause b, F.SAF_STAT_DEGRADED, F.RNG_BYP_LEVEL, F.RNG_BYP_CAUSE]

/-- Between `s` and `t` plane `b` goes to state `st`, with its claim, and nothing but `planeFields` changes. -/
structure PlaneGoes (s t : State) (b : Bool) (st : Nat) : Prop where
  state : t.planeSt b = st
  claiming : t.isF (safClaiming b) = (st == 1)
  only : OnlyFields s t (planeFields b)

theorem PlaneGoes.other {s t : State} {b : Bool} {st : Nat} (h : PlaneGoes s t b st) : t.planeSt (!b) = s.planeSt (!b) :=
  h.only.2 _ (by cases b <;> decide)

theorem PlaneGoes.saf {s t : State} {b : Bool} {st : Nat} (h : PlaneGoes s t b st) : t.saf = s.saf := by rw [h.only.1]

theorem PlaneGoes.tly {s t : State} {b : Bool} {st : Nat} (h : PlaneGoes s t b st) : t.tly = s.tly := by rw [h.only.1]

theorem planeGoes_setPlane (b : Bool) {st : Nat} (h : st < 16) : PlaneGoes s (s.setPlane b st) b st where
  state := (planeSt_setPlane_same s b st).trans (Nat.mod_eq_of_lt (by cases b <;> exact h))
  claiming := claiming_setPlane s b st
  only := (onlyFields_setPlane s b st).mono (by simp [planeFields])

/-! ### Withdrawal (R237, R239, R240) -/

variable {s} in
/-- A plane that has raised no claim is withdrawn, not retired; without AUTO_RESTART it stays so. -/
theorem withdraw_eq {b : Bool} (hraised : (if b then s.saf.raisedB else s.saf.raisedA) = none)
    (hauto : s.isF F.SAF_CFG_AUTO_RESTART = false) (cause : Nat) (restart : Bool) :
    s.withdraw b cause restart = (((s.setPlane b 3).setF (safCause b) cause).degrade).bypass 2 := by
  have hkept : FieldsKept s ((s.setPlane b 3).setF (safCause b) cause) (planeFields b) :=
    ((onlyFields_setPlane s b 3).2.mono (by simp [planeFields])).setF _ (by simp [planeFields])
  have hauto' := (hkept.isF (f := F.SAF_CFG_AUTO_RESTART) (by cases b <;> decide)).trans hauto
  unfold State.withdraw
  simp [hraised, hauto']

variable {s} in
/-- A withdrawal shows its cause and degrades the device. -/
theorem withdraw_shows {b : Bool} (hraised : (if b then s.saf.raisedB else s.saf.raisedA) = none)
    (hauto : s.isF F.SAF_CFG_AUTO_RESTART = false) {cause : Nat} (hcause : cause < 16) (restart : Bool) :
    PlaneGoes s (s.withdraw b cause restart) b 3 ∧ (s.withdraw b cause restart).getF (safCause b) = cause
      ∧ (s.withdraw b cause restart).isF F.SAF_STAT_DEGRADED = true := by
  rw [withdraw_eq hraised hauto]
  have hplane := planeGoes_setPlane s b (st := 3) (by decide)
  generalize s.setPlane b 3 = u at hplane
  have hset : OnlyFields u (u.setF (safCause b) cause) [safCause b] := (OnlyFields.refl u _).setF _ (by simp)
  have hcause' : (u.setF (safCause b) cause).getF (safCause b) = cause :=
    (getF_setF_same _ _ _).trans (Nat.mod_eq_of_lt (by cases b <;> exact hcause))
  generalize u.setF (safCause b) cause = v at hset hcause'
  have hst : v.planeSt b = 3 := (hset.2 _ (by cases b <;> decide)).trans hplane.state
  have hdegraded := degraded_of_plane v (b := b) (by rw [planeServes_eq, hst]; rfl)
  have hdegrade := onlyFields_degrade v
  generalize v.degrade = w at hdegraded hdegrade
  have hbypass := onlyFields_bypass w 2
  have hafter : OnlyFields v (w.bypass 2) [F.SAF_STAT_DEGRADED, F.RNG_BYP_LEVEL, F.RNG_BYP_CAUSE] :=
    (hdegrade.mono (by simp)).trans (hbypass.mono (by simp))
  refine ⟨⟨?_, ?_, ?_⟩, ?_, ?_⟩
  · exact (hafter.2 _ (by cases b <;> decide)).trans hst
  · rw [hafter.2.isF (by cases b <;> decide), hset.2.isF (by cases b <;> decide), hplane.claiming]
  · exact (hplane.only.trans (hset.mono (by simp [planeFields]))).trans (hafter.mono (by simp [planeFields]))
  · exact (hafter.2 _ (by cases b <;> decide)).trans hcause'
  · rw [hbypass.2.isF (by decide), hdegraded]

/-! ### Takeovers (R238) -/

/-- The fields of a takeover: the driver, the time of the last takeover, and those of its event (R238). -/
def takeoverFields : List Fld := F.SAF_STAT_DRIVER :: F.SAF_LAST_TKO_N32 :: postFields

/-- What a takeover may change: its fields, the start of the interruption and the tally of takeovers (R238). -/
structure TakesOver (s t : State) : Prop where
  fields : FieldsKept s t takeoverFields
  dp : t.dp = s.dp
  saf : t.saf = { s.saf with tkoFrom := t.saf.tkoFrom }
  tallies : ∀ j, j ≠ T.saf 7 → j ∉ postTallies → t.tallyOf j = s.tallyOf j

theorem tallyCounts_saf {m : Nat} (hm : m < 10) : s.tallyCounts (T.saf m) = true := by
  interval_cases m <;> rfl

theorem tallyOf_postFree {j : Nat} (b c : Nat) (h : j ∉ postTallies) : (s.postFree b c).tallyOf j = s.tallyOf j :=
  tallyOf_post { s with freeCtr := s.freeCtr + 1 } b c _ h

theorem withPosted_saf (r : State) : (s.withPosted r).saf = s.saf := rfl
theorem withPosted_dp (r : State) : (s.withPosted r).dp = s.dp := rfl

@[simp] theorem postFree_saf (b c : Nat) : (s.postFree b c).saf = s.saf := by rw [postFree_posted, withPosted_saf]
@[simp] theorem postFree_dp (b c : Nat) : (s.postFree b c).dp = s.dp := by rw [postFree_posted, withPosted_dp]

/-- With no self-check on, the driver follows the claims; a takeover is recorded beside. -/
theorem takeover_shows (old : Nat) : TakesOver s (s.takeover old)
    ∧ (s.saf.checking = false → (s.takeover old).getF F.SAF_STAT_DRIVER = s.driverNow) := by
  have hdriver := driver_setDriverNow s s
  have hset : FieldsKept s (s.setF F.SAF_STAT_DRIVER s.driverNow) takeoverFields :=
    (FieldsKept.refl s _).setF _ (by simp [takeoverFields])
  unfold State.takeover
  split
  · rename_i hchecking
    exact ⟨⟨.refl s _, rfl, rfl, fun _ _ _ => rfl⟩, fun h => absurd (hchecking.symm.trans h) (by decide)⟩
  extract_lets u new v saf w
  split
  · -- the takeover is recorded, tallied and posted
    have hv : FieldsKept s v takeoverFields := (hset.setF _ (by simp [takeoverFields])).of_regs (tally_regs _ _)
    have hpost := fieldsKept_postFree w 0x01 2
    refine ⟨⟨?_, ?_, ?_, fun j hj hpj => ?_⟩, fun _ => ?_⟩
    · exact (hv.of_regs (u := w) rfl).trans (hpost.mono (by simp [takeoverFields]))
    · rw [postFree_dp]
      exact tally_dp _ _
    · have hvsaf : v.saf = s.saf := (onlyDp_tally _ _).saf
      rw [postFree_saf, ← hvsaf]
    · rw [tallyOf_postFree _ _ _ hpj]
      exact tallyOf_tally_ne _ hj
    · rw [hpost _ (by decide)]
      have hN32 : v.getF F.SAF_STAT_DRIVER = u.getF F.SAF_STAT_DRIVER :=
        (getF_of_regs (tally_regs _ _) _).trans (getF_setF_ne _ _ _ _ (by decide))
      exact hN32.trans hdriver
  · exact ⟨⟨hset, rfl, rfl, fun _ _ _ => rfl⟩, fun _ => hdriver⟩

end

/-- A withdrawal of one of two planes in service, with the takeover that follows it. -/
theorem withdraw_takeover {s : State} {b : Bool} (hraisedA : s.saf.raisedA = none) (hraisedB : s.saf.raisedB = none)
    (hauto : s.isF F.SAF_CFG_AUTO_RESTART = false) (hother : s.planeSt (!b) = 1) {cause : Nat} (hcause : cause < 16)
    (old : Nat) : ((s.withdraw b cause true).takeover old).planeSt b = 3
      ∧ ((s.withdraw b cause true).takeover old).getF (safCause b) = cause
      ∧ ((s.withdraw b cause true).takeover old).planeSt (!b) = 1
      ∧ ((s.withdraw b cause true).takeover old).isF F.SAF_STAT_DEGRADED = true := by
  have hraised : (if b then s.saf.raisedB else s.saf.raisedA) = none := by cases b <;> assumption
  obtain ⟨hgoes, hshows, hdegraded⟩ := withdraw_shows hraised hauto hcause true
  have hkept := (takeover_shows (s.withdraw b cause true) old).1.fields
  refine ⟨?_, ?_, ?_, ?_⟩
  · exact (hkept _ (by cases b <;> decide)).trans hgoes.state
  · exact (hkept _ (by cases b <;> decide)).trans hshows
  · exact (hkept _ (by cases b <;> decide)).trans (hgoes.other.trans hother)
  · exact (hkept.isF (by decide)).trans hdegraded

/-! ### Restarts (R239) -/

/-- The count of failed logic tests in a row of plane `b` (R240). -/
def State.withFails (s : State) (b : Bool) (n : Nat) : State :=
  { s with saf := if b then { s.saf with failsB := n } else { s.saf with failsA := n } }

/-- The plane's decision record is empty. -/
def State.noDecision (s : State) (b : Bool) : State :=
  { s with dp := if b then { s.dp with decB := none } else { s.dp with decA := none } }

theorem restartPlane_eq (s : State) (b : Bool) : s.restartPlane b = (s.noDecision b).setPlane b 4 := by cases b <;> rfl

end Sys2Proof.Machine
end

section
/-! PROOF of PlanesChangeStateAsTheRulesSay. Each plane's part of a self-check is `PlaneGoes`; what follows it when the stream
goes on touches no plane's state. -/

namespace Sys2Proof.Machine

/-! ### The self-check (R235) -/

/-- Plane `b` entered its self-check while it was rejoining. -/
def State.rejoins (s : State) (b : Bool) : Bool := if b then s.saf.rejB else s.saf.rejA

/-- The note that a plane was rejoining is gone. -/
def State.noRejoin (s : State) (b : Bool) : State :=
  if b then { s with saf := { s.saf with rejB := false } } else { s with saf := { s.saf with rejA := false } }

/-- A self-check of both planes after a mismatch: no drill, no missing decision, no parity error, both comparators good. -/
structure BothChecking (s : State) : Prop where
  checking : s.saf.checking = true
  drill : s.saf.drill = false
  missA : s.saf.missA = false
  missB : s.saf.missB = false
  stA : s.planeSt false = 2
  stB : s.planeSt true = 2
  cmp : s.getF F.SAF_STAT_CMP_OK = 3
  parA : s.saf.parA = false
  parB : s.saf.parB = false

/-- The end of a self-check: the stream goes on under the plane that the claims give (R235 step 5). -/
def State.resume (s : State) (old : Nat) : State :=
  let s := { s with
    dp := { s.dp with held := false }
    saf := { s.saf with checking := false, missA := false, missB := false } }
  let s := (s.parityDue.takeover old).degrade.noPlane
  s.evaluateAgain.bypass 2

/-- The fields that the end of a self-check changes beside those of the planes that it withdraws. -/
def resumeFields : List Fld := [F.SAF_STAT_DEGRADED, F.RNG_BYP_LEVEL, F.RNG_BYP_CAUSE] ++ takeoverFields

theorem parityDue_none {s : State} (hA : s.saf.parA = false) (hB : s.saf.parB = false) :
    s.parityDue = { s with saf := { s.saf with parA := false, parB := false } } := by
  simp [State.parityDue, hA, hB]

theorem noPlane_serves {s : State} (h : s.anyPlane = true) : s.noPlane = s := if_pos h

/-- With a plane in service, and no parity error, the stream goes on and the driver follows the claims. -/
theorem resume_shows {s : State} (hA : s.saf.parA = false) (hB : s.saf.parB = false) {b : Bool} (hin : s.planeSt b = 1)
    (old : Nat) : FieldsKept s (s.resume old) resumeFields ∧ (s.resume old).dp.held = false
      ∧ (s.resume old).saf.checking = false ∧ (s.resume old).getF F.SAF_STAT_DRIVER = s.driverNow
      ∧ ∀ j, j ≠ T.saf 7 → j ∉ postTallies → (s.resume old).tallyOf j = s.tallyOf j := by
  unfold State.resume
  extract_lets dp saf s₀ s₁
  obtain ⟨htakes, hdriver⟩ := takeover_shows s₀.parityDue old
  have hpar : s₀.parityDue = { s₀ with saf := { s₀.saf with parA := false, parB := false } } := parityDue_none hA hB
  have hs₁ : s₁ = (s₀.parityDue.takeover old).degrade.noPlane := rfl
  clear_value s₁
  rw [hpar] at htakes hdriver hs₁
  generalize State.takeover _ old = u at htakes hdriver hs₁
  have hdegrade := onlyFields_degrade u
  have hfields : FieldsKept s u.degrade resumeFields :=
    ((FieldsKept.refl s _).trans (htakes.fields.mono (List.subset_append_right _ _))).trans
      (hdegrade.2.mono (by simp))
  have hserves : u.degrade.anyPlane = true :=
    anyPlane_of_inService _ (b := b) ((hfields _ (by cases b <;> decide)).trans hin)
  rw [noPlane_serves hserves] at hs₁
  subst hs₁
  have hbypass := onlyFields_bypass u.degrade.evaluateAgain 2
  refine ⟨?_, ?_, ?_, ?_, fun j hj hpj => ?_⟩
  · exact (hfields.of_regs (u := u.degrade.evaluateAgain) rfl).trans (hbypass.2.mono (by simp [resumeFields]))
  · rw [hbypass.1]
    exact congrArg DataPlane.held htakes.dp
  · rw [hbypass.1]
    exact congrArg Saf.checking htakes.saf
  · rw [hbypass.2 _ (by decide)]
    exact (hdegrade.2 F.SAF_STAT_DRIVER (by decide)).trans (hdriver rfl)
  · rw [hbypass.1]
    exact htakes.tallies j hj hpj

/-- A plane that passes goes back, one that fails is withdrawn. -/
theorem checkPlane_checked {s : State} {b : Bool} (h : s.planeSt b = 2) (pass : Bool) : s.checkPlane b false pass =
    if pass then (s.noRejoin b).setPlane b (if s.rejoins b then 5 else 1)
    else (s.noRejoin b).withdraw b (if s.rejoins b then 6 else 1) true := by
  unfold State.checkPlane
  cases b <;> cases pass <;> simp [h, State.noRejoin, State.rejoins]

theorem getF_noRejoin (s : State) (b : Bool) (f : Fld) : (s.noRejoin b).getF f = s.getF f := by cases b <;> rfl

/-- A plane that passes its self-check, and was not rejoining, is back in service. -/
theorem checkPlane_passes {s : State} {b : Bool} (h : s.planeSt b = 2) (hrejoins : s.rejoins b = false) :
    PlaneGoes (s.noRejoin b) (s.checkPlane b false true) b 1 := by
  rw [checkPlane_checked h, if_pos rfl, hrejoins]
  exact planeGoes_setPlane _ b (by decide)

/-- A plane that fails its self-check is withdrawn with cause 1, or 6 where it was rejoining. -/
theorem checkPlane_fails {s : State} {b : Bool} (h : s.planeSt b = 2)
    (hraised : (if b then s.saf.raisedB else s.saf.raisedA) = none) (hauto : s.isF F.SAF_CFG_AUTO_RESTART = false) :
    PlaneGoes (s.noRejoin b) (s.checkPlane b false false) b 3
      ∧ (s.checkPlane b false false).getF (safCause b) = if s.rejoins b then 6 else 1 := by
  have hcause : (if s.rejoins b then 6 else 1) < 16 := by split <;> decide
  have hraised' : (if b then (s.noRejoin b).saf.raisedB else (s.noRejoin b).saf.raisedA) = none := by
    cases b <;> exact hraised
  have hauto' : (s.noRejoin b).isF F.SAF_CFG_AUTO_RESTART = false := by
    rw [State.isF, getF_noRejoin]; exact hauto
  obtain ⟨hgoes, hshows, -⟩ := withdraw_shows hraised' hauto' hcause true
  rw [checkPlane_checked h, if_neg (by decide)]
  exact ⟨hgoes, hshows⟩

/-- Plane A's part of the self-check leaves plane B and what the bookkeeping says of it as they are. -/
theorem PlaneGoes.afterA {s t : State} {st : Nat} (h : PlaneGoes (s.noRejoin false) t false st) :
    t.planeSt true = s.planeSt true ∧ t.saf = { s.saf with rejA := false }
      ∧ t.isF F.SAF_CFG_AUTO_RESTART = s.isF F.SAF_CFG_AUTO_RESTART :=
  ⟨h.other, h.saf, h.only.2.isF (by decide)⟩

/-- Both planes have ended their self-checks, A in state `stA` and B in state `stB`. -/
structure BothGo (s t : State) (stA stB : Nat) : Prop where
  stateA : t.planeSt false = stA
  stateB : t.planeSt true = stB
  claimA : t.isF (safClaiming false) = (stA == 1)
  claimB : t.isF (safClaiming true) = (stB == 1)
  parA : t.saf.parA = s.saf.parA
  parB : t.saf.parB = s.saf.parB

theorem PlaneGoes.both {s t u : State} {stA stB : Nat} (hA : PlaneGoes (s.noRejoin false) t false stA)
    (hB : PlaneGoes (t.noRejoin true) u true stB) : BothGo s u stA stB where
  stateA := hB.other.trans hA.state
  stateB := hB.state
  claimA := (hB.only.2.isF (by decide)).trans hA.claiming
  claimB := hB.claiming
  parA := (congrArg Saf.parA hB.saf).trans (show t.saf.parA = s.saf.parA by rw [hA.afterA.2.1])
  parB := (congrArg Saf.parB hB.saf).trans (show t.saf.parB = s.saf.parB by rw [hA.afterA.2.1])

theorem BothGo.tally {s t : State} {stA stB : Nat} (h : BothGo s t stA stB) (i : Nat) : BothGo s (t.tally i) stA stB := by
  have hregs := tally_regs t i
  have hsaf := (onlyDp_tally t i).saf
  refine ⟨(getF_of_regs hregs _).trans h.stateA, (getF_of_regs hregs _).trans h.stateB, ?_, ?_,
    (congrArg Saf.parA hsaf).trans h.parA, (congrArg Saf.parB hsaf).trans h.parB⟩
  · rw [State.isF, getF_of_regs hregs]; exact h.claimA
  · rw [State.isF, getF_of_regs hregs]; exact h.claimB

/-- The self-checks themselves count nothing. -/
theorem PlaneGoes.both_tly {s t u : State} {stA stB : Nat} (hA : PlaneGoes (s.noRejoin false) t false stA)
    (hB : PlaneGoes (t.noRejoin true) u true stB) : u.tly = s.tly := hB.tly.trans hA.tly

/-- The end of a self-check in which no rejoining plane passes: each plane goes its way, two that pass count as a transient,
and the stream goes on. -/
theorem doSelfCheckComplete_both {s : State} (h : BothChecking s) {passA passB : Bool} {stA : Nat}
    (hgoes : PlaneGoes (s.noRejoin false) (s.checkPlane false false passA) false stA)
    (hA : (s.saf.rejA && passA) = false) (hB : (s.saf.rejB && passB) = false) :
    doSelfCheckComplete passA passB true true s =
      (let t := (s.checkPlane false false passA).checkPlane true false passB
        if passA && passB then t.tally (T.saf 1) else t).resume (s.getF F.SAF_STAT_DRIVER) := by
  obtain ⟨hchecking, hdrill, hmissA, hmissB, hstA, hstB, hcmp, -, -⟩ := h
  have hmissB' : (s.checkPlane false false passA).saf.missB = false := (congrArg Saf.missB hgoes.afterA.2.1).trans hmissB
  unfold doSelfCheckComplete State.resume
  simp [hchecking, hdrill, hmissA, hmissB, hstA, hstB, hcmp, hA, hB, hmissB']

/-- The stream goes on with the planes in the states that their self-checks left them in. -/
theorem BothGo.resume {s t : State} {stA stB : Nat} (h : BothGo s t stA stB) (hs : BothChecking s) (hin : stA = 1 ∨ stB = 1)
    (old : Nat) : (t.resume old).planeSt false = stA ∧ (t.resume old).planeSt true = stB
      ∧ (∀ b, (t.resume old).getF (safCause b) = t.getF (safCause b)) ∧ (t.resume old).dp.held = false
      ∧ (t.resume old).saf.checking = false ∧ (t.resume old).getF F.SAF_STAT_DRIVER = t.driverNow
      ∧ (t.resume old).tallyOf (T.saf 1) = t.tallyOf (T.saf 1) := by
  have hserves : ∃ b, t.planeSt b = 1 := by
    rcases hin with rfl | rfl
    · exact ⟨false, h.stateA⟩
    · exact ⟨true, h.stateB⟩
  obtain ⟨b, hb⟩ := hserves
  obtain ⟨hkept, hheld, hchecking, hdriver, htallies⟩ :=
    resume_shows (h.parA.trans hs.parA) (h.parB.trans hs.parB) hb old
  exact ⟨(hkept _ (by decide)).trans h.stateA, (hkept _ (by decide)).trans h.stateB,
    fun b => hkept _ (by cases b <;> decide), hheld, hchecking, hdriver, htallies _ (by decide) (by decide)⟩

/-- With plane B alone in service, plane B drives. -/
theorem BothGo.driverB {s t : State} {stA stB : Nat} (h : BothGo s t stA stB) (hA : stA ≠ 1) (hB : stB = 1) :
    t.driverNow = 2 := by
  rw [State.driverNow, h.claimA, h.claimB, beq_false_of_ne hA, hB]
  rfl

/-- The end of a self-check in which no rejoining plane passes: the planes stand where their self-checks left them, and two that
pass count as a transient. -/
theorem selfCheck_ends {s : State} (h : BothChecking s) {passA passB : Bool} {stA stB : Nat}
    (hrejA : (s.saf.rejA && passA) = false) (hrejB : (s.saf.rejB && passB) = false)
    (hA : PlaneGoes (s.noRejoin false) (s.checkPlane false false passA) false stA)
    (hB : PlaneGoes ((s.checkPlane false false passA).noRejoin true)
      ((s.checkPlane false false passA).checkPlane true false passB) true stB) (hin : stA = 1 ∨ stB = 1) :
    let t := doSelfCheckComplete passA passB true true s
    t.planeSt false = stA ∧ t.planeSt true = stB
      ∧ (∀ b, t.getF (safCause b) = ((s.checkPlane false false passA).checkPlane true false passB).getF (safCause b))
      ∧ t.dp.held = false ∧ t.saf.checking = false ∧ (stA ≠ 1 → stB = 1 → t.getF F.SAF_STAT_DRIVER = 2)
      ∧ t.tallyOf (T.saf 1) =
          if passA && passB then (s.tallyOf (T.saf 1) + 1) % 2 ^ 64 else s.tallyOf (T.saf 1) := by
  intro t
  have ht : t = _ := doSelfCheckComplete_both h hA hrejA hrejB
  have hgo := hA.both hB
  have htly := hA.both_tly hB
  generalize (s.checkPlane false false passA).checkPlane true false passB = u at hgo htly ht
  clear_value t
  subst ht
  cases passA && passB with
  | false =>
    obtain ⟨hA', hB', hcauses, hheld, hchecking, hdriver, htally⟩ := hgo.resume h hin (s.getF F.SAF_STAT_DRIVER)
    exact ⟨hA', hB', hcauses, hheld, hchecking, fun h₁ h₂ => hdriver.trans (hgo.driverB h₁ h₂),
      htally.trans (tallyOf_of_tly htly _)⟩
  | true =>
    have hgo' := hgo.tally (T.saf 1)
    obtain ⟨hA', hB', hcauses, hheld, hchecking, hdriver, htally⟩ := hgo'.resume h hin (s.getF F.SAF_STAT_DRIVER)
    refine ⟨hA', hB', fun b => (hcauses b).trans (getF_of_regs (tally_regs u _) _), hheld, hchecking,
      fun h₁ h₂ => hdriver.trans (hgo'.driverB h₁ h₂), htally.trans ?_⟩
    rw [State.tally, tallyOf_tallyN, if_pos ⟨rfl, tallyCounts_saf _ (by decide)⟩, tallyOf_of_tly htly]
    rfl

/-! ### Parity errors (R237) -/

/-- A standby plane with a parity error withdraws itself. -/
theorem doPlaneParityError_standby {s : State} {b : Bool} (hheld : s.dp.held = false) (hb : s.planeSt b = 1)
    (hstandby : s.getF F.SAF_STAT_DRIVER ≠ b2n b + 1) : doPlaneParityError b s =
      (((s.noDecision b).withdraw b 2 true).takeover (s.getF F.SAF_STAT_DRIVER)).noPlane.bypass 2 := by
  unfold doPlaneParityError
  simp only [hheld, compared_of_inService s hb, hstandby]
  cases b <;> rfl

/-! ### Logic tests and the end of a rejoin (R239, R240) -/

theorem doPlaneLogicTestDone_passes {s : State} {b : Bool} (h : s.planeSt b = 4) :
    doPlaneLogicTestDone b true s = (s.withFails b 0).setPlane b 5 := by
  unfold doPlaneLogicTestDone
  simp only [h]
  cases b <;> rfl

/-- Below three failures in a row, and without AUTO_RESTART, a failed test withdraws the plane. -/
theorem doPlaneLogicTestDone_fails {s : State} {b : Bool} (h : s.planeSt b = 4)
    (hfails : (if b then s.saf.failsB else s.saf.failsA) < 2) (hauto : s.isF F.SAF_CFG_AUTO_RESTART = false) :
    doPlaneLogicTestDone b false s =
      ((s.withFails b ((if b then s.saf.failsB else s.saf.failsA) + 1)).setPlane b 3).setF (safCause b) 5 := by
  have hfew : ¬ 3 ≤ (if b then s.saf.failsB else s.saf.failsA) + 1 := by omega
  have hauto' : ∀ n, (((s.withFails b n).setPlane b 3).setF (safCause b) 5).isF F.SAF_CFG_AUTO_RESTART = false := by
    intro n
    have hkept := ((onlyFields_setPlane (s.withFails b n) b 3).2.mono (l' := planeFields b) (by simp [planeFields])).setF
      (f := safCause b) 5 (by simp [planeFields])
    exact (hkept.isF (by cases b <;> decide)).trans hauto
  have hset : ∀ n, (if b then { s with saf := { s.saf with failsB := n } } else { s with saf := { s.saf with failsA := n } })
      = s.withFails b n := by intro n; cases b <;> rfl
  unfold doPlaneLogicTestDone
  simp [h, hfew, hset, hauto']

/-- A plane that raises its claim is in service, and the time is noted. -/
theorem raiseClaim_shows (s : State) (b : Bool) : (s.raiseClaim b).planeSt b = 1
    ∧ (if b then (s.raiseClaim b).saf.raisedB else (s.raiseClaim b).saf.raisedA) = some s.tb.fab := by
  unfold State.raiseClaim
  extract_lets u saf v
  have hu : u.planeSt b = 1 := (planeGoes_setPlane s b (st := 1) (by decide)).state
  have hv : v.planeSt b = 1 := by unfold v; cases b <;> exact hu
  have hraised : (if b then v.saf.raisedB else v.saf.raisedA) = some s.tb.fab := by unfold v; cases b <;> rfl
  have hbypass := onlyFields_bypass v.degrade 2
  refine ⟨?_, ?_⟩
  · exact (hbypass.2 _ (by cases b <;> decide)).trans (((onlyFields_degrade v).2 _ (by cases b <;> decide)).trans hv)
  · rw [hbypass.1]
    exact hraised

/-- The end of a rejoin: the plane raises its claim, and the claims follow the priorities; a change of the driver is posted. -/
theorem doRejoinEnd_shows {s : State} {b : Bool} (h : s.planeSt b = 5) (hheld : s.dp.held = false) :
    (doRejoinEnd b s).planeSt b = 1
      ∧ (if b then (doRejoinEnd b s).saf.raisedB else (doRejoinEnd b s).saf.raisedA) = some s.tb.fab := by
  obtain ⟨hst, hraised⟩ := raiseClaim_shows s b
  have hclaims := onlyFields_claims (s.raiseClaim b)
  have hst' : (s.raiseClaim b).claims.planeSt b = 1 := (hclaims.2 _ (by cases b <;> decide)).trans hst
  have hraised' : (if b then (s.raiseClaim b).claims.saf.raisedB else (s.raiseClaim b).claims.saf.raisedA)
      = some s.tb.fab := hraised
  unfold doRejoinEnd
  rw [if_neg (by simp [h, hheld])]
  dsimp only
  split
  · refine ⟨(planeSt_postFree _ b _ _).trans hst', ?_⟩
    rw [postFree_saf]
    exact hraised'
  · exact ⟨hst', hraised'⟩

/-! ### The settled statement -/

/-- Settles O14: each command is what becomes of one plane (`PlaneGoes`) or of both (`BothGo`), and neither the takeover nor
the bypass that follows touches a plane's state. -/
theorem planesChangeStateAsTheRulesSay : Obligations.PlanesChangeStateAsTheRulesSay := by
  unfold Obligations.PlanesChangeStateAsTheRulesSay
  refine ⟨fun s hchecking hdrill hmissA hmissB hstA hstB hrejA hrejB hcmp hparA hparB => ?_,
    fun s hchecking hdrill hmissA hmissB hstA hstB hrejA hrejB hcmp hraised hauto hparA hparB => ?_,
    fun s hchecking hdrill hmissA hmissB hstA hstB hrejA hrejB hcmp hraised hauto hparA hparB => ?_,
    fun s b hheld hb hother hstandby hauto hraisedA hraisedB => ?_, fun s b hheld hb => ?_, fun s hheld => ?_,
    fun s b h => ?_, fun s b h hfails hauto => ?_, fun s b h hheld => ?_⟩
  · have hA := checkPlane_passes (b := false) hstA hrejA
    obtain ⟨hstB', hsaf, -⟩ := hA.afterA
    have hB := checkPlane_passes (b := true) (hstB'.trans hstB) (by rw [State.rejoins, hsaf]; exact hrejB)
    obtain ⟨hA', hB', -, hheld', hchecking', -, htally⟩ :=
      selfCheck_ends ⟨hchecking, hdrill, hmissA, hmissB, hstA, hstB, hcmp, hparA, hparB⟩ (by rw [hrejA]; rfl)
        (by rw [hrejB]; rfl) hA hB (.inl rfl)
    exact ⟨_, rfl, hA', hB', hheld', hchecking', htally⟩
  · obtain ⟨hA, hcause⟩ := checkPlane_fails (b := false) hstA hraised hauto
    obtain ⟨hstB', hsaf, -⟩ := hA.afterA
    have hB := checkPlane_passes (b := true) (hstB'.trans hstB) (by rw [State.rejoins, hsaf]; exact hrejB)
    obtain ⟨hA', hB', hcauses, hheld', -, hdriver, htally⟩ :=
      selfCheck_ends ⟨hchecking, hdrill, hmissA, hmissB, hstA, hstB, hcmp, hparA, hparB⟩ (by rw [hrejA]; rfl)
        (by rw [hrejB]; rfl) hA hB (.inr rfl)
    rw [State.rejoins, hrejA] at hcause
    exact ⟨_, rfl, hA', hB', (hcauses false).trans ((hB.only.2 _ (by decide)).trans hcause), hdriver (by decide) rfl,
      hheld', htally⟩
  · have hA := checkPlane_passes (b := false) hstA hrejA
    obtain ⟨hstB', hsaf, hauto'⟩ := hA.afterA
    obtain ⟨hB, hcause⟩ := checkPlane_fails (b := true) (hstB'.trans hstB) (by rw [hsaf]; exact hraised) (hauto'.trans hauto)
    obtain ⟨hA', hB', hcauses, hheld', -, -, htally⟩ :=
      selfCheck_ends ⟨hchecking, hdrill, hmissA, hmissB, hstA, hstB, hcmp, hparA, hparB⟩ (by rw [hrejA]; rfl)
        (by rw [hrejB]; rfl) hA hB (.inl rfl)
    rw [State.rejoins, hsaf] at hcause
    exact ⟨_, rfl, hA', hB', (hcauses true).trans (hcause.trans (if_pos hrejB)), hheld', htally⟩
  · obtain ⟨hst, hcause, hother', hdegraded⟩ := withdraw_takeover (s := s.noDecision b) hraisedA hraisedB hauto hother
      (cause := 2) (by decide) (s.getF F.SAF_STAT_DRIVER)
    have heq := doPlaneParityError_standby hheld hb hstandby
    rw [noPlane_serves (anyPlane_of_inService _ hother')] at heq
    have hbypass := (onlyFields_bypass (((s.noDecision b).withdraw b 2 true).takeover (s.getF F.SAF_STAT_DRIVER)) 2).2
    exact ⟨_, answers rfl heq, (hbypass _ (by cases b <;> decide)).trans hst, (hbypass _ (by cases b <;> decide)).trans hcause,
      (hbypass _ (by cases b <;> decide)).trans hother', (hbypass.isF (by decide)).trans hdegraded⟩
  · refine answers rfl ?_
    unfold doPlaneParityError
    rw [if_pos hheld, if_pos (by simp [hb])]
  · obtain ⟨hA, hB, hdriver⟩ := claims_shows s
    have honly := onlyFields_claims s
    refine ⟨s.claims, answers rfl (by rw [doClaimChange, hheld]; rfl), honly, hA, hB, fun hclaimA hclaimB => ?_⟩
    rw [hdriver, State.driverNow, (honly.2.isF (f := safClaiming false) (by decide)).trans hclaimA,
      (honly.2.isF (f := safClaiming true) (by decide)).trans hclaimB]
    rfl
  · refine ⟨_, answers rfl (doPlaneLogicTestDone_passes h), ?_, (planeGoes_setPlane _ b (by decide)).state, ?_⟩
    · exact onlyFields_setPlane (s.withFails b 0) b 5
    · cases b <;> rfl
  · refine ⟨_, answers rfl (doPlaneLogicTestDone_fails h hfails hauto), ?_, ?_⟩
    · exact (getF_setF_ne _ _ _ _ (by cases b <;> decide)).trans (planeGoes_setPlane _ b (by decide)).state
    · exact (getF_setF_same _ _ _).trans (by cases b <;> rfl)
  · exact ⟨_, rfl, doRejoinEnd_shows h hheld⟩

end Sys2Proof.Machine
end

section
/-! PROOF of PlaneCommandsActAndReport. A plane command that is taken is its effect on the planes and the write of its status. -/

namespace Sys2Proof.Machine

/-! ### The course of a command (R241) -/

section
variable {s : State} {b : Bool}

/-- A plane command in a device in service whose BUSY is 0 runs and ends with its status. -/
theorem safCmd_taken (hserving : s.serving = true) (hbusy : s.isF F.SAF_CMD_STAT_BUSY = false) (run : State → Nat × State) :
    s.safCmd run = (run s).2.setF F.SAF_CMD_STAT_STATUS (run s).1 := by
  simp [State.safCmd, State.busGate, hserving, hbusy]

/-! ### WITHDRAW and RESTART (R241) -/

theorem doWithdraw_ofTwo (hserving : s.serving = true) (hbusy : s.isF F.SAF_CMD_STAT_BUSY = false) (hb : s.planeSt b = 1)
    (hother : s.planeSt (!b) = 1) : doWithdraw b s =
      ((s.withdraw b 3 true).takeover (s.getF F.SAF_STAT_DRIVER)).setF F.SAF_CMD_STAT_STATUS 0 := by
  rw [doWithdraw, safCmd_taken hserving hbusy]
  simp [planeServes_eq, hb, hother]

/-- The only plane in service is not withdrawn. -/
theorem doWithdraw_ofOne (hserving : s.serving = true) (hbusy : s.isF F.SAF_CMD_STAT_BUSY = false) (hb : s.planeSt b = 1)
    (hother : s.planeSt (!b) = 3) : doWithdraw b s = s.setF F.SAF_CMD_STAT_STATUS 4 := by
  rw [doWithdraw, safCmd_taken hserving hbusy]
  simp [planeServes_eq, hb, hother]

/-- RESTART begins the restart of a plane that is out of service; one that leaves its retirement has no failed tests. -/
theorem doRestart_out (hserving : s.serving = true) (hbusy : s.isF F.SAF_CMD_STAT_BUSY = false)
    (hout : s.planeSt b = 3 ∨ s.planeSt b = 6) : doRestart b s =
      ((if s.planeSt b = 6 then s.withFails b 0 else s).restartPlane b).setF F.SAF_CMD_STAT_STATUS 0 := by
  rw [doRestart, safCmd_taken hserving hbusy]
  rcases hout with h | h
  · simp [h]
  · cases b <;> simp [h, State.withFails]

/-- What RESTART leaves: the plane in its logic test, its decision record empty, and nothing else but its fields changed. -/
theorem doRestart_shows (hserving : s.serving = true) (hbusy : s.isF F.SAF_CMD_STAT_BUSY = false)
    (hout : s.planeSt b = 3 ∨ s.planeSt b = 6) :
    let u := if s.planeSt b = 6 then s.withFails b 0 else s
    OnlyFields (u.noDecision b) (doRestart b s) [safState b, safClaiming b, F.SAF_CMD_STAT_STATUS]
      ∧ (doRestart b s).saf = u.saf ∧ (doRestart b s).planeSt b = 4 ∧ (doRestart b s).getF F.SAF_CMD_STAT_STATUS = 0 := by
  intro u
  rw [doRestart_out hserving hbusy hout, restartPlane_eq]
  refine ⟨((onlyFields_setPlane _ b 4).mono (by simp)).setF _ (by simp), rfl, ?_, getF_setF_same _ _ _⟩
  exact (getF_setF_ne _ _ _ _ (by cases b <;> decide)).trans (planeGoes_setPlane (u.noDecision b) b (by decide)).state

/-! ### DRILL (R242) -/

/-- The start of a plane's self-check changes its state and its claim, and notes whether it was rejoining. -/
theorem checkStart_keeps (s : State) (b : Bool) : FieldsKept s (s.checkStart b) [safState b, safClaiming b]
    ∧ (s.checkStart b).dp = s.dp ∧ (s.checkStart b).tly = s.tly ∧ (s.checkStart b).saf.drill = s.saf.drill := by
  have hset := (onlyFields_setPlane s b 2).2
  unfold State.checkStart
  dsimp only
  split
  · cases b <;> exact ⟨hset.of_regs rfl, rfl, rfl, rfl⟩
  · exact ⟨.refl s _, rfl, rfl, rfl⟩

/-- The fields that the start of a self-check changes. -/
def checkFields : List Fld :=
  [safState false, safClaiming false, safState true, safClaiming true] ++ postFields

/-- A self-check that starts keeps the stream's records, the drill, and every tally but those of its event. -/
theorem startCheck_keeps (s : State) : FieldsKept s (s.startCheck false false) checkFields
    ∧ (s.startCheck false false).dp.stream = s.dp.stream ∧ (s.startCheck false false).saf.drill = s.saf.drill
    ∧ ∀ j, j ∉ postTallies → (s.startCheck false false).tallyOf j = s.tallyOf j := by
  unfold State.startCheck
  extract_lets dp saf s₀ s₁ s₂
  obtain ⟨hfields₁, hdp₁, htly₁, hdrill₁⟩ := checkStart_keeps s₀ false
  obtain ⟨hfields₂, hdp₂, htly₂, hdrill₂⟩ := checkStart_keeps s₁ true
  have hchecks : FieldsKept s₀ s₂ checkFields :=
    (hfields₁.mono (by simp [checkFields])).trans (hfields₂.mono (by simp [checkFields]))
  refine ⟨?_, ?_, ?_, fun j hj => ?_⟩
  · exact (((FieldsKept.refl s _).of_regs (u := s₀) rfl).trans hchecks).trans
      ((fieldsKept_postFree s₂ _ _).mono (List.subset_append_right _ _))
  · rw [postFree_dp]
    exact (congrArg DataPlane.stream (hdp₂.trans hdp₁) :)
  · rw [postFree_saf]
    exact hdrill₂.trans hdrill₁
  · rw [tallyOf_postFree _ _ _ hj]
    exact tallyOf_of_tly (htly₂.trans htly₁) j

/-- The drill has begun: it is counted and noted, and BUSY is 1. -/
def State.drillBegun (s : State) : State :=
  { (s.tally (T.saf 8)).setB F.SAF_CMD_STAT_BUSY true with saf := { s.saf with drill := true } }

theorem getF_drillBegun {f : Fld} (hf : f.key ≠ F.SAF_CMD_STAT_BUSY.key) : s.drillBegun.getF f = s.getF f :=
  (getF_setB_ne (s.tally (T.saf 8)) _ f true hf).trans (getF_of_regs (tally_regs s _) f)

/-- The self-check of a drill holds the stream and its records, and the drill is counted. -/
theorem startCheck_drillBegun (hA : s.planeSt false = 1) (hB : s.planeSt true = 1) :
    StreamHeld (s.drillBegun.startCheck false false) false false ∧ (s.drillBegun.startCheck false false).saf.drill = true
      ∧ (s.drillBegun.startCheck false false).isF F.SAF_CMD_STAT_BUSY = true
      ∧ (s.drillBegun.startCheck false false).dp.stream = s.dp.stream
      ∧ (s.drillBegun.startCheck false false).tallyOf (T.saf 8) = (s.tallyOf (T.saf 8) + 1) % 2 ^ 64 := by
  obtain ⟨hfields, hstream, hdrill, htallies⟩ := startCheck_keeps s.drillBegun
  refine ⟨(startCheck_both s.drillBegun ((getF_drillBegun (by decide)).trans hA) ((getF_drillBegun (by decide)).trans hB)).1,
    hdrill, ?_, hstream.trans (congrArg DataPlane.stream (tally_dp s _)), ?_⟩
  · exact (hfields.isF (by decide)).trans (isF_setB_same (s.tally (T.saf 8)) F.SAF_CMD_STAT_BUSY true rfl)
  · rw [htallies _ (by decide)]
    exact (tallyOf_tallyN s _ 1 _).trans (if_pos ⟨rfl, tallyCounts_saf s (by decide)⟩)

/-- A drill that begins starts the self-check of the mismatch procedure. -/
theorem doDrill_both (hserving : s.serving = true) (hbusy : s.isF F.SAF_CMD_STAT_BUSY = false) (hA : s.planeSt false = 1)
    (hB : s.planeSt true = 1) (hheld : s.dp.held = false) (hchecking : s.saf.checking = false)
    (hwait : s.saf.drillWait = none) : doDrill s =
      (s.drillBegun.startCheck false false).setF F.SAF_CMD_STAT_STATUS 0 := by
  have hsaf : (s.tally (T.saf 8)).saf = s.saf := (onlyDp_tally s _).saf
  rw [doDrill, safCmd_taken hserving hbusy]
  simp [hA, hB, hheld, hchecking, hwait, hsaf, State.drillBegun]

/-- The former standby stays in service when a drill passes. -/
theorem doDrillDeadline_passes {wasA : Bool} (hwait : s.saf.drillWait = some wasA) (hin : s.planeSt (!wasA) = 1) :
    doDrillDeadline true s = (({ s with saf := { s.saf with drillWait := none } }).setB F.SAF_CMD_STAT_BUSY false).setB
      F.SAF_CMD_STAT_DRILL_PASS true := by
  have hkept : FieldsKept s ((({ s with saf := { s.saf with drillWait := none } }).setB F.SAF_CMD_STAT_BUSY false).setB
      F.SAF_CMD_STAT_DRILL_PASS true) [F.SAF_CMD_STAT_BUSY, F.SAF_CMD_STAT_DRILL_PASS] :=
    (((FieldsKept.refl s _).of_regs (u := { s with saf := { s.saf with drillWait := none } }) rfl).setB _ (by simp)).setB
      _ (by simp)
  have hin' := (hkept (safState (!wasA)) (by cases wasA <;> decide)).trans hin
  unfold doDrillDeadline
  rw [hwait]
  exact if_neg fun h => absurd (hin'.symm.trans h) (by decide)

/-! ### CLEAR_LATENT (R243) -/

theorem latentCleared_only (s : State) (b : Bool) :
    OnlyFields s ((s.clrF F.SAF_STAT_LATENT (b2n b)).setF F.SAF_CMD_STAT_STATUS 0)
      [F.SAF_STAT_LATENT, F.SAF_CMD_STAT_STATUS] :=
  OnlyFields.setF ⟨clrF_eq s F.SAF_STAT_LATENT (b2n b), (FieldsKept.refl s _).clrF (b2n b) (by simp)⟩ 0 (by simp)

/-- The plane's bit of LATENT is clear, the other one's as it was. -/
theorem latentCleared_bits (s : State) (b : Bool) :
    let t := (s.clrF F.SAF_STAT_LATENT (b2n b)).setF F.SAF_CMD_STAT_STATUS 0
    bit (t.getF F.SAF_STAT_LATENT) (b2n b) = false
      ∧ bit (t.getF F.SAF_STAT_LATENT) (b2n (!b)) = bit (s.getF F.SAF_STAT_LATENT) (b2n (!b)) := by
  intro t
  have hlt : ∀ c : Bool, b2n c < F.SAF_STAT_LATENT.w := by decide
  have hne : b2n (!b) ≠ b2n b := by cases b <;> decide
  have hlatent : t.getF F.SAF_STAT_LATENT = (s.clrF F.SAF_STAT_LATENT (b2n b)).getF F.SAF_STAT_LATENT :=
    getF_setF_ne _ _ _ _ (by decide)
  rw [hlatent, bit_clrF _ _ (hlt b), bit_clrF _ _ (hlt (!b))]
  simp [hne]

end

/-! ### The settled statement -/

/-- Settles O15: a command that is taken is one equation (`safCmd_taken`), and what it does to a plane is read from it. -/
theorem planeCommandsActAndReport : Obligations.PlaneCommandsActAndReport := by
  unfold Obligations.PlaneCommandsActAndReport
  refine ⟨fun s hserving hbusy => ?_, fun s b hserving hbusy hb hother hauto hraisedA hraisedB => ?_,
    fun s b hserving hbusy hb hother => ?_, fun s b hserving hbusy hout => ?_,
    fun s hserving hbusy hA hB hheld hchecking hwait => ?_, fun s wasA hwait hin => ?_, fun s b hserving hbusy => ?_⟩
  · exact answers rfl (safCmd_taken hserving hbusy _)
  · obtain ⟨hst, hcause, hother', -⟩ :=
      withdraw_takeover hraisedA hraisedB hauto hother (cause := 3) (by decide) (s.getF F.SAF_STAT_DRIVER)
    refine ⟨_, answers rfl (doWithdraw_ofTwo hserving hbusy hb hother), ?_, ?_, ?_, ?_⟩
    · exact (getF_setF_ne _ _ _ _ (by cases b <;> decide)).trans hst
    · exact (getF_setF_ne _ _ _ _ (by cases b <;> decide)).trans hcause
    · exact (getF_setF_ne _ _ _ _ (by cases b <;> decide)).trans hother'
    · rw [getF_setF_same]
      rfl
  · exact answers rfl (doWithdraw_ofOne hserving hbusy hb hother)
  · obtain ⟨honly, hsaf, hst, hstatus⟩ := doRestart_shows hserving hbusy hout
    by_cases h6 : s.planeSt b = 6
    · rw [if_pos h6] at honly hsaf
      refine ⟨doRestart b s, rfl, ?_, hst, hstatus, ?_⟩
      · rw [hsaf]
        exact honly
      · rw [hsaf, if_pos h6]
        cases b <;> rfl
    · rw [if_neg h6] at honly hsaf
      refine ⟨doRestart b s, rfl, ?_, hst, hstatus, ?_⟩
      · rw [hsaf]
        exact honly
      · rw [hsaf, if_neg h6]
  · obtain ⟨hholds, hdrill, hbusy', hstream, htally⟩ := startCheck_drillBegun hA hB
    have heq := doDrill_both hserving hbusy hA hB hheld hchecking hwait
    generalize s.drillBegun.startCheck false false = u at hholds hdrill hbusy' hstream htally heq
    exact ⟨_, answers rfl heq, hdrill, hholds.checking, hholds.held, (isF_setF_ne u _ _ 0 (by decide)).trans hbusy',
      getF_setF_same u _ 0, hstream, htally⟩
  · exact answers rfl (doDrillDeadline_passes hwait hin)
  · exact ⟨_, answers rfl (safCmd_taken hserving hbusy _), latentCleared_only s b, getF_setF_same _ _ _,
      fun _ => latentCleared_bits s b⟩

end Sys2Proof.Machine
end

section
/-! PROOF of PairsAndOrphanBeadsAreHandled. A pair that leaves service does so through `pairDown`, which empties its queues;
nothing that follows touches its state. -/

namespace Sys2Proof.Machine

/-! ### Discarding what waits at a CPU port (R29) -/

section
variable (s : State)

/-- Released references that are tallied change the data plane and the tallies alone, and no queue. -/
theorem releaseTallied_keeps (j : Nat) (l : List QRef) (s : State) :
    OnlyDp s (l.foldl (fun u r => (u.release r.item).tally j) s)
      ∧ (l.foldl (fun u r => (u.release r.item).tally j) s).dp.queues = s.dp.queues := by
  induction l generalizing s with
  | nil => exact ⟨.refl s, rfl⟩
  | cons r l ih =>
    obtain ⟨honly, hqueues⟩ := ih ((s.release r.item).tally j)
    exact ⟨((onlyDp_release s r.item).trans (onlyDp_tally _ j)).trans honly,
      hqueues.trans (by rw [tally_dp, release_queues])⟩

/-- The eight class queues of the pair's CPU port are empty. -/
theorem dropCpuQueues_shows (i : Nat) :
    OnlyDp s (s.dropCpuQueues i) ∧ ∀ cls < 8, (s.dropCpuQueues i).queue (32 + i) cls = [] := by
  unfold State.dropCpuQueues
  refine ⟨forN_rel s OnlyDp.refl OnlyDp.trans 8 _ fun c t _ => ?_, fun cls hcls => ?_⟩
  · exact (releaseTallied_keeps _ _ t).1.trans (u := State.setQueue _ _ _ _) rfl
  · refine forN_reaches (Q := fun _ => True) (P := fun t => t.queue (32 + i) cls = []) hcls trivial (fun _ _ _ _ => trivial)
      (fun t _ => queue_setQueue_same _ _ _ _) fun c t hc _ ht => ?_
    have hne : qkey (32 + i) cls ≠ qkey (32 + i) c := by unfold qkey; omega
    refine (queue_setQueue_ne _ _ hne).trans ((queue_of_queues ?_ _ _).trans ht)
    exact (releaseTallied_keeps _ _ t).2

end

/-! ### A pair leaves service (R248, R249) -/

/-- The fields that change while pair `i` leaves service. -/
def pairFields (i : Nat) : List Fld :=
  [F.SAF_PAIR_STAT_STATE i, F.SAF_PAIR_STAT_CAUSE i, F.SAF_PAIR_STAT_RESTARTS i, F.SAF_STAT_DEBUG_SPLIT,
    F.SAF_STAT_SAFE_STATE, F.SAF_STAT_DEGRADED] ++ postFields

/-- Between `s` and `t` pair `i` has left service in state `st` with cause `cause`: its queues are empty, the device is
degraded, and the registers beside `pairFields` and the pairs' want of firmware are as they were. -/
structure PairOut (s t : State) (i st cause : Nat) : Prop where
  state : t.getF (F.SAF_PAIR_STAT_STATE i) = st
  cause : t.getF (F.SAF_PAIR_STAT_CAUSE i) = cause
  degraded : t.isF F.SAF_STAT_DEGRADED = true
  queues : ∀ cls < 8, t.queue (32 + i) cls = []
  fields : FieldsKept s t (pairFields i)
  boot : t.boot = s.boot

namespace PairOut
variable {s t : State} {i st cause : Nat}

/-- The count of restarts goes up. -/
theorem restarts (h : PairOut s t i st cause) (hi : i < 2) : PairOut s (t.satF (F.SAF_PAIR_STAT_RESTARTS i) 1) i st cause where
  state := (getF_satF_ne t _ _ 1 (by simp only [Fld.key]; omega)).trans h.state
  cause := (getF_satF_ne t _ _ 1 (by simp only [Fld.key]; omega)).trans h.cause
  degraded := by rw [State.isF, getF_satF_ne t _ _ 1 (by simp only [Fld.key]; omega)]; exact h.degraded
  queues := h.queues
  fields := h.fields.setF (f := F.SAF_PAIR_STAT_RESTARTS i) _ (by simp [pairFields])
  boot := h.boot

theorem posted (h : PairOut s t i st cause) (hi : i < 2) (b c : Nat) : PairOut s (t.postFree b c) i st cause := by
  have hpost := fieldsKept_postFree t b c
  refine ⟨?_, ?_, ?_, fun cls hcls => ?_, ?_, ?_⟩
  · exact (hpost _ (notMem_postFields (by simp only [Fld.key]; omega))).trans h.state
  · exact (hpost _ (notMem_postFields (by simp only [Fld.key]; omega))).trans h.cause
  · exact (hpost.isF (by decide)).trans h.degraded
  · exact (queue_of_queues (congrArg DataPlane.queues (postFree_dp t b c)) _ _).trans (h.queues cls hcls)
  · exact h.fields.trans (hpost.mono (List.subset_append_right _ _))
  · rw [postFree_posted, withPosted_boot]; exact h.boot

/-- A pair in a state other than lockstep and debug split is down. -/
theorem down (h : PairOut s t i st cause) (h₁ : st ≠ 1) (h₄ : st ≠ 4) : t.pairUp i = false := by
  simp [State.pairUp, h.state, h₁, h₄]

/-- The other pair runs on. -/
theorem other (h : PairOut s t i st cause) (hi : i < 2) : t.pairUp (1 - i) = s.pairUp (1 - i) := by
  have hstate : (F.SAF_PAIR_STAT_STATE (1 - i)).key ∉ (pairFields i).map Fld.key := by
    interval_cases i <;> decide
  have hstage : F.GLB_RST_STAT_STAGE.key ∉ (pairFields i).map Fld.key := by interval_cases i <;> decide
  unfold State.pairUp
  rw [h.fields _ hstate, h.fields _ hstage, h.boot]

end PairOut

/-- A pair that leaves service shows its state and its cause, and nothing that follows in `pairDown` undoes them. -/
theorem pairDown_out {i st cause : Nat} (hi : i < 2) (hst : st < 8) (h₁ : st ≠ 1) (h₄ : st ≠ 4) (hcause : cause < 16)
    (s : State) : PairOut s (s.pairDown i st cause) i st cause := by
  unfold State.pairDown
  extract_lets s₁ s₂ s₃ ring s₄
  have hf₁ : FieldsKept s s₁ (pairFields i) :=
    ((FieldsKept.refl s _).setF _ (by simp [pairFields])).setF _ (by simp [pairFields])
  have hlater : FieldsKept s₁ s₃ [F.SAF_STAT_DEBUG_SPLIT, F.SAF_STAT_SAFE_STATE] :=
    ((FieldsKept.refl s₁ _).clrF i (by simp)).setB _ (by simp)
  have hregs₄ : s₄.regs = s₃.regs := by unfold s₄; split <;> rfl
  have hboot₄ : s₄.boot = s.boot := by
    have hboot₂ : s₂.boot = s₁.boot := by unfold s₂; rw [clrF_eq]
    unfold s₄; split <;> exact hboot₂
  obtain ⟨hdp, hempty⟩ := dropCpuQueues_shows (s₄.clearStage i) i
  generalize (s₄.clearStage i).dropCpuQueues i = u at hdp hempty
  have hregs : u.regs = s₃.regs := hdp.regs.trans hregs₄
  have hu : FieldsKept s₁ u [F.SAF_STAT_DEBUG_SPLIT, F.SAF_STAT_SAFE_STATE] := hlater.of_regs hregs
  have hstate : u.getF (F.SAF_PAIR_STAT_STATE i) = st := by
    rw [hu _ (by simp [Fld.key]; omega), getF_setF_ne _ _ _ _ (by simp [Fld.key]), getF_setF_same]
    exact Nat.mod_eq_of_lt hst
  have hcause' : u.getF (F.SAF_PAIR_STAT_CAUSE i) = cause := by
    rw [hu _ (by simp [Fld.key]; omega), getF_setF_same]
    exact Nat.mod_eq_of_lt hcause
  have hdegrade := (onlyFields_degrade u).2
  refine ⟨?_, ?_, ?_, hempty, ?_, ?_⟩
  · exact (hdegrade _ (by simp [Fld.key]; omega)).trans hstate
  · exact (hdegrade _ (by simp [Fld.key]; omega)).trans hcause'
  · exact degraded_of_pair u hi (by rw [hstate]; exact h₁) (by rw [hstate]; exact h₄)
  · exact (hf₁.trans (hu.mono (by simp [pairFields]))).trans (hdegrade.mono (by simp [pairFields]))
  · rw [(onlyFields_degrade u).1, hdp]
    exact hboot₄

theorem PairOut.fromTally {s t : State} {i st cause j : Nat} (h : PairOut (s.tally j) t i st cause) :
    PairOut s t i st cause where
  state := h.state
  cause := h.cause
  degraded := h.degraded
  queues := h.queues
  fields := ((FieldsKept.refl s _).of_regs (tally_regs s j)).trans h.fields
  boot := h.boot.trans (by rw [State.tally, tallyN_eq])

/-! ### LOCKSTEP_MISMATCH (R248) -/

section
variable {s : State} {i c : Nat}

theorem nearest_busCause (hc : c = 1 ∨ c = 2) : nearest [(1, 3)] c = c := by
  rcases hc with rfl | rfl <;> rfl

/-- A mismatch where no test has followed an earlier one leads to a restart. -/
theorem doLockstepMismatch_first (hi : i < 2) (hc : c = 1 ∨ c = 2) (hst : s.getF (F.SAF_PAIR_STAT_STATE i) = 1)
    (hup : s.pairUp i = true) (hagain : sget (fun _ => none) s.saf.pairAgain i = none) : doLockstepMismatch i c s =
      (((s.tally (T.safPair i)).pairDown i 3 c).satF (F.SAF_PAIR_STAT_RESTARTS i) 1).postFree 0x01 9 := by
  have hne : c ≠ 3 := by omega
  have hsaf : (s.tally (T.safPair i)).saf = s.saf := (onlyDp_tally s _).saf
  unfold doLockstepMismatch
  simp [Nat.mod_eq_of_lt hi, nearest_busCause hc, hup, hst, hne, hsaf, hagain]

/-- A mismatch within 1 s of the test that followed an earlier one is for good. -/
theorem doLockstepMismatch_again {f : Nat} (hi : i < 2) (hc : c = 1 ∨ c = 2) (hst : s.getF (F.SAF_PAIR_STAT_STATE i) = 1)
    (hup : s.pairUp i = true) (hagain : sget (fun _ => none) s.saf.pairAgain i = some f)
    (hsoon : s.tb.fab - f < 800000000) :
    doLockstepMismatch i c s = ((s.tally (T.safPair i)).pairDown i 5 7).postFree 0x01 10 := by
  have hne : c ≠ 3 := by omega
  have hsaf : (s.tally (T.safPair i)).saf = s.saf := (onlyDp_tally s _).saf
  unfold doLockstepMismatch
  simp [Nat.mod_eq_of_lt hi, nearest_busCause hc, hup, hst, hne, hsaf, hagain, hsoon]

/-! ### PAIR_INJECTION_TEST_DONE and PAIR_RESTART_DONE (R247, R248) -/

/-- A passing test notes its time, and lets a pair that is held in reset reload its firmware. -/
theorem doPairInjectionTestDone_passes (hi : i < 2) (hst : s.getF (F.SAF_PAIR_STAT_STATE i) ≠ 5) :
    let t := doPairInjectionTestDone i true s
    OnlyFields { s with saf := t.saf } t [F.SAF_PAIR_STAT_STATE i]
      ∧ sget (fun _ => none) t.saf.pairPass i = some s.tb.fab
      ∧ (s.getF (F.SAF_PAIR_STAT_STATE i) = 3 → t.getF (F.SAF_PAIR_STAT_STATE i) = 2) := by
  unfold doPairInjectionTestDone
  rw [Nat.mod_eq_of_lt hi, if_neg hst]
  extract_lets c saf u t
  have ht : t = if u.getF (F.SAF_PAIR_STAT_STATE i) = 3 then u.setF (F.SAF_PAIR_STAT_STATE i) 2 else u := rfl
  have hpass : sget (fun _ => none) u.saf.pairPass i = some s.tb.fab :=
    sget_sput_same s.saf.pairPass i (some s.tb.fab)
  clear_value t
  split at ht
  · subst ht
    exact ⟨(OnlyFields.refl _ _).setF 2 (List.mem_singleton_self _), hpass, fun _ => getF_setF_same _ _ _⟩
  next hheld =>
    subst ht
    exact ⟨OnlyFields.refl _ _, hpass, fun h => absurd h hheld⟩

/-- Firmware that matches its measurement returns the pair to lockstep. -/
theorem doPairRestartDone_verified (hi : i < 2) (hst : s.getF (F.SAF_PAIR_STAT_STATE i) = 2) (hfw : i ∉ s.boot.noFw)
    {fw : List Byte} (hmeas : (Config.sha384 fw).toNat = s.meas.fw) :
    doPairRestartDone i (some fw) s = (s.setF (F.SAF_PAIR_STAT_STATE i) 1).degrade := by
  unfold doPairRestartDone
  simp [Nat.mod_eq_of_lt hi, hst, hfw, hmeas]

end

/-! ### The settled statement -/

/-- Settles O16: a pair that leaves service is `PairOut`, which nothing that follows undoes. -/
theorem pairsAndOrphanBeadsAreHandled : Obligations.PairsAndOrphanBeadsAreHandled := by
  unfold Obligations.PairsAndOrphanBeadsAreHandled
  refine ⟨fun s i c hi hc hst hup hagain => ?_, fun s i c f hi hc hst hup hagain hsoon => ?_, fun s i hi hst => ?_,
    fun s i hi hst hfw fw hmeas => ?_, fun s => ?_⟩
  · have hout := (((pairDown_out hi (by decide) (by decide) (by decide) (by omega)
      (s.tally (T.safPair i))).restarts hi).posted hi 0x01 9).fromTally (st := 3) (cause := c)
    exact ⟨_, answers rfl (doLockstepMismatch_first hi hc hst hup hagain), hout.state, hout.cause,
      hout.down (by decide) (by decide), hout.degraded, hout.queues, hout.other hi⟩
  · have hout := ((pairDown_out hi (by decide) (by decide) (by decide) (by decide)
      (s.tally (T.safPair i))).posted hi 0x01 10).fromTally (st := 5) (cause := 7)
    exact ⟨_, answers rfl (doLockstepMismatch_again hi hc hst hup hagain hsoon), hout.state, hout.cause,
      hout.down (by decide) (by decide)⟩
  · exact ⟨_, rfl, doPairInjectionTestDone_passes hi hst⟩
  · have hset : OnlyFields s (s.setF (F.SAF_PAIR_STAT_STATE i) 1) [F.SAF_PAIR_STAT_STATE i] :=
      (OnlyFields.refl s _).setF 1 (List.mem_singleton_self _)
    have hdegrade := onlyFields_degrade (s.setF (F.SAF_PAIR_STAT_STATE i) 1)
    refine ⟨_, answers rfl (doPairRestartDone_verified hi hst hfw hmeas),
      (hset.mono (by simp)).trans (hdegrade.mono (by simp)), ?_⟩
    rw [hdegrade.2 _ (by simp [Fld.key]; omega), getF_setF_same]
    rfl
  · refine ⟨doOrphanBeadReclaim s, rfl, rfl, ?_⟩
    simp only [List.sum_eq_foldl, List.foldl_map]
    rfl

end Sys2Proof.Machine
end

section
/-! SUPPORT. The key store: what its checks read, what storing a slot changes, and how a key command that is taken at once
begins and ends (R263, R264). -/

namespace Sys2Proof.Machine

/-- A field of a requester's own set and one of BAR0 are as distinct as the fields of BAR0. -/
theorem reqF_key_ne_global (r : Nat) {f g : Fld} (h : g.key ≠ f.key) (hg : g.key < ownStep * 32)
    (hf : f.key < ownStep * 32) : (reqF r g).key ≠ f.key := by
  rw [reqF_key]
  unfold ownStep at *
  split <;> omega

/-- The fields of a requester's set below KEY_USES lie at no field of the key store's status. -/
theorem reqF_key_ne_global_lt (r : Nat) {g : Fld} (hoff : g.off < 0x240010) (hlo : g.lo < 32) :
    (reqF r g).key ≠ F.KEY_STORE_STAT_FREE.key :=
  reqF_key_ne_global r (by simp only [Fld.key]; omega) (by simp only [Fld.key, ownStep]; omega) (by decide)

section
variable (s : State) (i : Nat) (k : KeySlot)

/-! ### Storing a slot (R261, R269) -/

@[simp] theorem setSlot_tly : (s.setSlot i k).tly = s.tly := rfl
@[simp] theorem setSlot_tables : (s.setSlot i k).tables = s.tables := rfl
@[simp] theorem setSlot_drawn : (s.setSlot i k).key.drawn = s.key.drawn := rfl
@[simp] theorem setSlot_sweeps : (s.setSlot i k).key.sweeps = s.key.sweeps := rfl

theorem getF_countFree_ne {g : Fld} (h : g.key ≠ F.KEY_STORE_STAT_FREE.key) : s.countFree.getF g = s.getF g :=
  getF_setF_ne _ _ _ _ h

theorem getF_setSlot_ne {g : Fld} (h : g.key ≠ F.KEY_STORE_STAT_FREE.key) : (s.setSlot i k).getF g = s.getF g :=
  getF_countFree_ne _ h

@[simp] theorem slot_setSlot_same : (s.setSlot i k).slot i = k := sget_sput_same ..

theorem slot_setSlot_ne {j : Nat} (h : j ≠ i) : (s.setSlot i k).slot j = s.slot j := sget_sput_ne _ _ h

theorem slot_of_key {s t : State} (h : t.key = s.key) (j : Nat) : t.slot j = s.slot j := by unfold State.slot; rw [h]

/-- A slot without a limit of uses is used without a trace. -/
theorem useSlot_unlimited (h : (s.slot i).uses = 0xFFFFFF) : s.useSlot i = s := by
  unfold State.useSlot
  split
  · rfl
  · exact if_pos h

theorem useSlot_limited (hi : i ≠ rootIx) (h : (s.slot i).uses ≠ 0xFFFFFF) :
    s.useSlot i = s.setSlot i { s.slot i with uses := (s.slot i).uses - 1 } := by
  unfold State.useSlot
  rw [if_neg hi]
  exact if_neg h

/-- A use leaves the state as it is, or stores the slot with one use fewer. -/
theorem useSlot_cases : s.useSlot i = s ∨
    i ≠ rootIx ∧ s.useSlot i = s.setSlot i { s.slot i with uses := (s.slot i).uses - 1 } := by
  by_cases hi : i = rootIx
  · exact .inl (if_pos hi)
  · by_cases h : (s.slot i).uses = 0xFFFFFF
    · exact .inl (useSlot_unlimited s i h)
    · exact .inr ⟨hi, useSlot_limited s i hi h⟩

@[simp] theorem useSlot_tly : (s.useSlot i).tly = s.tly := by
  obtain e | ⟨-, e⟩ := useSlot_cases s i <;> rw [e]
  rfl

theorem getF_useSlot_ne {g : Fld} (h : g.key ≠ F.KEY_STORE_STAT_FREE.key) : (s.useSlot i).getF g = s.getF g := by
  obtain e | ⟨-, e⟩ := useSlot_cases s i <;> rw [e]
  exact getF_setSlot_ne s i _ h

theorem slot_useSlot_ne {j : Nat} (h : j ≠ i) : (s.useSlot i).slot j = s.slot j := by
  obtain e | ⟨-, e⟩ := useSlot_cases s i <;> rw [e]
  exact slot_setSlot_ne s i _ h

/-- What a slot gives its children is not a matter of its USES. -/
theorem parentOf_useSlot : ∃ n, (s.useSlot i).parentOf i = { s.parentOf i with uses := n } := by
  obtain e | ⟨hi, e⟩ := useSlot_cases s i <;> rw [e]
  · exact ⟨_, rfl⟩
  · refine ⟨(s.slot i).uses - 1, ?_⟩
    unfold State.parentOf
    rw [if_neg hi, if_neg hi, slot_setSlot_same]

/-! ### Checks that a command passes -/

theorem ne_root_of_source {r : Nat} {usage : Option Nat} (h : s.source r i usage false = none) : i ≠ rootIx := by
  rintro rfl
  simp [State.source] at h

theorem active_of_source {r : Nat} {usage : Option Nat} {asRoot : Bool} (hi : i ≠ rootIx)
    (h : s.source r i usage asRoot = none) : s.slotThere i = true ∧ (s.slot i).state ≠ 0 := by
  unfold State.source at h
  rw [if_neg hi] at h
  by_cases hfree : (!s.slotThere i || (s.slot i).state == 0) = true
  · simp [hfree] at h
  · simpa using hfree

/-- A FREE slot passes no check for a source. -/
theorem ne_of_free {s : State} {r i a : Nat} {usage : Option Nat} {asRoot : Bool} (hfree : (s.slot i).state = 0)
    (ha : a ≠ rootIx) (h : s.source r a usage asRoot = none) : i ≠ a := by
  rintro rfl
  exact (active_of_source s i ha h).2 hfree

theorem named_of_there (h : s.slotThere i = true) : s.named i = none := if_pos (by simp [h])

theorem target_free (hi : i < 1023) (hthere : s.slotThere i = true) (hfree : (s.slot i).state = 0) :
    s.target i = (i, none) := by
  have hroot : i ≠ rootIx := hi.ne
  simp [State.target, hroot, hthere, hfree]

theorem tooDeep_none {a : Nat} (h : (s.parentOf a).level < 4) : s.tooDeep a = none := if_neg (by omega)

theorem parentOf_slot {a : Nat} (h : a ≠ rootIx) : s.parentOf a = s.slot a := if_neg h

end

/-! ### The course of a command (R263) -/

section
variable (s : State) (r op st : Nat)

/-- LAST_OP names the command: the state that it runs on. -/
def State.keyBegun : State := s.setF (reqF r F.KEY_STAT_LAST_OP) op

/-- STATUS is written and tallied: what the command leaves. -/
def State.keyDone : State := (s.setF (reqF r F.KEY_STAT_STATUS) st).tally (T.key r st)

theorem min_keyRequester {s : State} {r : Nat} (h : s.KeyTakes r) : min r 2 = r := by have := h.1; omega

/-- A command that is taken at once runs behind the write of LAST_OP. -/
theorem keyCmd_ends {s : State} {r op st : Nat} {run : State → Nat × State} {u : State} (h : s.KeyTakes r)
    (hrun : run (s.keyBegun r op) = (st, u)) : s.keyCmd r op run = u.keyDone r st := by
  obtain ⟨hr, hup, hserving, hbusy, hready⟩ := h
  have hready' : (s.keyBegun r op).isF F.KEY_STORE_STAT_READY = true :=
    (isF_setF_ne _ _ _ _ (reqF_key_ne_global r (by decide) (by decide) (by decide)).symm).trans hready
  unfold State.keyBegun at hrun hready'
  by_cases hhost : r = 2
  · have hserving := hserving hhost
    subst hhost
    simp [State.keyCmd, State.busGate, State.keyDone, hup, hbusy, hready', hrun, hserving]
  · simp [State.keyCmd, State.keyDone, hup, hbusy, hready', hrun, hhost]

@[simp] theorem keyDone_key : (s.keyDone r st).key = s.key := by rw [State.keyDone, State.tally, tallyN_eq]; rfl

/-- The write of LAST_OP changes no other field of the requester's set. -/
theorem getF_keyBegun {g : Fld} (h : g.key ≠ F.KEY_STAT_LAST_OP.key) :
    (s.keyBegun r op).getF (reqF r g) = s.getF (reqF r g) := getF_setF_reqF_ne s r op h

/-- The write of LAST_OP changes no field of BAR0 but the host's own LAST_OP. -/
theorem getF_keyBegun_global {g : Fld} (h : g.key ≠ F.KEY_STAT_LAST_OP.key) (hg : g.key < ownStep * 32) :
    (s.keyBegun r op).getF g = s.getF g :=
  getF_setF_ne _ _ _ _ (reqF_key_ne_global r h.symm (by decide) hg).symm

theorem isF_keyBegun_global {g : Fld} (h : g.key ≠ F.KEY_STAT_LAST_OP.key) (hg : g.key < ownStep * 32) :
    (s.keyBegun r op).isF g = s.isF g := by
  unfold State.isF; rw [getF_keyBegun_global s r op h hg]

theorem lastOp_keyBegun (h : op < 16) : (s.keyBegun r op).getF (reqF r F.KEY_STAT_LAST_OP) = op := by
  unfold State.keyBegun; rw [getF_setF_reqF_same]
  exact Nat.mod_eq_of_lt h

theorem lastOp_useSlot (a : Nat) (h : op < 16) :
    ((s.keyBegun r op).useSlot a).getF (reqF r F.KEY_STAT_LAST_OP) = op :=
  (getF_useSlot_ne _ _ (reqF_key_ne_global r (by decide) (by decide) (by decide))).trans (lastOp_keyBegun s r op h)

theorem getF_keyDone_ne {g : Fld} (h : g.key ≠ (reqF r F.KEY_STAT_STATUS).key) : (s.keyDone r st).getF g = s.getF g :=
  (getF_of_regs (tally_regs _ _) g).trans (getF_setF_ne _ _ _ _ h)

theorem getF_keyDone {g : Fld} (h : g.key ≠ F.KEY_STAT_STATUS.key) :
    (s.keyDone r st).getF (reqF r g) = s.getF (reqF r g) := getF_keyDone_ne s r st (reqF_key_ne r h)

/-- The tallies of the key store count always. -/
theorem tallyCounts_key {r st : Nat} (hr : r < 3) (hst : st < 12) : s.tallyCounts (T.key r st) = true := by
  have hlow : 0x30000 ≤ T.key r st := by unfold T.key; omega
  have hhigh : T.key r st < 0x30024 := by unfold T.key; omega
  simp [State.tallyCounts, tallyFamilies, State.unitCounts, hlow, hhigh]

/-- A command that kept LAST_OP and the tallies has ended with its status. -/
theorem keyDone_ended {s u : State} {r op st : Nat} (h : s.KeyTakes r) (hst : st < 12) (htly : u.tly = s.tly)
    (hop : u.getF (reqF r F.KEY_STAT_LAST_OP) = op) : KeyEnded s (u.keyDone r st) r op st := by
  refine ⟨?_, (getF_keyDone u r st (by decide)).trans hop, ?_⟩
  · rw [State.keyDone, getF_of_regs (tally_regs _ _), getF_setF_reqF_same]
    exact Nat.mod_eq_of_lt (hst.trans (by decide))
  · rw [Counted, State.keyDone, State.tally, tallyOf_tallyN, if_pos ⟨rfl, tallyCounts_key _ h.1 hst⟩]
    exact congrArg (fun n => (n + 1) % 2 ^ 64) (tallyOf_of_tly htly _)

/-! ### What a command reads behind the write of LAST_OP -/

theorem slot_keyBegun (i : Nat) : (s.keyBegun r op).slot i = s.slot i := rfl
theorem badPath_keyBegun (i : Nat) : (s.keyBegun r op).badPath i = s.badPath i := rfl
theorem orphan_keyBegun (i : Nat) : (s.keyBegun r op).orphan i = s.orphan i := rfl

theorem slotThere_keyBegun (i : Nat) : (s.keyBegun r op).slotThere i = s.slotThere i := by
  unfold State.slotThere; rw [getF_keyBegun_global s r op (by decide) (by decide)]

theorem source_keyBegun (q i : Nat) (usage : Option Nat) (asRoot : Bool) :
    (s.keyBegun r op).source q i usage asRoot = s.source q i usage asRoot := by
  unfold State.source
  rw [slotThere_keyBegun, badPath_keyBegun, orphan_keyBegun, slot_keyBegun]

theorem keyArgs_keyBegun : (s.keyBegun r op).keyArgs r = s.keyArgs r := by
  unfold State.keyArgs
  rw [getF_keyBegun s r op (by decide), getF_keyBegun s r op (by decide)]

theorem keyIn_keyBegun : (s.keyBegun r op).keyIn r = s.keyIn r := by
  unfold State.keyIn
  simp only [getF_keyBegun s r op (g := F.KEY_LEN_LEN) (by decide),
    fun k => getF_keyBegun s r op (g := F.KEY_IN_DATA k) (by simp only [Fld.key]; omega)]

end
end Sys2Proof.Machine
end

section
/-! PROOF of KeyCommandsCreateSlots. Each command ends in `makeSlot`: GENERATE on the state behind its DRBG output, DERIVE and
IMPORT_WRAPPED on the state behind one use of the parent, and each reads what the command found behind the write of LAST_OP. -/

namespace Sys2Proof.Machine

/-- What `makeSlot` stores in slot `i` under parent `a` (R262, R264). -/
def State.newSlot (s : State) (r i a k : Nat) (derived : Bool) : KeySlot :=
  let p := s.parentOf a
  let ty := min 2 (s.getF (reqF r F.KEY_ATTR_TYPE))
  let usage := s.getF (reqF r F.KEY_ATTR_USAGE) &&& usageMask ty
  let perm := s.getF (reqF r F.KEY_ATTR_PERM)
  { key := k % 2 ^ keyBits ty, state := 1, ty := ty, level := p.level + 1, parent := a, pgen := p.gen
    gen := (s.slot i).gen, expire := s.isF (reqF r F.KEY_ATTR_EXPIRE_RESET) || p.expire
    usage := if derived then usage &&& p.usage else usage
    perm := if derived then perm &&& p.perm else perm
    uses := s.getF (reqF r F.KEY_USES_USES), maskSel := (s.slot i).maskSel }

section
variable {s u : State} {r op i a k : Nat}

/-- The state that a command ends in which makes slot `i` on the state `u`. -/
def State.withSlot (u : State) (r i a k : Nat) (derived : Bool) : State :=
  (u.makeSlot r i a k derived).setF (reqF r F.KEY_RESULT_OUT_LEN) 0

theorem withSlot_eq (derived : Bool) : u.withSlot r i a k derived =
    ((u.setSlot i (u.newSlot r i a k derived)).setF (reqF r F.KEY_RESULT_SLOT) i).setF (reqF r F.KEY_RESULT_OUT_LEN) 0 := rfl

/-- What a command leaves that has made slot `i` on the state `u`. -/
structure SlotMade (s u t : State) (r op i : Nat) (k : KeySlot) : Prop where
  ended : KeyEnded s t r op 0
  made : t.slot i = k
  result : t.getF (reqF r F.KEY_RESULT_SLOT) = i
  others : ∀ j, j ≠ i → t.slot j = u.slot j
  drawn : t.key.drawn = u.key.drawn

theorem withSlot_made (derived : Bool) (h : s.KeyTakes r) (hi : i < 1023) (htly : u.tly = s.tly)
    (hop : u.getF (reqF r F.KEY_STAT_LAST_OP) = op) :
    SlotMade s u ((u.withSlot r i a k derived).keyDone r 0) r op i (u.newSlot r i a k derived) := by
  rw [withSlot_eq]
  generalize u.newSlot r i a k derived = new
  have hslot : ∀ j, (State.keyDone (((u.setSlot i new).setF (reqF r F.KEY_RESULT_SLOT) i).setF
      (reqF r F.KEY_RESULT_OUT_LEN) 0) r 0).slot j = (u.setSlot i new).slot j := slot_of_key (by simp)
  refine ⟨keyDone_ended h (by decide) (by simp [htly]) ?_, (hslot i).trans (slot_setSlot_same ..), ?_,
    fun j hj => (hslot j).trans (slot_setSlot_ne _ _ _ hj), by simp⟩
  · rw [getF_setF_reqF_ne _ _ _ (by decide), getF_setF_reqF_ne _ _ _ (by decide),
      getF_setSlot_ne _ _ _ (reqF_key_ne_global r (by decide) (by decide) (by decide)), hop]
  · rw [getF_keyDone _ _ _ (by decide), getF_setF_reqF_ne _ _ _ (by decide), getF_setF_reqF_same]
    exact Nat.mod_eq_of_lt (hi.trans (by decide))

/-- The attributes of a new slot are read from KEY_ATTR and KEY_USES, the slot and its parent. -/
theorem newSlot_congr (derived : Bool)
    (hattr : ∀ g : Fld, g.off < 0x240010 → g.lo < 32 → u.getF (reqF r g) = s.getF (reqF r g))
    (hslot : u.slot i = s.slot i) (hparent : ∃ n, u.parentOf a = { s.parentOf a with uses := n }) :
    u.newSlot r i a k derived = s.newSlot r i a k derived := by
  obtain ⟨n, hparent⟩ := hparent
  unfold State.newSlot State.isF
  rw [hslot, hparent, hattr _ (by decide) (by decide), hattr _ (by decide) (by decide), hattr _ (by decide) (by decide),
    hattr _ (by decide) (by decide), hattr _ (by decide) (by decide)]

theorem attr_keyBegun (g : Fld) (hoff : g.off < 0x240010) (hlo : g.lo < 32) :
    (s.keyBegun r op).getF (reqF r g) = s.getF (reqF r g) :=
  getF_keyBegun s r op (by simp only [Fld.key]; omega)

/-- A use of the parent changes nothing that the new slot is made of. -/
theorem newSlot_useSlot (hia : i ≠ a) :
    ((s.keyBegun r op).useSlot a).newSlot r i a k true = s.newSlot r i a k true :=
  newSlot_congr true
    (fun g hoff hlo => (getF_useSlot_ne _ _ (reqF_key_ne_global_lt r hoff hlo)).trans (attr_keyBegun g hoff hlo))
    (slot_useSlot_ne _ _ hia) (parentOf_useSlot _ _)

/-- A derived slot holds no USAGE and no PERM beyond its parent's (R262). -/
theorem newSlot_within_parent : let k' := s.newSlot r i a k true
    k'.usage &&& (s.parentOf a).usage = k'.usage ∧ k'.perm &&& (s.parentOf a).perm = k'.perm := by
  constructor <;> exact (Nat.and_assoc ..).trans (congrArg (_ &&& ·) (Nat.and_self _))

/-- SLOT of requester `r` names slot `i`, which is present and FREE, and AUX is `a`. -/
structure FreeTarget (s : State) (r i a : Nat) : Prop where
  args : s.keyArgs r = (i, a)
  lt : i < 1023
  there : s.slotThere i = true
  free : (s.slot i).state = 0

theorem FreeTarget.keyBegun (h : FreeTarget s r i a) (op : Nat) : FreeTarget (s.keyBegun r op) r i a :=
  ⟨(keyArgs_keyBegun s r op).trans h.args, h.lt, (slotThere_keyBegun s r op i).trans h.there, h.free⟩

theorem FreeTarget.named (h : FreeTarget s r i a) : s.named i = none := named_of_there s i h.there

theorem FreeTarget.target (h : FreeTarget s r i a) : s.target i = (i, none) := target_free s i h.lt h.there h.free

/-! ### GENERATE -/

theorem keyGenerate_passes (hi : FreeTarget s r i a) (hsource : s.source r a none true = none)
    (hdrbg : s.isF F.KEY_STORE_STAT_DRBG_FAIL = false) (hlevel : (s.parentOf a).level < 4) :
    s.keyGenerate r = (0, s.draw.2.withSlot r i a (Config.drbg s.key.drawn).toNat false) := by
  simp only [State.keyGenerate, hi.args, hi.target, hi.named, hsource, hdrbg, tooDeep_none s hlevel, guard, firstSome]
  rfl

theorem doGenerate_makes (h : s.KeyTakes r) (hi : FreeTarget s r i a) (hsource : s.source r a none true = none)
    (hdrbg : s.isF F.KEY_STORE_STAT_DRBG_FAIL = false) (hlevel : (s.parentOf a).level < 4) :
    SlotMade s (s.keyBegun r 1).draw.2 (doGenerate r s) r 1 i
      (s.newSlot r i a (Config.drbg s.key.drawn).toNat false) := by
  have hrun := keyGenerate_passes (hi.keyBegun 1) ((source_keyBegun s r 1 ..).trans hsource)
    ((isF_keyBegun_global s r 1 (by decide) (by decide)).trans hdrbg) hlevel
  have hnew : (s.keyBegun r 1).draw.2.newSlot r i a (Config.drbg s.key.drawn).toNat false = s.newSlot r i a _ false :=
    newSlot_congr false attr_keyBegun rfl ⟨_, rfl⟩
  rw [doGenerate, min_keyRequester h, keyCmd_ends h hrun, ← hnew]
  exact withSlot_made false h hi.lt rfl (lastOp_keyBegun s r 1 (by decide))

/-! ### DERIVE -/

/-- The key that DERIVE gives under slot `a` for a label of one byte and a context of two (R267). -/
def State.derived (s : State) (r a : Nat) : Nat :=
  kdf ((s.slot a).ty == 2) (s.slot a).key (keyBits (s.getF (reqF r F.KEY_ATTR_TYPE)))
    [(s.keyIn r).getD 1 0] [(s.keyIn r).getD 2 0, (s.keyIn r).getD 3 0]

theorem derived_keyBegun : (s.keyBegun r op).derived r a = s.derived r a := by
  unfold State.derived
  rw [keyIn_keyBegun, slot_keyBegun, attr_keyBegun _ (by decide) (by decide)]

theorem keyDerive_passes (hi : FreeTarget s r i a) (ha : a ≠ rootIx) (hsource : s.source r a (some 0) true = none)
    (hlevel : (s.slot a).level < 4) (hlen : (s.keyIn r).length = 4) (hlabel : byteAt (s.keyIn r) 0 = 1) :
    s.keyDerive r = (0, (s.useSlot a).withSlot r i a (s.derived r a) true) := by
  have hparent := parentOf_slot s ha
  have hdeep := tooDeep_none s (hparent.symm ▸ hlevel)
  unfold State.derived
  simp only [State.keyDerive, hi.args, hi.target, hi.named, hsource, hdeep, hlabel, hlen, hparent, guard, firstSome]
  match s.keyIn r, hlen with
  | [_, _, _, _], _ => rfl

theorem doDerive_makes (h : s.KeyTakes r) (hi : FreeTarget s r i a) (ha : a ≠ rootIx)
    (hsource : s.source r a (some 0) true = none) (hlevel : (s.slot a).level < 4) (hlen : (s.keyIn r).length = 4)
    (hlabel : byteAt (s.keyIn r) 0 = 1) :
    SlotMade s ((s.keyBegun r 2).useSlot a) (doDerive r s) r 2 i (s.newSlot r i a (s.derived r a) true) := by
  have hin := keyIn_keyBegun s r 2
  have hrun := keyDerive_passes (hi.keyBegun 2) ha ((source_keyBegun s r 2 ..).trans hsource) hlevel
    (hin.symm ▸ hlen) (hin.symm ▸ hlabel)
  rw [derived_keyBegun] at hrun
  rw [doDerive, min_keyRequester h, keyCmd_ends h hrun, ← newSlot_useSlot (op := 2) (ne_of_free hi.free ha hsource)]
  exact withSlot_made true h hi.lt (useSlot_tly _ _) (lastOp_useSlot s r 2 a (by decide))

/-! ### IMPORT_WRAPPED -/

/-- What the unwrapping of KEY_IN under slot `a` gives (R268). -/
def State.unwrapped (s : State) (r a : Nat) : Option (List Byte) :=
  keyUnwrap (s.slot a).key (keyBits (s.slot a).ty) (keyBits (s.getF (reqF r F.KEY_ATTR_TYPE)) / 64) (s.keyIn r)

theorem unwrapped_keyBegun : (s.keyBegun r op).unwrapped r a = s.unwrapped r a := by
  unfold State.unwrapped
  rw [keyIn_keyBegun, slot_keyBegun, attr_keyBegun _ (by decide) (by decide)]

/-- A wrapped key of the right length is unwrapped; AUTH_FAIL changes nothing, and a key that passes goes into the slot. -/
theorem keyImport_unwraps (hi : FreeTarget s r i a) (hsource : s.source r a (some 1) false = none)
    (hlevel : (s.slot a).level < 4) (hlen : (s.keyIn r).length = keyBits (s.getF (reqF r F.KEY_ATTR_TYPE)) / 8 + 8) :
    s.keyImport r = match s.unwrapped r a with
      | none => (6, s)
      | some p => (0, (s.useSlot a).withSlot r i a (beNat p) true) := by
  have hdeep := tooDeep_none s ((parentOf_slot s (ne_root_of_source s a hsource)).symm ▸ hlevel)
  have hplain : (if (s.keyIn r).length = keyBits (s.getF (reqF r F.KEY_ATTR_TYPE)) / 8 + 8 then
      keyUnwrap (s.slot a).key (keyBits (s.slot a).ty) (keyBits (s.getF (reqF r F.KEY_ATTR_TYPE)) / 8 / 8) (s.keyIn r)
      else none) = s.unwrapped r a := by
    rw [if_pos hlen, Nat.div_div_eq_div_mul]
    rfl
  simp only [State.keyImport, hi.args, hi.target, hi.named, hsource, hdeep, hplain, guard, firstSome]
  cases s.unwrapped r a <;> rfl

theorem keyImport_keyBegun (hi : FreeTarget s r i a) (hsource : s.source r a (some 1) false = none)
    (hlevel : (s.slot a).level < 4) (hlen : (s.keyIn r).length = keyBits (s.getF (reqF r F.KEY_ATTR_TYPE)) / 8 + 8) :
    (s.keyBegun r 3).keyImport r = match s.unwrapped r a with
      | none => (6, s.keyBegun r 3)
      | some p => (0, ((s.keyBegun r 3).useSlot a).withSlot r i a (beNat p) true) := by
  rw [keyImport_unwraps (hi.keyBegun 3) ((source_keyBegun s r 3 ..).trans hsource) hlevel
    (by rw [keyIn_keyBegun, attr_keyBegun _ (by decide) (by decide), hlen]), unwrapped_keyBegun]

theorem doImportWrapped_fails (h : s.KeyTakes r) (hi : FreeTarget s r i a) (hsource : s.source r a (some 1) false = none)
    (hlevel : (s.slot a).level < 4) (hlen : (s.keyIn r).length = keyBits (s.getF (reqF r F.KEY_ATTR_TYPE)) / 8 + 8)
    (hplain : s.unwrapped r a = none) : doImportWrapped r s = (s.keyBegun r 3).keyDone r 6 := by
  have hrun := keyImport_keyBegun hi hsource hlevel hlen
  rw [hplain] at hrun
  rw [doImportWrapped, min_keyRequester h, keyCmd_ends h hrun]

theorem doImportWrapped_makes (h : s.KeyTakes r) (hi : FreeTarget s r i a) (hsource : s.source r a (some 1) false = none)
    (hlevel : (s.slot a).level < 4) (hlen : (s.keyIn r).length = keyBits (s.getF (reqF r F.KEY_ATTR_TYPE)) / 8 + 8)
    {p : List Byte} (hplain : s.unwrapped r a = some p) :
    SlotMade s ((s.keyBegun r 3).useSlot a) (doImportWrapped r s) r 3 i (s.newSlot r i a (beNat p) true) := by
  have hrun := keyImport_keyBegun hi hsource hlevel hlen
  rw [hplain] at hrun
  rw [doImportWrapped, min_keyRequester h, keyCmd_ends h hrun,
    ← newSlot_useSlot (op := 3) (ne_of_free hi.free (ne_root_of_source s a hsource) hsource)]
  exact withSlot_made true h hi.lt (useSlot_tly _ _) (lastOp_useSlot s r 3 a (by decide))

end

/-- Settles O33: whatever command makes the slot, it holds `newSlot` of the state that the command found. -/
theorem keyCommandsCreateSlots : Obligations.KeyCommandsCreateSlots := by
  unfold Obligations.KeyCommandsCreateSlots
  refine ⟨fun s r i h hslot hi hthere hfree hsource hdrbg hlevel => ?_,
    fun s r i a h hslot hi hthere hfree haux ha hsource hlevel huses hlen hlabel => ?_,
    fun s r i a h hslot hi hthere hfree haux hsource hlevel hlen => ?_⟩
  · obtain ⟨hended, hmade, hresult, hothers, hdrawn⟩ :=
      doGenerate_makes h ⟨Prod.ext hslot rfl, hi, hthere, hfree⟩ hsource hdrbg hlevel
    refine ⟨_, answers rfl rfl, hended, ?_, ?_, ?_, ?_, ?_, ?_, ?_, hresult, hothers, hdrawn⟩ <;> rw [hmade] <;> rfl
  · obtain ⟨hended, hmade, -, hothers, -⟩ :=
      doDerive_makes h ⟨Prod.ext hslot haux, hi, hthere, hfree⟩ ha hsource hlevel hlen hlabel
    have hia := ne_of_free hfree ha hsource
    have hparent := parentOf_slot s ha
    obtain ⟨husage, hperm⟩ := newSlot_within_parent (s := s) (r := r) (i := i) (a := a) (k := s.derived r a)
    rw [hparent] at husage hperm
    refine ⟨_, answers rfl rfl, hended, by rw [hmade]; rfl, by rw [hmade]; rfl, by rw [hmade, ← hparent]; rfl, ?_,
      hmade ▸ husage, hmade ▸ hperm, fun j hji hja => (hothers j hji).trans (slot_useSlot_ne _ _ hja)⟩
    rw [hothers a hia.symm, useSlot_limited (s.keyBegun r 2) a ha huses, slot_setSlot_same]
    rfl
  · have ha := ne_root_of_source s a hsource
    have htarget : FreeTarget s r i a := ⟨Prod.ext hslot haux, hi, hthere, hfree⟩
    have fails := doImportWrapped_fails h htarget hsource hlevel hlen
    have makes := fun p => doImportWrapped_makes h htarget hsource hlevel hlen (p := p)
    have kept := fun hp j => (congrArg (State.slot · j) (fails hp)).trans (slot_of_key (keyDone_key (s.keyBegun r 3) r 6) j)
    refine ⟨_, answers rfl rfl, fun j hji hja => ?_, fun hp => ?_, fun p hp => ?_⟩
    · cases hp : s.unwrapped r a with
      | none => exact kept hp j
      | some p => exact ((makes p hp).others j hji).trans (slot_useSlot_ne _ _ hja)
    · refine ⟨?_, kept hp i, kept hp a⟩
      rw [fails hp]
      exact keyDone_ended h (by decide) rfl (lastOp_keyBegun s r 3 (by decide))
    · obtain ⟨hended, hmade, hresult, -, -⟩ := makes p hp
      refine ⟨hended, ?_, ?_, ?_, hresult, ?_⟩ <;> rw [hmade]
      · rfl
      · rw [← parentOf_slot s ha]; rfl
      · rfl
      · rfl

end Sys2Proof.Machine
end

section
/-! REFUTATION of KeyCommandsUseSlots. -/

namespace Sys2Proof.Machine

/-- A device in service whose key store counts 1,024 slots, one more than the 10 bits of GLB_KEY_SLOTS.COUNT can say, and holds
an ACTIVE slot under index 1,023, which SLOT of the host names. -/
def manySlots : State :=
  let s := ((State.reset.setF F.GLB_RST_STAT_STAGE 9).setF F.KEY_STORE_STAT_READY 1).setF F.KEY_SLOT_SLOT 1023
  { s with
    regs := sput fieldReset s.regs F.GLB_KEY_SLOTS_COUNT.key 1024
    key := { slots := [(1023, { state := 1, perm := 7 })] } }

theorem manySlots_takes : manySlots.KeyTakes 2 := by
  refine ⟨by decide, rfl, fun _ => ?_, ?_, ?_⟩ <;> decide +kernel

theorem manySlots_named : (manySlots.keyArgs 2).1 = 1023 ∧ manySlots.slotThere 1023 = true ∧ (manySlots.slot 1023).state = 1
    ∧ bit (manySlots.slot 1023).perm 2 = true := by
  decide +kernel

/-- The path from index 1,023, which names the root, is empty: no link and no check value on it can fail. -/
theorem path_root (s : State) : s.orphan rootIx = false ∧ s.badPath rootIx = false := ⟨rfl, rfl⟩

/-- The host may not name the root: INVALIDATE answers LOCKED. -/
theorem doInvalidate_manySlots : (doInvalidate 2 manySlots).getF (reqF 2 F.KEY_STAT_STATUS) = 10 := by decide +kernel

/-- Refutes O34: index 1,023 names the root (R257), which INVALIDATE refuses (R264 step 3), and the clause on INVALIDATE does
not leave it out. COUNT has 10 bits, so no command stores more than 1,023 in it, but a state may hold 1,024 there: then index
1,023 lies below the count, an ACTIVE slot may be listed under it, and the command ends with LOCKED where the clause says OK. -/
theorem not_keyCommandsUseSlots : ¬ Obligations.KeyCommandsUseSlots := by
  unfold Obligations.KeyCommandsUseSlots
  rintro ⟨-, -, -, -, -, hInvalidate, -⟩
  obtain ⟨hnamed, hthere, hactive, hperm⟩ := manySlots_named
  obtain ⟨horphan, hpath⟩ := path_root manySlots
  obtain ⟨t, ht, ⟨hstatus, -, -⟩, -⟩ :=
    hInvalidate manySlots 2 1023 manySlots_takes hnamed hthere hactive hperm horphan hpath
  obtain rfl : doInvalidate 2 manySlots = t := Host.Outcome.next.inj ht
  rw [doInvalidate_manySlots] at hstatus
  exact absurd hstatus (by decide)

end Sys2Proof.Machine
end

section
/-! PROOF of TokensAndAttestation. A challenge, a statement and the public keys leave through `keyOut`; a token is checked on
the state that no longer holds the challenge (R278 to R280). -/

namespace Sys2Proof.Machine

/-! ### Lengths of byte strings -/

theorem length_leBytes (n : Nat) : ∀ x, (leBytes n x).length = n := by
  induction n with
  | zero => exact fun _ => rfl
  | succ n ih => exact fun x => congrArg (· + 1) (ih _)

@[simp] theorem length_beBytes (n x : Nat) : (beBytes n x).length = n := by
  rw [beBytes, List.length_reverse, length_leBytes]

@[simp] theorem length_padTo (n : Nat) (bs : List Byte) : (padTo n bs).length = n := by
  simp [padTo]; omega

theorem leNat_lt (bs : List Byte) : leNat bs < 256 ^ bs.length := by
  induction bs with
  | nil => simp [leNat]
  | cons b bs ih =>
    have hb := b.isLt
    have hcons : leNat (b :: bs) = leNat bs * 256 + b.toNat := rfl
    rw [hcons, List.length_cons, Nat.pow_succ]
    omega

theorem leAt_lt (bs : List Byte) (i : Nat) : leAt bs i 4 < 2 ^ 32 :=
  calc leAt bs i 4 < 256 ^ ((bs.drop i).take 4).length := leNat_lt _
    _ ≤ 256 ^ 4 := Nat.pow_le_pow_right (by decide) (List.length_take_le _ _)
    _ = 2 ^ 32 := by decide

/-! ### KEY_OUT (R264) -/

section
variable {s u : State} {r op st i : Nat} {bs : List Byte}

theorem keyOut_key_ne {j k : Nat} (h : j ≠ k) : (F.KEY_OUT_DATA j).key ≠ (F.KEY_OUT_DATA k).key := by
  simp only [Fld.key]; omega

/-- The first `n` words of KEY_OUT are written. -/
def State.writeOut (s : State) (r : Nat) (bs : List Byte) (n : Nat) : State :=
  s.forN n (fun k s => s.setF (reqF r (F.KEY_OUT_DATA k)) (leAt bs (4 * k) 4))

theorem keyOut_eq : s.keyOut r bs =
    (s.writeOut r bs (ceilDiv bs.length 4)).setF (reqF r F.KEY_RESULT_OUT_LEN) bs.length := rfl

theorem getF_writeOut {n j : Nat} (hj : j < n) :
    (s.writeOut r bs n).getF (reqF r (F.KEY_OUT_DATA j)) = leAt bs (4 * j) 4 := by
  induction n with
  | zero => omega
  | succ n ih =>
    unfold State.writeOut at *
    rw [forN_succ]
    by_cases he : j = n
    · rw [he, getF_setF_reqF_same]
      exact Nat.mod_eq_of_lt (leAt_lt _ _)
    · rw [getF_setF_reqF_ne _ _ _ (keyOut_key_ne he), ih (by omega)]

/-- Writing KEY_OUT changes registers alone, and none of the requester's set below KEY_RESULT. -/
theorem writeOut_frame (n : Nat) : (s.writeOut r bs n).key = s.key ∧ (s.writeOut r bs n).tly = s.tly ∧
    ∀ g : Fld, g.off < 0x240018 → g.lo < 32 → (s.writeOut r bs n).getF (reqF r g) = s.getF (reqF r g) := by
  refine forN_keeps s (fun t => t.key = s.key ∧ t.tly = s.tly ∧
    ∀ g : Fld, g.off < 0x240018 → g.lo < 32 → t.getF (reqF r g) = s.getF (reqF r g)) n _ ?_
    ⟨rfl, rfl, fun _ _ _ => rfl⟩
  rintro k t ⟨hkey, htly, hbelow⟩
  refine ⟨hkey, htly, fun g hoff hlo => ?_⟩
  rw [getF_setF_reqF_ne _ _ _ (by simp only [Fld.key]; omega)]
  exact hbelow g hoff hlo

/-- What a command leaves that has answered `bs` on the state `u`. -/
structure Answered (s u t : State) (r op : Nat) (bs : List Byte) : Prop where
  ended : KeyEnded s t r op 0
  out : KeyOutIs t r bs
  key : t.key = u.key

theorem keyOut_answered (h : s.KeyTakes r) (htly : u.tly = s.tly) (hop : u.getF (reqF r F.KEY_STAT_LAST_OP) = op)
    (hlen : bs.length < 2 ^ 12) : Answered s u ((u.keyOut r bs).keyDone r 0) r op bs := by
  obtain ⟨hkey, htly', hbelow⟩ := writeOut_frame (s := u) (r := r) (bs := bs) (ceilDiv bs.length 4)
  rw [keyOut_eq]
  refine ⟨keyDone_ended h (by decide) (htly'.trans htly) ?_, ⟨?_, fun k hk => ?_⟩, (keyDone_key _ _ _).trans hkey⟩
  · rw [getF_setF_reqF_ne _ _ _ (by decide), hbelow _ (by decide) (by decide), hop]
  · rw [getF_keyDone _ _ _ (by decide), getF_setF_reqF_same]
    exact Nat.mod_eq_of_lt hlen
  · rw [getF_keyDone _ _ _ (by simp only [Fld.key]; omega), getF_setF_reqF_ne _ _ _ (by simp only [Fld.key]; omega),
      getF_writeOut hk]

/-! ### AUTHORIZE SUB 0 (R278) -/

/-- A challenge is drawn for requester `r`, in place of the one that it held. -/
def State.challenged (s : State) (r : Nat) : State :=
  { s.draw.2 with key := { s.draw.2.key with
    challenge := sput (fun _ => none) s.key.challenge r (some (s.draw.1 % 2 ^ 128, s.tb.fab)) } }

theorem challenge_challenged : sget (fun _ => none) (s.challenged r).key.challenge r =
    some ((Config.drbg s.key.drawn).toNat % 2 ^ 128, s.tb.fab) := by
  simp [State.challenged, State.draw]

theorem keyChallenge_draws (hdrbg : s.isF F.KEY_STORE_STAT_DRBG_FAIL = false) :
    s.keyChallenge r = (0, (s.challenged r).keyOut r (beBytes 16 (s.draw.1 % 2 ^ 128))) := by
  unfold State.keyChallenge
  rw [if_neg (by simp [hdrbg])]
  rfl

theorem doAuthorizeChallenge_answers (h : s.KeyTakes r) (hdrbg : s.isF F.KEY_STORE_STAT_DRBG_FAIL = false) :
    Answered s (s.challenged r) (doAuthorizeChallenge r s) r 9 (beBytes 16 ((Config.drbg s.key.drawn).toNat % 2 ^ 128)) := by
  rw [doAuthorizeChallenge, min_keyRequester h, keyCmd_ends h (keyChallenge_draws
    ((isF_keyBegun_global s r 9 (by decide) (by decide)).trans hdrbg))]
  have hout := keyOut_answered (u := (s.keyBegun r 9).challenged r)
    (bs := beBytes 16 ((Config.drbg s.key.drawn).toNat % 2 ^ 128)) h rfl (lastOp_keyBegun s r 9 (by decide)) (by simp)
  exact ⟨hout.ended, hout.out, hout.key⟩

/-! ### ATTEST (R279, R280) -/

theorem pairUp_keyBegun (i : Nat) (hi : i < 2) : (s.keyBegun r op).pairUp i = s.pairUp i := by
  unfold State.pairUp
  rw [getF_keyBegun_global s r op (by simp only [Fld.key]; omega) (by simp only [Fld.key, ownStep]; omega),
    getF_keyBegun_global s r op (by decide) (by decide)]
  rfl

theorem length_attestBody (nonce : List Byte) : (s.attestBody nonce).length = 232 := by
  simp [State.attestBody, State.uid, State.rootId, length_leBytes]

/-- The statement of Table 10.10 over the body `body`. -/
def statementOf (body : List Byte) : List Byte :=
  body ++ padTo 64 (Config.ecdsa ecdsaKey (Config.sha256 body).toNat)
      ++ padTo 3309 (Config.mldsa mldsaSeed (ascii "OZAT") body)

theorem length_statementOf (nonce : List Byte) : (statementOf (s.attestBody nonce)).length = 3605 := by
  simp [statementOf, length_attestBody]

/-- MAGIC stands first (Table 10.10). -/
theorem magic_statementOf (nonce : List Byte) : leAt (statementOf (s.attestBody nonce)) 0 4 = 0x54415A4F := by
  have hfirst : (statementOf (s.attestBody nonce)).take 4 = beBytes 4 0x4F5A4154 := by
    simp only [statementOf, State.attestBody, List.append_assoc]
    exact List.take_left' (length_beBytes _ _)
  rw [leAt, List.drop_zero, hfirst]
  decide

theorem doAttestStatement_answers (h : s.KeyTakes r) (hpair : s.pairUp 1 = true) : ∃ nonce,
    Answered s s (doAttestStatement r s) r 0xA (statementOf ((s.keyBegun r 0xA).attestBody nonce)) := by
  have hrun : (s.keyBegun r 0xA).keyAttest r = (0, (s.keyBegun r 0xA).keyOut r
      (statementOf ((s.keyBegun r 0xA).attestBody (((s.keyBegun r 0xA).keyIn r).take 32)))) :=
    if_neg (by simp [pairUp_keyBegun, hpair])
  rw [doAttestStatement, min_keyRequester h, keyCmd_ends h hrun]
  have hout := keyOut_answered (u := s.keyBegun r 0xA)
    (bs := statementOf ((s.keyBegun r 0xA).attestBody (((s.keyBegun r 0xA).keyIn r).take 32))) h rfl
    (lastOp_keyBegun s r 0xA (by decide)) (by rw [length_statementOf]; decide)
  exact ⟨_, hout.ended, hout.out, hout.key⟩

theorem length_identityKeys : identityKeys.length = 2017 := by
  rw [identityKeys, List.length_append, length_padTo, length_padTo]

theorem doAttestPublicKeys_answers (h : s.KeyTakes r) (hpair : s.pairUp 1 = true) :
    Answered s s (doAttestPublicKeys r s) r 0xA identityKeys := by
  have hrun : (s.keyBegun r 0xA).keyPublic r = (0, (s.keyBegun r 0xA).keyOut r identityKeys) :=
    if_neg (by simp [pairUp_keyBegun, hpair])
  rw [doAttestPublicKeys, min_keyRequester h, keyCmd_ends h hrun]
  have hout := keyOut_answered (u := s.keyBegun r 0xA) (bs := identityKeys) h rfl (lastOp_keyBegun s r 0xA (by decide))
    (by rw [length_identityKeys]; decide)
  exact ⟨hout.ended, hout.out, hout.key⟩

/-! ### AUTHORIZE SUB 1 (R278) -/

/-- The challenge of requester `r` is consumed. -/
def State.spent (s : State) (r : Nat) : State :=
  { s with key := { s.key with challenge := sput (fun _ => none) s.key.challenge r none } }

theorem challenge_spent : sget (fun _ => none) (s.spent r).key.challenge r = none := by simp [State.spent]

/-- The TAG that a token under slot `i` must bear (Table 10.9). -/
def State.tokenTag (s : State) (r i : Nat) : Nat :=
  (Config.cmac (s.slot i).key (keyBits (s.slot i).ty) ((s.keyIn r).take 52)).toNat

/-- The token in KEY_IN verifies under slot `i` against the challenge that requester `r` holds. -/
def State.tokenFits (s : State) (r i : Nat) : Bool :=
  let tok := s.keyIn r
  (sget (fun _ => none) s.key.challenge r).any (fun c => decide (s.tb.fab - c.2 ≤ 60 * cycS) && beAt tok 36 16 == c.1)
    && tok.length == 68 && (tok.drop 4).take 16 == s.uid && decide (1 ≤ byteAt tok 0 ∧ byteAt tok 0 ≤ 3)
    && beAt tok 52 16 == s.tokenTag r i

theorem source_spent (q i : Nat) (usage : Option Nat) (asRoot : Bool) :
    (s.spent r).source q i usage asRoot = s.source q i usage asRoot := rfl

/-- The effect of a token that verifies, on the state `u` that holds no challenge. -/
def State.tokenActs (s : State) (r i : Nat) (u : State) : Nat × State :=
  match u.tokenEffect (s.keyIn r) with
  | none => (4, u)
  | some v => (0, ((v.useSlot i).keyResult r i).setF (reqF r F.KEY_RESULT_OUT_LEN) 0)

/-- A token under a slot that passes the checks consumes the challenge, and acts if it verifies. -/
theorem keyToken_eq (hslot : (s.keyArgs r).1 = i) (hsource : s.source r i (some 6) false = none) :
    s.keyToken r = if s.tokenFits r i then s.tokenActs r i (s.spent r) else (6, s.spent r) := by
  have hguard : s.keyToken r = guard [(s.spent r).source r (s.keyArgs r).1 (some 6) false,
      if s.tokenFits r (s.keyArgs r).1 then none else some 6] (s.spent r) (s.tokenActs r (s.keyArgs r).1) := by
    unfold State.keyToken State.tokenFits State.keyArgs
    rfl
  rw [hguard, hslot, source_spent, hsource]
  cases s.tokenFits r i <;> rfl

theorem uid_keyBegun : (s.keyBegun r op).uid = s.uid := by
  simp (disch := decide) only [State.uid, List.range, List.range.loop, List.flatMap_cons, List.flatMap_nil,
    getF_keyBegun_global]

theorem tokenFits_keyBegun : (s.keyBegun r op).tokenFits r i = s.tokenFits r i := by
  unfold State.tokenFits State.tokenTag
  rw [keyIn_keyBegun, uid_keyBegun, slot_keyBegun]
  rfl

/-- A token for the debug split of the control pair, with nothing wrong but perhaps its TAG (R278). -/
theorem tokenFits_iff_tag {c at_ : Nat} (hheld : sget (fun _ => none) s.key.challenge r = some (c, at_))
    (hfresh : s.tb.fab - at_ ≤ 60 * cycS) (hlen : (s.keyIn r).length = 68) (huid : ((s.keyIn r).drop 4).take 16 = s.uid)
    (hnonce : beAt (s.keyIn r) 36 16 = c) (hkind : byteAt (s.keyIn r) 0 = 1) :
    s.tokenFits r i = decide (beAt (s.keyIn r) 52 16 = s.tokenTag r i) := by
  unfold State.tokenFits
  simp only [hheld, hlen, huid, hnonce, hkind, Option.any_some, decide_eq_true hfresh, beq_self_eq_true, Bool.and_self,
    le_refl, Nat.reduceLeDiff, and_self, decide_true, Bool.true_and]
  rfl

/-- Without a challenge no token verifies. -/
theorem tokenFits_without (hheld : sget (fun _ => none) s.key.challenge r = none) : s.tokenFits r i = false := by
  simp [State.tokenFits, hheld]

theorem tokenEffect_control (hkind : byteAt (s.keyIn r) 0 = 1) (hdebug : s.boot.debugEn = true) (hpair : s.pairUp 0 = true) :
    s.tokenEffect (s.keyIn r) = some (s.debugSplit 0) := by
  simp [State.tokenEffect, hkind, hdebug, hpair]

/-- Debug split of the control pair (R250). -/
theorem debugSplit_shows : (s.debugSplit 0).getF (F.SAF_PAIR_STAT_STATE 0) = 4
    ∧ bit ((s.debugSplit 0).getF F.SAF_STAT_DEBUG_SPLIT) 0 = true ∧ (s.debugSplit 0).isF F.SAF_STAT_SAFE_STATE = false := by
  unfold State.debugSplit
  refine ⟨?_, ?_, isF_setB_same _ _ _ rfl⟩
  · rw [getF_setB_ne _ _ _ _ (by decide), getF_orF_ne _ _ _ _ (by decide), getF_setF_same]
    rfl
  · rw [getF_setB_ne _ _ _ _ (by decide), bit_orF _ _ (by decide)]
    rfl

theorem debugSplit_key : (s.debugSplit 0).key = s.key := by
  rw [State.debugSplit, setB_key, orF_eq]
  rfl

theorem debugSplit_tly : (s.debugSplit 0).tly = s.tly := by
  rw [State.debugSplit, setB_tly, orF_tly]
  rfl

theorem getF_debugSplit_ne {g : Fld} (hg : 0x20000 * 32 ≤ g.key) : (s.debugSplit 0).getF g = s.getF g := by
  unfold State.debugSplit
  rw [getF_setB_ne _ _ _ _ (by simp only [Fld.key] at *; omega), getF_orF_ne _ _ _ _ (by simp only [Fld.key] at *; omega),
    getF_setF_ne _ _ _ _ (by simp only [Fld.key] at *; omega)]

theorem doAuthorizeToken_refused (h : s.KeyTakes r) (hslot : (s.keyArgs r).1 = i) (hsource : s.source r i (some 6) false = none)
    (hfits : s.tokenFits r i = false) : doAuthorizeToken r s = ((s.keyBegun r 9).spent r).keyDone r 6 := by
  have hrun := keyToken_eq (s := s.keyBegun r 9) ((congrArg Prod.fst (keyArgs_keyBegun s r 9)).trans hslot)
    ((source_keyBegun s r 9 ..).trans hsource)
  rw [tokenFits_keyBegun, hfits] at hrun
  rw [doAuthorizeToken, min_keyRequester h, keyCmd_ends h hrun]

/-- A debug token that verifies ends in the debug split of the control pair. -/
theorem doAuthorizeToken_splits (h : s.KeyTakes r) (hslot : (s.keyArgs r).1 = i) (hsource : s.source r i (some 6) false = none)
    (huses : (s.slot i).uses = 0xFFFFFF) (hfits : s.tokenFits r i = true) (hkind : byteAt (s.keyIn r) 0 = 1)
    (hdebug : s.boot.debugEn = true) (hpair : s.pairUp 0 = true) : doAuthorizeToken r s =
      (((((s.keyBegun r 9).spent r).debugSplit 0).setF (reqF r F.KEY_RESULT_SLOT) i).setF
        (reqF r F.KEY_RESULT_OUT_LEN) 0).keyDone r 0 := by
  have hin := keyIn_keyBegun s r 9
  have hrun := keyToken_eq (s := s.keyBegun r 9) ((congrArg Prod.fst (keyArgs_keyBegun s r 9)).trans hslot)
    ((source_keyBegun s r 9 ..).trans hsource)
  have heffect : ((s.keyBegun r 9).spent r).tokenEffect ((s.keyBegun r 9).keyIn r)
      = some (((s.keyBegun r 9).spent r).debugSplit 0) :=
    tokenEffect_control (s := (s.keyBegun r 9).spent r) (r := r) (hin.symm ▸ hkind) hdebug
      ((pairUp_keyBegun 0 (by decide)).trans hpair)
  have hused : (((s.keyBegun r 9).spent r).debugSplit 0).useSlot i = ((s.keyBegun r 9).spent r).debugSplit 0 :=
    useSlot_unlimited _ _ ((congrArg KeySlot.uses (slot_of_key debugSplit_key i)).trans huses)
  rw [tokenFits_keyBegun, hfits, if_pos rfl, State.tokenActs, heffect] at hrun
  dsimp only at hrun
  rw [hused] at hrun
  rw [doAuthorizeToken, min_keyRequester h, keyCmd_ends h hrun, State.keyResult]

/-- A field below the KEY block is none of a requester's key registers. -/
theorem key_ne_reqF (r : Nat) {f g : Fld} (hg : g.key < 0x240000 * 32) (hf : 0x240000 * 32 ≤ f.key) :
    g.key ≠ (reqF r f).key := by rw [reqF_key]; omega

theorem getF_result_ne {g : Fld} (hg : g.key < 0x240000 * 32) (n m : Nat) :
    (((u.setF (reqF r F.KEY_RESULT_SLOT) n).setF (reqF r F.KEY_RESULT_OUT_LEN) m).keyDone r st).getF g = u.getF g := by
  rw [getF_keyDone_ne _ _ _ (key_ne_reqF r hg (by decide)), getF_setF_ne _ _ _ _ (key_ne_reqF r hg (by decide)),
    getF_setF_ne _ _ _ _ (key_ne_reqF r hg (by decide))]

/-- What a token leaves that is refused: its status, and the challenge consumed. -/
structure TokenRefused (s t : State) (r : Nat) : Prop where
  ended : KeyEnded s t r 9 6
  only : OnlyFields { s with tly := t.tly, key := t.key } t [reqF r F.KEY_STAT_LAST_OP, reqF r F.KEY_STAT_STATUS]
  slots : t.key.slots = s.key.slots
  challenge : sget (fun _ => none) t.key.challenge r = none

theorem doAuthorizeToken_refused_shows (h : s.KeyTakes r) (hslot : (s.keyArgs r).1 = i)
    (hsource : s.source r i (some 6) false = none) (hfits : s.tokenFits r i = false) :
    TokenRefused s (doAuthorizeToken r s) r := by
  rw [doAuthorizeToken_refused h hslot hsource hfits]
  refine ⟨keyDone_ended h (by decide) rfl (lastOp_keyBegun s r 9 (by decide)), ⟨?_, fun f hf => ?_⟩,
    by rw [keyDone_key]; rfl, by rw [keyDone_key]; exact challenge_spent⟩
  · rw [State.keyDone, State.tally, tallyN_eq]
    rfl
  · simp only [List.map_cons, List.map_nil, List.mem_cons, List.not_mem_nil, or_false, not_or] at hf
    exact (getF_keyDone_ne _ _ _ hf.2).trans (getF_setF_ne _ _ _ _ hf.1)

/-- What a debug token for the control pair leaves that is accepted. -/
structure TokenSplits (s t : State) (r : Nat) : Prop where
  ended : KeyEnded s t r 9 0
  state : t.getF (F.SAF_PAIR_STAT_STATE 0) = 4
  split : bit (t.getF F.SAF_STAT_DEBUG_SPLIT) 0 = true
  safe : t.isF F.SAF_STAT_SAFE_STATE = false
  challenge : sget (fun _ => none) t.key.challenge r = none

theorem doAuthorizeToken_splits_shows (h : s.KeyTakes r) (hslot : (s.keyArgs r).1 = i)
    (hsource : s.source r i (some 6) false = none) (huses : (s.slot i).uses = 0xFFFFFF) (hfits : s.tokenFits r i = true)
    (hkind : byteAt (s.keyIn r) 0 = 1) (hdebug : s.boot.debugEn = true) (hpair : s.pairUp 0 = true) :
    TokenSplits s (doAuthorizeToken r s) r := by
  obtain ⟨hstate, hsplit, hsafe⟩ := debugSplit_shows (s := (s.keyBegun r 9).spent r)
  rw [doAuthorizeToken_splits h hslot hsource huses hfits hkind hdebug hpair]
  refine ⟨keyDone_ended h (by decide) debugSplit_tly ?_, ?_, ?_, ?_, ?_⟩
  · rw [getF_setF_reqF_ne _ _ _ (by decide), getF_setF_reqF_ne _ _ _ (by decide), getF_debugSplit_ne]
    · exact lastOp_keyBegun s r 9 (by decide)
    · rw [reqF_key]; exact (by decide : 0x20000 * 32 ≤ F.KEY_STAT_LAST_OP.key).trans (Nat.le_add_right _ _)
  · rw [getF_result_ne (by decide), hstate]
  · rw [getF_result_ne (by decide), hsplit]
  · rw [State.isF, getF_result_ne (by decide)]; exact hsafe
  · rw [keyDone_key, setF_key, setF_key, debugSplit_key]
    exact challenge_spent

end

/-- Settles O35: the token is compared with the challenge that its requester held, which it consumes before anything else. -/
theorem tokensAndAttestation : Obligations.TokensAndAttestation := by
  unfold Obligations.TokensAndAttestation
  refine ⟨fun s r h hdrbg => ?_, fun s r i c at_ h hslot hsource huses hheld hfresh hlen huid hnonce hkind hdebug hpair => ?_,
    fun s r i h hslot hsource hheld => ?_, fun s r h hpair => ?_, fun s r h hpair => ?_⟩
  · obtain ⟨hended, hout, hkey⟩ := doAuthorizeChallenge_answers h hdrbg
    refine ⟨_, answers rfl rfl, hended, ?_, hout, by rw [hkey]; rfl⟩
    rw [hkey]
    exact challenge_challenged
  · have htag : s.tokenFits r i = decide (beAt (s.keyIn r) 52 16 = s.tokenTag r i) :=
      tokenFits_iff_tag hheld hfresh hlen huid hnonce hkind
    have splits := fun e =>
      doAuthorizeToken_splits_shows h hslot hsource huses (htag.trans (decide_eq_true e)) hkind hdebug hpair
    have refused := fun e => doAuthorizeToken_refused_shows h hslot hsource (htag.trans (decide_eq_false e))
    refine ⟨_, answers rfl rfl, ?_, fun e => ?_, fun e => ?_⟩
    · by_cases e : beAt (s.keyIn r) 52 16 = s.tokenTag r i
      · exact (splits e).challenge
      · exact (refused e).challenge
    · obtain ⟨hended, hstate, hsplit, hsafe, -⟩ := splits e
      exact ⟨hended, hstate, hsplit, hsafe⟩
    · have hkept := (refused e).only.2 (F.SAF_PAIR_STAT_STATE 0) (by
        have below : (F.SAF_PAIR_STAT_STATE 0).key < 0x240000 * 32 := by decide
        simp [key_ne_reqF r below (show 0x240000 * 32 ≤ F.KEY_STAT_LAST_OP.key by decide),
          key_ne_reqF r below (show 0x240000 * 32 ≤ F.KEY_STAT_STATUS.key by decide)])
      exact ⟨(refused e).ended, hkept⟩
  · obtain ⟨hended, honly, hslots, -⟩ := doAuthorizeToken_refused_shows h hslot hsource (tokenFits_without hheld)
    exact ⟨_, answers rfl rfl, hended, honly, hslots⟩
  · obtain ⟨nonce, hended, ⟨hlen, hout⟩, hkey⟩ := doAttestStatement_answers h hpair
    rw [length_statementOf] at hlen hout
    exact ⟨_, answers rfl rfl, hended, hlen, (hout 0 (by decide)).trans (magic_statementOf nonce), hkey⟩
  · obtain ⟨hended, hout, hkey⟩ := doAttestPublicKeys_answers h hpair
    exact ⟨_, answers rfl rfl, hended, length_identityKeys ▸ hout.1, hout, hkey⟩

end Sys2Proof.Machine
end

section
/-! PROOF of KeyStoreAnswersSweepsAndEmpties. A command that is not taken leaves its status alone (R263, R264); a start, a sweep
and a tampering are each followed step by step. -/

namespace Sys2Proof.Machine

section
variable {s t : State} {op i : Nat} {run : State → Nat × State}

/-! ### Commands of the host that are not taken (R263) -/

theorem keyCmd_busy (hserving : s.serving = true) (hbusy : s.isF F.KEY_STAT_BUSY = true) :
    s.keyCmd 2 op run = (s.setB F.KEY_STAT_BUSY_HIT true).tally (T.key 2 1) := by
  have hbusy' : s.isF (reqF 2 F.KEY_STAT_BUSY) = true := hbusy
  simp [State.keyCmd, State.requesterUp, State.busGate, hserving, hbusy']
  rfl

theorem keyCmd_notReady (hserving : s.serving = true) (hbusy : s.isF F.KEY_STAT_BUSY = false)
    (hready : s.isF F.KEY_STORE_STAT_READY = false) :
    s.keyCmd 2 op run = ((s.setF F.KEY_STAT_LAST_OP op).setF F.KEY_STAT_STATUS 4).tally (T.key 2 4) := by
  have hbusy' : s.isF (reqF 2 F.KEY_STAT_BUSY) = false := hbusy
  have hready' : (s.setF (reqF 2 F.KEY_STAT_LAST_OP) op).isF F.KEY_STORE_STAT_READY = false :=
    (isF_setF_ne _ _ _ _ (by decide)).trans hready
  simp [State.keyCmd, State.requesterUp, State.busGate, hserving, hbusy', hready']
  rfl

/-! ### The start (R255, R261, R270, R271) -/

/-- The end of every start: sweeps go on, slots expire, the masks change, and the store is ready. -/
def State.keyOpened (s : State) : State :=
  let t := s.resumeSweeps.expireSlots.remask.countFree
  (t.setB F.KEY_STORE_STAT_SWEEP (!t.key.sweeps.isEmpty)).setB F.KEY_STORE_STAT_READY true

/-- The store of an empty VBATK domain: a new root secret, and every slot FREE. -/
def State.rooted (s : State) : State :=
  { s.setF F.KEY_ARC_ARC 0 with key := { s.key with
    root := some (Config.drbg s.key.drawn).toNat, slots := [], journal := {}, sweeps := [], drawn := s.key.drawn + 1 } }

theorem getF_rooted (f : Fld) : s.rooted.getF f = (s.setF F.KEY_ARC_ARC 0).getF f := rfl

theorem takeFound_nothing : s.takeFound {} = s.examineJournal := by
  simp [State.takeFound]

theorem doKeyStoreReady_found {x : Nat} (hready : s.isF F.KEY_STORE_STAT_READY = false) (hhold : s.key.tamperHold = false)
    (hstage : 5 ≤ s.getF F.GLB_RST_STAT_STAGE) (hroot : s.key.root = some x) :
    doKeyStoreReady {} s = s.examineJournal.keyOpened := by
  have hstage' : ¬ s.getF F.GLB_RST_STAT_STAGE < 5 := by omega
  simp only [doKeyStoreReady, hready, hhold, hstage', hroot, takeFound_nothing]
  rfl

theorem doKeyStoreReady_empty (hready : s.isF F.KEY_STORE_STAT_READY = false) (hhold : s.key.tamperHold = false)
    (hstage : 5 ≤ s.getF F.GLB_RST_STAT_STAGE) (hroot : s.key.root = none)
    (hdrbg : s.isF F.KEY_STORE_STAT_DRBG_FAIL = false) : doKeyStoreReady {} s = s.rooted.keyOpened := by
  have hstage' : ¬ s.getF F.GLB_RST_STAT_STAGE < 5 := by omega
  simp only [doKeyStoreReady, hready, hhold, hstage', hroot, hdrbg]
  rfl

theorem expireSlots_none (h : ∀ e ∈ s.key.slots, e.2.expire = false) : s.expireSlots = s := by
  have hnone : s.key.slots.filter (fun e => e.2.expire && e.2.state != 0) = [] :=
    List.filter_eq_nil_iff.2 fun e he => by simp [h e he]
  rw [State.expireSlots, hnone]
  rfl

theorem remask_unscrambled (h : s.isF F.GLB_KEY_SLOTS_SCRAMBLE = false) : s.remask = s := if_pos (by simp [h])

/-- A start of a store without scrambling in which nothing expires resumes the sweeps and opens the store. -/
theorem keyOpened_shows (hscramble : s.isF F.GLB_KEY_SLOTS_SCRAMBLE = false)
    (hexpire : ∀ e ∈ s.key.slots, e.2.expire = false) :
    s.keyOpened.isF F.KEY_STORE_STAT_READY = true ∧ s.keyOpened.key = s.resumeSweeps.key
      ∧ s.keyOpened.getF F.KEY_ARC_ARC = s.getF F.KEY_ARC_ARC
      ∧ s.keyOpened.getF F.KEY_STORE_STAT_FREE = s.resumeSweeps.countFree.getF F.KEY_STORE_STAT_FREE := by
  have hopen : s.keyOpened = (s.resumeSweeps.countFree.setB F.KEY_STORE_STAT_SWEEP (!s.resumeSweeps.key.sweeps.isEmpty)).setB
      F.KEY_STORE_STAT_READY true := by
    have hexp : s.resumeSweeps.expireSlots = s.resumeSweeps := expireSlots_none hexpire
    have hmask : s.resumeSweeps.remask = s.resumeSweeps := remask_unscrambled hscramble
    rw [State.keyOpened, hexp, hmask]
    rfl
  rw [hopen]
  refine ⟨isF_setB_same _ _ _ rfl, rfl, ?_, ?_⟩
  · rw [getF_setB_ne _ _ _ _ (by decide), getF_setB_ne _ _ _ _ (by decide), getF_countFree_ne _ (by decide)]
    rfl
  · rw [getF_setB_ne _ _ _ _ (by decide), getF_setB_ne _ _ _ _ (by decide)]

/-- A store without slots counts every present one as FREE. -/
theorem free_countFree (h : s.key.slots = []) :
    s.countFree.getF F.KEY_STORE_STAT_FREE = s.getF F.GLB_KEY_SLOTS_COUNT % 2 ^ F.KEY_STORE_STAT_FREE.w := by
  rw [State.countFree, getF_setF_same, h]
  rfl

/-- A committed group over one slot whose CRC-32C is right. -/
theorem jValid_single {k : KeySlot} (h : s.key.journal = ⟨[⟨some i, k, s.entryCrc (some i) k⟩], 1⟩) :
    s.jValid = true := by
  simp [State.jValid, h]

theorem examineJournal_replays {k : KeySlot} (h : s.key.journal = ⟨[⟨some i, k, s.entryCrc (some i) k⟩], 1⟩) :
    s.examineJournal = (s.putSlot i k).jEmpty := by
  rw [State.examineJournal, if_pos (jValid_single h), State.jStore, h]
  rfl

theorem examineJournal_discards (h : s.jValid = false) : s.examineJournal = s.jEmpty := by
  rw [State.examineJournal, if_neg (by simp [h])]

theorem mem_sput {α : Type} [DecidableEq α] {d : Nat → α} {m : Sparse α} {k : Nat} {v : α} {e : Nat × α}
    (h : e ∈ sput d m k v) : e = (k, v) ∨ e ∈ m := by
  unfold sput at h
  split at h
  · exact .inr (List.mem_filter.1 h).1
  · exact mem_sins m k v e h

theorem slot_putSlot_same (i : Nat) (k : KeySlot) : (s.putSlot i k).slot i = k := sget_sput_same ..

theorem slot_putSlot_ne {j : Nat} (k : KeySlot) (h : j ≠ i) : (s.putSlot i k).slot j = s.slot j := sget_sput_ne _ _ h

theorem expire_putSlot {k : KeySlot} (hk : k.expire = false) (h : ∀ e ∈ s.key.slots, e.2.expire = false) :
    ∀ e ∈ (s.putSlot i k).key.slots, e.2.expire = false := by
  intro e he
  obtain rfl | he := mem_sput (d := fun _ => { maskSel := s.key.maskNow }) (m := s.key.slots) (k := i) (v := k) he
  · exact hk
  · exact h e he

/-! ### The reclaim sweep (R260, R274) -/

/-- A pass over a store whose one slot is INVALIDATING frees nothing. -/
theorem sweepPass_single (hslots : s.key.slots.map (·.1) = [i]) (hstate : (s.slot i).state = 2) : s.sweepPass = ([], s) := by
  rw [State.sweepPass, hslots]
  simp [hstate]

theorem clearSas_unbound (h : ∀ e ∈ s.entriesOf tSa, bit e.2 1 = false) (j : Nat) : s.clearSas j = s := by
  have hnone : ∀ l : List (Nat × Nat), (∀ e ∈ l, bit e.2 1 = false) →
      l.foldl (fun s e => if bit e.2 1 && ew e.2 0 4 10 == j then s.writeEntry tSa e.1 0 else s) s = s := by
    intro l
    induction l with
    | nil => exact fun _ => rfl
    | cons e l ih =>
      intro hl
      rw [List.foldl_cons, hl e List.mem_cons_self]
      exact ih fun e he => hl e (List.mem_cons_of_mem _ he)
  exact hnone _ h

theorem reclaim_single (hslots : s.key.slots.map (·.1) = [i]) (hstate : (s.slot i).state = 2)
    (hsas : ∀ e ∈ s.entriesOf tSa, bit e.2 1 = false) : s.reclaim i = s.setSlot i (freed (s.slot i) (s.slot i).gen) := by
  have hall : State.sweepAll (s.key.slots.length + 1) ([], s) = ([], s) := by
    rw [State.sweepAll, sweepPass_single hslots hstate]
  rw [State.reclaim, hall]
  show (s.clearSas i).setSlot i (freed ((s.clearSas i).slot i) ((s.clearSas i).slot i).gen) = _
  rw [clearSas_unbound hsas]

theorem postFree_key (b c : Nat) : (s.postFree b c).key = s.key := by rw [postFree_posted]; rfl
theorem postFree_tables (b c : Nat) : (s.postFree b c).tables = s.tables := by rw [postFree_posted]; rfl

theorem getF_postFree {f : Fld} (hf : f.key ∉ postFields.map Fld.key) (b c : Nat) : (s.postFree b c).getF f = s.getF f :=
  fieldsKept_postFree s b c f hf

/-- The state in which the sweep of slot `i` has ended, before it is posted. -/
def State.swept (s : State) (i : Nat) (rest : List Nat) : State :=
  (({ s with key := { s.key with sweeps := rest } }).setSlot i (freed (s.slot i) (s.slot i).gen)).setB
    F.KEY_STORE_STAT_SWEEP (!rest.isEmpty)

theorem slot_swept (rest : List Nat) : (s.swept i rest).slot i = freed (s.slot i) (s.slot i).gen :=
  slot_setSlot_same { s with key := { s.key with sweeps := rest } } i _

theorem swept_sweeps (rest : List Nat) : (s.swept i rest).key.sweeps = rest := by simp [State.swept]

theorem swept_tables (rest : List Nat) : (s.swept i rest).tables = s.tables := by simp [State.swept]

theorem isF_swept (rest : List Nat) : (s.swept i rest).isF F.KEY_STORE_STAT_SWEEP = !rest.isEmpty :=
  isF_setB_same _ _ _ rfl

theorem doReclaimSweepDone_single {rest : List Nat} (hsweeps : s.key.sweeps = i :: rest)
    (hslots : s.key.slots.map (·.1) = [i]) (hstate : (s.slot i).state = 2)
    (hsas : ∀ e ∈ s.entriesOf tSa, bit e.2 1 = false) : doReclaimSweepDone s = (s.swept i rest).postFree 0x24 2 := by
  have hreclaim := reclaim_single (s := { s with key := { s.key with sweeps := rest } }) hslots hstate hsas
  rw [doReclaimSweepDone, hsweeps]
  dsimp only
  rw [hreclaim]
  rfl

/-! ### Tampering (R256) -/

/-- A field of the emptied VBATK domain, but those of the sweep and of the FREE slots. -/
theorem getF_zeroVbatk {g : Fld} (hsweep : g.key ≠ F.KEY_STORE_STAT_SWEEP.key) (hfree : g.key ≠ F.KEY_STORE_STAT_FREE.key) :
    s.zeroVbatk.getF g = if fieldReach g.key != Reach.battery || g.key == F.GLB_CLK_STAT_AON_XTAL.key then s.getF g
      else fieldReset g.key := by
  rw [State.zeroVbatk, getF_countFree_ne _ hfree, getF_setB_ne _ _ _ _ hsweep]
  exact sget_filter_key fieldReset (fun k => fieldReach k != Reach.battery || k == F.GLB_CLK_STAT_AON_XTAL.key) s.regs g.key

theorem zeroVbatk_key : s.zeroVbatk.key = { s.key with
    root := none, slots := [], journal := {}, maskNow := 0, maskA := 0, maskB := 0, sweeps := [] } := rfl

theorem orF_key (f : Fld) (b : Nat) : (s.orF f b).key = s.key := by rw [orF_eq]

theorem putEntry_sa_keeps (j v : Nat) : (s.putEntry tSa j v).regs = s.regs ∧ (s.putEntry tSa j v).key = s.key := by
  by_cases h : bit v 1 = true <;> simp [State.putEntry, h]

/-- The state in which the VBATK domain is zeroed and the cause of source 0 recorded. -/
def State.tamperBegun (s : State) : State := s.zeroVbatk.orF F.BKP_TAMPER_CAUSE 0

/-- The key of every SA is cleared. -/
def State.saKeysCleared (s : State) : State :=
  (s.entriesOf tSa).foldl (fun s e => s.putEntry tSa e.1 (setEw (setEw e.2 0 1 1 0) 0 4 10 0)) s

/-- Clearing the key of every SA changes neither registers nor the key store. -/
theorem saKeysCleared_keeps : s.saKeysCleared.regs = s.regs ∧ s.saKeysCleared.key = s.key := by
  unfold State.saKeysCleared
  generalize s.entriesOf tSa = l
  induction l generalizing s with
  | nil => exact ⟨rfl, rfl⟩
  | cons e l ih =>
    obtain ⟨hregs, hkey⟩ := putEntry_sa_keeps (s := s) e.1 (setEw (setEw e.2 0 1 1 0) 0 4 10 0)
    exact ⟨ih.1.trans hregs, ih.2.trans hkey⟩

/-- READY is held at 0 until a reset of chip reach. -/
def State.tamperHeld (s : State) : State :=
  ({ s with key := { s.key with tamperHold := true } }).setB F.KEY_STORE_STAT_READY false

/-- The store that a tampering has emptied, its cause recorded. -/
structure Emptied (t : State) : Prop where
  root : t.key.root = none
  slots : t.key.slots = []
  hold : t.key.tamperHold = true
  ready : t.isF F.KEY_STORE_STAT_READY = false
  cause : bit (t.getF F.BKP_TAMPER_CAUSE) 0 = true
  arc : t.getF F.KEY_ARC_ARC = 0

/-- What a wake event records leaves the emptied store as it is. -/
theorem Emptied.congr (h : Emptied s) (hkept : FieldsKept s t [F.BKP_WAKE_TAMPER]) (hkey : t.key = s.key) : Emptied t :=
  ⟨hkey ▸ h.root, hkey ▸ h.slots, hkey ▸ h.hold, (hkept.isF (by decide)).trans h.ready,
    (congrArg (bit · 0) (hkept _ (by decide))).trans h.cause, (hkept _ (by decide)).trans h.arc⟩

theorem getF_tamperBegun {g : Fld} (hsweep : g.key ≠ F.KEY_STORE_STAT_SWEEP.key) (hfree : g.key ≠ F.KEY_STORE_STAT_FREE.key)
    (hcause : g.key ≠ F.BKP_TAMPER_CAUSE.key) : s.tamperBegun.getF g =
      if fieldReach g.key != Reach.battery || g.key == F.GLB_CLK_STAT_AON_XTAL.key then s.getF g else fieldReset g.key :=
  (getF_orF_ne _ _ _ _ hcause).trans (getF_zeroVbatk hsweep hfree)

theorem tamper_eq (hen : s.isF F.KEY_STORE_STAT_TAMPER_N_EN = true) (hstage : 2 ≤ s.getF F.GLB_RST_STAT_STAGE) :
    s.tamper 0 = s.tamperBegun.saKeysCleared.tamperHeld.postFree 0x24 1 := by
  have hstage' : ¬ s.tamperBegun.getF F.GLB_RST_STAT_STAGE < 2 := by
    rw [getF_tamperBegun (by decide) (by decide) (by decide), if_pos (by decide)]
    omega
  rw [State.tamper, if_neg (by simp [hen])]
  exact if_neg hstage'

theorem tamper_empties (hen : s.isF F.KEY_STORE_STAT_TAMPER_N_EN = true) (hstage : 2 ≤ s.getF F.GLB_RST_STAT_STAGE) :
    Emptied (s.tamper 0) ∧ (s.tamper 0).powerMode = s.powerMode := by
  obtain ⟨hregs, hkey⟩ := saKeysCleared_keeps (s := s.tamperBegun)
  have hend : ∀ g : Fld, g.key ∉ postFields.map Fld.key → g.key ≠ F.KEY_STORE_STAT_READY.key →
      (s.tamper 0).getF g = s.tamperBegun.getF g := fun g hpost hready => by
    rw [tamper_eq hen hstage, getF_postFree hpost]
    exact (getF_setB_ne _ _ _ _ hready).trans (getF_of_regs hregs g)
  have hkeyEnd : (s.tamper 0).key = { s.zeroVbatk.key with tamperHold := true } := by
    rw [tamper_eq hen hstage, postFree_key]
    exact congrArg (fun c : KeyStore => { c with tamperHold := true }) (hkey.trans (orF_key _ _))
  refine ⟨⟨?_, ?_, ?_, ?_, ?_, ?_⟩, ?_⟩
  · rw [hkeyEnd, zeroVbatk_key]
  · rw [hkeyEnd, zeroVbatk_key]
  · rw [hkeyEnd]
  · rw [tamper_eq hen hstage, State.isF, getF_postFree (by decide)]
    exact isF_setB_same _ _ _ rfl
  · rw [hend _ (by decide) (by decide), State.tamperBegun, bit_orF _ _ (by decide)]
    rfl
  · rw [hend _ (by decide) (by decide), getF_tamperBegun (by decide) (by decide) (by decide), if_neg (by decide)]
    decide
  · rw [State.powerMode, hend _ (by decide) (by decide), getF_tamperBegun (by decide) (by decide) (by decide),
      if_pos (by decide)]
    rfl

/-- With the main supplies up a wake event is recorded at most. -/
theorem wake_awake {s : State} (aon woken : Nat) (rec : State → State) (hpower : s.powerMode = 0) :
    s.wake aon woken rec = s ∨ s.wake aon woken rec = { rec s with pwr := { (rec s).pwr with early := true } } := by
  unfold State.wake
  split
  · exact .inr rfl
  · exact .inl (if_pos (by omega))

theorem doTamperDetection_disabled (hen : s.isF F.KEY_STORE_STAT_TAMPER_N_EN = false) (aon : Nat) :
    doTamperDetection 0 aon s = s := if_pos (.inl ⟨rfl, by simp [hen]⟩)

theorem doTamperDetection_empties (hen : s.isF F.KEY_STORE_STAT_TAMPER_N_EN = true)
    (hstage : 2 ≤ s.getF F.GLB_RST_STAT_STAGE) (hpower : s.powerMode = 0) : Emptied (doTamperDetection 0 0 s) := by
  obtain ⟨h, hmode⟩ := tamper_empties hen hstage
  have hdetect : doTamperDetection 0 0 s = (s.tamper 0).wake 0 0 (fun s => s.setB F.BKP_WAKE_TAMPER true) :=
    if_neg (by simp [hen])
  rw [hdetect]
  obtain e | e := wake_awake 0 0 (fun s => s.setB F.BKP_WAKE_TAMPER true) (hmode.trans hpower) <;> rw [e]
  · exact h
  · exact h.congr (((FieldsKept.refl _ [F.BKP_WAKE_TAMPER]).setB true (List.mem_singleton_self _)).of_regs rfl) rfl

end

/-- Settles O36: a start replays or discards the journal before the store opens, the sweep of a store with one slot frees that
slot, and a tampering zeroes the VBATK domain before it records its cause. -/
theorem keyStoreAnswersSweepsAndEmpties : Obligations.KeyStoreAnswersSweepsAndEmpties := by
  unfold Obligations.KeyStoreAnswersSweepsAndEmpties
  refine ⟨fun s r h => ?_, fun s c hserving hbusy hc => ?_, fun s hserving hbusy hready => ?_,
    fun s hready hhold hstage hroot hdrbg hscramble => ?_, fun s x hready hhold hstage hroot hscramble hjournal hexpire => ?_,
    fun s x i k hready hhold hstage hroot hscramble hjournal hk hexpire => ?_, fun s i rest hsweeps hslots hstate hsas => ?_,
    fun s => rfl, fun s hen hstage hpower => ?_, fun s hen => ?_⟩
  · have hrun := keyCmd_ends h (op := 0) (run := fun s => (stOk, s)) rfl
    exact answers rfl (by rw [doKeyNop, min_keyRequester h]; exact hrun)
  · simp only [List.mem_cons, List.not_mem_nil, or_false] at hc
    rcases hc with rfl | rfl | rfl | rfl | rfl | rfl | rfl | rfl | rfl | rfl | rfl | rfl | rfl | rfl | rfl <;>
      exact answers rfl (keyCmd_busy hserving hbusy)
  · exact answers rfl (keyCmd_notReady hserving hbusy hready)
  · have hscramble' : s.rooted.isF F.GLB_KEY_SLOTS_SCRAMBLE = false := by
      rw [State.isF, getF_rooted, getF_setF_ne _ _ _ _ (by decide)]
      exact hscramble
    obtain ⟨hopen, hkey, harc, hfree⟩ := keyOpened_shows hscramble' (by simp [State.rooted])
    refine ⟨_, answers rfl (doKeyStoreReady_empty hready hhold hstage hroot hdrbg), hopen, ?_, hkey, ?_⟩
    · rw [harc, getF_rooted, getF_setF_same]
      rfl
    · have hcount : s.rooted.resumeSweeps.getF F.GLB_KEY_SLOTS_COUNT = s.getF F.GLB_KEY_SLOTS_COUNT :=
        (getF_rooted _).trans (getF_setF_ne _ _ _ _ (by decide))
      rw [hfree, free_countFree rfl, hcount]
  · obtain ⟨hopen, hkey, -, -⟩ := keyOpened_shows (s := s.jEmpty) hscramble hexpire
    refine ⟨_, answers rfl (doKeyStoreReady_found hready hhold hstage hroot), ?_⟩
    rw [examineJournal_discards hjournal]
    exact ⟨hopen, hkey⟩
  · obtain ⟨hopen, hkey, -, -⟩ := keyOpened_shows (s := (s.putSlot i k).jEmpty) hscramble (expire_putSlot hk hexpire)
    refine ⟨_, answers rfl (doKeyStoreReady_found hready hhold hstage hroot), ?_⟩
    rw [examineJournal_replays hjournal]
    have hslot : ∀ j, (s.putSlot i k).jEmpty.keyOpened.slot j = (s.putSlot i k).slot j :=
      slot_of_key (s := (s.putSlot i k).jEmpty.resumeSweeps) hkey
    exact ⟨hopen, (hslot i).trans (slot_putSlot_same i k), fun j hj => (hslot j).trans (slot_putSlot_ne k hj),
      by rw [hkey]; rfl⟩
  · have hkey := postFree_key (s := s.swept i rest) 0x24 2
    refine ⟨_, answers rfl (doReclaimSweepDone_single hsweeps hslots hstate hsas),
      (slot_of_key hkey i).trans (slot_swept rest), ?_, ?_, (postFree_tables _ _).trans (swept_tables rest)⟩
    · rw [hkey, swept_sweeps]
    · rw [State.isF, getF_postFree (by decide)]
      exact isF_swept rest
  · obtain ⟨hroot, hslots, hhold, hready, hcause, harc⟩ := doTamperDetection_empties hen hstage hpower
    exact ⟨_, rfl, hroot, hslots, hhold, hready, hcause, harc⟩
  · exact answers rfl (doTamperDetection_disabled hen 0)

end Sys2Proof.Machine
end

section
/-! SUPPORT. The DMA queues: their tallies, and the registers that a doorbell, a write of DMA_Q_CFG and a stop store. -/

namespace Sys2Proof.Machine

section
variable {s : State} {q : Nat}

/-! ### Tallies without a unit (R415) -/

/-- A tally of a family that belongs to no unit counts. -/
theorem tallyCounts_noUnit {f : Nat × Nat × Nat × Nat} {i : Nat} (hf : f ∈ tallyFamilies) (hkind : f.2.2.1 = 0)
    (hlo : f.1 ≤ i) (hhi : i < f.1 + f.2.1 * f.2.2.2) : s.tallyCounts i = true :=
  List.any_eq_true.2 ⟨f, hf, by simp [hlo, hhi, hkind, State.unitCounts]⟩

theorem tallyCounts_dmaTx {m : Nat} (hq : q < 64) (hm : m < 8) : s.tallyCounts (T.dmaTx q m) = true :=
  tallyCounts_noUnit (f := (0x32000, 8, 0, 64)) (by simp [tallyFamilies]) rfl (Nat.le_add_right_of_le (Nat.le_add_right ..))
    (by simp only [T.dmaTx]; omega)

theorem tallyCounts_dmaRx {m : Nat} (hq : q < 64) (hm : m < 7) : s.tallyCounts (T.dmaRx q m) = true :=
  tallyCounts_noUnit (f := (0x33000, 7, 0, 64)) (by simp [tallyFamilies]) rfl (Nat.le_add_right_of_le (Nat.le_add_right ..))
    (by simp only [T.dmaRx]; omega)

theorem tallyCounts_queue {t r : Nat} (hq : q < 128) (ht : t < 8) (hr : r < 7) : s.tallyCounts (qTally q t r) = true := by
  unfold qTally
  split
  · exact tallyCounts_dmaTx ‹_› ht
  · exact tallyCounts_dmaRx (by omega) hr

/-- A tally that counts behind updates of other parts. -/
theorem counted_of_tly {v : State} {i : Nat} (u : State) (hcounts : u.tallyCounts i = true) (hu : u.tly = s.tly)
    (hv : v.tly = (u.tally i).tly) : Counted s v i :=
  (counted_tally u hcounts).of_tallyOf (tallyOf_of_tly hu i) (tallyOf_of_tly hv i)

theorem qTally_tx (hq : q < 64) (t r : Nat) : qTally q t r = T.dmaTx q t := if_pos hq

/-! ### DOORBELL (R297) -/

/-- A TAIL within the ring is stored. -/
theorem doorbell_stores {n : Nat}
    (hfits : (n % 2 ^ 16 + 2 ^ 16 - s.getF (F.DMA_Q_STAT_HEAD q)) % 2 ^ 16 ≤ 2 ^ s.getF (F.DMA_Q_CFG_SIZE_LOG2 q)) :
    s.doorbell q n = s.setF (F.DMA_Q_STAT_TAIL q) n := if_neg (Nat.not_lt.2 hfits)

/-- A TAIL beyond the ring is stored as the end of the ring and counted. -/
theorem doorbell_clamps {n : Nat}
    (hbeyond : 2 ^ s.getF (F.DMA_Q_CFG_SIZE_LOG2 q) < (n % 2 ^ 16 + 2 ^ 16 - s.getF (F.DMA_Q_STAT_HEAD q)) % 2 ^ 16) :
    s.doorbell q n = (s.setF (F.DMA_Q_STAT_TAIL q) (s.getF (F.DMA_Q_STAT_HEAD q)
      + 2 ^ s.getF (F.DMA_Q_CFG_SIZE_LOG2 q))).tally (qTally q 5 4) := if_pos hbeyond

theorem doDoorbell_serving {n : Nat} (hq : q < 128) (hserving : s.serving = true) : doDoorbell q n s = s.doorbell q n := by
  rw [doDoorbell, busGate_serving hserving, Nat.mod_eq_of_lt hq]

/-! ### DMA_Q_CFG (R297) -/

/-- DMA_Q_CFG. -/
def dmaQCfgReg : RegDesc :=
  regA "DMA_Q_CFG" 0x2C1008 128 64 (.none) [fd 0 1 .rw 0 .wm, fc 1 4 3 [(3, 12)], fd 5 1 .rw 0 .wm]

theorem blockRegs_dma {off : Nat} (h₁ : 0x2C0000 ≤ off) (h₂ : off < 0x300000) : blockRegs off = dmaRegs := by
  unfold blockRegs
  iterate 13 rw [if_neg (by omega)]
  rw [if_pos h₂]

theorem findReg_dmaQCfg (hq : q < 128) : findReg (0x2C1008 + q * 64) = some (dmaQCfgReg, q, 0) := by
  unfold findReg
  rw [blockRegs_dma (by omega) (by omega)]
  unfold dmaRegs dmaRegs1
  simp only [List.cons_append]
  iterate 10 rw [findIn_miss _ (hit_beyond _ (by decide) (Nat.le_add_right_of_le (by decide)))]
  iterate 2 rw [findIn_miss _ (by simp [RegDesc.hit]; omega)]
  exact findIn_hit _ (hit_at dmaQCfgReg (j := 0) hq (by decide) (by decide) (by decide))

/-- The fields of DMA_Q_CFG as a write of `v` stores them. -/
def State.queueCfgStored (s : State) (q v : Nat) : State :=
  ((s.setF (F.DMA_Q_CFG_EN q) (bits v 0 1)).setF (F.DMA_Q_CFG_SIZE_LOG2 q) (nearest [(3, 12)] (bits v 1 4))).setF
    (F.DMA_Q_CFG_EMPTY_ACT q) (bits v 5 1)

theorem storeReg_dmaQCfg (v : Nat) (hq : q < 128) : s.storeReg (F.DMA_Q_CFG_EN q).off v = s.queueCfgStored q v := by
  unfold State.storeReg
  rw [findReg_dmaQCfg hq]
  rfl

/-- A legal value is stored as it is (R14). -/
theorem nearest_legal {r : Nat × Nat} {v : Nat} (h₁ : r.1 ≤ v) (h₂ : v ≤ r.2) : nearest [r] v = v := by
  rw [nearest_cons, clampInto, if_neg (Nat.not_lt.2 h₁), if_neg (Nat.not_lt.2 h₂)]
  rfl

/-- The ring of queue `q` starts at 0, and the queue is not stopped. -/
def State.ringAtZero (s : State) (q : Nat) : State :=
  ((s.setF (F.DMA_Q_STAT_HEAD q) 0).setF (F.DMA_Q_STAT_TAIL q) 0).setB (F.DMA_Q_ERR_STOPPED q) false

/-- A write that enables a disabled queue stores its fields and starts its ring. -/
theorem queueCfg_enables {v : Nat} (hq : q < 128) (hen : s.isF (F.DMA_Q_CFG_EN q) = false) (hv : bit v 0 = true) :
    s.queueCfg q v = (s.queueCfgStored q v).ringAtZero q := by
  unfold State.queueCfg
  dsimp only
  rw [if_neg (by simp [hen]), if_pos hv, storeReg_dmaQCfg v hq]
  rfl

/-- A write that disables an enabled queue is counted and stops the queue where it stands. -/
theorem queueCfg_disables {v : Nat} (hen : s.isF (F.DMA_Q_CFG_EN q) = true) (hv : bit v 0 = false) :
    s.queueCfg q v
      = ((s.tally (qTally q 6 5)).setB (F.DMA_Q_CFG_EN q) false).setB (F.DMA_Q_ERR_STOPPED q) true := by
  unfold State.queueCfg
  rw [if_pos hen, if_neg (by simp [hv])]

theorem doQueueEnable_serving {v : Nat} (hq : q < 128) (hserving : s.serving = true) :
    doQueueEnable q v s = s.queueCfg q v := by
  rw [doQueueEnable, busGate_serving hserving, Nat.mod_eq_of_lt hq]

/-- The fields that enabling a queue writes. -/
def enableFields (q : Nat) : List Fld :=
  [F.DMA_Q_CFG_EN q, F.DMA_Q_CFG_SIZE_LOG2 q, F.DMA_Q_CFG_EMPTY_ACT q, F.DMA_Q_STAT_HEAD q, F.DMA_Q_STAT_TAIL q,
    F.DMA_Q_ERR_STOPPED q]

theorem onlyFields_enabled (v : Nat) : OnlyFields s ((s.queueCfgStored q v).ringAtZero q) (enableFields q) :=
  ((((((OnlyFields.refl s _).setF _ (by simp [enableFields])).setF _ (by simp [enableFields])).setF _
    (by simp [enableFields])).setF _ (by simp [enableFields])).setF _ (by simp [enableFields])).setB _
    (by simp [enableFields])

/-- What a queue's registers read once it is enabled. -/
theorem enabled_shows {v k : Nat} (hen : bits v 0 1 = 1) (hsize : bits v 1 4 = k) (h₁ : 3 ≤ k) (h₂ : k ≤ 12) :
    let t := (s.queueCfgStored q v).ringAtZero q
    t.isF (F.DMA_Q_CFG_EN q) = true ∧ t.getF (F.DMA_Q_CFG_SIZE_LOG2 q) = k ∧ t.getF (F.DMA_Q_STAT_HEAD q) = 0
      ∧ t.getF (F.DMA_Q_STAT_TAIL q) = 0 ∧ t.isF (F.DMA_Q_ERR_STOPPED q) = false := by
  have hring : ∀ (u : State) (f : Fld), f.off = 0x2C1008 + q * 64 → f.lo < 32 → (u.ringAtZero q).getF f = u.getF f := by
    intro u f hoff hlo
    unfold State.ringAtZero
    rw [getF_setB_ne _ _ _ _ (by simp only [Fld.key]; omega), getF_setF_ne _ _ _ _ (by simp only [Fld.key]; omega),
      getF_setF_ne _ _ _ _ (by simp only [Fld.key]; omega)]
  refine ⟨?_, ?_, ?_, ?_, isF_setB_same _ _ _ rfl⟩
  · rw [State.isF, hring _ (F.DMA_Q_CFG_EN q) rfl (by simp), State.queueCfgStored, getF_setF_ne _ _ _ _ (by simp [Fld.key]),
      getF_setF_ne _ _ _ _ (by simp [Fld.key]), getF_setF_same, hen]
    rfl
  · rw [hring _ (F.DMA_Q_CFG_SIZE_LOG2 q) rfl (by simp), State.queueCfgStored, getF_setF_ne _ _ _ _ (by simp [Fld.key]),
      getF_setF_same, hsize, nearest_legal (r := (3, 12)) h₁ h₂]
    exact Nat.mod_eq_of_lt (show k < 2 ^ 4 by omega)
  · rw [State.ringAtZero, getF_setB_ne _ _ _ _ (by simp only [Fld.key]; omega),
      getF_setF_ne _ _ _ _ (by simp [Fld.key]), getF_setF_same]
    rfl
  · rw [State.ringAtZero, getF_setB_ne _ _ _ _ (by simp only [Fld.key]; omega), getF_setF_same]
    rfl

/-! ### QUEUE_STOP (R302) -/

/-- Queue `q` as a completion error with cause `c` leaves it. -/
def State.queueStopped (s : State) (q c : Nat) : State :=
  ((((s.setF (F.DMA_Q_ERR_CAUSE q) c).setB (F.DMA_Q_ERR_STOPPED q) true).setB (F.DMA_Q_CFG_EN q) false).tally
    (qTally q 7 6)).announce 130

theorem doQueueStop_enabled {c : Nat} (hq : q < 128) (hen : s.isF (F.DMA_Q_CFG_EN q) = true) (h₁ : 1 ≤ c) (h₂ : c ≤ 5) :
    doQueueStop q c s = s.queueStopped q c := by
  unfold doQueueStop
  rw [Nat.mod_eq_of_lt hq, nearest_legal (r := (1, 5)) h₁ h₂, if_neg (by simp [hen])]
  rfl

theorem fieldsKept_queueStopped (c : Nat) :
    FieldsKept s (s.queueStopped q c) [F.DMA_Q_CFG_EN q, F.DMA_Q_ERR_STOPPED q, F.DMA_Q_ERR_CAUSE q] :=
  ((((FieldsKept.refl s _).setF c (f := F.DMA_Q_ERR_CAUSE q) (by simp)).setB true (f := F.DMA_Q_ERR_STOPPED q)
    (by simp)).setB false (f := F.DMA_Q_CFG_EN q) (by simp)).of_regs (tally_regs _ _)

/-- What a stopped queue's registers read. -/
theorem queueStopped_shows {c : Nat} (h : c ≤ 5) : let t := s.queueStopped q c
    t.isF (F.DMA_Q_CFG_EN q) = false ∧ t.isF (F.DMA_Q_ERR_STOPPED q) = true ∧ t.getF (F.DMA_Q_ERR_CAUSE q) = c := by
  have hread : ∀ f : Fld, (s.queueStopped q c).getF f = (((s.setF (F.DMA_Q_ERR_CAUSE q) c).setB (F.DMA_Q_ERR_STOPPED q)
      true).setB (F.DMA_Q_CFG_EN q) false).getF f := fun f => getF_of_regs (tally_regs _ _) f
  refine ⟨?_, ?_, ?_⟩
  · rw [State.isF, hread]
    exact isF_setB_same _ _ _ rfl
  · rw [State.isF, hread, getF_setB_ne _ _ _ _ (by simp [Fld.key])]
    exact isF_setB_same _ _ _ rfl
  · rw [hread, getF_setB_ne _ _ _ _ (by simp only [Fld.key]; omega), getF_setB_ne _ _ _ _ (by simp [Fld.key]), getF_setF_same]
    exact Nat.mod_eq_of_lt (show c < 2 ^ 3 by omega)

theorem queueStopped_counted (c : Nat) (hq : q < 128) : Counted s (s.queueStopped q c) (qTally q 7 6) :=
  counted_of_tly (((s.setF (F.DMA_Q_ERR_CAUSE q) c).setB (F.DMA_Q_ERR_STOPPED q) true).setB (F.DMA_Q_CFG_EN q) false)
    (tallyCounts_queue hq (by decide) (by decide)) rfl rfl

end

end Sys2Proof.Machine
end

section
/-! PROOF of QueuesStartRunAndStop. Behind the gate of R316 each command is the write of its registers, read back field by
field. -/

namespace Sys2Proof.Machine

/-- Settles O56: each command is the write of its registers, and a count where the write is not taken as it stands. -/
theorem queuesStartRunAndStop : Obligations.QueuesStartRunAndStop := by
  unfold Obligations.QueuesStartRunAndStop
  refine ⟨fun s q n hq hserving hfits => ?_, fun s q n hq hserving hbeyond => ?_,
    fun s q k hq hserving hen h₁ h₂ => ?_, fun s q v hq hserving hen hv => ?_, fun s q c hq hen h₁ h₂ => ?_⟩
  · refine ⟨_, answers rfl ((doDoorbell_serving hq hserving).trans (doorbell_stores hfits)),
      (OnlyFields.refl s _).setF n (List.mem_singleton_self _), getF_setF_same _ _ _⟩
  · refine ⟨_, answers rfl ((doDoorbell_serving (by omega) hserving).trans (doorbell_clamps hbeyond)), ?_,
      (getF_of_regs (tally_regs _ _) _).trans (getF_setF_same _ _ _)⟩
    rw [qTally_tx hq]
    exact counted_of_tly (s.setF _ _) (tallyCounts_dmaTx hq (by decide)) rfl rfl
  · have hbit : bit (1 + 2 * k) 0 = true := by simp [bit]
    have hone : bits (1 + 2 * k) 0 1 = 1 := by simp [bits]
    have hsize : bits (1 + 2 * k) 1 4 = k := by simp only [bits]; omega
    obtain ⟨henabled, hring, hhead, htail, hstopped⟩ := enabled_shows (s := s) (q := q) hone hsize h₁ h₂
    exact ⟨_, answers rfl ((doQueueEnable_serving hq hserving).trans (queueCfg_enables hq hen hbit)),
      henabled, hring, hhead, htail, hstopped, onlyFields_enabled _⟩
  · have hbit : bit v 0 = false := by simp [bit, hv]
    refine ⟨_, answers rfl ((doQueueEnable_serving (by omega) hserving).trans (queueCfg_disables hen hbit)), ?_,
      isF_setB_same _ _ _ rfl, ?_, ?_, ?_⟩
    · rw [isF_setB_ne _ _ _ _ (by simp [Fld.key])]
      exact isF_setB_same _ _ _ rfl
    · rw [getF_setB_ne _ _ _ _ (by simp only [Fld.key]; omega), getF_setB_ne _ _ _ _ (by simp only [Fld.key]; omega)]
      exact getF_of_regs (tally_regs _ _) _
    · rw [getF_setB_ne _ _ _ _ (by simp only [Fld.key]; omega), getF_setB_ne _ _ _ _ (by simp only [Fld.key]; omega)]
      exact getF_of_regs (tally_regs _ _) _
    · rw [qTally_tx hq]
      exact counted_of_tly s (tallyCounts_dmaTx hq (by decide)) rfl rfl
  · obtain ⟨hdisabled, hstopped, hcause⟩ := queueStopped_shows (s := s) (q := q) h₂
    exact ⟨_, answers rfl (doQueueStop_enabled hq hen h₁ h₂), hdisabled, hstopped, hcause, queueStopped_counted c hq,
      fieldsKept_queueStopped c⟩

end Sys2Proof.Machine
end

section
/-! SUPPORT. The remote windows (R290 to R294): the REQ frame of an access, what an access through a window in which nothing
waits leaves, how a lone access ends, and the remote-error log (R295, R296). -/

namespace Sys2Proof.Machine

section
variable {s : State} {h : Nat} {a : Acc}

theorem getF_incF_ne {f g : Fld} (hne : g.key ≠ f.key) : (s.incF f).getF g = s.getF g := getF_setF_ne s f g _ hne

/-- Each of several fields reads what was stored there, when their keys differ. -/
theorem getF_storeEach {n k : Nat} {g : Nat → Fld} (v : Nat → Nat) (hk : k < n)
    (hne : ∀ j, k < j → j < n → (g k).key ≠ (g j).key) :
    (s.forN n fun j s => s.setF (g j) (v j)).getF (g k) = v k % 2 ^ (g k).w :=
  forN_reaches (Q := fun _ => True) (P := fun t => t.getF (g k) = v k % 2 ^ (g k).w) hk trivial (fun _ _ _ _ => trivial)
    (fun t _ => getF_setF_same t _ _) (fun j t hkj hj ht => (getF_setF_ne t _ _ _ (hne j hkj hj)).trans ht)

/-! ### How a command of the host arrives (R287, R292) -/

theorem onRead_memOn (hmem : s.memOn = true) (f : State → State) : s.onRead f = f s := if_pos hmem

/-- What the endpoint does not support ends so whether or not it answers memory requests, while the link is up. -/
theorem onRead_unsupported {f : State → State} (hlink : s.host.link = true) (hf : f s = s.emit .unsupported) :
    s.onRead f = s.emit .unsupported := by
  rw [State.onRead, hf, if_pos hlink, ite_self]

theorem posted_taken {w : HeldWrite} (hmem : s.memOn = true) (hheld : s.host.held = []) (hcredit : s.noCredit w = false)
    (f : State → State) : s.posted w f = f s := by
  simp [State.posted, State.onWrite, hmem, hheld, hcredit]

/-- One more acknowledged write has room while fewer than 32 wait. -/
theorem noCredit_room (x v : Nat) (hh : h < 16) (hroom : s.ackQueued h < 32) :
    s.noCredit (.window h x 1 [(v, true)]) = false := by
  have hone : (dwordRuns (x % 2 ^ 19 / 4 * 4) [(v, true)]).length = 1 := rfl
  have hfits : ¬ 32 < s.ackQueued h + 1 := by omega
  simp only [State.noCredit, Nat.mod_eq_of_lt hh, hone, hfits, decide_false, Bool.and_false]

/-- A write of one dword through a window is one access. -/
theorem remoteWrite_one (x kind v : Nat) (hpos : 1 ≤ h) (hh : h < 16) :
    s.remoteWrite h x kind [(v, true)] = s.access h kind 0 (s.remoteOff h (x % 2 ^ 19 / 4 * 4)) 1 [v % 2 ^ 32] := by
  unfold State.remoteWrite
  dsimp only
  rw [Nat.mod_eq_of_lt hh]
  show (if h = 0 then s else s.access h kind 0 (s.remoteOff h (x % 2 ^ 19 / 4 * 4)) 1 [v % 2 ^ 32]) = _
  exact if_neg (by omega)

/-- An aligned offset of a sub-range is the one that an access names. -/
theorem winOff_eq {x : Nat} (h₄ : x % 4 = 0) (hx : x < 2 ^ 19) : x % 2 ^ 19 / 4 * 4 = x := by omega

/-! ### The REQ frame (R291) -/

/-- The REQ frame of an access of window `h`. -/
def State.reqFrame (s : State) (h : Nat) (a : Acc) : Out :=
  .eplen (s.eplenPort (s.winDir h)) (s.eplenHdr 0x10 (s.winDir h) (h - 1)) (s.reqBody h a)

/-- The next RSEQ of a window is a register of its own. -/
theorem getF_incSeq {f : Fld} (i : Nat) (hoff : f.off % 32 ≠ 4 ∨ f.off < 0x441020) (hlo : f.lo < 32) :
    (s.incF (F.RNG_WIN_SEQ_NEXT i)).getF f = s.getF f :=
  getF_incF_ne (by simp only [Fld.key]; omega)

theorem winDir_incSeq (i : Nat) : (s.incF (F.RNG_WIN_SEQ_NEXT i)).winDir h = s.winDir h :=
  getF_incSeq i (.inl (by dsimp only; omega)) (by simp)

theorem reqFrame_incSeq (i : Nat) (a : Acc) : (s.incF (F.RNG_WIN_SEQ_NEXT i)).reqFrame h a = s.reqFrame h a := by
  have htagLo := getF_incSeq (s := s) (f := F.RNG_WIN_TAG_LO_TAG (h - 1)) i (.inl (by dsimp only; omega)) (by simp)
  have htagHi := getF_incSeq (s := s) (f := F.RNG_WIN_TAG_HI_TAG (h - 1)) i (.inl (by dsimp only; omega)) (by simp)
  have hpair := getF_incSeq (s := s) (f := F.RNG_STAT_EPLEN_PAIR) i (by decide) (by decide)
  have hstrap := getF_incSeq (s := s) (f := F.GLB_STRAP_CODE) i (by decide) (by decide)
  have hselfLo := getF_incSeq (s := s) (f := F.RNG_SELF_TAG_LO_TAG) i (by decide) (by decide)
  have hselfHi := getF_incSeq (s := s) (f := F.RNG_SELF_TAG_HI_TAG) i (by decide) (by decide)
  simp only [State.reqFrame, State.eplenPort, State.eplenHdr, State.isHead, State.selfTag, State.reqBody, winDir_incSeq,
    htagLo, htagHi, hpair, hstrap, hselfLo, hselfHi]

theorem winReaches_incSeq (i : Nat) : (s.incF (F.RNG_WIN_SEQ_NEXT i)).winReaches h = s.winReaches h := by
  unfold State.winReaches State.isF
  rw [winDir_incSeq, getF_incSeq (f := F.RNG_WIN_CFG_EN (h - 1)) i (.inl (by dsimp only; omega)) (by simp)]
  split
  · rw [getF_incSeq i (by decide) (by decide)]
  · rw [getF_incSeq i (by decide) (by decide)]

theorem eplenUp_incSeq (i : Nat) : (s.incF (F.RNG_WIN_SEQ_NEXT i)).eplenUp = s.eplenUp := by
  have hpair : (s.incF (F.RNG_WIN_SEQ_NEXT i)).pairUp 0 = s.pairUp 0 := by
    unfold State.pairUp
    rw [getF_incSeq i (by decide) (by decide), getF_incSeq (f := F.GLB_RST_STAT_STAGE) i (by decide) (by decide), incF_boot]
  unfold State.eplenUp State.isF
  rw [hpair, getF_incSeq i (by decide) (by decide), getF_incSeq (f := F.PWR_MODE_MODE) i (by decide) (by decide)]

/-! ### Issuing (R291, R292) -/

/-- What stays in a window of an access that has gone out: a posted write awaits no answer. -/
def Acc.awaited (a : Acc) : List Acc := if a.kind = 0 then [] else [{ a with sent := true }]

/-- The acknowledged writes of a list, as ACK_PENDING counts them. -/
def ackPending (l : List Acc) : Nat := min 32 (l.filter fun a => a.kind == 1).length

/-- A lone access goes out as its frame. -/
theorem issueAll_lone (hsent : a.sent = false) (hup : s.eplenUp = true) :
    s.issueAll h [a] = (a.awaited, s.emit (s.reqFrame h a)) := by
  have hreq : s.sendReq h a = s.emit (s.reqFrame h a) := if_pos hup
  by_cases h₁ : a.kind = 1
  · simp [State.issueAll, hsent, hreq, Acc.awaited, h₁]
  · simp [State.issueAll, hsent, hreq, Acc.awaited, h₁]

theorem issue_lone (hq : (s.win h).q = [a]) (hsent : a.sent = false) (hup : s.eplenUp = true) :
    s.issue h = ((s.emit (s.reqFrame h a)).setWin h { s.win h with q := a.awaited }).setF
      (F.RNG_WIN_STAT_ACK_PENDING (h - 1)) (ackPending a.awaited) := by
  unfold State.issue
  rw [hq, issueAll_lone hsent hup]
  rfl

theorem issue_empty (hq : (s.win h).q = []) :
    s.issue h = (s.setWin h { s.win h with q := [] }).setF (F.RNG_WIN_STAT_ACK_PENDING (h - 1)) 0 := by
  unfold State.issue
  rw [hq]
  rfl

/-- An access through a window in which nothing waits goes out as its frame with the next RSEQ (R291). -/
theorem access_free (hfree : s.WinFree h) (kind atomic off count : Nat) (data : List Nat) :
    let a : Acc := { rseq := s.getF (F.RNG_WIN_SEQ_NEXT (h - 1)), kind := kind, atomic := atomic, off := off,
                     count := count, data := data }
    let t := s.access h kind atomic off count data
    ReqSent s t h a ∧ (t.win h).q = a.awaited
      ∧ t.getF (F.RNG_WIN_STAT_ACK_PENDING (h - 1)) = ackPending a.awaited := by
  intro a t
  obtain ⟨-, -, hreach, hup, hq⟩ := hfree
  let u := (s.incF (F.RNG_WIN_SEQ_NEXT (h - 1))).setWin h { s.win h with q := (s.win h).q ++ [a] }
  have huq : (u.win h).q = [a] := by rw [win_setWin_same, hq]; rfl
  have hframe : u.reqFrame h a = s.reqFrame h a := reqFrame_incSeq _ _
  have ht : t = ((u.emit (s.reqFrame h a)).setWin h { u.win h with q := a.awaited }).setF
      (F.RNG_WIN_STAT_ACK_PENDING (h - 1)) (ackPending a.awaited) := by
    rw [← hframe, ← issue_lone huq rfl ((eplenUp_incSeq _).trans hup)]
    exact if_neg (by simp [winReaches_incSeq, hreach])
  clear_value t
  subst ht
  refine ⟨⟨rfl, ?_, ?_⟩, congrArg Win.q (win_setWin_same _ _ _), ?_⟩
  · rw [getF_setF_ne _ _ _ _ (by simp only [Fld.key]; omega)]
    exact getF_incF_same _ _
  · exact ((OnlyFields.refl _ _).setF _ (by simp)).setF _ (by simp)
  · exact (getF_setF_same _ _ _).trans (Nat.mod_eq_of_lt (show min 32 _ < 2 ^ 6 by omega))

end

end Sys2Proof.Machine
end

section
/-! SUPPORT. The remote-error log (R295, R296): what recording a remote failure changes, and how a failed access ends. -/

namespace Sys2Proof.Machine

section
variable {s : State} {h : Nat} {a : Acc}

theorem tallyCounts_rngWin {w m : Nat} (hw : w < 16) (hm : m < 2) : s.tallyCounts (T.rngWin w m) = true :=
  tallyCounts_noUnit (f := (0x35000, 2, 0, 16)) (by simp [tallyFamilies]) rfl (Nat.le_add_right_of_le (Nat.le_add_right ..))
    (by simp only [T.rngWin]; omega)

/-- The words of a remote-error record (Table 11.3). -/
def State.relWords (s : State) (r : RelRec) : List Nat :=
  [r.addr % 2 ^ 26 + r.h * 2 ^ 26, r.rseq, r.cause % 16 + r.kind % 8 * 16 + 2 ^ 31, r.data, r.ns % 2 ^ 30, r.sec,
    r.sec / 2 ^ 32 % 2 ^ 16, s.now32]

/-- A failure of the window of `r` adds to its errors. -/
def State.winFailed (s : State) (r : RelRec) : State := s.setWin r.h { s.win r.h with errs := (s.win r.h).errs + 1 }

/-- The record of `r` is written to entry `i` of the log. -/
def State.relWritten (s : State) (r : RelRec) (i : Nat) : State :=
  s.forN 8 fun k u => u.setF (F.RNG_REL_REC_WORD i k) ((s.relWords r).getD k 0)

/-- The words of entry `i` of the log. -/
def relEntry (i : Nat) : List Fld := (List.range 8).map (F.RNG_REL_REC_WORD i)

theorem onlyFields_relWritten (r : RelRec) (i : Nat) : OnlyFields s (s.relWritten r i) (relEntry i) :=
  OnlyFields.forN 8 _ fun _ t hk =>
    (OnlyFields.refl t _).setF _ (List.mem_map_of_mem (f := F.RNG_REL_REC_WORD i) (List.mem_range.2 hk))

/-- The log's entries lie behind its counts. -/
theorem notMem_relEntry {f : Fld} (i : Nat) (hf : f.key < 0x442100 * 32) : f.key ∉ (relEntry i).map Fld.key := by
  simp only [relEntry, List.map_map, List.mem_map, Function.comp_apply, Fld.key, not_exists, not_and] at *
  omega

theorem getF_relWritten {k : Nat} (r : RelRec) (i : Nat) (hk : k < 8) :
    (s.relWritten r i).getF (F.RNG_REL_REC_WORD i k) = (s.relWords r).getD k 0 % 2 ^ 32 :=
  getF_storeEach (g := F.RNG_REL_REC_WORD i) _ hk fun j hkj _ => by simp only [Fld.key]; omega

/-- One more record of a failure of window `h` is in the log: its counts, the tally and interrupt source 129. -/
def State.relCounted (s : State) (h : Nat) : State :=
  (((s.incF F.RNG_REL_STAT_WRITTEN).satF F.RNG_REL_STAT_UNREAD 1).tally (T.rngWin h 0)).announce 129

theorem getF_relCounted (h : Nat) (f : Fld) :
    (s.relCounted h).getF f = ((s.incF F.RNG_REL_STAT_WRITTEN).satF F.RNG_REL_STAT_UNREAD 1).getF f :=
  getF_of_regs (tally_regs _ _) f

/-- A failure is recorded while fewer than 32 records are unread. -/
theorem relRecord_room {r : RelRec} (hroom : s.getF F.RNG_REL_STAT_UNREAD < 32) : s.relRecord r =
    ((s.winFailed r).relWritten r (s.getF F.RNG_REL_STAT_WRITTEN % 32)).relCounted r.h := if_neg hroom.ne

/-- With 32 records unread a failure is counted as lost. -/
theorem relRecord_full {r : RelRec} (hfull : s.getF F.RNG_REL_STAT_UNREAD = 32) :
    s.relRecord r = ((s.winFailed r).satF F.RNG_REL_STAT_LOST 1).tally (T.rng 0) := if_pos hfull

/-- What the record of the failure `r` shows in `t`: the window's errors, the log's counts, the entry and the tally; nothing
has left the device. -/
structure RelRecorded (s t : State) (r : RelRec) : Prop where
  out : t.out = s.out
  held : t.host.held = s.host.held
  win : t.win r.h = { s.win r.h with errs := (s.win r.h).errs + 1 }
  unread : t.getF F.RNG_REL_STAT_UNREAD = s.getF F.RNG_REL_STAT_UNREAD + 1
  written : t.getF F.RNG_REL_STAT_WRITTEN = (s.getF F.RNG_REL_STAT_WRITTEN + 1) % 256
  word : ∀ k < 8, t.getF (F.RNG_REL_REC_WORD (s.getF F.RNG_REL_STAT_WRITTEN % 32) k) = (s.relWords r).getD k 0 % 2 ^ 32
  counted : r.h < 16 → Counted s t (T.rngWin r.h 0)

theorem relRecord_recorded {r : RelRec} (hroom : s.getF F.RNG_REL_STAT_UNREAD < 32) :
    RelRecorded s (s.relRecord r) r := by
  rw [relRecord_room hroom]
  obtain ⟨hframe, hkept⟩ := onlyFields_relWritten (s := s.winFailed r) r (s.getF F.RNG_REL_STAT_WRITTEN % 32)
  have hword := fun k => getF_relWritten (s := s.winFailed r) (k := k) r (s.getF F.RNG_REL_STAT_WRITTEN % 32)
  generalize (s.winFailed r).relWritten r (s.getF F.RNG_REL_STAT_WRITTEN % 32) = w at *
  have hunread : w.getF F.RNG_REL_STAT_UNREAD = s.getF F.RNG_REL_STAT_UNREAD := hkept _ (notMem_relEntry _ (by decide))
  have hwritten : w.getF F.RNG_REL_STAT_WRITTEN = s.getF F.RNG_REL_STAT_WRITTEN := hkept _ (notMem_relEntry _ (by decide))
  have hwins : (w.relCounted r.h).host.wins = (s.winFailed r).host.wins := by
    unfold State.relCounted
    rw [State.tally, tallyN_eq, hframe]
    rfl
  refine ⟨?_, ?_, ?_, ?_, ?_, fun k hk => ?_, fun hh => ?_⟩
  · rw [State.relCounted, announce_out, tally_out, satF_out, incF_out, hframe]
    rfl
  · unfold State.relCounted
    rw [State.tally, tallyN_eq, hframe]
    rfl
  · unfold State.win
    rw [hwins]
    exact win_setWin_same s _ _
  · rw [getF_relCounted, getF_satF_same, getF_incF_ne (by decide), hunread]
    exact min_eq_right (show _ ≤ 2 ^ 6 - 1 by omega)
  · rw [getF_relCounted, getF_satF_ne _ _ _ _ (by decide), getF_incF_same, hwritten]
    rfl
  · rw [getF_relCounted, getF_satF_ne _ _ _ _ (by simp only [Fld.key]; omega), getF_incF_ne (by simp only [Fld.key]; omega),
      hword k hk]
    rfl
  · exact counted_of_tly ((w.incF F.RNG_REL_STAT_WRITTEN).satF F.RNG_REL_STAT_UNREAD 1) (tallyCounts_rngWin hh (by decide))
      (by rw [satF_tly, incF_tly, hframe]; rfl) rfl

/-! ### The end of an access (R292, R293) -/

/-- A failed acknowledged write is recorded, and LAST_STATUS says why. -/
theorem accEnd_failedWrite {st : Nat} (hkind : a.kind = 1) (hst : st ≠ stOk) (v : Nat) :
    s.accEnd h a st v = (s.relRecord (a.report h st)).setF (F.RNG_WIN_STAT_LAST_STATUS (h - 1)) st := by
  simp [State.accEnd, State.reportAcc, hkind, hst]

/-- A failed read of one dword is recorded and completes with all ones. -/
theorem accEnd_failedRead {st : Nat} (hkind : a.kind = 2) (hcount : a.count = 1) (hst : st ≠ stOk) (v : Nat) :
    s.accEnd h a st v = ((s.relRecord (a.report h st)).setF (F.RNG_WIN_STAT_LAST_STATUS (h - 1)) st).emit
      (.completion (2 ^ 32 - 1)) := by
  simp [State.accEnd, State.reportAcc, hkind, hst, hcount, allOnes]

/-- A read that the far device answers completes with its value. -/
theorem accEnd_answeredRead (hkind : a.kind = 2) (v : Nat) (far : Bool) :
    s.accEnd h a stOk v far = (s.setF (F.RNG_WIN_STAT_LAST_STATUS (h - 1)) stOk).emit (.completion v) := by
  simp [State.accEnd, hkind]

/-- What an access that reaches no device takes with it: the next RSEQ, and its end. -/
theorem access_unreached (hreach : s.winReaches h = false) (kind atomic off count : Nat) (data : List Nat) :
    s.access h kind atomic off count data = (s.incF (F.RNG_WIN_SEQ_NEXT (h - 1))).accEnd h
      { rseq := s.getF (F.RNG_WIN_SEQ_NEXT (h - 1)), kind := kind, atomic := atomic, off := off, count := count, data := data }
      stNotFound 0 := if_pos (by simp [winReaches_incSeq, hreach])

end

end Sys2Proof.Machine
end

section
/-! PROOF of RemoteAccessesLeaveAsRequests. Every command that goes through a window ends in `access`, which is followed once
for a window in which nothing waits (`access_free`) and once for one that reaches no device (`access_unreached`). -/

namespace Sys2Proof.Machine

section
variable {s : State} {h : Nat}

/-! ### The commands as accesses (R291 to R294) -/

theorem doRemotePostedWrite_one (x v : Nat) (hmem : s.memOn = true) (hheld : s.host.held = []) (hpos : 1 ≤ h)
    (hh : h < 16) : doRemotePostedWrite h x [(v, true)] s
      = s.access h 0 0 (s.remoteOff h (x % 2 ^ 19 / 4 * 4)) 1 [v % 2 ^ 32] :=
  (posted_taken hmem hheld rfl _).trans (remoteWrite_one x 0 v hpos hh)

theorem doRemoteAckWrite_one (x v : Nat) (hmem : s.memOn = true) (hheld : s.host.held = []) (hpos : 1 ≤ h) (hh : h < 16)
    (hroom : s.ackQueued h < 32) : doRemoteAckWrite h x [(v, true)] s
      = s.access h 1 0 (s.remoteOff h (x % 2 ^ 19 / 4 * 4)) 1 [v % 2 ^ 32] :=
  (posted_taken hmem hheld (noCredit_room x v hh hroom) _).trans (remoteWrite_one x 1 v hpos hh)

theorem ackQueued_empty (hq : (s.win h).q = []) : s.ackQueued h = 0 := by
  rw [State.ackQueued, hq]; rfl

theorem doRemoteRead_one {x : Nat} (hmem : s.memOn = true) (hpos : 1 ≤ h) (hh : h < 16) (h₄ : x % 4 = 0) (hx : x < 2 ^ 19) :
    doRemoteRead h x 1 s = s.access h 2 0 (s.remoteOff h x) 1 [] := by
  unfold doRemoteRead
  dsimp only
  rw [onRead_memOn hmem, winOff_eq h₄ hx, Nat.mod_eq_of_lt hh, if_neg (by simp [readSizeOk]), if_neg (by omega)]

theorem doRemoteAtomic_cas {x : Nat} (a b : Nat) (hmem : s.memOn = true) (hpos : 1 ≤ h) (hh : h < 16) (h₄ : x % 4 = 0) :
    doRemoteAtomic h x 2 32 a b s = s.access h 3 2 (s.remoteOff h x) 2 [a % 2 ^ 32, b % 2 ^ 32] := by
  have hoff : x / 4 * 4 = x := by omega
  unfold doRemoteAtomic
  dsimp only
  rw [onRead_memOn hmem, hoff, Nat.mod_eq_of_lt hh, if_neg (by simp), if_neg (by omega)]
  rfl

theorem doRngWinFence_serving (hmem : s.memOn = true) (hserving : s.serving = true) (hpos : 1 ≤ h) (hh : h < 16) :
    doRngWinFence h s = s.access h 4 0 0 0 [] := by
  unfold doRngWinFence
  dsimp only
  rw [onRead_memOn hmem, Nat.mod_eq_of_lt hh, if_neg (by simp [hserving]; omega)]
  rfl

theorem doRemoteRead_long {x count : Nat} (hlink : s.host.link = true) (hcount : 2 < count) :
    doRemoteRead h x count s = s.emit .unsupported := by
  have hone : count ≠ 1 := by omega
  have htwo : count ≠ 2 := by omega
  have hsize : (!readSizeOk (x % 2 ^ 19 / 4 * 4) count) = true := by simp [readSizeOk, hone, htwo]
  unfold doRemoteRead
  exact onRead_unsupported hlink (if_pos hsize)

theorem doRemoteAtomic_wide {x op size a b : Nat} (hlink : s.host.link = true) (hsize : size ≠ 32) :
    doRemoteAtomic h x op size a b s = s.emit .unsupported := by
  unfold doRemoteAtomic
  exact onRead_unsupported hlink (if_pos hsize)

/-! ### No device reached (R290, R292) -/

/-- An acknowledged write that reaches no device leaves its window as it was, is recorded and ends with NOT_FOUND. -/
theorem access_unreached_ackWrite (hh : h < 16) (hreach : s.winReaches h = false)
    (hroom : s.getF F.RNG_REL_STAT_UNREAD < 32) (off : Nat) (data : List Nat) :
    let t := s.access h 1 0 off 1 data
    t.out = s.out ∧ (t.win h).q = (s.win h).q ∧ t.getF (F.RNG_WIN_STAT_LAST_STATUS (h - 1)) = stNotFound
      ∧ t.getF F.RNG_REL_STAT_UNREAD = s.getF F.RNG_REL_STAT_UNREAD + 1 ∧ Counted s t (T.rngWin h 0) := by
  let u := s.incF (F.RNG_WIN_SEQ_NEXT (h - 1))
  have hunread : u.getF F.RNG_REL_STAT_UNREAD = s.getF F.RNG_REL_STAT_UNREAD :=
    getF_incF_ne (by simp only [Fld.key]; omega)
  rw [access_unreached hreach, accEnd_failedWrite rfl (by decide)]
  generalize hr : Acc.report _ h stNotFound = r
  have hrh : r.h = h := by rw [← hr]; rfl
  have hrec := relRecord_recorded (s := u) (r := r) (hunread ▸ hroom)
  subst hrh
  have hq : ((u.relRecord r).win r.h).q = (s.win r.h).q := by rw [hrec.win]; rfl
  refine ⟨hrec.out, hq, getF_setF_same _ _ _, ?_, (hrec.counted hh).of_tallyOf rfl rfl⟩
  rw [getF_setF_ne _ _ _ _ (by simp only [Fld.key]; omega), hrec.unread, hunread]

/-! ### SUBSCRIBE_REFRESH (R362) -/

/-- A subscription of window `i + 1` alone refreshes no other window. -/
theorem subscribed_iff {i j : Nat} (hsub : s.getF F.RNG_EVT_SUB_WIN = 2 ^ i) :
    bit (s.getF F.RNG_EVT_SUB_WIN) j = decide (i = j) := by
  rw [hsub, bit_eq_testBit, Nat.testBit_two_pow]

/-- With one window subscribed, that window alone sends. -/
theorem doSubscribeRefresh_one (hfree : s.WinFree h) (hsub : s.getF F.RNG_EVT_SUB_WIN = 2 ^ (h - 1)) :
    doSubscribeRefresh s = s.access h 5 0 0 0 [] := by
  obtain ⟨⟨-, -, -, hkept⟩, -, -⟩ := access_free hfree 5 0 0 0 []
  obtain ⟨hpos, hh, hreach, hup, -⟩ := hfree
  have hsub' : (s.access h 5 0 0 0 []).getF F.RNG_EVT_SUB_WIN = 2 ^ (h - 1) :=
    (hkept _ (by simp [Fld.key]; omega)).trans hsub
  have hself : h - 1 + 1 = h := by omega
  have hother : ∀ j, j ≠ h - 1 → decide (h - 1 = j) = false := fun j hj => decide_eq_false (Ne.symm hj)
  unfold doSubscribeRefresh
  rw [if_neg (by simp [hup])]
  refine forN_reaches (i := h - 1) (Q := fun t => t = s) (P := fun t => t = s.access h 5 0 0 0 []) (by omega) rfl ?_ ?_ ?_
  · rintro j t hj rfl
    rw [subscribed_iff hsub, hother j (by omega)]
    rfl
  · rintro t rfl
    rw [subscribed_iff hsub, hself, hreach, decide_eq_true rfl]
    rfl
  · rintro j t hj - rfl
    rw [subscribed_iff hsub', hother j (by omega)]
    rfl

end

/-- Settles O48: an access through a free window is its REQ frame and what awaits its answer (`access_free`), and one that
reaches no device is the record of its failure. -/
theorem remoteAccessesLeaveAsRequests : Obligations.RemoteAccessesLeaveAsRequests := by
  unfold Obligations.RemoteAccessesLeaveAsRequests
  refine ⟨fun s h x v hfree hmem hheld h₄ hx => ?_, fun s h x v hfree hmem hheld h₄ hx => ?_,
    fun s h x hfree hmem h₄ hx => ?_, fun s h x a b hfree hmem h₄ hx => ?_, fun s h hfree hmem hserving => ?_,
    fun s h hfree hsub => ?_, fun s h x count hlink hcount => ?_, fun s h x op size a b hlink hsize => ?_,
    fun s h x v hmem hheld hpos hh hreach hack hroom => ?_⟩
  · obtain ⟨hsent, hq, -⟩ := access_free hfree 0 0 (s.remoteOff h x) 1 [v % 2 ^ 32]
    obtain ⟨hpos, hh, -⟩ := hfree
    have hrun := doRemotePostedWrite_one x v hmem hheld hpos hh
    rw [winOff_eq h₄ hx] at hrun
    exact ⟨_, answers rfl hrun, hq, hsent⟩
  · obtain ⟨hsent, hq, hpending⟩ := access_free hfree 1 0 (s.remoteOff h x) 1 [v % 2 ^ 32]
    obtain ⟨hpos, hh, -, -, hempty⟩ := hfree
    have hroom : s.ackQueued h < 32 := by rw [ackQueued_empty hempty]; decide
    have hrun := doRemoteAckWrite_one x v hmem hheld hpos hh hroom
    rw [winOff_eq h₄ hx] at hrun
    exact ⟨_, answers rfl hrun,
      hpending, _, rfl, hq, hsent⟩
  · obtain ⟨hsent, hq, -⟩ := access_free hfree 2 0 (s.remoteOff h x) 1 []
    obtain ⟨hpos, hh, -⟩ := hfree
    exact ⟨_, answers rfl (doRemoteRead_one hmem hpos hh h₄ hx), _, rfl, hq, hsent⟩
  · obtain ⟨hsent, hq, -⟩ := access_free hfree 3 2 (s.remoteOff h x) 2 [a % 2 ^ 32, b % 2 ^ 32]
    obtain ⟨hpos, hh, -⟩ := hfree
    exact ⟨_, answers rfl (doRemoteAtomic_cas a b hmem hpos hh h₄), _, rfl, hq, hsent⟩
  · obtain ⟨hsent, hq, -⟩ := access_free hfree 4 0 0 0 []
    obtain ⟨hpos, hh, -⟩ := hfree
    exact ⟨_, answers rfl (doRngWinFence_serving hmem hserving hpos hh), _, rfl, hq, hsent⟩
  · obtain ⟨hsent, hq, -⟩ := access_free hfree 5 0 0 0 []
    exact ⟨_, answers rfl (doSubscribeRefresh_one hfree hsub), _, rfl, hq, hsent⟩
  · exact answers rfl (doRemoteRead_long hlink hcount)
  · exact answers rfl (doRemoteAtomic_wide hlink hsize)
  · obtain ⟨hout, hq, hlast, hunread, hcounted⟩ := access_unreached_ackWrite hh hreach hroom
      (s.remoteOff h (x % 2 ^ 19 / 4 * 4)) [v % 2 ^ 32]
    exact ⟨_, answers rfl (doRemoteAckWrite_one x v hmem hheld hpos hh hack), hout, hq, hlast, hunread, hcounted⟩

end Sys2Proof.Machine
end

section
/-! PROOF of RemoteAccessesEndOrAreRecorded. The only access of a window ends through `settleAcc`, which leaves the window
empty: an answered one behind its value, one without answer behind its record in the log. -/

namespace Sys2Proof.Machine

section
variable {s : State} {h : Nat} {a : Acc} {hdr : EplenHdr} {frame body : List Byte}

/-- A well-formed frame of the expected message is acted upon. -/
theorem eplenIn_got {msg : Nat} (hgot : s.Got frame msg hdr body) (act : EplenHdr → List Byte → State → State) :
    s.eplenIn frame msg act = act hdr body s := by
  obtain ⟨hup, hparse, hmsg⟩ := hgot
  unfold State.eplenIn
  rw [hparse, if_neg (by simp [hup])]
  exact if_pos hmsg

/-- While no write waits, the end of an access is all that an answer brings about. -/
theorem doAns_eq {d : Nat} {t : State} (hrun : State.ansIn d frame s = t) (hheld : t.host.held = []) :
    doAns d frame s = t := by
  unfold doAns
  simp only [hrun, hheld]
  rfl

theorem doRemoteTimeout_eq {t : State} (hrun : State.tmoIn h s = t) (hheld : t.host.held = []) :
    doRemoteTimeout h s = t := by
  unfold doRemoteTimeout
  simp only [hrun, hheld]
  rfl

/-- A field of a frame is as wide as its bytes. -/
theorem beAt_lt (bs : List Byte) (i : Nat) : beAt bs i 4 < 2 ^ 32 := by
  have hle : beAt bs i 4 = leNat ((bs.drop i).take 4).reverse := by
    rw [leNat, List.foldr_reverse]; rfl
  calc beAt bs i 4 < 256 ^ ((bs.drop i).take 4).reverse.length := hle ▸ leNat_lt _
    _ ≤ 256 ^ 4 := Nat.pow_le_pow_right (by decide) (by simp)
    _ = 2 ^ 32 := by decide

/-! ### ANS (R293) -/

/-- The only access of a window, sent and answered, ends with its answer's status and value. -/
theorem ansIn_lone {d : Nat} (hgot : s.Got frame 0x11 hdr body) (hleft : hdr.hopsLeft = 0) (hw : hdr.hopsDone + 1 < 16)
    (hq : (s.win (hdr.hopsDone + 1)).q = [a]) (hsent : a.sent = true) (hrseq : a.rseq = beAt body 0 4) (hkind : a.kind = 2)
    (hdir : s.winDir (hdr.hopsDone + 1) + hdr.dir = 1) (hstatus : byteAt body 4 = 0) (hcount : byteAt body 5 = 1) :
    State.ansIn d frame s = s.settleAcc (hdr.hopsDone + 1) a [] stOk (beAt body 6 4) true := by
  have hnear : ¬ 15 < hdr.hopsDone + 1 := by omega
  unfold State.ansIn
  rw [eplenIn_got hgot]
  simp [hleft, hopOf, hnear, hq, takeAcc, hsent, hrseq, hkind, hdir, hstatus, hcount]

/-- An answer for which nothing waits is late. -/
theorem ansIn_late {d : Nat} (hgot : s.Got frame 0x11 hdr body) (hleft : hdr.hopsLeft = 0) (hw : hdr.hopsDone + 1 < 16)
    (hq : (s.win (hdr.hopsDone + 1)).q = []) : State.ansIn d frame s = s.tally (T.rngWin (hdr.hopsDone + 1) 1) := by
  have hnear : ¬ 15 < hdr.hopsDone + 1 := by omega
  unfold State.ansIn
  rw [eplenIn_got hgot]
  simp [hleft, hopOf, hnear, hq, takeAcc]

/-- The only access of a window, a read, ends with the far value. -/
theorem settleAcc_answered (hkind : a.kind = 2) (v : Nat) : let t := s.settleAcc h a [] stOk v true
    (t.win h).q = [] ∧ t.out = s.out ++ [.completion v] ∧ t.getF (F.RNG_WIN_STAT_LAST_STATUS (h - 1)) = 0
      ∧ OnlyFields { s with out := t.out, host := t.host } t
          [F.RNG_WIN_STAT_LAST_STATUS (h - 1), F.RNG_WIN_STAT_ACK_PENDING (h - 1)]
      ∧ t.host.held = s.host.held := by
  intro t
  let u := ((s.setWin h { s.win h with q := [] }).setF (F.RNG_WIN_STAT_LAST_STATUS (h - 1)) stOk).emit (.completion v)
  have huq : (u.win h).q = [] := congrArg Win.q (win_setWin_same s h _)
  have ht : t = (u.setWin h { u.win h with q := [] }).setF (F.RNG_WIN_STAT_ACK_PENDING (h - 1)) 0 := by
    rw [← issue_empty huq]
    exact congrArg (State.issue · h) (accEnd_answeredRead hkind v true)
  clear_value t
  subst ht
  refine ⟨congrArg Win.q (win_setWin_same u h _), rfl, ?_, ((OnlyFields.refl _ _).setF _ (by simp)).setF _ (by simp), rfl⟩
  rw [getF_setF_ne _ _ _ _ (by simp [Fld.key])]
  exact getF_setF_same _ _ _

/-! ### REMOTE_TIMEOUT (R292 to R294) -/

/-- The only access of a window, sent and not answered, ends with TIMEOUT. -/
theorem tmoIn_lone (hh : h < 16) (hq : (s.win h).q = [a]) (hsent : a.sent = true) :
    State.tmoIn h s = s.settleAcc h a [] stTimeout 0 := by
  unfold State.tmoIn
  dsimp only
  rw [Nat.mod_eq_of_lt hh, hq]
  simp [takeAcc, hsent]

/-- A lone access that has failed with status `st` between `s` and `t`: its window is empty, its failure recorded and
LAST_STATUS says why. -/
structure LoneFailed (s t : State) (h st : Nat) : Prop where
  queue : (t.win h).q = []
  errs : (t.win h).errs = (s.win h).errs + 1
  last : t.getF (F.RNG_WIN_STAT_LAST_STATUS (h - 1)) = st
  unread : t.getF F.RNG_REL_STAT_UNREAD = s.getF F.RNG_REL_STAT_UNREAD + 1
  counted : Counted s t (T.rngWin h 0)
  held : t.host.held = s.host.held

/-- The end of a lone access that has failed: what its record and LAST_STATUS leave, `u`, with the window issued, which is
empty. -/
theorem loneFailed_issue {u : State} {r : RelRec} {st : Nat} (hr : r.h = h) (hh : h < 16) (hst : st < 16)
    (hroom : s.getF F.RNG_REL_STAT_UNREAD < 32)
    (hu : ∃ out, u = { ((s.setWin h { s.win h with q := [] }).relRecord r).setF (F.RNG_WIN_STAT_LAST_STATUS (h - 1)) st with
      out := out }) :
    LoneFailed s (u.issue h) h st ∧ (u.issue h).out = u.out := by
  obtain ⟨out, hu⟩ := hu
  subst hr
  have hrec := relRecord_recorded (s := s.setWin r.h { s.win r.h with q := [] }) (r := r) hroom
  generalize (s.setWin r.h { s.win r.h with q := [] }).relRecord r = w at hrec hu
  have hwin : u.win r.h = { q := [], errs := (s.win r.h).errs + 1 } := by
    rw [hu]
    refine hrec.win.trans ?_
    rw [win_setWin_same]
  have hread : ∀ f : Fld, f.key ≠ (F.RNG_WIN_STAT_ACK_PENDING (r.h - 1)).key → (u.issue r.h).getF f
      = (w.setF (F.RNG_WIN_STAT_LAST_STATUS (r.h - 1)) st).getF f := by
    intro f hf
    rw [issue_empty (by rw [hwin]), getF_setF_ne _ _ _ _ hf, hu]
    rfl
  refine ⟨⟨?_, ?_, ?_, ?_, ?_, ?_⟩, ?_⟩
  · rw [issue_empty (by rw [hwin])]
    exact congrArg Win.q (win_setWin_same u _ _)
  · rw [issue_empty (by rw [hwin])]
    exact (congrArg Win.errs (win_setWin_same u _ _)).trans (by rw [hwin])
  · rw [hread _ (by simp [Fld.key]), getF_setF_same]
    exact Nat.mod_eq_of_lt hst
  · rw [hread _ (by simp only [Fld.key]; omega), getF_setF_ne _ _ _ _ (by simp only [Fld.key]; omega)]
    exact hrec.unread
  · rw [issue_empty (by rw [hwin]), hu]
    exact (hrec.counted hh).of_tallyOf rfl rfl
  · rw [issue_empty (by rw [hwin]), hu]
    exact hrec.held
  · rw [issue_empty (by rw [hwin])]
    rfl

theorem settleAcc_failedWrite {st : Nat} (hkind : a.kind = 1) (hst : st ≠ stOk) (hlt : st < 16) (hh : h < 16)
    (hroom : s.getF F.RNG_REL_STAT_UNREAD < 32) : LoneFailed s (s.settleAcc h a [] st 0) h st := by
  unfold State.settleAcc
  rw [accEnd_failedWrite hkind hst]
  exact (loneFailed_issue (r := a.report h st) rfl hh hlt hroom ⟨_, rfl⟩).1

theorem settleAcc_failedRead {st : Nat} (hkind : a.kind = 2) (hcount : a.count = 1) (hst : st ≠ stOk) (hlt : st < 16)
    (hh : h < 16) (hroom : s.getF F.RNG_REL_STAT_UNREAD < 32) : LoneFailed s (s.settleAcc h a [] st 0) h st
      ∧ (s.settleAcc h a [] st 0).out = s.out ++ [.completion (2 ^ 32 - 1)] := by
  unfold State.settleAcc
  rw [accEnd_failedRead hkind hcount hst]
  obtain ⟨hfailed, hout⟩ := loneFailed_issue (s := s) (r := a.report h st) rfl hh hlt hroom ⟨_, rfl⟩
  refine ⟨hfailed, hout.trans ?_⟩
  have hrec := relRecord_recorded (s := s.setWin h { s.win h with q := [] }) (r := a.report h st) hroom
  exact congrArg (· ++ [Out.completion (2 ^ 32 - 1)]) hrec.out

/-! ### ERR (R295) -/

/-- The failure that an ERR frame reports. -/
def errReport (body : List Byte) : RelRec :=
  ⟨byteAt body 4 % 16, beAt body 0 4, byteAt body 5, byteAt body 6, beAt body 7 4, beAt body 11 4, beAt body 15 6,
    beAt body 21 4⟩

theorem doErr_reports {d : Nat} (hgot : s.Got frame 0x12 hdr body) (hleft : hdr.hopsLeft = 0)
    (hwin : byteAt body 4 % 16 ≠ 0) : doErr d frame s = s.relRecord (errReport body) := by
  unfold doErr
  rw [eplenIn_got hgot, if_neg (by omega)]
  exact if_neg hwin

theorem tallyCounts_rng {m : Nat} (hm : m < 7) : s.tallyCounts (T.rng m) = true :=
  tallyCounts_noUnit (f := (0x36000, 7, 0, 1)) (by simp [tallyFamilies]) rfl (Nat.le_add_right ..)
    (by simp only [T.rng]; omega)

/-- The first four words of the entry that an ERR frame makes. -/
theorem errReport_words {t : State} (hrec : RelRecorded s t (errReport body)) : let i := s.getF F.RNG_REL_STAT_WRITTEN % 32
    t.getF (F.RNG_REL_REC_WORD i 0) = beAt body 7 4 % 2 ^ 26 + byteAt body 4 % 16 * 2 ^ 26
      ∧ t.getF (F.RNG_REL_REC_WORD i 1) = beAt body 0 4
      ∧ t.getF (F.RNG_REL_REC_WORD i 2) = byteAt body 5 % 16 + byteAt body 6 % 8 * 16 + 2 ^ 31
      ∧ t.getF (F.RNG_REL_REC_WORD i 3) = beAt body 11 4 := by
  have hword := hrec.word
  simp only [State.relWords, errReport] at hword
  refine ⟨?_, ?_, ?_, ?_⟩
  · rw [hword 0 (by decide), List.getD_cons_zero]
    exact Nat.mod_eq_of_lt (by omega)
  · rw [hword 1 (by decide), List.getD_cons_succ, List.getD_cons_zero]
    exact Nat.mod_eq_of_lt (beAt_lt body 0)
  · rw [hword 2 (by decide), List.getD_cons_succ, List.getD_cons_succ, List.getD_cons_zero]
    exact Nat.mod_eq_of_lt (by omega)
  · rw [hword 3 (by decide), List.getD_cons_succ, List.getD_cons_succ, List.getD_cons_succ, List.getD_cons_zero]
    exact Nat.mod_eq_of_lt (beAt_lt body 11)

/-- A lost failure shows in LOST and its tally alone, of what the registers and tallies hold. -/
theorem relRecord_lost {r : RelRec} (hfull : s.getF F.RNG_REL_STAT_UNREAD = 32) (hlost : s.getF F.RNG_REL_STAT_LOST < 65535) :
    (s.relRecord r).getF F.RNG_REL_STAT_LOST = s.getF F.RNG_REL_STAT_LOST + 1 ∧ Counted s (s.relRecord r) (T.rng 0)
      ∧ FieldsKept s (s.relRecord r) [F.RNG_REL_STAT_LOST] := by
  rw [relRecord_full hfull]
  refine ⟨?_, counted_of_tly ((s.winFailed r).satF F.RNG_REL_STAT_LOST 1) (tallyCounts_rng (by decide)) rfl rfl, ?_⟩
  · have hwin : (s.winFailed r).getF F.RNG_REL_STAT_LOST = s.getF F.RNG_REL_STAT_LOST := rfl
    rw [getF_of_regs (tally_regs _ _), getF_satF_same, hwin]
    exact min_eq_right (show _ ≤ 2 ^ 16 - 1 by omega)
  · exact ((FieldsKept.refl s _).setF (f := F.RNG_REL_STAT_LOST) _ (List.mem_singleton_self _)).of_regs (tally_regs _ _)

end

/-- Settles O49: the only access of a window ends with its answer (`settleAcc_answered`) or as a recorded failure
(`LoneFailed`), and an ERR frame is one record or one more lost. -/
theorem remoteAccessesEndOrAreRecorded : Obligations.RemoteAccessesEndOrAreRecorded := by
  unfold Obligations.RemoteAccessesEndOrAreRecorded
  refine ⟨?_, ?_, ?_, ?_, ?_, ?_, ?_⟩
  · rintro s d frame h body a w hheld hgot hleft rfl hw hq hsent hrseq hkind - hdir hstatus hcount
    obtain ⟨hempty, hout, hlast, hfields, hheld'⟩ := settleAcc_answered (s := s) (h := h.hopsDone + 1) hkind (beAt body 6 4)
    have hrun := ansIn_lone (d := d) hgot hleft hw hq hsent hrseq hkind hdir hstatus hcount
    exact ⟨_, answers rfl (doAns_eq hrun (hheld'.trans hheld)), hempty, hout, hlast, hfields⟩
  · rintro s d frame h body w hgot hheld hleft rfl hw hq
    have hrun := ansIn_late (d := d) hgot hleft hw hq
    have hheld' : (s.tally (T.rngWin (h.hopsDone + 1) 1)).host.held = [] := by rw [State.tally, tallyN_eq]; exact hheld
    exact answers rfl (doAns_eq hrun hheld')
  · intro s h a _ hh hq hsent hkind hheld hroom
    have hfailed := settleAcc_failedWrite (st := stTimeout) hkind (by decide) (by decide) hh hroom
    have hrun := doRemoteTimeout_eq (tmoIn_lone hh hq hsent) (hfailed.held.trans hheld)
    exact ⟨_, answers rfl hrun, hfailed.queue, hfailed.last, hfailed.errs, hfailed.unread, hfailed.counted⟩
  · intro s h a _ hh hq hsent hkind hcount hheld hroom
    obtain ⟨hfailed, hout⟩ := settleAcc_failedRead (st := stTimeout) hkind hcount (by decide) (by decide) hh hroom
    have hrun := doRemoteTimeout_eq (tmoIn_lone hh hq hsent) (hfailed.held.trans hheld)
    exact ⟨_, answers rfl hrun, hfailed.queue, hout, hfailed.last⟩
  · rintro s d i frame h body hgot hleft hwin hroom rfl
    have hrec := relRecord_recorded (r := errReport body) hroom
    obtain ⟨haddr, hrseq, hcause, hdata⟩ := errReport_words hrec
    exact ⟨_, answers rfl (doErr_reports hgot hleft hwin), hrec.unread, hrec.written, haddr, hrseq, hcause, hdata,
      hrec.counted (Nat.mod_lt _ (by decide))⟩
  · intro s d frame h body hgot hleft hwin hfull hlost
    obtain ⟨hone, hcounted, hkept⟩ := relRecord_lost (r := errReport body) hfull hlost
    exact ⟨_, answers rfl (doErr_reports hgot hleft hwin), hone, hcounted, hkept⟩
  · exact fun s n hserving _ => answers rfl (busGate_serving hserving _)

end Sys2Proof.Machine
end

section
/-! SUPPORT. The end of a descriptor (R303), and what an injected item leaves in the header stream (R44, R45). -/

namespace Sys2Proof.Machine

section
variable {s : State} {q : Nat}

/-! ### The end of a descriptor -/

theorem descDone_dp (w : Nat) (words : List Nat) : (s.descDone q w words).dp = s.dp := rfl
theorem descDone_tly (w : Nat) (words : List Nat) : (s.descDone q w words).tly = s.tly := rfl
theorem descDone_txNext (w : Nat) (words : List Nat) : (s.descDone q w words).host.txNext = s.host.txNext := rfl

/-- HEAD advances with the descriptor. -/
theorem descDone_head (w : Nat) (words : List Nat) :
    (s.descDone q w words).getF (F.DMA_Q_STAT_HEAD q) = (s.getF (F.DMA_Q_STAT_HEAD q) + 1) % 2 ^ 16 :=
  getF_incF_same s (F.DMA_Q_STAT_HEAD q)

theorem fieldsKept_descDone (w : Nat) (words : List Nat) : FieldsKept s (s.descDone q w words) [F.DMA_Q_STAT_HEAD q] :=
  ((FieldsKept.refl s _).setF (f := F.DMA_Q_STAT_HEAD q) _ (List.mem_singleton_self _)).of_regs rfl

/-- The words are written back, and what had left the device stays. -/
theorem descDone_writes (w : Nat) (words : List Nat) :
    .hostWrite (s.descAddr q + 4 * w) (words.flatMap (leBytes 4)) false ∈ (s.descDone q w words).out
      ∧ ∀ o ∈ s.out, o ∈ (s.descDone q w words).out :=
  ⟨List.mem_append_left _ (List.mem_append_right _ (List.mem_singleton_self _)),
    fun _ ho => List.mem_append_left _ (List.mem_append_left _ ho)⟩

theorem descAddr_of_regs {t : State} (h : t.regs = s.regs) (q : Nat) : t.descAddr q = s.descAddr q := by
  simp only [State.descAddr, getF_of_regs h]

/-! ### Injected items -/

theorem OnlyDp.host {t : State} (h : OnlyDp s t) : t.host = s.host := by rw [h]

/-- Other counts of used beads. -/
def State.withBeads (s : State) (used : Sparse Nat) (shared : Nat) : State :=
  { s with dp := { s.dp with resUsed := used, shUsed := shared } }

/-- An injected item with beads for its bytes becomes the next item, and its record the last of the header stream. -/
theorem injectItem_enters {it : Item} (hclaim : (s.claim it.ingress (beadsOf it.len)).isSome = true)
    (hplane : s.anyPlane = true) (hheld : s.dp.held = false) :
    let t := s.injectItem it
    (t.item s.dp.nextItem).map (·.bytes) = some it.bytes ∧ (t.item s.dp.nextItem).map (·.ingress) = some it.ingress
      ∧ t.dp.stream.map (·.item) = s.dp.stream.map (·.item) ++ [s.dp.nextItem] ∧ OnlyDp s t ∧ t.tly = s.tly := by
  obtain ⟨⟨r, sh, u⟩, hu⟩ := Option.isSome_iff_exists.1 hclaim
  obtain ⟨-, -, -, -, hframe⟩ := claim_some s hu
  change u = s.withBeads u.dp.resUsed u.dp.shUsed at hframe
  generalize u.dp.resUsed = used, u.dp.shUsed = shared at hframe
  subst hframe
  have hitem : ((s.withBeads used shared).newItem { it with resBeads := r, shBeads := sh }).2.item s.dp.nextItem
      = some { it with resBeads := r, shBeads := sh } := (newItem_item (s.withBeads used shared) _).1
  have hrun : s.injectItem it
      = ((s.withBeads used shared).newItem { it with resBeads := r, shBeads := sh }).2.enterStream s.dp.nextItem := by
    unfold State.injectItem
    rw [hu]
    rfl
  rw [hrun, enterStream_appends _ hitem hplane hheld]
  exact ⟨congrArg (Option.map (·.bytes)) hitem, congrArg (Option.map (·.ingress)) hitem, List.map_append, rfl, rfl⟩

end

end Sys2Proof.Machine
end


section
/-! PROOF of DescriptorsMoveItems. A served descriptor is the injection of its item, or a count, and the end of the descriptor;
a delivery is the write to host memory, the end of the descriptor and the release of the reference. -/

namespace Sys2Proof.Machine

section
variable {s : State} {q : Nat} {desc buf : List Byte}

/-! ### Transmit (R299) -/

/-- The round-robin service has taken a descriptor of queue `q`. -/
def State.txTaken (s : State) (q : Nat) : State := { s with host := { s.host with txNext := (q + 1) % 64 } }

/-- A descriptor of a 64-byte frame injects the frame with its FCS, where that enters the header stream. -/
theorem doTxDescriptorServe_frame (hreceives : s.receives = true) (hqueue : s.txQueue = some q)
    (hlen : bits (leAt desc 8 4) 0 15 = 64) (hbuf : bits (leAt desc 8 4) 16 15 = 64) (hkind : bits (leAt desc 12 4) 0 2 = 0) :
    let w := fun k => leAt desc (4 * k) 4
    let u := (s.txTaken q).injectItem ((s.txTaken q).txItem w (padTo 64 buf))
    s.dp.stream.length < u.dp.stream.length →
    doTxDescriptorServe desc buf s = (u.tally (T.dmaTx q 0)).descDone q 5 [1] := by
  intro w u hgrows
  have hl : min (bits (leAt desc (4 * 2) 4) 0 15) (min (bits (leAt desc (4 * 2) 4) 16 15) 16384) = 64 := by
    rw [show 4 * 2 = 8 from rfl, hlen, hbuf]; rfl
  have hclamp : decide (64 < bits (leAt desc (4 * 2) 4) 0 15) = false := by
    rw [show 4 * 2 = 8 from rfl, hlen]; rfl
  have hrod : (bits (leAt desc (4 * 3) 4) 0 2 != 0) = false := by
    rw [show 4 * 3 = 12 from rfl, hkind]; rfl
  have hoff : (!s.receives) = false := by rw [hreceives]; rfl
  unfold doTxDescriptorServe
  simp only [hoff, hqueue, hl, hclamp, hrod, Bool.false_eq_true, if_false]
  exact congrArg (State.descDone · q 5 [1]) (if_pos hgrows)

/-- A descriptor of length 0 is counted and skipped. -/
theorem doTxDescriptorServe_empty (hreceives : s.receives = true) (hqueue : s.txQueue = some q)
    (hlen : bits (leAt desc 8 4) 0 15 = 0) :
    doTxDescriptorServe desc buf s = ((s.txTaken q).tally (T.dmaTx q 2)).descDone q 5 [5] := by
  have hzero : bits (leAt desc (4 * 2) 4) 0 15 = 0 := hlen
  have hoff : (!s.receives) = false := by rw [hreceives]; rfl
  unfold doTxDescriptorServe
  simp only [hoff, hqueue, hzero, Nat.zero_min, lt_irrefl, decide_false, Bool.false_eq_true, if_false, if_true]
  rfl

/-- The item of a 64-byte frame: the frame with its FCS, from port 34. -/
theorem txItem_frame {w : Nat → Nat} (bytes : List Byte) (hkind : bits (w 3) 0 2 = 0) :
    (s.txItem w bytes).bytes = bytes ++ fcsOf bytes ∧ (s.txItem w bytes).ingress = 34 := by
  simp [State.txItem, hkind]

/-- What the end of a served descriptor shows, whatever its injection `u` did to the data plane. -/
theorem txEnded_shows {u : State} (hq : q < 64) (hdp : OnlyDp (s.txTaken q) u) (htly : u.tly = s.tly) (words : List Nat) :
    let t := (u.tally (T.dmaTx q 0)).descDone q 5 words
    t.dp = u.dp ∧ t.getF (F.DMA_Q_STAT_HEAD q) = (s.getF (F.DMA_Q_STAT_HEAD q) + 1) % 2 ^ 16
      ∧ FieldsKept s t [F.DMA_Q_STAT_HEAD q] ∧ Counted s t (T.dmaTx q 0) ∧ t.host.txNext = (q + 1) % 64 := by
  have htally : OnlyDp (s.txTaken q) (u.tally (T.dmaTx q 0)) := hdp.trans (onlyDp_tally u _)
  have hregs : (u.tally (T.dmaTx q 0)).regs = s.regs := htally.regs
  have hnext : (u.tally (T.dmaTx q 0)).host.txNext = (q + 1) % 64 := congrArg HostBridge.txNext htally.host
  refine ⟨(descDone_dp 5 words).trans (tally_dp u _), ?_,
    ((FieldsKept.refl s _).of_regs hregs).trans (fieldsKept_descDone 5 words),
    counted_of_tly u (tallyCounts_dmaTx hq (by decide)) htly (descDone_tly 5 words), (descDone_txNext 5 words).trans hnext⟩
  rw [descDone_head, getF_of_regs hregs]

/-- A served descriptor of a 64-byte frame ends behind the frame's entry into the header stream. -/
theorem doTxDescriptorServe_enters (hreceives : s.receives = true) (hqueue : s.txQueue = some q)
    (hlen : bits (leAt desc 8 4) 0 15 = 64) (hbuf : bits (leAt desc 8 4) 16 15 = 64) (hkind : bits (leAt desc 12 4) 0 2 = 0)
    (hclaim : (s.claim 34 (beadsOf (padTo 64 buf ++ fcsOf (padTo 64 buf)).length)).isSome = true)
    (hplane : s.anyPlane = true) (hheld : s.dp.held = false) :
    ∃ u, doTxDescriptorServe desc buf s = (u.tally (T.dmaTx q 0)).descDone q 5 [1]
      ∧ (u.item s.dp.nextItem).map (·.bytes) = some (padTo 64 buf ++ fcsOf (padTo 64 buf))
      ∧ (u.item s.dp.nextItem).map (·.ingress) = some 34
      ∧ u.dp.stream.map (·.item) = s.dp.stream.map (·.item) ++ [s.dp.nextItem]
      ∧ OnlyDp (s.txTaken q) u ∧ u.tly = s.tly := by
  let w := fun k => leAt desc (4 * k) 4
  obtain ⟨hitem, hport⟩ := txItem_frame (s := s.txTaken q) (w := w) (padTo 64 buf) hkind
  have hrun := doTxDescriptorServe_frame (buf := buf) hreceives hqueue hlen hbuf hkind
  change s.dp.stream.length < ((s.txTaken q).injectItem ((s.txTaken q).txItem w (padTo 64 buf))).dp.stream.length → _ at hrun
  generalize (s.txTaken q).txItem w (padTo 64 buf) = it at hitem hport hrun
  have hclaim' : ((s.txTaken q).claim it.ingress (beadsOf it.len)).isSome = true := by
    rw [hport, Item.len, hitem]
    exact (claim_isSome_congr (s := s) (t := s.txTaken q) rfl (fun _ => rfl) _ _).trans hclaim
  obtain ⟨hbytes, hingress, hstream, hdp, htly⟩ := injectItem_enters hclaim' hplane hheld
  have hgrows : s.dp.stream.length < ((s.txTaken q).injectItem it).dp.stream.length := by
    have hlength := congrArg List.length hstream
    simp only [List.length_map, List.length_append, List.length_singleton] at hlength
    exact hlength ▸ Nat.lt_succ_self _
  exact ⟨_, hrun hgrows, hitem ▸ hbytes, hport ▸ hingress, hstream, hdp, htly⟩

/-! ### Receive (R300, R301) -/

variable {c : Nat} {r : QRef} {rs : List QRef} {it : Item}

/-- The one member of a list that a test accepts is found. -/
theorem find?_unique {p : Nat → Bool} {l : List Nat} (hmem : c ∈ l) (hc : p c = true) (hother : ∀ k ∈ l, k ≠ c → p k = false) :
    l.find? p = some c := by
  cases hfind : l.find? p with
  | none => exact absurd hc (List.find?_eq_none.1 hfind c hmem)
  | some k =>
    by_contra hne
    have hk : k ≠ c := fun e => hne (congrArg some e)
    exact Bool.false_ne_true ((hother k (List.mem_of_find?_eq_some hfind) hk).symm.trans (List.find?_some hfind))

theorem rxQueue_lt (c : Nat) (it : Item) : s.rxQueue c it < 128 := by
  unfold State.rxQueue; omega

theorem rxReady_empty (hqueue : s.queue 34 c = []) : s.rxReady c = none := by
  unfold State.rxReady; rw [hqueue]

/-- A whole item whose queue has a descriptor, or drops without one, can be handled. -/
theorem rxReady_head (hqueue : s.queue 34 c = r :: rs) (hitem : s.item r.item = some it) (hcomplete : it.complete = true)
    (hgo : s.qPending (s.rxQueue c it) ≠ 0 ∨ s.isF (F.DMA_Q_CFG_EMPTY_ACT (s.rxQueue c it)) = true) :
    s.rxReady c = some (s.rxQueue c it, r, rs, it) := by
  unfold State.rxReady
  rw [hqueue]
  dsimp only
  rw [hitem]
  exact if_pos (by simpa [hcomplete] using hgo)

/-- With items of one class alone, port 34 handles that class. -/
theorem rxClass_only (hc : c < 8) (hready : (s.rxReady c).isSome = true) (hother : ∀ k < 8, k ≠ c → s.queue 34 k = []) :
    ((List.range 8).reverse).find? (fun c => (s.rxReady c).isSome) = some c :=
  find?_unique (by simp [hc]) hready fun k hk hne => by
    rw [rxReady_empty (hother k (by simpa using hk) hne)]; rfl

/-- Port 34 is done with the reference `i` at the head of class `c`, which counts member `m` of its queue. -/
def State.rxLeaves (s : State) (c : Nat) (rs : List QRef) (q m i : Nat) : State :=
  ((s.setQueue 34 c rs).tally (T.dmaRx (q - 64) m)).release i

/-- The last reference to an item leaves the queue and releases it, and counts. -/
theorem rxLeaves_shows {m i : Nat} (hitem : s.item i = some it) (hrefs : it.refs = 1) (hq : q < 128) (hm : m < 7) :
    let t := s.rxLeaves c rs q m i
    t.queue 34 c = rs ∧ t.item i = none ∧ t.regs = s.regs ∧ t.out = s.out ∧ Counted s t (T.dmaRx (q - 64) m) := by
  have hitem' : ((s.setQueue 34 c rs).tally (T.dmaRx (q - 64) m)).item i = some it :=
    (item_of_items (congrArg DataPlane.items (tally_dp _ _)) i).trans hitem
  refine ⟨?_, release_item_last _ hitem' hrefs.le, (release_regs _ _).trans (tally_regs _ _), ?_,
    counted_of_tly (s.setQueue 34 c rs) (tallyCounts_dmaRx (by omega) hm) rfl (release_tly _ _)⟩
  · rw [State.rxLeaves, queue_of_queues (release_queues _ _), queue_of_queues (congrArg DataPlane.queues (tally_dp _ _))]
    exact queue_setQueue_same s 34 c rs
  · rw [State.rxLeaves, release_eq]
    exact tally_out _ _

/-- Port 34 delivers in service, in RUN and RUN-LEAN. -/
theorem rxOn (hserving : s.serving = true) (hmode : s.getF F.PWR_MODE_MODE < 2) :
    (!s.serving || decide (2 ≤ s.getF F.PWR_MODE_MODE)) = false := by
  rw [hserving, decide_eq_false (Nat.not_le.2 hmode)]; rfl

/-- A frame that its buffer holds goes into host memory without its FCS, and completes its descriptor. -/
theorem doRxDelivery_delivers {a n : Nat} (hc : c < 8) (hserving : s.serving = true) (hmode : s.getF F.PWR_MODE_MODE < 2)
    (hqueue : s.queue 34 c = r :: rs) (hother : ∀ k < 8, k ≠ c → s.queue 34 k = []) (hitem : s.item r.item = some it)
    (hcomplete : it.complete = true) (hrod : it.isRod = false) (hpending : s.qPending (s.rxQueue c it) ≠ 0)
    (hn : n < 2 ^ 14) (hpos : n ≠ 0) (hfits : it.len - 4 ≤ n) : ∃ words, doRxDelivery [(a, n)] s
      = ((s.emit (.hostWrite a (it.bytes.take (it.len - 4)) (s.isF F.DMA_CFG_RO_EN && s.relaxOn))).descDone
          (s.rxQueue c it) 3 words).rxLeaves c rs (s.rxQueue c it) 0 r.item := by
  have hready := rxReady_head hqueue hitem hcomplete (.inl hpending)
  have hdesc : s.rxDesc (s.rxQueue c it) [(a, n)] = (some (a, n), s) := by
    have hcut : n % 2 ^ 15 = n := by omega
    have hmin : min n 16384 = n := by omega
    simp only [State.rxDesc, hpending, hcut, hpos, hmin, if_false]
  have hroom : ¬ n < (it.bytes.take (it.len - 4)).length := by
    rw [List.length_take]; omega
  have hon := rxOn hserving hmode
  have hclass := rxClass_only hc (by rw [hready]; rfl) hother
  unfold doRxDelivery
  simp only [hon, hclass, hready, hdesc, hrod, hroom, Bool.false_eq_true, if_false]
  exact ⟨_, rfl⟩

/-- Without a descriptor a queue that drops loses the item. -/
theorem doRxDelivery_drops (hc : c < 8) (hserving : s.serving = true) (hmode : s.getF F.PWR_MODE_MODE < 2)
    (hqueue : s.queue 34 c = r :: rs) (hother : ∀ k < 8, k ≠ c → s.queue 34 k = []) (hitem : s.item r.item = some it)
    (hcomplete : it.complete = true) (hpending : s.qPending (s.rxQueue c it) = 0)
    (hdrops : s.isF (F.DMA_Q_CFG_EMPTY_ACT (s.rxQueue c it)) = true) :
    doRxDelivery [] s = s.rxLeaves c rs (s.rxQueue c it) 3 r.item := by
  have hready := rxReady_head hqueue hitem hcomplete (.inr hdrops)
  have hon := rxOn hserving hmode
  have hclass := rxClass_only hc (by rw [hready]; rfl) hother
  have hnone : s.rxDesc (s.rxQueue c it) [] = (none, s) := rfl
  unfold doRxDelivery
  simp only [hon, hclass, hready, hnone, Bool.false_eq_true, if_false]
  exact if_pos (by rw [hpending, hdrops]; rfl)

/-- What a delivery shows: behind the write to host memory and the end of the descriptor, the only reference leaves. -/
theorem rxDelivered_shows {words : List Nat} {o : Out} (hq : q < 128) (hitem : s.item r.item = some it)
    (hrefs : it.refs = 1) : let t := ((s.emit o).descDone q 3 words).rxLeaves c rs q 0 r.item
    t.queue 34 c = rs ∧ t.item r.item = none ∧ Counted s t (T.dmaRx (q - 64) 0)
      ∧ t.getF (F.DMA_Q_STAT_HEAD q) = (s.getF (F.DMA_Q_STAT_HEAD q) + 1) % 2 ^ 16 ∧ o ∈ t.out
      ∧ FieldsKept s t [F.DMA_Q_STAT_HEAD q] := by
  have hdp : ((s.emit o).descDone q 3 words).dp = s.dp := descDone_dp 3 words
  have htly : ((s.emit o).descDone q 3 words).tly = s.tly := descDone_tly 3 words
  have hhead := descDone_head (s := s.emit o) (q := q) 3 words
  have hkept := fieldsKept_descDone (s := s.emit o) (q := q) 3 words
  have hout := (descDone_writes (s := s.emit o) (q := q) 3 words).2 o (List.mem_append_right _ (List.mem_singleton_self _))
  generalize (s.emit o).descDone q 3 words = u at *
  obtain ⟨hleft, hgone, hregs, hsame, hcounted⟩ := rxLeaves_shows (s := u) (c := c) (rs := rs) (m := 0)
    ((item_of_items (congrArg DataPlane.items hdp) _).trans hitem) hrefs hq (by decide)
  exact ⟨hleft, hgone, hcounted.of_tallyOf (tallyOf_of_tly htly _) rfl, (getF_of_regs hregs _).trans hhead, hsame ▸ hout,
    hkept.of_regs hregs⟩

end

/-- Settles O57: a served descriptor is its item's injection (`doTxDescriptorServe_enters`) or a count, behind which the
descriptor ends; a delivery ends with the release of the only reference (`rxLeaves_shows`). -/
theorem descriptorsMoveItems : Obligations.DescriptorsMoveItems := by
  unfold Obligations.DescriptorsMoveItems
  refine ⟨fun s q desc buf hreceives hqueue hq hlen hbuf hkind hclaim hplane hheld => ?_,
    fun s q desc buf hreceives hqueue hq hlen => ?_, ?_, ?_⟩
  · obtain ⟨u, hrun, hbytes, hingress, hstream, hdp, htly⟩ :=
      doTxDescriptorServe_enters hreceives hqueue hlen hbuf hkind hclaim hplane hheld
    obtain ⟨hdone, hhead, hkept, hcounted, hnext⟩ := txEnded_shows hq hdp htly [1]
    generalize (u.tally (T.dmaTx q 0)).descDone q 5 [1] = t at *
    have hitem : t.item s.dp.nextItem = u.item s.dp.nextItem := item_of_items (congrArg DataPlane.items hdone) _
    exact ⟨t, answers rfl hrun, hitem ▸ hbytes, hitem ▸ hingress, hdone ▸ hstream, hhead, hkept, hcounted, hnext⟩
  · have hregs : ((s.txTaken q).tally (T.dmaTx q 2)).regs = s.regs := tally_regs _ _
    have hwrite := (descDone_writes (s := (s.txTaken q).tally (T.dmaTx q 2)) (q := q) 5 [5]).1
    rw [descAddr_of_regs hregs] at hwrite
    refine ⟨_, answers rfl (doTxDescriptorServe_empty hreceives hqueue hlen), (descDone_dp 5 [5]).trans (tally_dp _ _),
      counted_of_tly (s.txTaken q) (tallyCounts_dmaTx hq (by decide)) rfl (descDone_tly 5 [5]), ?_, hwrite⟩
    rw [descDone_head, getF_of_regs hregs]
  · rintro s c q a n r rs it hc hserving hmode hqueue hother hitem hcomplete hrod hrefs rfl hpending hn hpos hfits
    obtain ⟨words, hrun⟩ := doRxDelivery_delivers (a := a) hc hserving hmode hqueue hother hitem hcomplete hrod hpending hn
      hpos hfits
    obtain ⟨hleft, hgone, hcounted, hhead, hout, hkept⟩ := rxDelivered_shows (c := c) (rs := rs) (rxQueue_lt c it) hitem hrefs
    exact ⟨_, answers rfl hrun, hleft, hgone, hcounted, hhead, hout, hkept⟩
  · rintro s c q r rs it hc hserving hmode hqueue hother hitem hcomplete hrefs rfl hpending hdrops
    obtain ⟨hleft, hgone, hregs, hout, hcounted⟩ := rxLeaves_shows (c := c) (rs := rs) (m := 3) hitem hrefs
      (rxQueue_lt c it) (by decide)
    exact ⟨_, answers rfl (doRxDelivery_drops hc hserving hmode hqueue hother hitem hcomplete hpending hdrops), hleft, hgone,
      hcounted, hregs, hout⟩

end Sys2Proof.Machine
end
